-- ==== Sys2Proof/Word.lean ====
section
/-! DEFINITION. The word types of the package (R12: little-endian, 32-bit registers, bytes in memory). -/
namespace Sys2Proof

/-- One 32-bit word: a register, a scalar register, an instruction word. -/
abbrev Word := BitVec 32

/-- One byte of memory. -/
abbrev Byte := BitVec 8

/-- One value of plumb time, in plumb ticks (R9). -/
abbrev Time := BitVec 64

/-- A physical core address: die in [18:17], bent in [16:12], bay in [11:8], core in [7:0] (R5). -/
abbrev CoreAddr := BitVec 19

end Sys2Proof
end

