-- ==== Sys2Proof/Machine/Assoc.lean ====
section
/-! DEFINITION. Finite maps as lists: a canonical map over naturals (keys strictly rising) and an association list
over any decidable key. Both are plain data. -/
namespace Sys2Proof.Machine

/-- Lookup in a list of pairs. -/
def aget {κ α : Type} [DecidableEq κ] : List (κ × α) → κ → Option α
  | [], _ => none
  | (k', v) :: r, k => if k' = k then some v else aget r k

/-- Replace the value of a key in place, or append the pair. -/
def aset {κ α : Type} [DecidableEq κ] : List (κ × α) → κ → α → List (κ × α)
  | [], k, v => [(k, v)]
  | (k', v') :: r, k, v => if k' = k then (k, v) :: r else (k', v') :: aset r k v

/-- Remove every pair of a key. -/
def adel {κ α : Type} [DecidableEq κ] (l : List (κ × α)) (k : κ) : List (κ × α) :=
  l.filter (fun e => decide (e.1 ≠ k))

/-- Put a pair into a map whose keys rise. -/
def mput {α : Type} : List (Nat × α) → Nat → α → List (Nat × α)
  | [], k, v => [(k, v)]
  | (k', v') :: r, k, v =>
    if k < k' then (k, v) :: (k', v') :: r
    else if k = k' then (k, v) :: r
    else (k', v') :: mput r k v

/-- Remove a key of a map whose keys rise. -/
def mdel {α : Type} : List (Nat × α) → Nat → List (Nat × α)
  | [], _ => []
  | (k', v') :: r, k => if k = k' then r else (k', v') :: mdel r k

/-- Put a number into a rising list of numbers. -/
def sput : List Nat → Nat → List Nat
  | [], k => [k]
  | k' :: r, k => if k < k' then k :: k' :: r else if k = k' then k' :: r else k' :: sput r k

/-- Remove a number. -/
def sdel (l : List Nat) (k : Nat) : List Nat := l.filter (fun x => decide (x ≠ k))

/-- A word map with default 0: a zero word removes the entry. -/
def wput (m : List (Nat × Word)) (k : Nat) (v : Word) : List (Nat × Word) :=
  if v = 0#32 then mdel m k else mput m k v

/-- Read of a word map with default 0. -/
def wget (m : List (Nat × Word)) (k : Nat) : Word := (aget m k).getD 0#32

/-- The first `n` naturals from `a`. -/
def upto (a n : Nat) : List Nat := (List.range n).map (a + ·)

/-- The value of little-endian bytes (R12). -/
def leNat : List Byte → Nat
  | [] => 0
  | b :: r => b.toNat + 256 * leNat r

/-- The low `n` bytes of a number, little-endian (R12). -/
def leBytes : Nat → Nat → List Byte
  | 0, _ => []
  | n + 1, v => BitVec.ofNat 8 v :: leBytes n (v / 256)

/-- Bits [hi:lo] of a number. -/
def bitsOf (v hi lo : Nat) : Nat := v / 2 ^ lo % 2 ^ (hi + 1 - lo)

/-- Bits [hi:lo] of a word. -/
def wbits (w : Word) (hi lo : Nat) : Nat := bitsOf w.toNat hi lo

/-- A bit of a word. -/
def wbit (w : Word) (i : Nat) : Bool := w.getLsbD i

/-- The word with `v` in bits [hi:lo]. -/
def setField (w : Word) (hi lo v : Nat) : Word :=
  let m : Word := BitVec.ofNat 32 ((2 ^ (hi + 1 - lo) - 1) * 2 ^ lo)
  (w &&& ~~~ m) ||| (BitVec.ofNat 32 (v * 2 ^ lo) &&& m)

/-- 1 for true, 0 for false. -/
def b2n (b : Bool) : Nat := if b then 1 else 0

end Sys2Proof.Machine
end

