-- ==== Sys2Proof/Machine/Flags.lean ====
section
/-! DEFINITION. Floating-point values, roundings and the five sticky flags (03, R80-R103): every
rounding point of the array, the sum buffer, the drain and the loader calls the definitions of this file. -/
namespace Sys2Proof.Machine

/-- The five sticky flags of R97: bit 0 overflow, 1 invalid, 2 underflow, 3 inexact, 4 flushed (the order of R110). -/
abbrev FpFlags := BitVec 5

def fOverflow : FpFlags := 1#5
def fInvalid : FpFlags := 2#5
def fUnderflow : FpFlags := 4#5
def fInexact : FpFlags := 8#5
def fFlushed : FpFlags := 16#5
def fNone : FpFlags := 0#5

/-- The layout of a binary format: exponent bits and fraction bits (R80). -/
structure FFmt where
  ebits : Nat
  fbits : Nat
  deriving DecidableEq, Repr

def FFmt.bf16 : FFmt := ⟨8, 7⟩
def FFmt.fp16 : FFmt := ⟨5, 10⟩
def FFmt.fp32 : FFmt := ⟨8, 23⟩

/-- The bias of the exponent field (R80). -/
def FFmt.bias (f : FFmt) : Nat := 2 ^ (f.ebits - 1) - 1

/-- The exponent of the smallest normal number. -/
def FFmt.emin (f : FFmt) : Int := 1 - (f.bias : Int)

/-- The exponent field all ones, in place. -/
def FFmt.expMask (f : FFmt) : Nat := (2 ^ f.ebits - 1) * 2 ^ f.fbits

/-- The canonical NaN of the format (R80, R89). -/
def FFmt.nan (f : FFmt) : Nat := f.expMask + 2 ^ (f.fbits - 1)

/-- The sign bit, in place. -/
def FFmt.signBit (f : FFmt) : Nat := 2 ^ (f.ebits + f.fbits)

/-- What an encoding stands for: a finite value is `±mag * 2^exp`, exact. -/
inductive FV where
  | nan
  | inf (neg : Bool)
  | fin (neg : Bool) (mag : Nat) (exp : Int)
  deriving DecidableEq, Repr

/-- The value an encoding stands for (R80). -/
def FFmt.decode (f : FFmt) (w : Nat) : FV :=
  let neg := decide (w / f.signBit % 2 = 1)
  let e := w / 2 ^ f.fbits % 2 ^ f.ebits
  let m := w % 2 ^ f.fbits
  if e = 2 ^ f.ebits - 1 then (if m = 0 then .inf neg else .nan)
  else if e = 0 then .fin neg m (f.emin - f.fbits)
  else .fin neg (m + 2 ^ f.fbits) (f.emin - f.fbits + (e - 1))

/-- `m / 2^n` rounded to the nearest integer, ties to even. -/
def rneShr (m n : Nat) : Nat :=
  let q := m / 2 ^ n
  let r := m % 2 ^ n
  if 2 * r > 2 ^ n ∨ (2 * r = 2 ^ n ∧ q % 2 = 1) then q + 1 else q

/-- `mag * 2^exp` as a multiple of `2^g`, rounded to nearest, ties to even; and whether it was exact. -/
def rneGrid (mag : Nat) (exp g : Int) : Nat × Bool :=
  if g ≤ exp then (mag * 2 ^ (exp - g).toNat, true)
  else
    let n := (g - exp).toNat
    (rneShr mag n, decide (mag % 2 ^ n = 0))

/-- An infinity of the format. -/
def FFmt.infEnc (f : FFmt) (neg : Bool) : Nat := f.expMask + (if neg then f.signBit else 0)

/-- A zero of the format. -/
def FFmt.zeroEnc (f : FFmt) (neg : Bool) : Nat := if neg then f.signBit else 0

/-- Round a finite value to the format (R86; R101 for the narrow formats): overflow and inexact on a carry past
the largest exponent, inexact where the value changes, underflow where the result rounded with the exponent
unbounded is below the smallest normal number. -/
def FFmt.round (f : FFmt) (neg : Bool) (mag : Nat) (exp : Int) : Nat × FpFlags :=
  if mag = 0 then (f.zeroEnc neg, fNone)
  else
    let e : Int := exp + (Nat.log2 mag : Int)
    let g : Int := (if e < f.emin then f.emin else e) - f.fbits
    let (q, ex) := rneGrid mag exp g
    let sgn := if neg then f.signBit else 0
    let enc := q + (g + f.fbits - f.emin).toNat * 2 ^ f.fbits
    if enc ≥ f.expMask then (f.infEnc neg, fOverflow ||| fInexact)
    else if ex then (sgn + enc, fNone)
    else
      let gu : Int := e - f.fbits
      let t := (rneGrid mag exp gu).1
      -- the unbounded rounding is tiny when t * 2^gu < 2^emin
      let tiny : Bool := if gu ≤ f.emin then decide (t < 2 ^ (f.emin - gu).toNat) else false
      (sgn + enc, if tiny then fInexact ||| fUnderflow else fInexact)

/-- `rne_fp32` (R86). -/
def rneFp32 (neg : Bool) (mag : Nat) (exp : Int) : Word × FpFlags :=
  let (w, fl) := FFmt.fp32.round neg mag exp
  (BitVec.ofNat 32 w, fl)

/-- Sum of two exact values as a signed multiple of `2^(min e1 e2)`. -/
def addExact (n1 : Bool) (m1 : Nat) (e1 : Int) (n2 : Bool) (m2 : Nat) (e2 : Int) : Int × Int :=
  let e := if e1 ≤ e2 then e1 else e2
  let a : Int := (m1 * 2 ^ (e1 - e).toNat : Nat)
  let b : Int := (m2 * 2 ^ (e2 - e).toNat : Nat)
  ((if n1 then -a else a) + (if n2 then -b else b), e)

/-- The canonical FP32 NaN (R89). -/
def nan32 : Word := 0x7FC00000#32
/-- −0.0, the value injected at the top of every column (R41). -/
def negZero32 : Word := 0x80000000#32

/-- The FP32 encoding of a value that is already one of FP32 (infinities and FP32 sums). -/
def inf32 (neg : Bool) : Word := if neg then 0xFF800000#32 else 0x7F800000#32

/-- `add(x, y)` (R85, R88) on exact values; the result rounds once. -/
def addFV (x y : FV) : Word × FpFlags :=
  match x, y with
  | .nan, _ => (nan32, fNone)
  | _, .nan => (nan32, fNone)
  | .inf a, .inf b => if a = b then (inf32 a, fNone) else (nan32, fInvalid)
  | .inf a, .fin _ _ _ => (inf32 a, fNone)
  | .fin _ _ _, .inf b => (inf32 b, fNone)
  | .fin n1 m1 e1, .fin n2 m2 e2 =>
    let (v, e) := addExact n1 m1 e1 n2 m2 e2
    if v = 0 then
      (if n1 ∧ m1 = 0 ∧ n2 ∧ m2 = 0 then negZero32 else 0#32, fNone)
    else rneFp32 (decide (v < 0)) v.natAbs e

/-- The value of an FP32 word. -/
def fv32 (w : Word) : FV := FFmt.fp32.decode w.toNat

/-- `add` of two FP32 words (the sum buffer fold, R91). -/
def addFp32 (x y : Word) : Word × FpFlags := addFV (fv32 x) (fv32 y)

/-- The exact product of two values with the special values of R87 and the threshold of R84
(`none`: the product is NaN and the cell answers the canonical NaN). -/
def mulFV (a w : FV) : FV × FpFlags :=
  match a, w with
  | .nan, _ => (.nan, fNone)
  | _, .nan => (.nan, fNone)
  | .inf s, .inf t => (.inf (s != t), fNone)
  | .inf s, .fin t m _ => if m = 0 then (.nan, fInvalid) else (.inf (s != t), fNone)
  | .fin s m _, .inf t => if m = 0 then (.nan, fInvalid) else (.inf (s != t), fNone)
  | .fin s m e, .fin t m' e' =>
    let p := m * m'
    let ex := e + e'
    -- |p| ≥ 2^128 − 2^103, compared exactly: both sides scaled by 2^1000
    if p * 2 ^ (ex + 1000).toNat ≥ (2 ^ 128 - 2 ^ 103) * 2 ^ 1000 then (.inf (s != t), fOverflow ||| fInexact)
    else (.fin (s != t) p ex, fNone)

/-- The cell operation `cell(a, w, s)` (R82): one exact product, one rounding. A NaN sum gives NaN and raises
nothing, before the product is looked at. -/
def cell (a w : FV) (s : Word) : Word × FpFlags :=
  match fv32 s with
  | .nan => (nan32, fNone)
  | sv =>
    match mulFV a w with
    | (.nan, fl) => (nan32, fl)
    | (p, fl) => let (r, fl') := addFV p sv; (r, fl ||| fl')

/-- Is the value a nonzero number below the smallest normal number of the format? -/
def FFmt.isSubnormal (f : FFmt) (w : Nat) : Bool :=
  decide (w / 2 ^ f.fbits % 2 ^ f.ebits = 0 ∧ w % 2 ^ f.fbits ≠ 0)

def FFmt.isNan (f : FFmt) (w : Nat) : Bool := f.decode w == .nan

/-- Entry rule (R90, R94): a NaN element raises invalid; with `denorm` a subnormal element becomes a zero of its
sign and raises flushed. -/
def FFmt.entry (f : FFmt) (denorm : Bool) (w : Nat) : Nat × FpFlags :=
  if f.isNan w then (f.nan, fInvalid)
  else if denorm && f.isSubnormal w then (w / f.signBit % 2 * f.signBit, fFlushed)
  else (w, fNone)

/-- Exit rule (R94): with `denorm` a nonzero result below the smallest normal number of its format becomes a zero
of its sign and raises flushed, underflow and inexact. -/
def FFmt.exit (f : FFmt) (denorm : Bool) (w : Nat) : Nat × FpFlags :=
  if denorm && f.isSubnormal w then (w / f.signBit % 2 * f.signBit, fFlushed ||| fUnderflow ||| fInexact)
  else (w, fNone)

/-- Conversion of an encoding of `src` to the format `dst`, one rounding (R101): the widening to FP32 is exact, the
canonical NaN replaces any NaN; no flag for a NaN here (the drain raises none, the loader adds invalid: R90). -/
def convertEnc (src dst : FFmt) (w : Nat) : Nat × FpFlags :=
  match src.decode w with
  | .nan => (dst.nan, fNone)
  | .inf n => (dst.infEnc n, fNone)
  | .fin n m e => dst.round n m e

/-- The loader's conversion between element formats (R101, R103): invalid for a NaN; in mode 1 a subnormal source
is flushed at entry where the source is narrow, and a subnormal result at exit where the target is narrow or both
are FP32. -/
def loaderConvert (src dst : FFmt) (denorm : Bool) (w : Nat) : Nat × FpFlags :=
  if src.isNan w then (dst.nan, fInvalid)
  else
    let (w0, f0) := if src = .fp32 then (w, fNone) else src.entry denorm w
    let (w1, f1) := convertEnc src dst w0
    let (w2, f2) := if src ≠ .fp32 ∧ dst = .fp32 then (w1, fNone) else dst.exit denorm w1
    (w2, f0 ||| f1 ||| f2)

/-- Conversion of a drained FP32 value to the output format of its instruction (R101, R102), then the exit rule. -/
def drainConvert (dst : FFmt) (denorm : Bool) (w : Word) : Nat × FpFlags :=
  let (w1, f1) := convertEnc .fp32 dst w.toNat
  let (w2, f2) := dst.exit denorm w1
  (w2, f1 ||| f2)

/-- Is the FP32 word infinite or NaN? -/
def notFinite32 (w : Word) : Bool := decide ((w.toNat / 2 ^ 23) % 256 = 255)

/-- The comparison of the square on the floating-point path, exact (R60): |C − D| ≤ 2⁻¹⁷ × A for finite words. -/
def squarePass (c d a : Word) : Bool :=
  match fv32 c, fv32 d, fv32 a with
  | .fin n1 m1 e1, .fin n2 m2 e2, .fin n3 m3 e3 =>
    let (v, e) := addExact n1 m1 e1 (!n2) m2 e2
    -- both sides as multiples of 2^(min e (e3 − 17))
    let g := if e ≤ e3 - 17 then e else e3 - 17
    decide (v.natAbs * 2 ^ (e - g).toNat ≤ (if n3 ∧ m3 ≠ 0 then 0 else m3) * 2 ^ (e3 - 17 - g).toNat)
  | _, _, _ => true

end Sys2Proof.Machine
end

