-- ==== Sys2Proof/Machine/CoreState.lean ====
section
/-! DEFINITION. The state of a core, its array, its loader work, its pegs and pools (02, 05, 06, 07). -/
namespace Sys2Proof.Machine

/-- The state of a hardware context (R72). -/
inductive CtxSt | empty | ready | running | waiting | stopped | faulted
  deriving DecidableEq, Repr

/-- The state code shown in CORE_CTX_STATUS (R72, R76). -/
def CtxSt.code : CtxSt → Nat
  | .empty => 0 | .ready => 1 | .running => 2 | .waiting => 3 | .stopped => 4 | .faulted => 5

/-- A physical peg (R188): of a context, of a bent (die × 24 + bent), of a spine, or of another package. -/
inductive PegHome
  | ctx (core x i : Nat)
  | bent (b i : Nat)
  | spine (d i : Nat)
  | remote (fabric rpart d i : Nat)
  deriving DecidableEq, Repr

/-- Why a context is in the state Waiting: on a peg (R193, R200), or held after its marked instruction (R176). -/
inductive Wait
  | none
  | peg (id : Nat) (home : PegHome) (thr : Word) (sub polling : Bool)
  | held (idx : Word)
  deriving DecidableEq, Repr

/-- One hardware context (R69, R151, R152, R190). `mode` is denorm_mode, nan_trap; `flags` as R110;
`heldStart`: a start or resume waits (R170, R444); `reclaim`: its buffers are reclaimed once its transfers end (R426).
(DESIGN CHOICE, log 93; DEDUCED, log 95). -/
structure Ctx where
  st : CtxSt := .empty
  cause : BitVec 8 := 0#8
  pc : BitVec 13 := 0#13
  entry : BitVec 13 := 0#13
  base : BitVec 13 := 0#13
  len : BitVec 14 := 0#14
  s : Vector Word 32 := Vector.replicate 32 0#32
  p : Vector Word 64 := Vector.replicate 64 0#32
  index : Word := 0#32
  stopAt : Word := 0xFFFFFFFF#32
  mode : BitVec 2 := 0#2
  flags : FpFlags := 0#5
  psegLo : Vector Word 4 := Vector.replicate 4 0#32
  psegHi : Vector Word 4 := Vector.replicate 4 0#32
  cpeg : Vector Word 16 := Vector.replicate 16 0#32
  dmem : List (Nat × Word) := []
  dmPoison : List Nat := []
  wait : Wait := .none
  plbHi : Word := 0#32
  heldStart : Bool := false
  reclaim : Bool := false
  progress : Time := 0#64
  deriving DecidableEq, Repr

/-- The four tile instructions (R159). -/
inductive TileOp | mmul | rs | ag | ar
  deriving DecidableEq, Repr

/-- A tile instruction in the tile queue, as captured in its issue cycle (R70, R104, R160, R161, R198, R402). -/
structure Tile where
  op : TileOp
  ctx : Nat
  fmt : Nat
  cls : Nat
  acc : Bool
  ofmt : Nat
  sig : Option PegHome
  mc : Nat
  m : Nat
  k : Nat
  n : Nat
  ra : Nat
  rw : Nat
  sc : Nat
  sx : Nat
  truss : Nat
  key : Word
  keep : Bool
  mode : BitVec 2
  index : Word
  off : Nat
  lcore : Option Nat
  epoch : BitVec 8
  deriving DecidableEq, Repr

/-- A stream line as the array reads it: data, side byte, poison mark (R43, R131, R251). -/
structure Line where
  data : List Byte
  side : Byte
  poison : Bool
  deriving DecidableEq, Repr

/-- A sum buffer bank: the chunk and N pass it is assigned to, its entries (FP32 value, poison) row by row, how many
rows have drained (R53, R55). -/
structure Bank where
  chunk : Nat
  npass : Nat
  rows : Nat
  cols : Nat
  ent : List (List (Word × Bool))
  full : Bool
  drained : Nat
  deriving DecidableEq, Repr

/-- A tile instruction on the array: its position in the loop of R49, the lines read in the current N pass and in the one
before it, whether it takes the steps that close a chunk (R44), its banks in drain order, its flags, and whether its NaN
trap fired (R106). -/
structure Run where
  tile : Tile
  chunk : Nat := 0
  npass : Nat := 0
  t : Nat := 0
  pre : Bool := false
  al : List Line := []
  wl : List Line := []
  pal : List Line := []
  pwl : List Line := []
  close : Bool := false
  banks : List Bank := []
  flags : FpFlags := 0#5
  trapped : Bool := false
  stopped : Bool := false
  lastLine : Time := 0#64
  deriving DecidableEq, Repr

/-- A stream ring tracker (R226, R227, R256). `closing` is the transfer that asked for the close. -/
structure Ring where
  opened : Bool := false
  base : Nat := 0
  lines : Nat := 0
  lfmt : Nat := 0
  prod : Word := 0#32
  cons : Word := 0#32
  wslot : Nat := 0
  rslot : Nat := 0
  closing : Option Nat := none
  deriving DecidableEq, Repr

/-- One core (R38, R69, R71, R150, R226, R251). Memory maps hold the words that are not zero. `cur` is the context that
last held the scalar processor, `rotate` whether another was Ready when it left. (DESIGN CHOICE, log 93). -/
structure Core where
  ctxs : Vector Ctx 4 := Vector.replicate 4 {}
  imem : List (Nat × Word) := []
  imPoison : List Nat := []
  cur : Nat := 0
  rotate : Bool := false
  queue : List Tile := []
  run : Option Run := none
  tail : List Run := []
  rings : Vector Ring 8 := Vector.replicate 8 {}
  side : List (Nat × Byte) := []
  slotPoison : List Nat := []
  deriving DecidableEq, Repr

/-- A Lath block as read or as to be written: width, scale, integers; `poison` as R251. -/
structure Blk where
  w : Nat
  u : Nat
  rot : Nat
  q : List Int
  poison : Bool
  deriving DecidableEq, Repr

/-- One vector of a stream's source as the loader holds it: element encodings with poison for BF16 and FP16 lines, or
blocks for Lath lines with the virtual address of the first slot. -/
structure Vec where
  enc : List (Nat × Bool) := []
  blks : List Blk := []
  va : Nat := 0
  deriving DecidableEq, Repr

/-- An XFER that is issued and not complete (R164, R167, R220, R225). `begun`: the loader runs it; `ready`: its last
byte is written; `ended`: it was ended without completing. -/
structure Xfer where
  id : Nat
  core : Nat
  ctx : Nat
  part : Nat
  lcore : Option Nat
  epoch : BitVec 8
  pepoch : BitVec 8
  desc : List Byte
  mode : BitVec 2
  sig : Option PegHome
  flags : FpFlags := 0#5
  begun : Bool := false
  ready : Bool := false
  lines : Nat := 0
  ring : Nat := 0
  fault : Bool := false
  prep : List Vec := []
  t0 : Time := 0#64
  deriving DecidableEq, Repr

/-- A CSEND that is issued and not complete (R165, R167). `pos` bytes have been accepted. -/
structure Csend where
  id : Nat
  core : Nat
  ctx : Nat
  part : Nat
  lcore : Option Nat
  epoch : BitVec 8
  truss : Nat
  base : Nat
  len : Nat
  key : Word
  sig : Option PegHome
  pos : Nat := 0
  deriving DecidableEq, Repr

/-- A drained row on its way to the collective engine (R56, R272): elements of the extent with their FP32 values. -/
structure Supply where
  ctx : Nat
  part : Nat
  truss : Nat
  lcore : Option Nat
  epoch : BitVec 8
  elems : List (Nat × (Word × Bool))
  deriving DecidableEq, Repr

/-- The lines that an MMUL.AG still needs from the collective engine (R163, R288). -/
structure AgProd where
  id : Nat
  core : Nat
  part : Nat
  truss : Nat
  step : Nat
  key : Word
  mc : Nat
  m : Nat
  k : Nat
  n : Nat
  ring : Nat
  lines : Nat := 0
  deriving DecidableEq, Repr

/-! ### Collectives (08) -/

/-- A member record (R263). -/
structure Member where
  addr : Nat
  part : Nat
  lo : Nat
  hi : Nat
  deriving DecidableEq, Repr

/-- A record of a block in flight or summed (R266): the kind, the sender's step, the count, the block, the e byte, the
marks, the state byte, the digest, the integers; for kind 6 the first element and the bytes. `dst`: the rank of the
package it travels to. -/
structure ColRec where
  id : Nat := 0
  part : Nat
  entry : Nat
  kind : Nat
  step : BitVec 8
  cnt : Nat := 0
  b : Nat
  e : Nat := 0
  ovf : Bool := false
  nf : Bool := false
  poison : Bool := false
  fb : Bool := false
  rt : Bool := false
  err : Bool := false
  st : Nat := 0
  dig : Nat := 0
  q : List Word := []
  x0 : Nat := 0
  bytes : List (Byte × Bool) := []
  dst : Nat := 0
  epoch : BitVec 8 := 0#8
  deriving DecidableEq, Repr

/-- A retention buffer (R273, R274): member position, block, step of the block, the elements supplied, the pool buffer,
whether it was converted and sent, with which e and pass. -/
structure RetBuf where
  pos : Nat
  b : Nat
  step : Nat
  vals : List (Option (Word × Bool))
  die : Nat
  buf : Nat
  sent : Bool := false
  e : Nat := 0
  fb : Bool := false
  deriving DecidableEq, Repr

/-- An own member: its position, the die of its engine, the steps completed, blocks settled and owned blocks delivered
by step, the elements arrived by step, the last time a record of the entry came or left (R286, R411). -/
structure OwnMem where
  pos : Nat
  die : Nat
  step : Nat := 0
  settled : List (Nat × Nat) := []
  owned : List (Nat × Nat) := []
  last : Time := 0#64
  deriving DecidableEq, Repr

/-- A sum or a maximum being formed for a block (R276, R278, R284). -/
structure ColSum where
  b : Nat
  step : BitVec 8
  max : Bool
  fb : Bool
  rt : Bool
  acc : ColRec
  deriving DecidableEq, Repr

/-- What the owner keeps of a block: the steps it decided, whether this step had its retry, its fallback, the result
record kept for a second request, the `e` of the fallback (R282-R287). -/
structure OwnerBlk where
  b : Nat
  step : Nat := 0
  retried : Bool := false
  fellback : Bool := false
  offered : Option (ColRec × Bool) := none
  result : Option ColRec := none
  e : Nat := 0
  deriving DecidableEq, Repr

/-- An installed truss entry (R262, R264); `failed`: the elements whose last write at `gbuf` failed (R288). -/
structure Truss where
  op : Nat
  fmt : Nat
  alg : Nat
  joiner : Bool
  rfmt : Nat
  nmem : Nat
  members : List Member
  nelem : Nat
  ld : Nat
  rshift : Nat
  rpool : Nat
  donePeg : PegHome
  estate : Nat
  dst : Nat
  dseed : Nat
  gbuf : Nat
  jctx : Nat
  own : List OwnMem
  bufs : List RetBuf := []
  sums : List ColSum := []
  owner : List OwnerBlk := []
  arrived : List (Nat × List Nat) := []
  bstep : List ((Nat × Nat) × Nat) := []
  gsup : List ((Nat × Nat) × List Nat) := []
  rechecked : List (Nat × Nat) := []
  failed : List Nat := []
  deriving DecidableEq, Repr

/-- A waiter recorded at a peg's home, in the order of recording (R193, R194); `jnr`: an engine waiter, the joiner
context of a partition (R314). -/
structure Waiter where
  home : PegHome
  core : Nat
  ctx : Nat
  thr : Word
  sub : Bool
  jnr : Option (Nat × Nat) := none
  deriving DecidableEq, Repr

/-! ### The joiner (09) -/

/-- A loaded joiner program (R299). -/
structure JProg where
  part : Nat
  form : Nat
  na : Nat
  nb : Nat
  nc : Nat
  code : List Word
  deriving DecidableEq, Repr

/-- A latched step (R314): the constants, the program slot. -/
structure JLatch where
  consts : List Word
  prog : Nat
  deriving DecidableEq, Repr

/-- A block accepted by the dispatcher for a joiner context and not applied (R305): its record, its owner's position. -/
structure JBlock where
  crec : ColRec
  pos : Nat
  deriving DecidableEq, Repr

/-- What a joiner uses of its context's truss entry (R262, R297): elements, scale shift, the owner die, the shard. -/
structure JExt where
  nelem : Nat := 0
  rshift : Nat := 0
  die : Nat := 0
  shard : List Nat := []
  deriving DecidableEq, Repr

/-- An installed joiner context (R294, R295, R314, R315). `va` is its address in the table, for the step slots;
`xp`: the request descriptor of an export or import that holds or awaits the context (R317); `queue`: blocks accepted;
`ext`: what the latched step uses of the entry, which may be retired before the step ends (R290, R315); `rows`: rows run in
this step; `skips`, `done`: blocks skipped, and blocks applied or skipped, in this step. -/
structure JCtx where
  va : Nat
  entry : Nat
  tid : Nat
  mfmt : Nat
  shint : Nat
  dim : Nat
  step0 : Nat
  lbase : Nat
  xbase : Nat
  wplane : Nat
  m1plane : Nat
  m2plane : Nat
  hplane : Nat
  rowmap : Nat
  trows : Nat
  tstride : Nat
  seed : Nat
  jpeg : PegHome
  gate : Option PegHome
  pub : Option Nat
  n : Nat := 0
  active : Option JLatch := none
  ext : Option JExt := none
  gated : Bool := false
  granted : Bool := false
  xp : Option (List Byte) := none
  queue : List JBlock := []
  rows : List Nat := []
  skips : List Nat := []
  done : List Nat := []
  deriving DecidableEq, Repr

/-- A collective engine's request for a retention buffer (R212, R273): the partition and id of the entry, the member's
position, the block. -/
structure EngAlloc where
  part : Nat
  truss : Nat
  pos : Nat
  b : Nat
  deriving DecidableEq, Repr

/-- A buffer pool of a spine: the owner tags of the owned buffers, the transfers queued for a buffer (R207-R210), the requests
of cores and of the collective engine that the present cycle's service takes (R212). -/
structure Pool where
  tags : List (Nat × Word) := []
  queue : List Nat := []
  reqs : List Nat := []
  eng : List EngAlloc := []
  deriving DecidableEq, Repr

/-- The three configuration registers of a pool. -/
inductive PoolReg
  | baseLo | baseHi | cfg
  deriving DecidableEq, Repr

/-- A line of a deck cache: its line address (package address / 128), way, partition, marks; while it is dirty, the
bytes and poison marks that HBM still holds (R233-R238). -/
structure DeckLine where
  die : Nat
  line : Nat
  way : Nat
  part : Nat
  keep : Bool
  dirty : Bool
  old : List (Option Byte)
  oldPoison : List Bool
  deriving DecidableEq, Repr

/-- A memory error that a read or a scrub finds at a package address (R218, R239, R241): corrected or uncorrectable; or an
uncorrectable one of a 64-bit word of a core's instruction memory, or of a context's data memory window, by one of its 32-bit
words (R251). -/
inductive MemErr
  | ce (a : Nat)
  | ue (a : Nat)
  | imem (core word : Nat)
  | dmem (core ctx word : Nat)
  deriving DecidableEq, Repr

/-- Who issued a request: a context of a core for a logical core and its epoch, an engine with its epoch, Welyar (R30, R402,
R414). -/
inductive Issuer
  | core (c : Nat) (l : Nat) (e : BitVec 8) (x : Nat)
  | engine (n : Nat) (e : BitVec 8)
  | welyar
  deriving DecidableEq, Repr

/-- A reply on its way to its requester (R414, R416, R420); `latency`: a latency-class read of a channel. -/
structure Reply where
  id : Nat
  part : Nat
  pepoch : BitVec 8
  dest : Issuer
  data : List (Byte × Bool)
  err : Bool
  latency : Option Nat
  t0 : Time
  deriving DecidableEq, Repr

/-- The error history of a channel (R443): start of the interval, corrected errors in it, intervals above the limit in a
row, time and row of the last uncorrectable error. -/
structure ChanErr where
  t0 : Time
  ce : Nat
  runs : Nat
  ue : Option (Time × Nat)
  deriving DecidableEq, Repr

/-- The command a bay controller serves (R171): its code, its result so far. -/
structure BayCmd where
  cmd : Nat
  result : Nat
  deriving DecidableEq, Repr

/-! ### Lumder ports and flows (11) -/

/-- The state of a port (R355). -/
inductive PortSt | off | training | up | sleeping | waking | down
  deriving DecidableEq, Repr

def PortSt.code : PortSt → Nat
  | .off => 0 | .training => 1 | .up => 2 | .sleeping => 3 | .waking => 4 | .down => 5

/-- A frame on the line (R336): its 16-byte head, the 1,024 bytes as they travel, the 16-byte tag. -/
structure Frame where
  head : List Byte
  body : List Byte
  tag : List Byte
  deriving DecidableEq, Repr

/-- A Lumder port (R328-R332, R355-R361): the physical lane of each logical lane, the good spares; attempts of the
current training; whether a training is held back (R418); whether it trained before; the fence of the last dissolve of
a partition that held it; the last link-control frame; since when idle; the boundary of a sleep request; a swap that
both ends scheduled (logical lane, boundary); lanes whose swap the arbiter queued or granted; when it stopped, began
to wake, got a wake tone; `dead`: the last training found no good lane; the partner's fabric address; a swap named to the
partner and not carried out; whether a sleep request was answered; lanes whose swap a sleep cancelled. On the line (R333-R335):
the frames queued, the spine cycles of the present frame slot, the frames of the superblock being sent, the superblocks sent,
the slot of the next frame received, whether an uncorrectable codeword reaches into it, the corrected symbols by time and lane.
(DEDUCED, log 28). -/
structure Port where
  st : PortSt := .off
  narrow : Bool := false
  unaligned : Bool := false
  lanes : List Nat := []
  spares : List Nat := []
  tries : Nat := 0
  held : Bool := false
  trained : Bool := false
  fence : Option Time := none
  lastCtl : Time := 0#64
  idleSince : Time := 0#64
  sleepAt : Option Nat := none
  swap : Option (Nat × Nat) := none
  swapAsked : List Nat := []
  stopT : Time := 0#64
  wakeT : Time := 0#64
  tone : Option Time := none
  dead : Bool := false
  addr : Option Nat := none
  swapWait : Option (Nat × Nat) := none
  sleepAcked : Bool := false
  reask : List Nat := []
  txq : List Frame := []
  slotT : Nat := 0
  block : List Frame := []
  sent : Nat := 0
  rxSlot : Nat := 0
  rxBad : Bool := false
  laneErr : List (Time × Nat) := []
  deriving DecidableEq, Repr

/-- The name of a flow as one end keeps it (R342): tray-window or data; own partition; the peer's fabric address and
partition. -/
structure FlowKey where
  tray : Bool
  part : Nat
  addr : Nat
  ppart : Nat
  deriving DecidableEq, Repr

/-- The sending side of a flow (R342, R343, R351): the next sequence number, the last port, whether a narrow port was
skipped last time, the bytes of the open frame, when its first byte came, the first and last byte of each message in it that
closes a frame, the epoch of its frame, the epoch and the next sequence number of the ack frames received for it (R337). -/
structure SFlow where
  seq : Nat := 0
  last : Nat := 7
  skip : List Nat := []
  buf : List Byte := []
  t0 : Option Time := none
  marks : List (Nat × Nat) := []
  epoch : BitVec 8 := 0#8
  ackEp : Nat := 0
  ackPos : Nat := 0
  deriving DecidableEq, Repr

/-- A frame in the replay store of a port (R347): its flow, sequence number, attempt, payload, the ports that carried
it, its epoch, when it was sent, whether it holds a peg message. -/
structure Replay where
  key : FlowKey
  seq : Nat
  rty : Nat
  payload : List Byte
  port : Nat
  tried : List Nat
  epoch : BitVec 8
  sent : Time
  naked : List Nat := []
  peg : Bool := false
  deriving DecidableEq, Repr

/-- A frame kept in the reorder store (R344, R347): the port that stores it, its bytes, when it arrived. -/
structure Kept where
  port : Nat
  data : List Byte
  at_ : Time
  deriving DecidableEq, Repr

/-- The receiving side of a flow (R344-R346, R417): epoch or start count, whether the record is dormant, the next
expected sequence number, the frames kept, whether the flow broke, the bytes of the message stream not yet consumed; frames
delivered since the last ack and the time of the first; for each missing frame the naks sent and the time of the last; the
last frame; the sequence of its ack frames. -/
structure RFlow where
  epoch : Nat
  dormant : Bool := false
  next : Nat := 0
  kept : List (Nat × Kept) := []
  broken : Bool := false
  stream : List Byte := []
  unacked : Nat := 0
  ackT : Time := 0#64
  naks : List (Nat × (Nat × Time)) := []
  last : Time := 0#64
  ackSeq : Nat := 0
  deriving DecidableEq, Repr

/-- What a link-control frame says (R329, R331, R358, R360, R361): the spec gives its uses and no layout. (DESIGN CHOICE,
log 26). -/
inductive LinkCtl
  | credit
  | sleepReq (boundary : Nat)
  | sleepAck
  | sleepAbort
  | swap (lane boundary : Nat)
  | time (partner : Time) (rtt : Nat) (unaligned : Bool)
  deriving DecidableEq, Repr

/-- The partner exchange of a full training (R357): the partner's plane and fabric address, its plumb time, the round trip. -/
structure Partner where
  plane : Nat
  addr : Nat
  time : Time
  rtt : Nat
  deriving DecidableEq, Repr

/-- A peg message delivered from a flow (R199, R350), under the number by which commands name it (log 9). -/
structure PegMsg where
  id : Nat := 0
  src : Nat
  part : Nat
  peg : PegHome
  amount : Word
  port : Nat
  epoch : BitVec 8
  deriving DecidableEq, Repr

/-- A tray-window message (R354), as received or as to be sent. -/
structure TwMsg where
  peer : Nat
  op : Nat
  poison : Bool := false
  len : Nat := 4
  reason : Nat := 0
  tag : Nat
  addr : Nat := 0
  data : List Byte := []
  deriving DecidableEq, Repr

/-- Who issues tray-window accesses (R30): Welyar, the export engines, signed debug agents. -/
inductive TwBy | welyar | exporter | debug
  deriving DecidableEq, Repr

/-- A tray-window request that awaits its reply (R354), and the access that a debug agent's check of the target's
TST_DBG_STATE stands before (R573). -/
structure TwReq where
  msg : TwMsg
  by_ : TwBy
  t0 : Time
  next : Option TwMsg := none
  deriving DecidableEq, Repr

/-- How a request ended for Welyar or an export engine: the reply, or none within 2^20 pt (R354). -/
structure TwEnd where
  by_ : TwBy
  tag : Nat
  reply : Option TwMsg
  deriving DecidableEq, Repr

/-! ### Die-to-die links (12) -/

/-- A network-on-chip flit as a link carries it (R366, R368, R414): the partition it belongs to, `none` for package traffic;
head, payload, SEC-DED code, poison mark, epoch. The spec gives no width for head and code. (DEDUCED, log 87). -/
structure Flit where
  part : Option Nat
  head : Nat
  payload : BitVec 512
  code : Nat
  poison : Bool
  epoch : BitVec 8
  deriving DecidableEq, Repr

/-- One direction of a bundle (R368, R374-R376): next link sequence, oldest not acknowledged, sequence expected by the
receiver, whether it asks for that flit again, consecutive replays of it; the sender's replay buffer, the flits that wait at
the sending endpoint, the sequences on the line in order, the corrected bits by time and data lane. -/
structure D2dDir where
  next : Nat := 0
  acked : Nat := 0
  expect : Nat := 0
  asked : Bool := false
  replays : Nat := 0
  buf : List (Nat × Flit) := []
  held : List Flit := []
  wire : List Nat := []
  laneErr : List (Time × Nat) := []
  deriving DecidableEq, Repr

/-- A bundle of a link (R366, R369, R379): its state 0 retired, 1 control, 2 reserve, 3 standby, 4 assigned, 5
retraining; its partition; the physical lane of each data lane, the spare lanes left; the lane of a swap asked for, with the
time of the flit boundary once it is named; the direction away from endpoint 0's die and the other. -/
structure Bundle where
  st : Nat := 0
  part : Nat := 0
  lanes : List Nat := []
  spares : List Nat := []
  swap : Option (Nat × Option Time) := none
  fwd : D2dDir := {}
  bwd : D2dDir := {}
  deriving DecidableEq, Repr

/-- A link (R371, R379): its state 0 off, 1 training, 2 up, 3 retired, and its 48 bundles; the flits that have entered the next
trunk, away from endpoint 0's die and the other way (R368). -/
structure Link where
  st : Nat := 0
  bundles : List Bundle := []
  outFwd : List Flit := []
  outBwd : List Flit := []
  deriving DecidableEq, Repr

/-! ### The maintenance arbiter (17) -/

/-- An activity of the arbiter (R515): its code 1 to 10 in the row order of R515, its unit. -/
structure Activity where
  code : Nat
  unit : Nat
  deriving DecidableEq, Repr

/-! ### Resets (14) -/

/-- An engine (R410, R427) of a unit: loader and bay controller by package bay, the others by die. -/
inductive EngKind | loader | bayCtl | collective | table | joiner | exporter
  deriving DecidableEq, Repr

/-- What a reset acts on (R412, R413). -/
inductive RstUnit
  | ctx (core x : Nat)
  | engine (k : EngKind) (unit : Nat)
  | part (p : Nat)
  | pkg
  deriving DecidableEq, Repr

/-! ### Reliability (15) -/

/-- The state of control that a parity error meets (R439): the core, an engine, a peg with its waiter list. -/
inductive CtlUnit
  | core (c : Nat)
  | engine (k : EngKind) (unit : Nat)
  | peg (h : PegHome)
  deriving DecidableEq, Repr

/-- Where a mod-7 residue differs (R440): a transfer of a loader, its address generator, a GATHER of the table engine, a
joiner's block, the scalar ALU or an address generator of a context. -/
inductive ResUnit
  | loader (xfer va n : Nat)
  | loaderAddr (xfer : Nat)
  | table (xfer va n : Nat)
  | joiner (p num va : Nat)
  | scalar (core x : Nat)
  deriving DecidableEq, Repr

/-- What the run of the pack's items on a unit gave (R443, R444, R448): passed; exactly one data column of a core
failed; failed otherwise. -/
inductive Probed | pass | column (n : Nat) | fail
  deriving DecidableEq, Repr

/-- A probe window (R451): its bents, when it opened, the bents probed and skipped. -/
structure Window where
  bents : List Nat
  t0 : Time
  probed : Nat := 0
  skipped : Nat := 0
  deriving DecidableEq, Repr

/-! ### Power (16) -/

/-- The package as a whole (R32, R371, R430, R497, R503): rails off; rails up and held in reset; started; no Welyar site
runs; the start stopped with its report, and only the management path answers. -/
inductive PkgSt | off | held | on | failed | halted
  deriving DecidableEq, Repr

/-- The clock of a running bent (R456, R460, R470): the 64ths of a bent cycle that have passed in the present one, the number
of that cycle in its frame of 64, the cycles that a clock switch still stops it, their idle cause and their point. The spec
gives no start of the first cycle and frame. (DESIGN CHOICE, log 3). -/
structure BentCyc where
  frac : Nat := 0
  pos : Nat := 0
  halt : Nat := 0
  cause : Nat := 0
  point : Nat := 0
  deriving DecidableEq, Repr

/-- What the governor and the shutdown sequence keep (R462-R487): when the phase in progress began, whether `ride` is
taken as 0 and the shutdown is thermal, since when x_pwr is above 0 or is 0, the last boost step, since when the cap is
infeasible, the last park, since when a die is tripped, since when every sensor of it is below 95 °C, the last clock
switch of a bent, the point it moves to with the idle cause and the time of the decision, since when a thermal shim is
above 0; the last accepted pulse, whether the next one leaves the rate as it stands, the remaining offset, the last
interval corrected (R463), the first pulse accepted since the start (R465), the last peak (R476), the fraction of the accumulator, the plumb time to hold; when the shutdown began, whether the
input has returned in it. (DESIGN CHOICE, log 93). -/
structure Power where
  phaseT : Time := 0#64
  ride0 : Bool := false
  thermal : Bool := false
  xSince : Time := 0#64
  boostT : Time := 0#64
  infeas : Option Time := none
  parkT : Option Time := none
  tripT : List (Nat × Time) := []
  coolT : List (Nat × Time) := []
  switched : List (Nat × Time) := []
  moves : List (Nat × (Nat × Nat × Time)) := []
  thmSince : List (Nat × Time) := []
  pps : Option Time := none
  ppsHeld : Bool := true
  left : Int := 0
  corr : Nat := 0
  pps1 : Option Time := none
  peakT : Option Time := none
  frac : Nat := 0
  hold : Nat := 0
  pfStart : Time := 0#64
  returned : Bool := false
  deriving DecidableEq, Repr

/-! ### Boot and security (17) -/

/-- What a start finds in the hardware (R32, R369, R371, R497): SLOT_ID, the self-tests of the sites, the classes of the
cores that self-test finds other than healthy (core, class, column), the error counts of the 68 lanes of each bundle of
each link, `none` for a lane that fails. (DESIGN CHOICE, log 5). -/
structure StartIn where
  slot : Nat
  site0 : Bool
  site1 : Bool
  cores : List (Nat × (Nat × Nat))
  bundles : List (List (List (Option Nat)))
  deriving DecidableEq, Repr

/-- A copy of the boot selector (R503). -/
structure Selector where
  active : Nat := 0
  pending : Bool := false
  tries : Nat := 0
  wseq : Nat := 0
  deriving DecidableEq, Repr

/-- The boot flash and the fuses (R496, R501, R503, R504, R574): the two banks, the selector copies, the retirement list
(kind, aux, id, time), the lane records, the outcome of the last shutdown, the gen of the last accepted blob by target
(8 the tray), blown version fuses, revoked slots, the start count when the tray key was last provisioned (R339). (DESIGN
CHOICE, log 7). -/
structure Flash where
  banks : List (List Byte) := [[], []]
  sel : List (Option Selector) := [none, none]
  retire : List (Nat × Nat × Nat × Time) := []
  lanes : List (List Byte) := []
  outcome : Nat := 0
  gens : List (Nat × Nat) := []
  svnMin : Nat := 0
  revoked : BitVec 4 := 0#4
  trayAt : Nat := 0
  deriving DecidableEq, Repr

/-- The boot in service (R497, R502, R503, R505, R513, R534): bank, 0 normal, 1 trial, 2 fallback; the image as booted; the
image whose firmware sections run; the activities a live apply still needs; the site, the release of PKG_RESET_N, the time
of the GetDateTime that awaits its reply, the random value of the exchange key. (DESIGN CHOICE, log 7). -/
structure Boot where
  bank : Nat := 0
  mode : Nat := 0
  image : List Byte := []
  applied : List Byte := []
  applyLeft : List Activity := []
  site : Nat := 0
  released : Option Time := none
  dateAsked : Option Time := none
  exchange : BitVec 256 := 0#256
  deriving DecidableEq, Repr

/-- An SPDM session (R507): its identifier, the last heartbeat, its key updates. -/
structure Session where
  id : Nat
  last : Time
  updates : Nat := 0
  deriving DecidableEq, Repr

/-- What Welyar answers to an SPDM request (R507): the parts the spec names; signatures, certificates and their encodings
are the standard's, as bytes. -/
inductive SpdmMsg
  | version
  | certificate (chain : List Byte)
  | challenge (signed : List Byte)
  | measurements (blocks : List (Nat × List Byte)) (signed : List Byte)
  | keyExchange (id : Nat) (signed : List Byte)
  | heartbeat (id : Nat)
  | keyUpdate (id : Nat)
  | chunk (bytes : List Byte)
  | error
  deriving DecidableEq, Repr

/-! ### Host and management (18, 19, 20) -/

/-- A descriptor of a host queue in progress (R527, R528): its bytes and the status it ends with. -/
structure HqJob where
  desc : List Byte
  status : Nat
  deriving DecidableEq, Repr

/-- A dump in progress (R555): its bytes. -/
structure Dump where
  bytes : List Byte
  deriving DecidableEq, Repr

/-- The instructions of the JTAG port (R571). -/
inductive TapIr | idcode | sample | extest | clamp | highz | dbgacc | bypass
  deriving DecidableEq, Repr

/-- The JTAG port and its debug access (R571-R573): the instruction in force, the boundary cells last captured and those
preloaded, whether the pins are driven from them, the status and read data of the last debug access, whether one runs. -/
structure Tap where
  ir : TapIr := .idcode
  captured : List Bool := []
  preload : List Bool := []
  st : Nat := 0
  data : Word := 0#32
  busy : Bool := false
  deriving DecidableEq, Repr

/-- A package reset cuts a debug access off: it ends refused. -/
def Tap.cut (t : Tap) : Tap := { t with st := if t.busy then 1 else t.st, busy := false }

/-! ### PLDM (R532) -/

/-- The PLDM types the package answers (R532). -/
inductive PldmType | base | platform | fru | firmware | file
  deriving DecidableEq, Repr

/-- The commands the package answers (R532). -/
inductive PldmCmd
  | getTid | setTid | getVersion | getTypes | getCommands | getPdr | getSensorReading | getEffecter | setEffecter
  | setEventReceiver | fruMetadata | fruTable | updateComponent | activateFirmware | fileTransfer
  deriving DecidableEq, Repr

/-- What a PLDM request is answered with (R532). `invalid` is the standard's completion for an identifier or a value that
is not in the range of the command, `unsupported` its completion for a type or a command that is not supported. -/
inductive PldmReply
  | done
  | unsupported
  | invalid
  | tid (n : Nat)
  | version (v : Word)
  | types (l : List PldmType)
  | commands (l : List PldmCmd)
  | pdr (bytes : List Byte)
  | reading (v : Nat)
  | fruMeta (bytes : List Byte)
  | fru (order stepping : String) (serial : BitVec 64)
  | update (result reason : Nat)
  | file (bytes : List Byte)
  deriving DecidableEq, Repr

end Sys2Proof.Machine
end

