-- ==== Sys2Proof/Machine/Reg.lean ====
section
/-! DEFINITION. The register tables of the manual: every register, the block it sits in, its offset, fields, access types
and reset value, written out from the tables of spec/ (the rule of each is in its docstring). Reserved bits are those no field covers. -/
namespace Sys2Proof.Machine

/-- Access types of a register field (R14). -/
inductive Access | rw | ro | w1c | w1s | rc | sc | cnt
  deriving DecidableEq, Repr

/-- One field of a register: lowest bit, width, access type. -/
structure Fld where
  lo : Nat
  width : Nat
  acc : Access
  deriving DecidableEq, Repr

/-- The register blocks; each has one address rule (`Sys2Proof.Machine.blockAt`). -/
inductive RegBlk
  | pkg
  | core
  | bay
  | dld
  | pool
  | pegErr
  | deck
  | chan
  | tbl
  | keygen
  | trs
  | col
  | jnr
  | jnrProg
  | jnrDie
  | port
  | fabric
  | d2d
  | prtCmd
  | prtState
  | vf
  | recovery
  | mgtRst
  | reliab
  | bent
  | thermal
  | plumb
  | power
  | pwrPart
  | sec
  | maint
  | host
  | vfHq
  | die
  | tel
  | vfTel
  | tst
  | pert
  | pegBent
  | pegSpn
  | idle
  | root
  | spnSnap
  deriving DecidableEq, Repr

/-- Every register of the package, under its name in the manual. -/
inductive Reg
  /-- PKG_ID (R2). -/
  | pkgId
  /-- PKG_TOPO (R34). -/
  | pkgTopo
  /-- PKG_FABRIC_ADDR (R35). -/
  | pkgFabricAddr
  /-- PKG_CORE_COUNT_d (R36). -/
  | pkgCoreCount
  /-- PKG_CORE_NARROW_d (R68). -/
  | pkgCoreNarrow
  /-- CORE_STATE (R75). -/
  | coreState
  /-- CORE_CTX_STATUS_x (R76). -/
  | coreCtxStatus
  /-- CORE_SQ_STATUS (R77). -/
  | coreSqStatus
  /-- CORE_SQ_WHERE (R78). -/
  | coreSqWhere
  /-- CORE_SQ_MISMATCH_CNT (R79). -/
  | coreSqMismatchCnt
  /-- CORE_SQ_SKIP_CNT (R79). -/
  | coreSqSkipCnt
  /-- CORE_ARRAY_BUSY_LO (R79). -/
  | coreArrayBusyLo
  /-- CORE_ARRAY_BUSY_HI (R79). -/
  | coreArrayBusyHi
  /-- CORE_CTX_MODE (R109). -/
  | coreCtxMode
  /-- CORE_CTX_FLAGS (R110). -/
  | coreCtxFlags
  /-- CORE_NAN_STATUS (R111). -/
  | coreNanStatus
  /-- CORE_NAN_OFFSET (R112). -/
  | coreNanOffset
  /-- CORE_NAN_INDEX (R112). -/
  | coreNanIndex
  /-- CORE_NAN_TILE (R112). -/
  | coreNanTile
  /-- CORE_NAN_ELEM (R112). -/
  | coreNanElem
  /-- LDR_LATH_FMT_STATUS (R147). -/
  | ldrLathFmtStatus
  /-- LDR_LATH_FMT_VA_LO (R148). -/
  | ldrLathFmtVaLo
  /-- LDR_LATH_FMT_VA_HI (R148). -/
  | ldrLathFmtVaHi
  /-- LDR_LATH_FMT_CNT (R148). -/
  | ldrLathFmtCnt
  /-- LDR_LATH_CLAMP_CNT (R148). -/
  | ldrLathClampCnt
  /-- LDR_LATH_ALIGN_CNT (R148). -/
  | ldrLathAlignCnt
  /-- LDR_KERF_SAT_CNT (R148). -/
  | ldrKerfSatCnt
  /-- CORE_CTX_PC_x (R181). -/
  | coreCtxPc
  /-- CORE_CTX_REGION_x (R182). -/
  | coreCtxRegion
  /-- CORE_CTX_CMD (R183). -/
  | coreCtxCmd
  /-- CORE_CTX_ILLEGAL (R184). -/
  | coreCtxIllegal
  /-- BAY_CS_ADDR_LO (R185). -/
  | bayCsAddrLo
  /-- BAY_CS_ADDR_HI (R185). -/
  | bayCsAddrHi
  /-- BAY_CS_ARG (R185). -/
  | bayCsArg
  /-- BAY_CS_CORES (R185). -/
  | bayCsCores
  /-- BAY_CS_CMD (R185). -/
  | bayCsCmd
  /-- BAY_CS_STATUS (R185). -/
  | bayCsStatus
  /-- BAY_CS_REJECT_CNT (R185). -/
  | bayCsRejectCnt
  /-- BAY_CTX_SEL (R186). -/
  | bayCtxSel
  /-- BAY_CTX_STOPAT (R186). -/
  | bayCtxStopat
  /-- BAY_CTX_INDEX (R186). -/
  | bayCtxIndex
  /-- BAY_CTX_DROP_CNT (R186). -/
  | bayCtxDropCnt
  /-- BAY_CTX_P (R186). -/
  | bayCtxP
  /-- BAY_CTX_PSEG_LO_s (R190). -/
  | bayCtxPsegLo
  /-- BAY_CTX_PSEG_HI_s (R190). -/
  | bayCtxPsegHi
  /-- PEG_DLD_CTL (R205). -/
  | pegDldCtl
  /-- PEG_DLD_STATUS (R205). -/
  | pegDldStatus
  /-- PEG_DLD_TIME_LO (R205). -/
  | pegDldTimeLo
  /-- PEG_DLD_TIME_HI (R205). -/
  | pegDldTimeHi
  /-- PEG_DLD_WAITERS (R205). -/
  | pegDldWaiters
  /-- PEG_DLD_FIRST (R205). -/
  | pegDldFirst
  /-- PEG_DLD_THRESH (R205). -/
  | pegDldThresh
  /-- PEG_DLD_VALUE (R205). -/
  | pegDldValue
  /-- PEG_DLD_FIRE_CNT (R205). -/
  | pegDldFireCnt
  /-- SPN_POOL_BASE_LO (R214). -/
  | spnPoolBaseLo
  /-- SPN_POOL_BASE_HI (R214). -/
  | spnPoolBaseHi
  /-- SPN_POOL_CFG (R214). -/
  | spnPoolCfg
  /-- SPN_POOL_FREE (R214). -/
  | spnPoolFree
  /-- SPN_POOL_CMD (R214). -/
  | spnPoolCmd
  /-- SPN_POOL_TAG (R214). -/
  | spnPoolTag
  /-- SPN_POOL_DFREE_CNT (R214). -/
  | spnPoolDfreeCnt
  /-- SPN_POOL_REC (R214). -/
  | spnPoolRec
  /-- PEG_ERR_STATUS (R217). -/
  | pegErrStatus
  /-- PEG_ERR_AMOUNT (R217). -/
  | pegErrAmount
  /-- PEG_ERR_CNT (R217). -/
  | pegErrCnt
  /-- PEG_POLL_CNT (R217). -/
  | pegPollCnt
  /-- LDR_XFER_CNT (R255). -/
  | ldrXferCnt
  /-- LDR_BYTES_LO (R255). -/
  | ldrBytesLo
  /-- LDR_BYTES_HI (R255). -/
  | ldrBytesHi
  /-- LDR_CE_CNT (R255). -/
  | ldrCeCnt
  /-- LDR_UE_CNT (R255). -/
  | ldrUeCnt
  /-- BAY_RING_CFG_r (R256). -/
  | bayRingCfg
  /-- BAY_RING_PROD_r (R256). -/
  | bayRingProd
  /-- BAY_RING_CONS_r (R256). -/
  | bayRingCons
  /-- DCK_WAYS (R257). -/
  | dckWays
  /-- DCK_KEEP (R257). -/
  | dckKeep
  /-- DCK_CMD (R257). -/
  | dckCmd
  /-- DCK_HIT_CNT (R257). -/
  | dckHitCnt
  /-- DCK_MISS_CNT (R257). -/
  | dckMissCnt
  /-- DCK_WB_CNT (R257). -/
  | dckWbCnt
  /-- DCK_DISCARD_CNT (R257). -/
  | dckDiscardCnt
  /-- DCK_KEEP_EVICT_CNT (R257). -/
  | dckKeepEvictCnt
  /-- DCK_CE_CNT (R257). -/
  | dckCeCnt
  /-- DCK_POISON_CNT (R257). -/
  | dckPoisonCnt
  /-- HBM_CH_CFG (R258). -/
  | hbmChCfg
  /-- HBM_ARB (R258). -/
  | hbmArb
  /-- HBM_LAT_MAX (R258). -/
  | hbmLatMax
  /-- HBM_CE_CNT (R258). -/
  | hbmCeCnt
  /-- HBM_UE_CNT (R258). -/
  | hbmUeCnt
  /-- HBM_UE_ADDR (R258). -/
  | hbmUeAddr
  /-- HBM_PROMOTE_CNT (R258). -/
  | hbmPromoteCnt
  /-- SPN_TBL_STATUS (R259). -/
  | spnTblStatus
  /-- SPN_TBL_OUT (R259). -/
  | spnTblOut
  /-- SPN_TBL_CORE (R259). -/
  | spnTblCore
  /-- SPN_TBL_BAD_CNT (R259). -/
  | spnTblBadCnt
  /-- SPN_TBL_REQ_CNT (R259). -/
  | spnTblReqCnt
  /-- SEC_HBM_KEYGEN_p (R260). -/
  | secHbmKeygen
  /-- TRS_BASE_LO (R290). -/
  | trsBaseLo
  /-- TRS_BASE_HI (R290). -/
  | trsBaseHi
  /-- TRS_CMD (R290). -/
  | trsCmd
  /-- TRS_STATUS (R290). -/
  | trsStatus
  /-- TRS_SEL (R290). -/
  | trsSel
  /-- TRS_INFO (R290). -/
  | trsInfo
  /-- TRS_STEP (R290). -/
  | trsStep
  /-- COL_ERR_STATUS (R291). -/
  | colErrStatus
  /-- COL_ERR_BLOCK (R291). -/
  | colErrBlock
  /-- COL_BLK_CNT (R291). -/
  | colBlkCnt
  /-- COL_SAT_CNT (R291). -/
  | colSatCnt
  /-- COL_FB_CNT (R291). -/
  | colFbCnt
  /-- COL_NF_CNT (R291). -/
  | colNfCnt
  /-- COL_RES_CNT (R291). -/
  | colResCnt
  /-- COL_DIG_CNT (R291). -/
  | colDigCnt
  /-- COL_RETRY_CNT (R291). -/
  | colRetryCnt
  /-- COL_HOLD_CNT (R291). -/
  | colHoldCnt
  /-- JNR_BASE_LO (R322). -/
  | jnrBaseLo
  /-- JNR_BASE_HI (R322). -/
  | jnrBaseHi
  /-- JNR_CMD (R322). -/
  | jnrCmd
  /-- JNR_STATUS (R322). -/
  | jnrStatus
  /-- JNR_SEL (R322). -/
  | jnrSel
  /-- JNR_INFO (R322). -/
  | jnrInfo
  /-- JNR_STEPS (R322). -/
  | jnrSteps
  /-- JNR_FLAGS (R322). -/
  | jnrFlags
  /-- JNR_XP_ADDR_LO (R322). -/
  | jnrXpAddrLo
  /-- JNR_XP_ADDR_HI (R322). -/
  | jnrXpAddrHi
  /-- JNR_XP_CMD (R322). -/
  | jnrXpCmd
  /-- JNR_XP_STATUS (R322). -/
  | jnrXpStatus
  /-- JNR_XP_BYTES_LO (R322). -/
  | jnrXpBytesLo
  /-- JNR_XP_BYTES_HI (R322). -/
  | jnrXpBytesHi
  /-- JNR_PROG_ADDR_LO (R323). -/
  | jnrProgAddrLo
  /-- JNR_PROG_ADDR_HI (R323). -/
  | jnrProgAddrHi
  /-- JNR_PROG_CMD (R323). -/
  | jnrProgCmd
  /-- JNR_PROG_STATUS (R323). -/
  | jnrProgStatus
  /-- JNR_ERR_STATUS (R324). -/
  | jnrErrStatus
  /-- JNR_ERR_WHERE (R324). -/
  | jnrErrWhere
  /-- JNR_BLK_CNT (R324). -/
  | jnrBlkCnt
  /-- JNR_SKIP_CNT (R324). -/
  | jnrSkipCnt
  /-- JNR_OVF_CNT (R324). -/
  | jnrOvfCnt
  /-- JNR_SRDUP_CNT (R324). -/
  | jnrSrdupCnt
  /-- JNR_SPOISON_CNT (R324). -/
  | jnrSpoisonCnt
  /-- JNR_NFW_CNT (R324). -/
  | jnrNfwCnt
  /-- JNR_BUSY_CNT (R324). -/
  | jnrBusyCnt
  /-- JNR_WAIT_CNT (R324). -/
  | jnrWaitCnt
  /-- JNR_QFULL_CNT (R324). -/
  | jnrQfullCnt
  /-- JNR_GATE_CNT (R324). -/
  | jnrGateCnt
  /-- LMD_CTL (R363). -/
  | lmdCtl
  /-- LMD_STATE (R363). -/
  | lmdState
  /-- LMD_LANES (R363). -/
  | lmdLanes
  /-- LMD_IDLE_TO (R363). -/
  | lmdIdleTo
  /-- LMD_SWAP_TH (R363). -/
  | lmdSwapTh
  /-- LMD_TIME_DIFF (R363). -/
  | lmdTimeDiff
  /-- LMD_WAKE_TIME (R363). -/
  | lmdWakeTime
  /-- LMD_FEC_CE_CNT (R364). -/
  | lmdFecCeCnt
  /-- LMD_FEC_UE_CNT (R364). -/
  | lmdFecUeCnt
  /-- LMD_AUTH_FAIL_CNT (R364). -/
  | lmdAuthFailCnt
  /-- LMD_SLICE_REJECT_CNT (R364). -/
  | lmdSliceRejectCnt
  /-- LMD_TW_REJECT_CNT (R364). -/
  | lmdTwRejectCnt
  /-- LMD_PEG_REJECT_CNT (R364). -/
  | lmdPegRejectCnt
  /-- LMD_MISROUTE_CNT (R364). -/
  | lmdMisrouteCnt
  /-- LMD_DUP_CNT (R364). -/
  | lmdDupCnt
  /-- LMD_RESEND_CNT (R364). -/
  | lmdResendCnt
  /-- LMD_REORDER_DROP_CNT (R364). -/
  | lmdReorderDropCnt
  /-- LMD_LANE_SWAP_CNT (R364). -/
  | lmdLaneSwapCnt
  /-- LMD_SLEEP_CNT (R364). -/
  | lmdSleepCnt
  /-- LMD_RETRAIN_CNT (R364). -/
  | lmdRetrainCnt
  /-- LMD_REPLAY_FULL_CNT (R364). -/
  | lmdReplayFullCnt
  /-- LMD_SLICE (R365). -/
  | lmdSlice
  /-- LMD_KEY (R365). -/
  | lmdKey
  /-- LMD_TIMERS (R365). -/
  | lmdTimers
  /-- LMD_BREAK (R365). -/
  | lmdBreak
  /-- LMD_FLOW_BREAK_CNT (R365). -/
  | lmdFlowBreakCnt
  /-- D2D_STATE (R379). -/
  | d2dState
  /-- D2D_BUNDLE (R379). -/
  | d2dBundle
  /-- D2D_SWAP_TH (R379). -/
  | d2dSwapTh
  /-- D2D_CE_CNT (R379). -/
  | d2dCeCnt
  /-- D2D_REPLAY_CNT (R379). -/
  | d2dReplayCnt
  /-- D2D_LANE_SWAP_CNT (R379). -/
  | d2dLaneSwapCnt
  /-- D2D_BUNDLE_FAIL_CNT (R379). -/
  | d2dBundleFailCnt
  /-- D2D_REROUTE_CNT (R379). -/
  | d2dRerouteCnt
  /-- PRT_CMD (R405). -/
  | prtCmd
  /-- PRT_STATUS (R405). -/
  | prtStatus
  /-- PRT_DESC_LO (R405). -/
  | prtDescLo
  /-- PRT_DESC_HI (R405). -/
  | prtDescHi
  /-- PRT_ARG0 (R405). -/
  | prtArg0
  /-- PRT_ARG1 (R405). -/
  | prtArg1
  /-- PRT_VF_BIND (R405). -/
  | prtVfBind
  /-- PRT_STATE (R406). -/
  | prtState
  /-- PRT_CORES (R406). -/
  | prtCores
  /-- PRT_RESERVE (R406). -/
  | prtReserve
  /-- PRT_SHARE (R406). -/
  | prtShare
  /-- PRT_MIG_CNT (R406). -/
  | prtMigCnt
  /-- PRT_STALE_CNT (R406). -/
  | prtStaleCnt
  /-- PRT_VF_ID (R407). -/
  | prtVfId
  /-- PRT_VF_CAUSE (R407). -/
  | prtVfCause
  /-- PRT_VF_MASK (R407). -/
  | prtVfMask
  /-- PRT_VF_VMAP_n (R407). -/
  | prtVfVmap
  /-- PRT_VF_DROP_CNT (R407). -/
  | prtVfDropCnt
  /-- PRT_MAP_VA_LO (R407). -/
  | prtMapVaLo
  /-- PRT_MAP_VA_HI (R407). -/
  | prtMapVaHi
  /-- PRT_MAP_PA_LO (R407). -/
  | prtMapPaLo
  /-- PRT_MAP_PA_HI (R407). -/
  | prtMapPaHi
  /-- PRT_MAP_CMD (R407). -/
  | prtMapCmd
  /-- PRT_MAP_STATUS (R407). -/
  | prtMapStatus
  /-- PRT_WD_CTX (R434). -/
  | prtWdCtx
  /-- PRT_WD_ENG (R434). -/
  | prtWdEng
  /-- PRT_WD_COL (R434). -/
  | prtWdCol
  /-- PRT_FENCE (R434). -/
  | prtFence
  /-- PRT_INSP_LO (R434). -/
  | prtInspLo
  /-- PRT_INSP_HI (R434). -/
  | prtInspHi
  /-- PRT_INSP_LEN (R434). -/
  | prtInspLen
  /-- PRT_RST (R434). -/
  | prtRst
  /-- PRT_INSP_STATUS (R434). -/
  | prtInspStatus
  /-- PRT_RST_CNT (R434). -/
  | prtRstCnt
  /-- PRT_EPOCH_DROP_CNT (R434). -/
  | prtEpochDropCnt
  /-- PRT_WD_CNT (R434). -/
  | prtWdCnt
  /-- MGT_RST_CMD (R435). -/
  | mgtRstCmd
  /-- MGT_RST_LAST (R435). -/
  | mgtRstLast
  /-- MGT_RST_TIME_LO (R435). -/
  | mgtRstTimeLo
  /-- MGT_RST_TIME_HI (R435). -/
  | mgtRstTimeHi
  /-- MGT_ENG_RST_CNT (R435). -/
  | mgtEngRstCnt
  /-- MGT_PKG_RST_CNT (R435). -/
  | mgtPkgRstCnt
  /-- MGT_BOOT_CNT (R435). -/
  | mgtBootCnt
  /-- MGT_PROBE_ADDR_LO (R453). -/
  | mgtProbeAddrLo
  /-- MGT_PROBE_ADDR_HI (R453). -/
  | mgtProbeAddrHi
  /-- MGT_PROBE_CMD (R453). -/
  | mgtProbeCmd
  /-- MGT_PROBE_STATUS (R453). -/
  | mgtProbeStatus
  /-- MGT_PROBE_ID (R453). -/
  | mgtProbeId
  /-- MGT_PROBE_PASS_CNT (R453). -/
  | mgtProbePassCnt
  /-- MGT_PROBE_FAIL_CNT (R453). -/
  | mgtProbeFailCnt
  /-- MGT_SUSPECT_CNT (R453). -/
  | mgtSuspectCnt
  /-- MGT_RETIRE_CNT (R453). -/
  | mgtRetireCnt
  /-- MGT_SUBST_CNT (R453). -/
  | mgtSubstCnt
  /-- MGT_SUSPECT_STATUS (R453). -/
  | mgtSuspectStatus
  /-- MGT_SUSPECT_UNIT (R453). -/
  | mgtSuspectUnit
  /-- MGT_SCRUB_CTL (R453). -/
  | mgtScrubCtl
  /-- MGT_CHK_CNT_d (R453). -/
  | mgtChkCnt
  /-- MGT_CORE_FLOOR (R453). -/
  | mgtCoreFloor
  /-- PRT_PROBE_GRANT (R454). -/
  | prtProbeGrant
  /-- PRT_PROBE_BUDGET (R454). -/
  | prtProbeBudget
  /-- PRT_PROBE_SAVE_LO (R454). -/
  | prtProbeSaveLo
  /-- PRT_PROBE_SAVE_HI (R454). -/
  | prtProbeSaveHi
  /-- PRT_PROBE_STATUS (R454). -/
  | prtProbeStatus
  /-- PRT_PROBE_FAIL_CNT (R454). -/
  | prtProbeFailCnt
  /-- HBM_CH_MAP (R455). -/
  | hbmChMap
  /-- BENT_CLK (R489). -/
  | bentClk
  /-- BENT_SHIM (R490). -/
  | bentShim
  /-- BENT_TEMP (R490). -/
  | bentTemp
  /-- BENT_STOP_CNT (R490). -/
  | bentStopCnt
  /-- PWR_DIE_TEMP (R491). -/
  | pwrDieTemp
  /-- PWR_HBM_TEMP_k (R491). -/
  | pwrHbmTemp
  /-- PWR_TRIP_CNT (R491). -/
  | pwrTripCnt
  /-- PWR_CLAMP_CNT (R491). -/
  | pwrClampCnt
  /-- PLB_TIME_LO (R492). -/
  | plbTimeLo
  /-- PLB_TIME_HI (R492). -/
  | plbTimeHi
  /-- PLB_LOAD_LO (R492). -/
  | plbLoadLo
  /-- PLB_LOAD_HI (R492). -/
  | plbLoadHi
  /-- PLB_CMD (R492). -/
  | plbCmd
  /-- PLB_STATUS (R492). -/
  | plbStatus
  /-- PLB_OFFSET (R492). -/
  | plbOffset
  /-- PLB_RATE (R492). -/
  | plbRate
  /-- PLB_PPS_CNT (R492). -/
  | plbPpsCnt
  /-- PLB_PPS_REJ_CNT (R492). -/
  | plbPpsRejCnt
  /-- PLB_ERR_CNT (R492). -/
  | plbErrCnt
  /-- PLB_SNAP_T_LO (R492). -/
  | plbSnapTLo
  /-- PLB_SNAP_T_HI (R492). -/
  | plbSnapTHi
  /-- PLB_SNAP_CMD (R492). -/
  | plbSnapCmd
  /-- PLB_SNAP_STATUS (R492). -/
  | plbSnapStatus
  /-- PWR_CAP (R493). -/
  | pwrCap
  /-- PWR_IN (R493). -/
  | pwrIn
  /-- PWR_FLOOR (R493). -/
  | pwrFloor
  /-- PWR_STATUS (R493). -/
  | pwrStatus
  /-- PWR_TLIM (R493). -/
  | pwrTlim
  /-- PWR_RIDE (R493). -/
  | pwrRide
  /-- PWR_PF_STATUS (R493). -/
  | pwrPfStatus
  /-- PWR_PF_LAST (R493). -/
  | pwrPfLast
  /-- PWR_PF_CNT (R493). -/
  | pwrPfCnt
  /-- PWR_RESUME_CNT (R493). -/
  | pwrResumeCnt
  /-- PWR_PEAK_CNT (R493). -/
  | pwrPeakCnt
  /-- PWR_INFEAS_CNT (R493). -/
  | pwrInfeasCnt
  /-- PWR_PART_p (R494). -/
  | pwrPart
  /-- SEC_BOOT (R518). -/
  | secBoot
  /-- SEC_SERIAL_LO (R518). -/
  | secSerialLo
  /-- SEC_SERIAL_HI (R518). -/
  | secSerialHi
  /-- SEC_UPD_ADDR_LO (R518). -/
  | secUpdAddrLo
  /-- SEC_UPD_ADDR_HI (R518). -/
  | secUpdAddrHi
  /-- SEC_UPD_CMD (R518). -/
  | secUpdCmd
  /-- SEC_UPD_STATUS (R518). -/
  | secUpdStatus
  /-- SEC_KEY_ADDR_LO (R518). -/
  | secKeyAddrLo
  /-- SEC_KEY_ADDR_HI (R518). -/
  | secKeyAddrHi
  /-- SEC_KEY_CMD (R518). -/
  | secKeyCmd
  /-- SEC_KEY_STATUS (R518). -/
  | secKeyStatus
  /-- SEC_KEY_STATE (R518). -/
  | secKeyState
  /-- MGT_MAINT_CTL (R520). -/
  | mgtMaintCtl
  /-- MGT_MAINT_STATUS (R520). -/
  | mgtMaintStatus
  /-- MGT_MAINT_LAST (R520). -/
  | mgtMaintLast
  /-- MGT_MAINT_QUEUE_CNT (R520). -/
  | mgtMaintQueueCnt
  /-- MGT_MAINT_DONE_CNT (R520). -/
  | mgtMaintDoneCnt
  /-- MGT_HOST_LINK (R537). -/
  | mgtHostLink
  /-- MGT_HOST_APER (R537). -/
  | mgtHostAper
  /-- MGT_HOST_CAUSE (R537). -/
  | mgtHostCause
  /-- MGT_HOST_MASK (R537). -/
  | mgtHostMask
  /-- MGT_HOST_CE_CNT (R537). -/
  | mgtHostCeCnt
  /-- MGT_HOST_UE_CNT (R537). -/
  | mgtHostUeCnt
  /-- MGT_HOST_ABORT_CNT (R537). -/
  | mgtHostAbortCnt
  /-- MGT_HOST_RETRAIN_CNT (R537). -/
  | mgtHostRetrainCnt
  /-- MGT_I3C_STATUS (R537). -/
  | mgtI3cStatus
  /-- MGT_I3C_DENY_CNT (R537). -/
  | mgtI3cDenyCnt
  /-- PRT_HQ_BASE_LO (R538). -/
  | prtHqBaseLo
  /-- PRT_HQ_BASE_HI (R538). -/
  | prtHqBaseHi
  /-- PRT_HQ_CFG (R538). -/
  | prtHqCfg
  /-- PRT_HQ_TAIL (R538). -/
  | prtHqTail
  /-- PRT_HQ_HEAD (R538). -/
  | prtHqHead
  /-- PRT_HQ_DONE_CNT (R538). -/
  | prtHqDoneCnt
  /-- PRT_HQ_ERR_CNT (R538). -/
  | prtHqErrCnt
  /-- DIE_CNT_LOST (R563). -/
  | dieCntLost
  /-- DIE_CNT_LOST_AMT (R564). -/
  | dieCntLostAmt
  /-- DIE_CNT_LOST_TOT (R564). -/
  | dieCntLostTot
  /-- MGT_EVLOG_HEAD (R565). -/
  | mgtEvlogHead
  /-- MGT_EVLOG_SEL (R565). -/
  | mgtEvlogSel
  /-- MGT_EVLOG_MASK (R565). -/
  | mgtEvlogMask
  /-- MGT_CNT_LOST (R565). -/
  | mgtCntLost
  /-- MGT_CNT_LOST_AMT (R565). -/
  | mgtCntLostAmt
  /-- MGT_EVLOG_DATA_w (R565). -/
  | mgtEvlogData
  /-- PLB_SNAP_PER (R566). -/
  | plbSnapPer
  /-- PLB_SNAP_SEQ (R566). -/
  | plbSnapSeq
  /-- PRT_TEL_BASE_LO (R567). -/
  | prtTelBaseLo
  /-- PRT_TEL_BASE_HI (R567). -/
  | prtTelBaseHi
  /-- PRT_TEL_CTL (R567). -/
  | prtTelCtl
  /-- PRT_TEL_STATUS (R567). -/
  | prtTelStatus
  /-- PRT_LOG_BASE_LO (R567). -/
  | prtLogBaseLo
  /-- PRT_LOG_BASE_HI (R567). -/
  | prtLogBaseHi
  /-- PRT_LOG_CTL (R567). -/
  | prtLogCtl
  /-- PRT_LOG_HEAD (R567). -/
  | prtLogHead
  /-- PRT_LOG_TAIL (R567). -/
  | prtLogTail
  /-- PRT_LOG_LOST_CNT (R567). -/
  | prtLogLostCnt
  /-- TST_DBG_ADDR_LO (R580). -/
  | tstDbgAddrLo
  /-- TST_DBG_ADDR_HI (R580). -/
  | tstDbgAddrHi
  /-- TST_DBG_CMD (R580). -/
  | tstDbgCmd
  /-- TST_DBG_STATUS (R580). -/
  | tstDbgStatus
  /-- TST_DBG_STATE (R580). -/
  | tstDbgState
  /-- TST_NONCE_LO (R580). -/
  | tstNonceLo
  /-- TST_NONCE_HI (R580). -/
  | tstNonceHi
  /-- TST_REC_SEL (R580). -/
  | tstRecSel
  /-- TST_REC_DATA_w (R580). -/
  | tstRecData
  /-- TST_HBM_CMD (R580). -/
  | tstHbmCmd
  /-- TST_HBM_ARG (R580). -/
  | tstHbmArg
  /-- TST_HBM_ARG2 (R580). -/
  | tstHbmArg2
  /-- TST_HBM_DATA_LO (R580). -/
  | tstHbmDataLo
  /-- TST_HBM_DATA_HI (R580). -/
  | tstHbmDataHi
  /-- TST_HBM_STATUS (R580). -/
  | tstHbmStatus
  /-- TST_PERT_BRIDGE (R581). -/
  | tstPertBridge
  /-- TST_PERT_CREDIT (R581). -/
  | tstPertCredit
  /-- TST_PERT_BP (R581). -/
  | tstPertBp
  /-- TST_PERT_SKEW (R581). -/
  | tstPertSkew
  /-- TST_PERT_WAKE (R581). -/
  | tstPertWake
  /-- TST_PERT_CNT (R581). -/
  | tstPertCnt
  /-- PEG_BENT_VAL_i (R216). -/
  | pegBentVal
  /-- PEG_SPN_VAL_i (R216). -/
  | pegSpnVal
  /-- BAY_CTX_PEG_i (R216). -/
  | bayCtxPeg
  /-- CORE_IDLE_LOCAL_LO (R549). -/
  | coreIdleLocalLo
  /-- CORE_IDLE_LOCAL_HI (R549). -/
  | coreIdleLocalHi
  /-- CORE_IDLE_COLL_LO (R549). -/
  | coreIdleCollLo
  /-- CORE_IDLE_COLL_HI (R549). -/
  | coreIdleCollHi
  /-- CORE_IDLE_MEM_LO (R549). -/
  | coreIdleMemLo
  /-- CORE_IDLE_MEM_HI (R549). -/
  | coreIdleMemHi
  /-- CORE_IDLE_HOST_LO (R549). -/
  | coreIdleHostLo
  /-- CORE_IDLE_HOST_HI (R549). -/
  | coreIdleHostHi
  /-- CORE_IDLE_JNR_LO (R549). -/
  | coreIdleJnrLo
  /-- CORE_IDLE_JNR_HI (R549). -/
  | coreIdleJnrHi
  /-- CORE_IDLE_SHIM_LO (R549). -/
  | coreIdleShimLo
  /-- CORE_IDLE_SHIM_HI (R549). -/
  | coreIdleShimHi
  /-- CORE_IDLE_THERM_LO (R549). -/
  | coreIdleThermLo
  /-- CORE_IDLE_THERM_HI (R549). -/
  | coreIdleThermHi
  /-- CORE_IDLE_MAINT_LO (R549). -/
  | coreIdleMaintLo
  /-- CORE_IDLE_MAINT_HI (R549). -/
  | coreIdleMaintHi
  /-- SEC_PART_ROOT_p_w (R519). -/
  | secPartRoot
  /-- BENT_SNAP_T_LO (R553). -/
  | bentSnapTLo
  /-- BENT_SNAP_T_HI (R553). -/
  | bentSnapTHi
  /-- SPN_SNAP_T_LO (R553). -/
  | spnSnapTLo
  /-- SPN_SNAP_T_HI (R553). -/
  | spnSnapTHi
  deriving DecidableEq, Repr

/-- Where a register stands in its block: the block, the offset of entry 0, the stride and the number of entries. -/
def Reg.place : Reg → RegBlk × Nat × Nat × Nat
  | .pkgId => (.pkg, 0x0, 4, 1)
  | .pkgTopo => (.pkg, 0x4, 4, 1)
  | .pkgFabricAddr => (.pkg, 0x8, 4, 1)
  | .pkgCoreCount => (.pkg, 0x10, 4, 4)
  | .pkgCoreNarrow => (.pkg, 0x20, 4, 4)
  | .coreState => (.core, 0x0, 4, 1)
  | .coreCtxStatus => (.core, 0x10, 4, 4)
  | .coreSqStatus => (.core, 0x20, 4, 1)
  | .coreSqWhere => (.core, 0x24, 4, 1)
  | .coreSqMismatchCnt => (.core, 0x28, 4, 1)
  | .coreSqSkipCnt => (.core, 0x2C, 4, 1)
  | .coreArrayBusyLo => (.core, 0x30, 4, 1)
  | .coreArrayBusyHi => (.core, 0x34, 4, 1)
  | .coreCtxMode => (.core, 0x38, 4, 1)
  | .coreCtxFlags => (.core, 0x3C, 4, 1)
  | .coreNanStatus => (.core, 0x40, 4, 1)
  | .coreNanOffset => (.core, 0x44, 4, 1)
  | .coreNanIndex => (.core, 0x48, 4, 1)
  | .coreNanTile => (.core, 0x4C, 4, 1)
  | .coreNanElem => (.core, 0x50, 4, 1)
  | .ldrLathFmtStatus => (.bay, 0xC00, 4, 1)
  | .ldrLathFmtVaLo => (.bay, 0xC04, 4, 1)
  | .ldrLathFmtVaHi => (.bay, 0xC08, 4, 1)
  | .ldrLathFmtCnt => (.bay, 0xC0C, 4, 1)
  | .ldrLathClampCnt => (.bay, 0xC10, 4, 1)
  | .ldrLathAlignCnt => (.bay, 0xC14, 4, 1)
  | .ldrKerfSatCnt => (.bay, 0xC18, 4, 1)
  | .coreCtxPc => (.core, 0x54, 4, 4)
  | .coreCtxRegion => (.core, 0x64, 4, 4)
  | .coreCtxCmd => (.core, 0x74, 4, 1)
  | .coreCtxIllegal => (.core, 0x78, 4, 1)
  | .bayCsAddrLo => (.bay, 0x0, 4, 1)
  | .bayCsAddrHi => (.bay, 0x4, 4, 1)
  | .bayCsArg => (.bay, 0x8, 4, 1)
  | .bayCsCores => (.bay, 0xC, 4, 1)
  | .bayCsCmd => (.bay, 0x10, 4, 1)
  | .bayCsStatus => (.bay, 0x14, 4, 1)
  | .bayCsRejectCnt => (.bay, 0x18, 4, 1)
  | .bayCtxSel => (.bay, 0x20, 4, 1)
  | .bayCtxStopat => (.bay, 0x24, 4, 1)
  | .bayCtxIndex => (.bay, 0x28, 4, 1)
  | .bayCtxDropCnt => (.bay, 0x2C, 4, 1)
  | .bayCtxP => (.bay, 0x100, 4, 64)
  | .bayCtxPsegLo => (.bay, 0x200, 8, 4)
  | .bayCtxPsegHi => (.bay, 0x204, 8, 4)
  | .pegDldCtl => (.dld, 0x0, 4, 1)
  | .pegDldStatus => (.dld, 0x4, 4, 1)
  | .pegDldTimeLo => (.dld, 0x8, 4, 1)
  | .pegDldTimeHi => (.dld, 0xC, 4, 1)
  | .pegDldWaiters => (.dld, 0x10, 4, 1)
  | .pegDldFirst => (.dld, 0x14, 4, 1)
  | .pegDldThresh => (.dld, 0x18, 4, 1)
  | .pegDldValue => (.dld, 0x1C, 4, 1)
  | .pegDldFireCnt => (.dld, 0x20, 4, 1)
  | .spnPoolBaseLo => (.pool, 0x0, 4, 1)
  | .spnPoolBaseHi => (.pool, 0x4, 4, 1)
  | .spnPoolCfg => (.pool, 0x8, 4, 1)
  | .spnPoolFree => (.pool, 0xC, 4, 1)
  | .spnPoolCmd => (.pool, 0x10, 4, 1)
  | .spnPoolTag => (.pool, 0x14, 4, 1)
  | .spnPoolDfreeCnt => (.pool, 0x18, 4, 1)
  | .spnPoolRec => (.pool, 0x1C, 4, 1)
  | .pegErrStatus => (.pegErr, 0x0, 4, 1)
  | .pegErrAmount => (.pegErr, 0x4, 4, 1)
  | .pegErrCnt => (.pegErr, 0x8, 4, 1)
  | .pegPollCnt => (.pegErr, 0xC, 4, 1)
  | .ldrXferCnt => (.bay, 0xB00, 4, 1)
  | .ldrBytesLo => (.bay, 0xB04, 4, 1)
  | .ldrBytesHi => (.bay, 0xB08, 4, 1)
  | .ldrCeCnt => (.bay, 0xB0C, 4, 1)
  | .ldrUeCnt => (.bay, 0xB10, 4, 1)
  | .bayRingCfg => (.bay, 0x300, 16, 8)
  | .bayRingProd => (.bay, 0x304, 16, 8)
  | .bayRingCons => (.bay, 0x308, 16, 8)
  | .dckWays => (.deck, 0x0, 4, 1)
  | .dckKeep => (.deck, 0x4, 4, 1)
  | .dckCmd => (.deck, 0x8, 4, 1)
  | .dckHitCnt => (.deck, 0x10, 4, 1)
  | .dckMissCnt => (.deck, 0x14, 4, 1)
  | .dckWbCnt => (.deck, 0x18, 4, 1)
  | .dckDiscardCnt => (.deck, 0x1C, 4, 1)
  | .dckKeepEvictCnt => (.deck, 0x20, 4, 1)
  | .dckCeCnt => (.deck, 0x24, 4, 1)
  | .dckPoisonCnt => (.deck, 0x28, 4, 1)
  | .hbmChCfg => (.chan, 0x0, 4, 1)
  | .hbmArb => (.chan, 0x4, 4, 1)
  | .hbmLatMax => (.chan, 0x8, 4, 1)
  | .hbmCeCnt => (.chan, 0xC, 4, 1)
  | .hbmUeCnt => (.chan, 0x10, 4, 1)
  | .hbmUeAddr => (.chan, 0x14, 4, 1)
  | .hbmPromoteCnt => (.chan, 0x18, 4, 1)
  | .spnTblStatus => (.tbl, 0x0, 4, 1)
  | .spnTblOut => (.tbl, 0x4, 4, 1)
  | .spnTblCore => (.tbl, 0x8, 4, 1)
  | .spnTblBadCnt => (.tbl, 0xC, 4, 1)
  | .spnTblReqCnt => (.tbl, 0x10, 4, 1)
  | .secHbmKeygen => (.keygen, 0x0, 4, 1)
  | .trsBaseLo => (.trs, 0x0, 4, 1)
  | .trsBaseHi => (.trs, 0x4, 4, 1)
  | .trsCmd => (.trs, 0x8, 4, 1)
  | .trsStatus => (.trs, 0xC, 4, 1)
  | .trsSel => (.trs, 0x10, 4, 1)
  | .trsInfo => (.trs, 0x14, 4, 1)
  | .trsStep => (.trs, 0x18, 4, 1)
  | .colErrStatus => (.col, 0x0, 4, 1)
  | .colErrBlock => (.col, 0x4, 4, 1)
  | .colBlkCnt => (.col, 0x8, 4, 1)
  | .colSatCnt => (.col, 0xC, 4, 1)
  | .colFbCnt => (.col, 0x10, 4, 1)
  | .colNfCnt => (.col, 0x14, 4, 1)
  | .colResCnt => (.col, 0x18, 4, 1)
  | .colDigCnt => (.col, 0x1C, 4, 1)
  | .colRetryCnt => (.col, 0x20, 4, 1)
  | .colHoldCnt => (.col, 0x24, 4, 1)
  | .jnrBaseLo => (.jnr, 0x0, 4, 1)
  | .jnrBaseHi => (.jnr, 0x4, 4, 1)
  | .jnrCmd => (.jnr, 0x8, 4, 1)
  | .jnrStatus => (.jnr, 0xC, 4, 1)
  | .jnrSel => (.jnr, 0x10, 4, 1)
  | .jnrInfo => (.jnr, 0x14, 4, 1)
  | .jnrSteps => (.jnr, 0x18, 4, 1)
  | .jnrFlags => (.jnr, 0x1C, 4, 1)
  | .jnrXpAddrLo => (.jnr, 0x20, 4, 1)
  | .jnrXpAddrHi => (.jnr, 0x24, 4, 1)
  | .jnrXpCmd => (.jnr, 0x28, 4, 1)
  | .jnrXpStatus => (.jnr, 0x2C, 4, 1)
  | .jnrXpBytesLo => (.jnr, 0x30, 4, 1)
  | .jnrXpBytesHi => (.jnr, 0x34, 4, 1)
  | .jnrProgAddrLo => (.jnrProg, 0x0, 4, 1)
  | .jnrProgAddrHi => (.jnrProg, 0x4, 4, 1)
  | .jnrProgCmd => (.jnrProg, 0x8, 4, 1)
  | .jnrProgStatus => (.jnrProg, 0xC, 4, 1)
  | .jnrErrStatus => (.jnrDie, 0x0, 4, 1)
  | .jnrErrWhere => (.jnrDie, 0x4, 4, 1)
  | .jnrBlkCnt => (.jnrDie, 0x8, 4, 1)
  | .jnrSkipCnt => (.jnrDie, 0xC, 4, 1)
  | .jnrOvfCnt => (.jnrDie, 0x10, 4, 1)
  | .jnrSrdupCnt => (.jnrDie, 0x14, 4, 1)
  | .jnrSpoisonCnt => (.jnrDie, 0x18, 4, 1)
  | .jnrNfwCnt => (.jnrDie, 0x1C, 4, 1)
  | .jnrBusyCnt => (.jnrDie, 0x20, 4, 1)
  | .jnrWaitCnt => (.jnrDie, 0x24, 4, 1)
  | .jnrQfullCnt => (.jnrDie, 0x28, 4, 1)
  | .jnrGateCnt => (.jnrDie, 0x2C, 4, 1)
  | .lmdCtl => (.port, 0x0, 4, 1)
  | .lmdState => (.port, 0x4, 4, 1)
  | .lmdLanes => (.port, 0x8, 4, 1)
  | .lmdIdleTo => (.port, 0xC, 4, 1)
  | .lmdSwapTh => (.port, 0x10, 4, 1)
  | .lmdTimeDiff => (.port, 0x14, 4, 1)
  | .lmdWakeTime => (.port, 0x18, 4, 1)
  | .lmdFecCeCnt => (.port, 0x20, 4, 1)
  | .lmdFecUeCnt => (.port, 0x24, 4, 1)
  | .lmdAuthFailCnt => (.port, 0x28, 4, 1)
  | .lmdSliceRejectCnt => (.port, 0x2C, 4, 1)
  | .lmdTwRejectCnt => (.port, 0x30, 4, 1)
  | .lmdPegRejectCnt => (.port, 0x34, 4, 1)
  | .lmdMisrouteCnt => (.port, 0x38, 4, 1)
  | .lmdDupCnt => (.port, 0x3C, 4, 1)
  | .lmdResendCnt => (.port, 0x40, 4, 1)
  | .lmdReorderDropCnt => (.port, 0x44, 4, 1)
  | .lmdLaneSwapCnt => (.port, 0x48, 4, 1)
  | .lmdSleepCnt => (.port, 0x4C, 4, 1)
  | .lmdRetrainCnt => (.port, 0x50, 4, 1)
  | .lmdReplayFullCnt => (.port, 0x54, 4, 1)
  | .lmdSlice => (.fabric, 0x0, 4, 1)
  | .lmdKey => (.fabric, 0x4, 4, 1)
  | .lmdTimers => (.fabric, 0x8, 4, 1)
  | .lmdBreak => (.fabric, 0xC, 4, 1)
  | .lmdFlowBreakCnt => (.fabric, 0x10, 4, 1)
  | .d2dState => (.d2d, 0x0, 4, 1)
  | .d2dBundle => (.d2d, 0x4, 4, 1)
  | .d2dSwapTh => (.d2d, 0x8, 4, 1)
  | .d2dCeCnt => (.d2d, 0x10, 4, 1)
  | .d2dReplayCnt => (.d2d, 0x14, 4, 1)
  | .d2dLaneSwapCnt => (.d2d, 0x18, 4, 1)
  | .d2dBundleFailCnt => (.d2d, 0x1C, 4, 1)
  | .d2dRerouteCnt => (.d2d, 0x20, 4, 1)
  | .prtCmd => (.prtCmd, 0x0, 4, 1)
  | .prtStatus => (.prtCmd, 0x4, 4, 1)
  | .prtDescLo => (.prtCmd, 0x8, 4, 1)
  | .prtDescHi => (.prtCmd, 0xC, 4, 1)
  | .prtArg0 => (.prtCmd, 0x10, 4, 1)
  | .prtArg1 => (.prtCmd, 0x14, 4, 1)
  | .prtVfBind => (.prtCmd, 0x20, 4, 63)
  | .prtState => (.prtState, 0x0, 4, 1)
  | .prtCores => (.prtState, 0x4, 4, 1)
  | .prtReserve => (.prtState, 0x8, 4, 1)
  | .prtShare => (.prtState, 0xC, 4, 1)
  | .prtMigCnt => (.prtState, 0x10, 4, 1)
  | .prtStaleCnt => (.prtState, 0x14, 4, 1)
  | .prtVfId => (.vf, 0x0, 4, 1)
  | .prtVfCause => (.vf, 0x4, 4, 1)
  | .prtVfMask => (.vf, 0x8, 4, 1)
  | .prtVfVmap => (.vf, 0x10, 4, 5)
  | .prtVfDropCnt => (.vf, 0x30, 4, 1)
  | .prtMapVaLo => (.vf, 0x40, 4, 1)
  | .prtMapVaHi => (.vf, 0x44, 4, 1)
  | .prtMapPaLo => (.vf, 0x48, 4, 1)
  | .prtMapPaHi => (.vf, 0x4C, 4, 1)
  | .prtMapCmd => (.vf, 0x50, 4, 1)
  | .prtMapStatus => (.vf, 0x54, 4, 1)
  | .prtWdCtx => (.recovery, 0x0, 4, 1)
  | .prtWdEng => (.recovery, 0x4, 4, 1)
  | .prtWdCol => (.recovery, 0x8, 4, 1)
  | .prtFence => (.recovery, 0xC, 4, 1)
  | .prtInspLo => (.recovery, 0x10, 4, 1)
  | .prtInspHi => (.recovery, 0x14, 4, 1)
  | .prtInspLen => (.recovery, 0x18, 4, 1)
  | .prtRst => (.recovery, 0x1C, 4, 1)
  | .prtInspStatus => (.recovery, 0x20, 4, 1)
  | .prtRstCnt => (.recovery, 0x24, 4, 1)
  | .prtEpochDropCnt => (.recovery, 0x28, 4, 1)
  | .prtWdCnt => (.recovery, 0x2C, 4, 1)
  | .mgtRstCmd => (.mgtRst, 0x0, 4, 1)
  | .mgtRstLast => (.mgtRst, 0x4, 4, 1)
  | .mgtRstTimeLo => (.mgtRst, 0x8, 4, 1)
  | .mgtRstTimeHi => (.mgtRst, 0xC, 4, 1)
  | .mgtEngRstCnt => (.mgtRst, 0x10, 4, 1)
  | .mgtPkgRstCnt => (.mgtRst, 0x14, 4, 1)
  | .mgtBootCnt => (.mgtRst, 0x18, 4, 1)
  | .mgtProbeAddrLo => (.reliab, 0x0, 4, 1)
  | .mgtProbeAddrHi => (.reliab, 0x4, 4, 1)
  | .mgtProbeCmd => (.reliab, 0x8, 4, 1)
  | .mgtProbeStatus => (.reliab, 0xC, 4, 1)
  | .mgtProbeId => (.reliab, 0x10, 4, 1)
  | .mgtProbePassCnt => (.reliab, 0x14, 4, 1)
  | .mgtProbeFailCnt => (.reliab, 0x18, 4, 1)
  | .mgtSuspectCnt => (.reliab, 0x1C, 4, 1)
  | .mgtRetireCnt => (.reliab, 0x20, 4, 1)
  | .mgtSubstCnt => (.reliab, 0x24, 4, 1)
  | .mgtSuspectStatus => (.reliab, 0x28, 4, 1)
  | .mgtSuspectUnit => (.reliab, 0x2C, 4, 1)
  | .mgtScrubCtl => (.reliab, 0x30, 4, 1)
  | .mgtChkCnt => (.reliab, 0x40, 4, 4)
  | .mgtCoreFloor => (.reliab, 0x50, 4, 1)
  | .prtProbeGrant => (.prtState, 0x20, 4, 1)
  | .prtProbeBudget => (.prtState, 0x24, 4, 1)
  | .prtProbeSaveLo => (.prtState, 0x28, 4, 1)
  | .prtProbeSaveHi => (.prtState, 0x2C, 4, 1)
  | .prtProbeStatus => (.prtState, 0x30, 4, 1)
  | .prtProbeFailCnt => (.prtState, 0x34, 4, 1)
  | .hbmChMap => (.chan, 0x1C, 4, 1)
  | .bentClk => (.bent, 0x0, 4, 1)
  | .bentShim => (.bent, 0x4, 4, 1)
  | .bentTemp => (.bent, 0x8, 4, 1)
  | .bentStopCnt => (.bent, 0xC, 4, 1)
  | .pwrDieTemp => (.thermal, 0x0, 4, 1)
  | .pwrHbmTemp => (.thermal, 0x10, 4, 6)
  | .pwrTripCnt => (.thermal, 0x28, 4, 1)
  | .pwrClampCnt => (.thermal, 0x2C, 4, 1)
  | .plbTimeLo => (.plumb, 0x0, 4, 1)
  | .plbTimeHi => (.plumb, 0x4, 4, 1)
  | .plbLoadLo => (.plumb, 0x8, 4, 1)
  | .plbLoadHi => (.plumb, 0xC, 4, 1)
  | .plbCmd => (.plumb, 0x10, 4, 1)
  | .plbStatus => (.plumb, 0x14, 4, 1)
  | .plbOffset => (.plumb, 0x18, 4, 1)
  | .plbRate => (.plumb, 0x1C, 4, 1)
  | .plbPpsCnt => (.plumb, 0x20, 4, 1)
  | .plbPpsRejCnt => (.plumb, 0x24, 4, 1)
  | .plbErrCnt => (.plumb, 0x28, 4, 1)
  | .plbSnapTLo => (.plumb, 0x40, 4, 1)
  | .plbSnapTHi => (.plumb, 0x44, 4, 1)
  | .plbSnapCmd => (.plumb, 0x48, 4, 1)
  | .plbSnapStatus => (.plumb, 0x4C, 4, 1)
  | .pwrCap => (.power, 0x0, 4, 1)
  | .pwrIn => (.power, 0x4, 4, 1)
  | .pwrFloor => (.power, 0x8, 4, 1)
  | .pwrStatus => (.power, 0xC, 4, 1)
  | .pwrTlim => (.power, 0x10, 4, 1)
  | .pwrRide => (.power, 0x14, 4, 1)
  | .pwrPfStatus => (.power, 0x18, 4, 1)
  | .pwrPfLast => (.power, 0x1C, 4, 1)
  | .pwrPfCnt => (.power, 0x20, 4, 1)
  | .pwrResumeCnt => (.power, 0x24, 4, 1)
  | .pwrPeakCnt => (.power, 0x28, 4, 1)
  | .pwrInfeasCnt => (.power, 0x2C, 4, 1)
  | .pwrPart => (.pwrPart, 0x0, 4, 1)
  | .secBoot => (.sec, 0x0, 4, 1)
  | .secSerialLo => (.sec, 0x4, 4, 1)
  | .secSerialHi => (.sec, 0x8, 4, 1)
  | .secUpdAddrLo => (.sec, 0xC, 4, 1)
  | .secUpdAddrHi => (.sec, 0x10, 4, 1)
  | .secUpdCmd => (.sec, 0x14, 4, 1)
  | .secUpdStatus => (.sec, 0x18, 4, 1)
  | .secKeyAddrLo => (.sec, 0x1C, 4, 1)
  | .secKeyAddrHi => (.sec, 0x20, 4, 1)
  | .secKeyCmd => (.sec, 0x24, 4, 1)
  | .secKeyStatus => (.sec, 0x28, 4, 1)
  | .secKeyState => (.sec, 0x2C, 4, 1)
  | .mgtMaintCtl => (.maint, 0x0, 4, 1)
  | .mgtMaintStatus => (.maint, 0x4, 4, 1)
  | .mgtMaintLast => (.maint, 0x8, 4, 1)
  | .mgtMaintQueueCnt => (.maint, 0xC, 4, 1)
  | .mgtMaintDoneCnt => (.maint, 0x10, 4, 1)
  | .mgtHostLink => (.host, 0x0, 4, 1)
  | .mgtHostAper => (.host, 0x4, 4, 1)
  | .mgtHostCause => (.host, 0x8, 4, 1)
  | .mgtHostMask => (.host, 0xC, 4, 1)
  | .mgtHostCeCnt => (.host, 0x10, 4, 1)
  | .mgtHostUeCnt => (.host, 0x14, 4, 1)
  | .mgtHostAbortCnt => (.host, 0x18, 4, 1)
  | .mgtHostRetrainCnt => (.host, 0x1C, 4, 1)
  | .mgtI3cStatus => (.host, 0x20, 4, 1)
  | .mgtI3cDenyCnt => (.host, 0x24, 4, 1)
  | .prtHqBaseLo => (.vfHq, 0x0, 4, 1)
  | .prtHqBaseHi => (.vfHq, 0x4, 4, 1)
  | .prtHqCfg => (.vfHq, 0x8, 4, 1)
  | .prtHqTail => (.vfHq, 0xC, 4, 1)
  | .prtHqHead => (.vfHq, 0x10, 4, 1)
  | .prtHqDoneCnt => (.vfHq, 0x14, 4, 1)
  | .prtHqErrCnt => (.vfHq, 0x18, 4, 1)
  | .dieCntLost => (.die, 0x0, 4, 1)
  | .dieCntLostAmt => (.die, 0x4, 4, 1)
  | .dieCntLostTot => (.die, 0x8, 4, 1)
  | .mgtEvlogHead => (.tel, 0x0, 4, 1)
  | .mgtEvlogSel => (.tel, 0x4, 4, 1)
  | .mgtEvlogMask => (.tel, 0x8, 4, 1)
  | .mgtCntLost => (.tel, 0xC, 4, 1)
  | .mgtCntLostAmt => (.tel, 0x10, 4, 1)
  | .mgtEvlogData => (.tel, 0x20, 4, 8)
  | .plbSnapPer => (.plumb, 0x50, 4, 1)
  | .plbSnapSeq => (.plumb, 0x54, 4, 1)
  | .prtTelBaseLo => (.vfTel, 0x200, 4, 1)
  | .prtTelBaseHi => (.vfTel, 0x204, 4, 1)
  | .prtTelCtl => (.vfTel, 0x208, 4, 1)
  | .prtTelStatus => (.vfTel, 0x20C, 4, 1)
  | .prtLogBaseLo => (.vfTel, 0x210, 4, 1)
  | .prtLogBaseHi => (.vfTel, 0x214, 4, 1)
  | .prtLogCtl => (.vfTel, 0x218, 4, 1)
  | .prtLogHead => (.vfTel, 0x21C, 4, 1)
  | .prtLogTail => (.vfTel, 0x220, 4, 1)
  | .prtLogLostCnt => (.vfTel, 0x224, 4, 1)
  | .tstDbgAddrLo => (.tst, 0x0, 4, 1)
  | .tstDbgAddrHi => (.tst, 0x4, 4, 1)
  | .tstDbgCmd => (.tst, 0x8, 4, 1)
  | .tstDbgStatus => (.tst, 0xC, 4, 1)
  | .tstDbgState => (.tst, 0x10, 4, 1)
  | .tstNonceLo => (.tst, 0x14, 4, 1)
  | .tstNonceHi => (.tst, 0x18, 4, 1)
  | .tstRecSel => (.tst, 0x20, 4, 1)
  | .tstRecData => (.tst, 0x40, 4, 16)
  | .tstHbmCmd => (.tst, 0x80, 4, 1)
  | .tstHbmArg => (.tst, 0x84, 4, 1)
  | .tstHbmArg2 => (.tst, 0x88, 4, 1)
  | .tstHbmDataLo => (.tst, 0x8C, 4, 1)
  | .tstHbmDataHi => (.tst, 0x90, 4, 1)
  | .tstHbmStatus => (.tst, 0x94, 4, 1)
  | .tstPertBridge => (.pert, 0x0, 4, 1)
  | .tstPertCredit => (.pert, 0x4, 4, 1)
  | .tstPertBp => (.pert, 0x8, 4, 1)
  | .tstPertSkew => (.pert, 0xC, 4, 1)
  | .tstPertWake => (.pert, 0x10, 4, 1)
  | .tstPertCnt => (.pert, 0x14, 4, 1)
  | .pegBentVal => (.pegBent, 0x0, 4, 4096)
  | .pegSpnVal => (.pegSpn, 0x0, 4, 16384)
  | .bayCtxPeg => (.bay, 0x240, 4, 16)
  | .coreIdleLocalLo => (.idle, 0x0, 4, 1)
  | .coreIdleLocalHi => (.idle, 0x4, 4, 1)
  | .coreIdleCollLo => (.idle, 0x8, 4, 1)
  | .coreIdleCollHi => (.idle, 0xC, 4, 1)
  | .coreIdleMemLo => (.idle, 0x10, 4, 1)
  | .coreIdleMemHi => (.idle, 0x14, 4, 1)
  | .coreIdleHostLo => (.idle, 0x18, 4, 1)
  | .coreIdleHostHi => (.idle, 0x1C, 4, 1)
  | .coreIdleJnrLo => (.idle, 0x20, 4, 1)
  | .coreIdleJnrHi => (.idle, 0x24, 4, 1)
  | .coreIdleShimLo => (.idle, 0x28, 4, 1)
  | .coreIdleShimHi => (.idle, 0x2C, 4, 1)
  | .coreIdleThermLo => (.idle, 0x30, 4, 1)
  | .coreIdleThermHi => (.idle, 0x34, 4, 1)
  | .coreIdleMaintLo => (.idle, 0x38, 4, 1)
  | .coreIdleMaintHi => (.idle, 0x3C, 4, 1)
  | .secPartRoot => (.root, 0x0, 4, 12)
  | .bentSnapTLo => (.bent, 0x10, 4, 1)
  | .bentSnapTHi => (.bent, 0x14, 4, 1)
  | .spnSnapTLo => (.spnSnap, 0x0, 4, 1)
  | .spnSnapTHi => (.spnSnap, 0x4, 4, 1)

/-- The fields of a register that are not reserved. -/
def Reg.fields : Reg → List Fld
  | .pkgId => [⟨16, 16, .ro⟩ /- part -/, ⟨12, 4, .ro⟩ /- step_letter -/, ⟨8, 4, .ro⟩ /- step_num -/]
  | .pkgTopo => [⟨0, 2, .ro⟩ /- slot_id -/, ⟨2, 1, .ro⟩ /- welyar_site -/, ⟨3, 1, .ro⟩ /- standby_ready -/, ⟨8, 4, .ro⟩ /- d2d_up -/, ⟨16, 8, .ro⟩ /- lmd_up -/, ⟨24, 8, .ro⟩ /- lmd_asleep -/]
  | .pkgFabricAddr => [⟨0, 17, .ro⟩ /- fabric_addr -/, ⟨31, 1, .ro⟩ /- valid -/]
  | .pkgCoreCount => [⟨0, 17, .ro⟩ /- enabled -/]
  | .pkgCoreNarrow => [⟨0, 17, .ro⟩ /- one_bad -/]
  | .coreState => [⟨0, 2, .ro⟩ /- class -/, ⟨2, 1, .ro⟩ /- full_unchecked -/, ⟨4, 4, .ro⟩ /- bad_col -/, ⟨8, 3, .ro⟩ /- partition -/, ⟨11, 1, .ro⟩ /- assigned -/]
  | .coreCtxStatus => [⟨0, 3, .ro⟩ /- state -/, ⟨3, 1, .ro⟩ /- tile_pending -/, ⟨8, 8, .ro⟩ /- cause -/]
  | .coreSqStatus => [⟨0, 1, .w1c⟩ /- mismatch -/, ⟨1, 1, .ro⟩ /- src -/, ⟨2, 2, .ro⟩ /- ctx -/]
  | .coreSqWhere => [⟨0, 12, .ro⟩ /- row -/, ⟨12, 9, .ro⟩ /- npass -/, ⟨21, 8, .ro⟩ /- kpass -/]
  | .coreSqMismatchCnt => [⟨0, 32, .cnt⟩ /- count -/]
  | .coreSqSkipCnt => [⟨0, 32, .cnt⟩ /- count -/]
  | .coreArrayBusyLo => [⟨0, 32, .cnt⟩ /- count -/]
  | .coreArrayBusyHi => [⟨0, 32, .cnt⟩ /- count -/]
  | .coreCtxMode => [⟨0, 1, .rw⟩ /- denorm_mode_0 -/, ⟨1, 1, .rw⟩ /- nan_trap_0 -/, ⟨8, 1, .rw⟩ /- denorm_mode_1 -/, ⟨9, 1, .rw⟩ /- nan_trap_1 -/, ⟨16, 1, .rw⟩ /- denorm_mode_2 -/, ⟨17, 1, .rw⟩ /- nan_trap_2 -/, ⟨24, 1, .rw⟩ /- denorm_mode_3 -/, ⟨25, 1, .rw⟩ /- nan_trap_3 -/]
  | .coreCtxFlags => [⟨0, 1, .w1c⟩ /- overflow_0 -/, ⟨1, 1, .w1c⟩ /- invalid_0 -/, ⟨2, 1, .w1c⟩ /- underflow_0 -/, ⟨3, 1, .w1c⟩ /- inexact_0 -/, ⟨4, 1, .w1c⟩ /- flushed_0 -/, ⟨8, 1, .w1c⟩ /- overflow_1 -/, ⟨9, 1, .w1c⟩ /- invalid_1 -/, ⟨10, 1, .w1c⟩ /- underflow_1 -/, ⟨11, 1, .w1c⟩ /- inexact_1 -/, ⟨12, 1, .w1c⟩ /- flushed_1 -/, ⟨16, 1, .w1c⟩ /- overflow_2 -/, ⟨17, 1, .w1c⟩ /- invalid_2 -/, ⟨18, 1, .w1c⟩ /- underflow_2 -/, ⟨19, 1, .w1c⟩ /- inexact_2 -/, ⟨20, 1, .w1c⟩ /- flushed_2 -/, ⟨24, 1, .w1c⟩ /- overflow_3 -/, ⟨25, 1, .w1c⟩ /- invalid_3 -/, ⟨26, 1, .w1c⟩ /- underflow_3 -/, ⟨27, 1, .w1c⟩ /- inexact_3 -/, ⟨28, 1, .w1c⟩ /- flushed_3 -/]
  | .coreNanStatus => [⟨0, 1, .w1c⟩ /- valid -/, ⟨1, 1, .w1c⟩ /- overrun -/, ⟨2, 2, .ro⟩ /- ctx -/]
  | .coreNanOffset => [⟨0, 32, .ro⟩ /- offset -/]
  | .coreNanIndex => [⟨0, 32, .ro⟩ /- index -/]
  | .coreNanTile => [⟨0, 12, .ro⟩ /- chunk -/, ⟨12, 9, .ro⟩ /- npass -/]
  | .coreNanElem => [⟨0, 12, .ro⟩ /- row -/, ⟨12, 12, .ro⟩ /- col -/]
  | .ldrLathFmtStatus => [⟨0, 1, .w1c⟩ /- valid -/, ⟨1, 1, .w1c⟩ /- overrun -/, ⟨2, 2, .ro⟩ /- ctx -/, ⟨4, 2, .ro⟩ /- reason -/, ⟨6, 3, .ro⟩ /- width_code -/, ⟨16, 8, .ro⟩ /- core -/]
  | .ldrLathFmtVaLo => [⟨0, 32, .ro⟩ /- va_lo -/]
  | .ldrLathFmtVaHi => [⟨0, 16, .ro⟩ /- va_hi -/]
  | .ldrLathFmtCnt => [⟨0, 32, .cnt⟩ /- count -/]
  | .ldrLathClampCnt => [⟨0, 32, .cnt⟩ /- count -/]
  | .ldrLathAlignCnt => [⟨0, 32, .cnt⟩ /- count -/]
  | .ldrKerfSatCnt => [⟨0, 32, .cnt⟩ /- count -/]
  | .coreCtxPc => [⟨0, 13, .ro⟩ /- pc -/]
  | .coreCtxRegion => [⟨0, 13, .ro⟩ /- base -/, ⟨16, 14, .ro⟩ /- len -/]
  | .coreCtxCmd => [⟨0, 4, .sc⟩ /- stop -/, ⟨4, 4, .sc⟩ /- reset -/]
  | .coreCtxIllegal => [⟨0, 1, .w1c⟩ /- valid -/, ⟨1, 1, .w1c⟩ /- overrun -/, ⟨2, 2, .ro⟩ /- ctx -/, ⟨4, 13, .ro⟩ /- pc -/, ⟨17, 3, .ro⟩ /- reason -/]
  | .bayCsAddrLo => [⟨0, 32, .rw⟩ /- va_lo -/]
  | .bayCsAddrHi => [⟨0, 16, .rw⟩ /- va_hi -/]
  | .bayCsArg => [⟨0, 13, .rw⟩ /- base -/, ⟨16, 9, .rw⟩ /- count -/]
  | .bayCsCores => [⟨0, 8, .rw⟩ /- lo -/, ⟨8, 8, .rw⟩ /- hi -/]
  | .bayCsCmd => [⟨0, 3, .rw⟩ /- cmd -/, ⟨4, 4, .rw⟩ /- ctx -/, ⟨8, 1, .sc⟩ /- go -/]
  | .bayCsStatus => [⟨0, 2, .ro⟩ /- result -/, ⟨2, 1, .w1c⟩ /- done -/]
  | .bayCsRejectCnt => [⟨0, 32, .cnt⟩ /- count -/]
  | .bayCtxSel => [⟨0, 8, .rw⟩ /- core -/, ⟨8, 2, .rw⟩ /- ctx -/]
  | .bayCtxStopat => [⟨0, 32, .rw⟩ /- index -/]
  | .bayCtxIndex => [⟨0, 32, .ro⟩ /- index -/]
  | .bayCtxDropCnt => [⟨0, 32, .cnt⟩ /- count -/]
  | .bayCtxP => [⟨0, 32, .rw⟩ /- value -/]
  | .bayCtxPsegLo => [⟨0, 1, .rw⟩ /- valid -/, ⟨1, 2, .rw⟩ /- kind -/, ⟨3, 2, .rw⟩ /- die -/, ⟨5, 5, .rw⟩ /- bent -/, ⟨10, 14, .rw⟩ /- base -/, ⟨24, 8, .rw⟩ /- len -/]
  | .bayCtxPsegHi => [⟨0, 17, .rw⟩ /- fabric_addr -/, ⟨17, 3, .rw⟩ /- rpart -/, ⟨20, 3, .rw⟩ /- idle_cause -/, ⟨23, 1, .rw⟩ /- ext -/]
  | .pegDldCtl => [⟨0, 1, .rw⟩ /- enable -/]
  | .pegDldStatus => [⟨0, 1, .w1c⟩ /- valid -/, ⟨1, 1, .w1c⟩ /- overrun -/]
  | .pegDldTimeLo => [⟨0, 32, .ro⟩ /- time_lo -/]
  | .pegDldTimeHi => [⟨0, 32, .ro⟩ /- time_hi -/]
  | .pegDldWaiters => [⟨0, 21, .ro⟩ /- count -/]
  | .pegDldFirst => [⟨0, 19, .ro⟩ /- core -/, ⟨19, 2, .ro⟩ /- ctx -/, ⟨21, 10, .ro⟩ /- peg_id -/]
  | .pegDldThresh => [⟨0, 32, .ro⟩ /- thresh -/]
  | .pegDldValue => [⟨0, 32, .ro⟩ /- value -/]
  | .pegDldFireCnt => [⟨0, 32, .cnt⟩ /- count -/]
  | .spnPoolBaseLo => [⟨0, 32, .rw⟩ /- va_lo -/]
  | .spnPoolBaseHi => [⟨0, 16, .rw⟩ /- va_hi -/]
  | .spnPoolCfg => [⟨0, 4, .rw⟩ /- size -/, ⟨4, 3, .rw⟩ /- part -/, ⟨7, 1, .rw⟩ /- enable -/, ⟨16, 16, .rw⟩ /- count -/]
  | .spnPoolFree => [⟨0, 17, .ro⟩ /- free -/]
  | .spnPoolCmd => [⟨0, 1, .sc⟩ /- reclaim -/]
  | .spnPoolTag => [⟨0, 32, .rw⟩ /- tag -/]
  | .spnPoolDfreeCnt => [⟨0, 32, .cnt⟩ /- count -/]
  | .spnPoolRec => [⟨0, 1, .w1c⟩ /- valid -/, ⟨1, 2, .ro⟩ /- kind -/, ⟨3, 16, .ro⟩ /- buffer -/, ⟨19, 2, .ro⟩ /- ctx -/]
  | .pegErrStatus => [⟨0, 1, .w1c⟩ /- valid -/, ⟨1, 1, .w1c⟩ /- overrun -/, ⟨2, 2, .ro⟩ /- kind -/, ⟨4, 14, .ro⟩ /- index -/, ⟨18, 1, .ro⟩ /- cpeg -/, ⟨19, 12, .ro⟩ /- bcore -/]
  | .pegErrAmount => [⟨0, 32, .ro⟩ /- amount -/]
  | .pegErrCnt => [⟨0, 32, .cnt⟩ /- count -/]
  | .pegPollCnt => [⟨0, 32, .cnt⟩ /- count -/]
  | .ldrXferCnt => [⟨0, 32, .cnt⟩ /- count -/]
  | .ldrBytesLo => [⟨0, 32, .cnt⟩ /- count -/]
  | .ldrBytesHi => [⟨0, 32, .cnt⟩ /- count -/]
  | .ldrCeCnt => [⟨0, 32, .cnt⟩ /- count -/]
  | .ldrUeCnt => [⟨0, 32, .cnt⟩ /- count -/]
  | .bayRingCfg => [⟨0, 10, .ro⟩ /- base -/, ⟨10, 12, .ro⟩ /- lines -/, ⟨22, 3, .ro⟩ /- lfmt -/, ⟨31, 1, .ro⟩ /- open -/]
  | .bayRingProd => [⟨0, 32, .ro⟩ /- count -/]
  | .bayRingCons => [⟨0, 32, .ro⟩ /- count -/]
  | .dckWays => [⟨0, 16, .ro⟩ /- ways -/]
  | .dckKeep => [⟨0, 5, .rw⟩ /- keep_max -/]
  | .dckCmd => [⟨0, 1, .sc⟩ /- flush -/, ⟨1, 1, .sc⟩ /- unkeep -/, ⟨2, 1, .w1c⟩ /- done -/]
  | .dckHitCnt => [⟨0, 32, .cnt⟩ /- count -/]
  | .dckMissCnt => [⟨0, 32, .cnt⟩ /- count -/]
  | .dckWbCnt => [⟨0, 32, .cnt⟩ /- count -/]
  | .dckDiscardCnt => [⟨0, 32, .cnt⟩ /- count -/]
  | .dckKeepEvictCnt => [⟨0, 32, .cnt⟩ /- count -/]
  | .dckCeCnt => [⟨0, 32, .cnt⟩ /- count -/]
  | .dckPoisonCnt => [⟨0, 32, .cnt⟩ /- count -/]
  | .hbmChCfg => [⟨0, 3, .ro⟩ /- part -/, ⟨3, 1, .ro⟩ /- owned -/, ⟨4, 1, .ro⟩ /- prio -/, ⟨5, 1, .ro⟩ /- deep -/, ⟨6, 1, .ro⟩ /- retired -/]
  | .hbmArb => [⟨0, 16, .rw⟩ /- guard -/]
  | .hbmLatMax => [⟨0, 16, .rc⟩ /- max -/]
  | .hbmCeCnt => [⟨0, 32, .cnt⟩ /- count -/]
  | .hbmUeCnt => [⟨0, 32, .cnt⟩ /- count -/]
  | .hbmUeAddr => [⟨0, 31, .ro⟩ /- offset -/, ⟨31, 1, .w1c⟩ /- valid -/]
  | .hbmPromoteCnt => [⟨0, 32, .cnt⟩ /- count -/]
  | .spnTblStatus => [⟨0, 1, .w1c⟩ /- valid -/, ⟨1, 1, .w1c⟩ /- overrun -/, ⟨2, 2, .ro⟩ /- reason -/, ⟨4, 3, .ro⟩ /- part -/]
  | .spnTblOut => [⟨0, 32, .ro⟩ /- out -/]
  | .spnTblCore => [⟨0, 19, .ro⟩ /- core -/, ⟨19, 2, .ro⟩ /- ctx -/]
  | .spnTblBadCnt => [⟨0, 32, .cnt⟩ /- count -/]
  | .spnTblReqCnt => [⟨0, 32, .cnt⟩ /- count -/]
  | .secHbmKeygen => [⟨0, 16, .ro⟩ /- gen -/]
  | .trsBaseLo => [⟨0, 32, .rw⟩ /- va_lo -/]
  | .trsBaseHi => [⟨0, 16, .rw⟩ /- va_hi -/]
  | .trsCmd => [⟨0, 12, .rw⟩ /- id -/, ⟨12, 2, .rw⟩ /- op -/, ⟨14, 1, .sc⟩ /- go -/]
  | .trsStatus => [⟨0, 2, .ro⟩ /- result -/, ⟨2, 1, .w1c⟩ /- done -/, ⟨8, 3, .ro⟩ /- reason -/]
  | .trsSel => [⟨0, 12, .rw⟩ /- id -/]
  | .trsInfo => [⟨0, 1, .ro⟩ /- valid -/, ⟨1, 1, .ro⟩ /- active -/, ⟨2, 6, .ro⟩ /- own -/]
  | .trsStep => [⟨0, 32, .ro⟩ /- step -/]
  | .colErrStatus => [⟨0, 1, .w1c⟩ /- valid -/, ⟨1, 1, .w1c⟩ /- overrun -/, ⟨2, 3, .ro⟩ /- kind -/, ⟨5, 3, .ro⟩ /- part -/, ⟨8, 12, .ro⟩ /- entry -/]
  | .colErrBlock => [⟨0, 26, .ro⟩ /- block -/]
  | .colBlkCnt => [⟨0, 32, .cnt⟩ /- count -/]
  | .colSatCnt => [⟨0, 32, .cnt⟩ /- count -/]
  | .colFbCnt => [⟨0, 32, .cnt⟩ /- count -/]
  | .colNfCnt => [⟨0, 32, .cnt⟩ /- count -/]
  | .colResCnt => [⟨0, 32, .cnt⟩ /- count -/]
  | .colDigCnt => [⟨0, 32, .cnt⟩ /- count -/]
  | .colRetryCnt => [⟨0, 32, .cnt⟩ /- count -/]
  | .colHoldCnt => [⟨0, 32, .cnt⟩ /- count -/]
  | .jnrBaseLo => [⟨0, 32, .rw⟩ /- va_lo -/]
  | .jnrBaseHi => [⟨0, 16, .rw⟩ /- va_hi -/]
  | .jnrCmd => [⟨0, 10, .rw⟩ /- id -/, ⟨10, 2, .rw⟩ /- op -/, ⟨12, 1, .sc⟩ /- go -/]
  | .jnrStatus => [⟨0, 2, .ro⟩ /- result -/, ⟨2, 1, .w1c⟩ /- done -/, ⟨8, 3, .ro⟩ /- reason -/]
  | .jnrSel => [⟨0, 10, .rw⟩ /- id -/]
  | .jnrInfo => [⟨0, 1, .ro⟩ /- valid -/, ⟨1, 1, .ro⟩ /- active -/, ⟨2, 1, .ro⟩ /- gated -/, ⟨3, 1, .ro⟩ /- xfer -/]
  | .jnrSteps => [⟨0, 32, .ro⟩ /- n -/]
  | .jnrFlags => [⟨0, 1, .w1c⟩ /- overflow -/, ⟨1, 1, .w1c⟩ /- invalid -/, ⟨2, 1, .w1c⟩ /- underflow -/, ⟨3, 1, .w1c⟩ /- inexact -/]
  | .jnrXpAddrLo => [⟨0, 32, .rw⟩ /- va_lo -/]
  | .jnrXpAddrHi => [⟨0, 16, .rw⟩ /- va_hi -/]
  | .jnrXpCmd => [⟨0, 1, .sc⟩ /- go -/]
  | .jnrXpStatus => [⟨0, 2, .ro⟩ /- result -/, ⟨2, 1, .w1c⟩ /- done -/]
  | .jnrXpBytesLo => [⟨0, 32, .ro⟩ /- bytes_lo -/]
  | .jnrXpBytesHi => [⟨0, 32, .ro⟩ /- bytes_hi -/]
  | .jnrProgAddrLo => [⟨0, 32, .rw⟩ /- va_lo -/]
  | .jnrProgAddrHi => [⟨0, 16, .rw⟩ /- va_hi -/]
  | .jnrProgCmd => [⟨0, 6, .rw⟩ /- slot -/, ⟨6, 3, .rw⟩ /- part -/, ⟨9, 2, .rw⟩ /- op -/, ⟨11, 1, .sc⟩ /- go -/]
  | .jnrProgStatus => [⟨0, 2, .ro⟩ /- result -/, ⟨2, 1, .w1c⟩ /- done -/]
  | .jnrErrStatus => [⟨0, 1, .w1c⟩ /- valid -/, ⟨1, 1, .w1c⟩ /- overrun -/, ⟨2, 3, .ro⟩ /- kind -/, ⟨5, 3, .ro⟩ /- part -/, ⟨8, 10, .ro⟩ /- ctx -/]
  | .jnrErrWhere => [⟨0, 26, .ro⟩ /- block -/]
  | .jnrBlkCnt => [⟨0, 32, .cnt⟩ /- count -/]
  | .jnrSkipCnt => [⟨0, 32, .cnt⟩ /- count -/]
  | .jnrOvfCnt => [⟨0, 32, .cnt⟩ /- count -/]
  | .jnrSrdupCnt => [⟨0, 32, .cnt⟩ /- count -/]
  | .jnrSpoisonCnt => [⟨0, 32, .cnt⟩ /- count -/]
  | .jnrNfwCnt => [⟨0, 32, .cnt⟩ /- count -/]
  | .jnrBusyCnt => [⟨0, 32, .cnt⟩ /- count -/]
  | .jnrWaitCnt => [⟨0, 32, .cnt⟩ /- count -/]
  | .jnrQfullCnt => [⟨0, 32, .cnt⟩ /- count -/]
  | .jnrGateCnt => [⟨0, 32, .cnt⟩ /- count -/]
  | .lmdCtl => [⟨0, 1, .rw⟩ /- sleep_en -/, ⟨1, 1, .rw⟩ /- narrow_ok -/, ⟨2, 1, .sc⟩ /- retrain -/]
  | .lmdState => [⟨0, 3, .ro⟩ /- state -/, ⟨3, 1, .ro⟩ /- narrow -/, ⟨4, 1, .ro⟩ /- unaligned -/, ⟨5, 1, .ro⟩ /- owned -/, ⟨6, 3, .ro⟩ /- part -/]
  | .lmdLanes => [⟨0, 18, .ro⟩ /- active -/, ⟨18, 2, .ro⟩ /- spares -/]
  | .lmdIdleTo => [⟨0, 32, .rw⟩ /- idle_to -/]
  | .lmdSwapTh => [⟨0, 32, .rw⟩ /- swap_th -/]
  | .lmdTimeDiff => [⟨0, 32, .ro⟩ /- diff -/]
  | .lmdWakeTime => [⟨0, 32, .ro⟩ /- wake -/]
  | .lmdFecCeCnt => [⟨0, 32, .cnt⟩ /- count -/]
  | .lmdFecUeCnt => [⟨0, 32, .cnt⟩ /- count -/]
  | .lmdAuthFailCnt => [⟨0, 32, .cnt⟩ /- count -/]
  | .lmdSliceRejectCnt => [⟨0, 32, .cnt⟩ /- count -/]
  | .lmdTwRejectCnt => [⟨0, 32, .cnt⟩ /- count -/]
  | .lmdPegRejectCnt => [⟨0, 32, .cnt⟩ /- count -/]
  | .lmdMisrouteCnt => [⟨0, 32, .cnt⟩ /- count -/]
  | .lmdDupCnt => [⟨0, 32, .cnt⟩ /- count -/]
  | .lmdResendCnt => [⟨0, 32, .cnt⟩ /- count -/]
  | .lmdReorderDropCnt => [⟨0, 32, .cnt⟩ /- count -/]
  | .lmdLaneSwapCnt => [⟨0, 32, .cnt⟩ /- count -/]
  | .lmdSleepCnt => [⟨0, 32, .cnt⟩ /- count -/]
  | .lmdRetrainCnt => [⟨0, 32, .cnt⟩ /- count -/]
  | .lmdReplayFullCnt => [⟨0, 32, .cnt⟩ /- count -/]
  | .lmdSlice => [⟨0, 24, .ro⟩ /- slice -/, ⟨24, 8, .ro⟩ /- planes -/]
  | .lmdKey => [⟨0, 2, .ro⟩ /- kidx -/, ⟨8, 8, .ro⟩ /- gen -/]
  | .lmdTimers => [⟨0, 16, .rw⟩ /- coalesce -/, ⟨16, 16, .rw⟩ /- gap_to -/]
  | .lmdBreak => [⟨0, 1, .w1c⟩ /- valid -/, ⟨1, 1, .w1c⟩ /- overrun -/, ⟨2, 3, .ro⟩ /- spart -/, ⟨5, 3, .ro⟩ /- dpart -/, ⟨8, 17, .ro⟩ /- src -/, ⟨25, 1, .ro⟩ /- tray -/]
  | .lmdFlowBreakCnt => [⟨0, 32, .cnt⟩ /- count -/]
  | .d2dState => [⟨0, 2, .ro⟩ /- state -/, ⟨2, 2, .ro⟩ /- link -/, ⟨4, 6, .ro⟩ /- good -/, ⟨10, 6, .ro⟩ /- control -/, ⟨16, 6, .ro⟩ /- reserve -/]
  | .d2dBundle => [⟨0, 6, .rw⟩ /- sel -/, ⟨6, 3, .ro⟩ /- bstate -/, ⟨9, 3, .ro⟩ /- part -/, ⟨12, 3, .ro⟩ /- spares -/]
  | .d2dSwapTh => [⟨0, 32, .rw⟩ /- swap_th -/]
  | .d2dCeCnt => [⟨0, 32, .cnt⟩ /- count -/]
  | .d2dReplayCnt => [⟨0, 32, .cnt⟩ /- count -/]
  | .d2dLaneSwapCnt => [⟨0, 32, .cnt⟩ /- count -/]
  | .d2dBundleFailCnt => [⟨0, 32, .cnt⟩ /- count -/]
  | .d2dRerouteCnt => [⟨0, 32, .cnt⟩ /- count -/]
  | .prtCmd => [⟨0, 3, .rw⟩ /- part -/, ⟨3, 3, .rw⟩ /- op -/, ⟨6, 6, .rw⟩ /- vf -/, ⟨12, 1, .sc⟩ /- go -/]
  | .prtStatus => [⟨0, 2, .ro⟩ /- result -/, ⟨2, 1, .w1c⟩ /- done -/, ⟨8, 3, .ro⟩ /- reason -/]
  | .prtDescLo => [⟨0, 32, .rw⟩ /- pa_lo -/]
  | .prtDescHi => [⟨0, 12, .rw⟩ /- pa_hi -/]
  | .prtArg0 => [⟨0, 32, .rw⟩ /- arg0 -/]
  | .prtArg1 => [⟨0, 19, .rw⟩ /- arg1 -/]
  | .prtVfBind => [⟨0, 3, .ro⟩ /- part -/, ⟨3, 1, .ro⟩ /- bound -/, ⟨4, 6, .ro⟩ /- hshare -/]
  | .prtState => [⟨0, 1, .ro⟩ /- built -/, ⟨1, 1, .ro⟩ /- class -/, ⟨2, 1, .ro⟩ /- prio -/, ⟨3, 5, .ro⟩ /- nvf -/, ⟨8, 8, .ro⟩ /- epoch -/]
  | .prtCores => [⟨0, 19, .ro⟩ /- count -/]
  | .prtReserve => [⟨0, 13, .ro⟩ /- nres -/]
  | .prtShare => [⟨0, 32, .ro⟩ /- share -/]
  | .prtMigCnt => [⟨0, 32, .cnt⟩ /- count -/]
  | .prtStaleCnt => [⟨0, 32, .cnt⟩ /- count -/]
  | .prtVfId => [⟨0, 6, .ro⟩ /- vf -/, ⟨6, 3, .ro⟩ /- part -/, ⟨9, 1, .ro⟩ /- bound -/]
  | .prtVfCause => [⟨0, 18, .w1c⟩ /- cause -/]
  | .prtVfMask => [⟨0, 18, .rw⟩ /- mask -/]
  | .prtVfVmap => [⟨0, 6, .rw⟩ /- vec -/, ⟨8, 6, .rw⟩ /- vec -/, ⟨16, 6, .rw⟩ /- vec -/, ⟨24, 6, .rw⟩ /- vec -/]
  | .prtVfDropCnt => [⟨0, 32, .cnt⟩ /- count -/]
  | .prtMapVaLo => [⟨0, 32, .rw⟩ /- va_lo -/]
  | .prtMapVaHi => [⟨0, 16, .rw⟩ /- va_hi -/]
  | .prtMapPaLo => [⟨0, 32, .rw⟩ /- pa_lo -/]
  | .prtMapPaHi => [⟨0, 12, .rw⟩ /- pa_hi -/]
  | .prtMapCmd => [⟨0, 2, .rw⟩ /- op -/, ⟨2, 1, .rw⟩ /- w -/, ⟨3, 1, .rw⟩ /- lg -/, ⟨4, 9, .rw⟩ /- count -/, ⟨13, 1, .sc⟩ /- go -/]
  | .prtMapStatus => [⟨0, 2, .ro⟩ /- result -/, ⟨2, 1, .w1c⟩ /- done -/, ⟨3, 2, .ro⟩ /- reason -/]
  | .prtWdCtx => [⟨0, 32, .rw⟩ /- ctx_wd -/]
  | .prtWdEng => [⟨0, 32, .rw⟩ /- eng_wd -/]
  | .prtWdCol => [⟨0, 32, .rw⟩ /- col_to -/]
  | .prtFence => [⟨0, 27, .rw⟩ /- fence_dl -/]
  | .prtInspLo => [⟨0, 32, .rw⟩ /- va_lo -/]
  | .prtInspHi => [⟨0, 16, .rw⟩ /- va_hi -/]
  | .prtInspLen => [⟨0, 32, .rw⟩ /- len -/]
  | .prtRst => [⟨0, 1, .sc⟩ /- go -/]
  | .prtInspStatus => [⟨0, 1, .w1c⟩ /- valid -/, ⟨1, 1, .ro⟩ /- trunc -/, ⟨2, 3, .ro⟩ /- level -/, ⟨5, 8, .ro⟩ /- trigger -/, ⟨13, 19, .ro⟩ /- last -/]
  | .prtRstCnt => [⟨0, 32, .cnt⟩ /- count -/]
  | .prtEpochDropCnt => [⟨0, 32, .cnt⟩ /- count -/]
  | .prtWdCnt => [⟨0, 32, .cnt⟩ /- count -/]
  | .mgtRstCmd => [⟨0, 1, .sc⟩ /- pkg -/, ⟨1, 1, .sc⟩ /- cycle -/]
  | .mgtRstLast => [⟨0, 3, .ro⟩ /- level -/, ⟨3, 8, .ro⟩ /- trigger -/, ⟨11, 3, .ro⟩ /- part -/]
  | .mgtRstTimeLo => [⟨0, 32, .ro⟩ /- t_lo -/]
  | .mgtRstTimeHi => [⟨0, 32, .ro⟩ /- t_hi -/]
  | .mgtEngRstCnt => [⟨0, 32, .cnt⟩ /- count -/]
  | .mgtPkgRstCnt => [⟨0, 32, .cnt⟩ /- count -/]
  | .mgtBootCnt => [⟨0, 32, .ro⟩ /- count -/]
  | .mgtProbeAddrLo => [⟨0, 32, .rw⟩ /- pa_lo -/]
  | .mgtProbeAddrHi => [⟨0, 12, .rw⟩ /- pa_hi -/]
  | .mgtProbeCmd => [⟨0, 2, .rw⟩ /- op -/, ⟨2, 1, .sc⟩ /- go -/]
  | .mgtProbeStatus => [⟨0, 2, .ro⟩ /- result -/, ⟨2, 1, .w1c⟩ /- done -/, ⟨3, 3, .ro⟩ /- reason -/]
  | .mgtProbeId => [⟨0, 32, .ro⟩ /- pack_id -/]
  | .mgtProbePassCnt => [⟨0, 32, .cnt⟩ /- count -/]
  | .mgtProbeFailCnt => [⟨0, 32, .cnt⟩ /- count -/]
  | .mgtSuspectCnt => [⟨0, 32, .cnt⟩ /- count -/]
  | .mgtRetireCnt => [⟨0, 32, .cnt⟩ /- count -/]
  | .mgtSubstCnt => [⟨0, 32, .cnt⟩ /- count -/]
  | .mgtSuspectStatus => [⟨0, 1, .w1c⟩ /- valid -/, ⟨1, 1, .w1c⟩ /- overrun -/, ⟨2, 3, .ro⟩ /- unit -/]
  | .mgtSuspectUnit => [⟨0, 32, .ro⟩ /- id -/]
  | .mgtScrubCtl => [⟨0, 1, .rw⟩ /- scrub_en -/]
  | .mgtChkCnt => [⟨0, 32, .cnt⟩ /- count -/]
  | .mgtCoreFloor => [⟨0, 4, .ro⟩ /- below -/, ⟨4, 1, .ro⟩ /- pkg_below -/]
  | .prtProbeGrant => [⟨0, 7, .rw⟩ /- lo -/, ⟨7, 7, .rw⟩ /- hi -/, ⟨14, 1, .sc⟩ /- go -/]
  | .prtProbeBudget => [⟨0, 32, .rw⟩ /- budget -/]
  | .prtProbeSaveLo => [⟨0, 32, .rw⟩ /- va_lo -/]
  | .prtProbeSaveHi => [⟨0, 16, .rw⟩ /- va_hi -/]
  | .prtProbeStatus => [⟨0, 1, .w1c⟩ /- done -/, ⟨1, 1, .ro⟩ /- ended -/, ⟨2, 7, .ro⟩ /- probed -/, ⟨9, 7, .ro⟩ /- skipped -/, ⟨16, 16, .ro⟩ /- stale -/]
  | .prtProbeFailCnt => [⟨0, 32, .cnt⟩ /- count -/]
  | .hbmChMap => [⟨0, 5, .ro⟩ /- slot -/, ⟨5, 1, .ro⟩ /- subst -/, ⟨6, 1, .ro⟩ /- copy -/]
  | .bentClk => [⟨0, 5, .ro⟩ /- point -/, ⟨6, 10, .ro⟩ /- mv -/, ⟨16, 2, .ro⟩ /- clamp -/, ⟨18, 1, .ro⟩ /- stopped -/, ⟨19, 2, .ro⟩ /- stop_why -/, ⟨21, 1, .ro⟩ /- fixed -/]
  | .bentShim => [⟨0, 6, .ro⟩ /- x_pwr -/, ⟨8, 6, .ro⟩ /- x_thm -/]
  | .bentTemp => [⟨0, 12, .ro⟩ /- temp -/]
  | .bentStopCnt => [⟨0, 32, .cnt⟩ /- count -/]
  | .pwrDieTemp => [⟨0, 12, .ro⟩ /- tmax -/, ⟨12, 1, .ro⟩ /- trip -/]
  | .pwrHbmTemp => [⟨0, 8, .ro⟩ /- temp -/, ⟨8, 2, .ro⟩ /- state -/]
  | .pwrTripCnt => [⟨0, 32, .cnt⟩ /- count -/]
  | .pwrClampCnt => [⟨0, 32, .cnt⟩ /- count -/]
  | .plbTimeLo => [⟨0, 32, .ro⟩ /- t_lo -/]
  | .plbTimeHi => [⟨0, 32, .ro⟩ /- t_hi -/]
  | .plbLoadLo => [⟨0, 32, .rw⟩ /- l_lo -/]
  | .plbLoadHi => [⟨0, 32, .rw⟩ /- l_hi -/]
  | .plbCmd => [⟨0, 1, .sc⟩ /- load -/]
  | .plbStatus => [⟨0, 1, .ro⟩ /- locked -/, ⟨1, 1, .ro⟩ /- holdover -/]
  | .plbOffset => [⟨0, 32, .ro⟩ /- o -/]
  | .plbRate => [⟨0, 32, .ro⟩ /- rate -/]
  | .plbPpsCnt => [⟨0, 32, .cnt⟩ /- count -/]
  | .plbPpsRejCnt => [⟨0, 32, .cnt⟩ /- count -/]
  | .plbErrCnt => [⟨0, 32, .cnt⟩ /- count -/]
  | .plbSnapTLo => [⟨0, 32, .rw⟩ /- t_lo -/]
  | .plbSnapTHi => [⟨0, 32, .rw⟩ /- t_hi -/]
  | .plbSnapCmd => [⟨0, 1, .sc⟩ /- go -/]
  | .plbSnapStatus => [⟨0, 1, .ro⟩ /- pending -/, ⟨1, 1, .w1c⟩ /- done -/, ⟨2, 1, .w1c⟩ /- late -/]
  | .pwrCap => [⟨0, 16, .rw⟩ /- cap -/]
  | .pwrIn => [⟨0, 16, .ro⟩ /- p -/]
  | .pwrFloor => [⟨0, 16, .ro⟩ /- f -/]
  | .pwrStatus => [⟨0, 1, .ro⟩ /- infeasible -/, ⟨8, 8, .ro⟩ /- parked -/, ⟨16, 6, .ro⟩ /- x_pwr -/]
  | .pwrTlim => [⟨0, 7, .rw⟩ /- tlim -/]
  | .pwrRide => [⟨0, 32, .rw⟩ /- ride -/]
  | .pwrPfStatus => [⟨0, 3, .ro⟩ /- phase -/, ⟨3, 1, .ro⟩ /- no_resume -/, ⟨4, 1, .w1c⟩ /- resumed -/]
  | .pwrPfLast => [⟨0, 2, .ro⟩ /- outcome -/]
  | .pwrPfCnt => [⟨0, 32, .cnt⟩ /- count -/]
  | .pwrResumeCnt => [⟨0, 32, .cnt⟩ /- count -/]
  | .pwrPeakCnt => [⟨0, 32, .cnt⟩ /- count -/]
  | .pwrInfeasCnt => [⟨0, 32, .cnt⟩ /- count -/]
  | .pwrPart => [⟨0, 1, .rw⟩ /- fixed -/, ⟨1, 5, .rw⟩ /- fpoint -/, ⟨6, 5, .rw⟩ /- fmax -/]
  | .secBoot => [⟨0, 1, .ro⟩ /- bank -/, ⟨1, 1, .ro⟩ /- trial -/, ⟨2, 1, .ro⟩ /- fallback -/, ⟨3, 1, .ro⟩ /- pending -/, ⟨4, 2, .ro⟩ /- kslot -/, ⟨6, 6, .ro⟩ /- svn_img -/, ⟨12, 6, .ro⟩ /- svn_min -/, ⟨18, 4, .ro⟩ /- revoked -/]
  | .secSerialLo => [⟨0, 32, .ro⟩ /- s_lo -/]
  | .secSerialHi => [⟨0, 32, .ro⟩ /- s_hi -/]
  | .secUpdAddrLo => [⟨0, 32, .rw⟩ /- pa_lo -/]
  | .secUpdAddrHi => [⟨0, 12, .rw⟩ /- pa_hi -/]
  | .secUpdCmd => [⟨0, 3, .rw⟩ /- op -/, ⟨3, 1, .sc⟩ /- go -/]
  | .secUpdStatus => [⟨0, 2, .ro⟩ /- result -/, ⟨2, 1, .w1c⟩ /- done -/, ⟨3, 3, .ro⟩ /- reason -/]
  | .secKeyAddrLo => [⟨0, 32, .rw⟩ /- pa_lo -/]
  | .secKeyAddrHi => [⟨0, 12, .rw⟩ /- pa_hi -/]
  | .secKeyCmd => [⟨0, 1, .sc⟩ /- go -/]
  | .secKeyStatus => [⟨0, 2, .ro⟩ /- result -/, ⟨2, 1, .w1c⟩ /- done -/, ⟨3, 3, .ro⟩ /- reason -/]
  | .secKeyState => [⟨0, 1, .ro⟩ /- tray -/, ⟨8, 8, .ro⟩ /- traffic -/]
  | .mgtMaintCtl => [⟨0, 1, .rw⟩ /- hold -/]
  | .mgtMaintStatus => [⟨0, 5, .ro⟩ /- running -/, ⟨16, 9, .ro⟩ /- queued -/]
  | .mgtMaintLast => [⟨0, 4, .ro⟩ /- act -/, ⟨4, 28, .ro⟩ /- unit -/]
  | .mgtMaintQueueCnt => [⟨0, 32, .cnt⟩ /- count -/]
  | .mgtMaintDoneCnt => [⟨0, 32, .cnt⟩ /- count -/]
  | .mgtHostLink => [⟨0, 1, .ro⟩ /- up -/, ⟨1, 2, .ro⟩ /- speed -/, ⟨3, 5, .ro⟩ /- width -/]
  | .mgtHostAper => [⟨0, 8, .rw⟩ /- base -/]
  | .mgtHostCause => [⟨0, 18, .w1c⟩ /- cause -/]
  | .mgtHostMask => [⟨0, 18, .rw⟩ /- mask -/]
  | .mgtHostCeCnt => [⟨0, 32, .cnt⟩ /- count -/]
  | .mgtHostUeCnt => [⟨0, 32, .cnt⟩ /- count -/]
  | .mgtHostAbortCnt => [⟨0, 32, .cnt⟩ /- count -/]
  | .mgtHostRetrainCnt => [⟨0, 32, .cnt⟩ /- count -/]
  | .mgtI3cStatus => [⟨0, 7, .ro⟩ /- mctp_da -/, ⟨8, 7, .ro⟩ /- reg_da -/, ⟨16, 8, .ro⟩ /- eid -/]
  | .mgtI3cDenyCnt => [⟨0, 32, .cnt⟩ /- count -/]
  | .prtHqBaseLo => [⟨0, 32, .rw⟩ /- ha_lo -/]
  | .prtHqBaseHi => [⟨0, 32, .rw⟩ /- ha_hi -/]
  | .prtHqCfg => [⟨0, 5, .rw⟩ /- size -/, ⟨5, 6, .rw⟩ /- vec -/, ⟨11, 1, .rw⟩ /- enable -/]
  | .prtHqTail => [⟨0, 16, .rw⟩ /- tail -/]
  | .prtHqHead => [⟨0, 16, .ro⟩ /- head -/]
  | .prtHqDoneCnt => [⟨0, 32, .cnt⟩ /- count -/]
  | .prtHqErrCnt => [⟨0, 32, .cnt⟩ /- count -/]
  | .dieCntLost => [⟨0, 1, .w1c⟩ /- valid -/, ⟨1, 1, .w1c⟩ /- overrun -/, ⟨2, 26, .ro⟩ /- offset -/]
  | .dieCntLostAmt => [⟨0, 32, .ro⟩ /- amount -/]
  | .dieCntLostTot => [⟨0, 32, .ro⟩ /- total -/]
  | .mgtEvlogHead => [⟨0, 32, .ro⟩ /- head -/]
  | .mgtEvlogSel => [⟨0, 32, .rw⟩ /- n -/]
  | .mgtEvlogMask => [⟨1, 5, .rw⟩ /- classes -/]
  | .mgtCntLost => [⟨0, 1, .w1c⟩ /- valid -/, ⟨1, 1, .w1c⟩ /- overrun -/, ⟨2, 14, .ro⟩ /- offset -/]
  | .mgtCntLostAmt => [⟨0, 32, .ro⟩ /- amount -/]
  | .mgtEvlogData => [⟨0, 32, .ro⟩ /- data -/]
  | .plbSnapPer => [⟨0, 32, .rw⟩ /- per -/]
  | .plbSnapSeq => [⟨0, 32, .ro⟩ /- seq -/]
  | .prtTelBaseLo => [⟨0, 32, .rw⟩ /- va_lo -/]
  | .prtTelBaseHi => [⟨0, 16, .rw⟩ /- va_hi -/]
  | .prtTelCtl => [⟨0, 1, .rw⟩ /- en -/, ⟨1, 8, .rw⟩ /- size -/]
  | .prtTelStatus => [⟨0, 1, .w1c⟩ /- done -/, ⟨1, 1, .w1c⟩ /- short -/, ⟨2, 1, .w1c⟩ /- skipped -/, ⟨9, 23, .ro⟩ /- last -/]
  | .prtLogBaseLo => [⟨0, 32, .rw⟩ /- va_lo -/]
  | .prtLogBaseHi => [⟨0, 16, .rw⟩ /- va_hi -/]
  | .prtLogCtl => [⟨0, 1, .rw⟩ /- en -/, ⟨1, 5, .rw⟩ /- classes -/, ⟨6, 5, .rw⟩ /- size -/]
  | .prtLogHead => [⟨0, 20, .ro⟩ /- head -/]
  | .prtLogTail => [⟨0, 20, .rw⟩ /- tail -/]
  | .prtLogLostCnt => [⟨0, 32, .cnt⟩ /- count -/]
  | .tstDbgAddrLo => [⟨0, 32, .rw⟩ /- pa_lo -/]
  | .tstDbgAddrHi => [⟨0, 12, .rw⟩ /- pa_hi -/]
  | .tstDbgCmd => [⟨0, 1, .sc⟩ /- go -/]
  | .tstDbgStatus => [⟨0, 2, .ro⟩ /- result -/, ⟨2, 1, .w1c⟩ /- done -/, ⟨3, 3, .ro⟩ /- reason -/]
  | .tstDbgState => [⟨0, 1, .ro⟩ /- pkg -/, ⟨8, 8, .ro⟩ /- parts -/]
  | .tstNonceLo => [⟨0, 32, .ro⟩ /- n_lo -/]
  | .tstNonceHi => [⟨0, 32, .ro⟩ /- n_hi -/]
  | .tstRecSel => [⟨0, 16, .rw⟩ /- n -/]
  | .tstRecData => [⟨0, 32, .ro⟩ /- data -/]
  | .tstHbmCmd => [⟨0, 3, .rw⟩ /- op -/, ⟨3, 5, .rw⟩ /- stack -/, ⟨8, 5, .rw⟩ /- chan -/, ⟨13, 1, .sc⟩ /- go -/]
  | .tstHbmArg => [⟨0, 32, .rw⟩ /- row -/]
  | .tstHbmArg2 => [⟨0, 1, .rw⟩ /- pc -/, ⟨4, 4, .rw⟩ /- sid -/, ⟨8, 8, .rw⟩ /- bank -/]
  | .tstHbmDataLo => [⟨0, 32, .ro⟩ /- d_lo -/]
  | .tstHbmDataHi => [⟨0, 32, .ro⟩ /- d_hi -/]
  | .tstHbmStatus => [⟨0, 2, .ro⟩ /- result -/, ⟨2, 1, .w1c⟩ /- done -/]
  | .tstPertBridge => [⟨0, 8, .rw⟩ /- delay -/, ⟨8, 8, .rw⟩ /- every -/]
  | .tstPertCredit => [⟨0, 6, .rw⟩ /- credits -/]
  | .tstPertBp => [⟨0, 6, .rw⟩ /- x -/, ⟨6, 1, .rw⟩ /- ldr -/, ⟨7, 1, .rw⟩ /- eng -/, ⟨8, 1, .rw⟩ /- port -/]
  | .tstPertSkew => [⟨0, 5, .rw⟩ /- skew -/]
  | .tstPertWake => [⟨0, 32, .rw⟩ /- woff -/]
  | .tstPertCnt => [⟨0, 32, .cnt⟩ /- count -/]
  | .pegBentVal => [⟨0, 32, .rw⟩ /- value -/]
  | .pegSpnVal => [⟨0, 32, .rw⟩ /- value -/]
  | .bayCtxPeg => [⟨0, 32, .rw⟩ /- value -/]
  | .coreIdleLocalLo => [⟨0, 32, .cnt⟩ /- count -/]
  | .coreIdleLocalHi => [⟨0, 32, .cnt⟩ /- count -/]
  | .coreIdleCollLo => [⟨0, 32, .cnt⟩ /- count -/]
  | .coreIdleCollHi => [⟨0, 32, .cnt⟩ /- count -/]
  | .coreIdleMemLo => [⟨0, 32, .cnt⟩ /- count -/]
  | .coreIdleMemHi => [⟨0, 32, .cnt⟩ /- count -/]
  | .coreIdleHostLo => [⟨0, 32, .cnt⟩ /- count -/]
  | .coreIdleHostHi => [⟨0, 32, .cnt⟩ /- count -/]
  | .coreIdleJnrLo => [⟨0, 32, .cnt⟩ /- count -/]
  | .coreIdleJnrHi => [⟨0, 32, .cnt⟩ /- count -/]
  | .coreIdleShimLo => [⟨0, 32, .cnt⟩ /- count -/]
  | .coreIdleShimHi => [⟨0, 32, .cnt⟩ /- count -/]
  | .coreIdleThermLo => [⟨0, 32, .cnt⟩ /- count -/]
  | .coreIdleThermHi => [⟨0, 32, .cnt⟩ /- count -/]
  | .coreIdleMaintLo => [⟨0, 32, .cnt⟩ /- count -/]
  | .coreIdleMaintHi => [⟨0, 32, .cnt⟩ /- count -/]
  | .secPartRoot => [⟨0, 32, .rw⟩ /- root -/]
  | .bentSnapTLo => [⟨0, 32, .ro⟩ /- t_lo -/]
  | .bentSnapTHi => [⟨0, 32, .ro⟩ /- t_hi -/]
  | .spnSnapTLo => [⟨0, 32, .ro⟩ /- t_lo -/]
  | .spnSnapTHi => [⟨0, 32, .ro⟩ /- t_hi -/]

/-- The value of the Reset column; 0 where the column names a strap, a fuse or a random draw (those are written by the boot). -/
def Reg.resetVal : Reg → Word
  | .pkgId => 0x04242000#32
  | .bayCsCores => 0x0000C700#32
  | .bayCtxStopat => 0xFFFFFFFF#32
  | .pegDldCtl => 0x00000001#32
  | .spnPoolTag => 0xFFFFFFFF#32
  | .dckKeep => 0x00000001#32
  | .hbmArb => 0x00001000#32
  | .lmdCtl => 0x00000002#32
  | .lmdIdleTo => 0x00100000#32
  | .lmdSwapTh => 0x04000000#32
  | .lmdTimers => 0x20000040#32
  | .d2dSwapTh => 0x01000000#32
  | .prtWdCtx => 0x04000000#32
  | .prtWdEng => 0x01000000#32
  | .prtWdCol => 0x40000000#32
  | .prtFence => 0x00100000#32
  | .mgtScrubCtl => 0x00000001#32
  | .prtProbeBudget => 0x10000000#32
  | .plbRate => 0xABCC7712#32
  | .pwrCap => 0x00003A98#32
  | .pwrTlim => 0x00000064#32
  | .pwrRide => 0x20000000#32
  | .pwrPart => 0x000005A0#32
  | .prtHqCfg => 0x00000004#32
  | .mgtEvlogMask => 0x0000003E#32
  | .prtLogCtl => 0x0000023E#32
  | .pkgTopo => 0#32
  | .pkgFabricAddr => 0#32
  | .pkgCoreCount => 0#32
  | .pkgCoreNarrow => 0#32
  | .coreState => 0#32
  | .coreCtxStatus => 0#32
  | .coreSqStatus => 0#32
  | .coreSqWhere => 0#32
  | .coreSqMismatchCnt => 0#32
  | .coreSqSkipCnt => 0#32
  | .coreArrayBusyLo => 0#32
  | .coreArrayBusyHi => 0#32
  | .coreCtxMode => 0#32
  | .coreCtxFlags => 0#32
  | .coreNanStatus => 0#32
  | .coreNanOffset => 0#32
  | .coreNanIndex => 0#32
  | .coreNanTile => 0#32
  | .coreNanElem => 0#32
  | .ldrLathFmtStatus => 0#32
  | .ldrLathFmtVaLo => 0#32
  | .ldrLathFmtVaHi => 0#32
  | .ldrLathFmtCnt => 0#32
  | .ldrLathClampCnt => 0#32
  | .ldrLathAlignCnt => 0#32
  | .ldrKerfSatCnt => 0#32
  | .coreCtxPc => 0#32
  | .coreCtxRegion => 0#32
  | .coreCtxCmd => 0#32
  | .coreCtxIllegal => 0#32
  | .bayCsAddrLo => 0#32
  | .bayCsAddrHi => 0#32
  | .bayCsArg => 0#32
  | .bayCsCmd => 0#32
  | .bayCsStatus => 0#32
  | .bayCsRejectCnt => 0#32
  | .bayCtxSel => 0#32
  | .bayCtxIndex => 0#32
  | .bayCtxDropCnt => 0#32
  | .bayCtxP => 0#32
  | .bayCtxPsegLo => 0#32
  | .bayCtxPsegHi => 0#32
  | .pegDldStatus => 0#32
  | .pegDldTimeLo => 0#32
  | .pegDldTimeHi => 0#32
  | .pegDldWaiters => 0#32
  | .pegDldFirst => 0#32
  | .pegDldThresh => 0#32
  | .pegDldValue => 0#32
  | .pegDldFireCnt => 0#32
  | .spnPoolBaseLo => 0#32
  | .spnPoolBaseHi => 0#32
  | .spnPoolCfg => 0#32
  | .spnPoolFree => 0#32
  | .spnPoolCmd => 0#32
  | .spnPoolDfreeCnt => 0#32
  | .spnPoolRec => 0#32
  | .pegErrStatus => 0#32
  | .pegErrAmount => 0#32
  | .pegErrCnt => 0#32
  | .pegPollCnt => 0#32
  | .ldrXferCnt => 0#32
  | .ldrBytesLo => 0#32
  | .ldrBytesHi => 0#32
  | .ldrCeCnt => 0#32
  | .ldrUeCnt => 0#32
  | .bayRingCfg => 0#32
  | .bayRingProd => 0#32
  | .bayRingCons => 0#32
  | .dckWays => 0#32
  | .dckCmd => 0#32
  | .dckHitCnt => 0#32
  | .dckMissCnt => 0#32
  | .dckWbCnt => 0#32
  | .dckDiscardCnt => 0#32
  | .dckKeepEvictCnt => 0#32
  | .dckCeCnt => 0#32
  | .dckPoisonCnt => 0#32
  | .hbmChCfg => 0#32
  | .hbmLatMax => 0#32
  | .hbmCeCnt => 0#32
  | .hbmUeCnt => 0#32
  | .hbmUeAddr => 0#32
  | .hbmPromoteCnt => 0#32
  | .spnTblStatus => 0#32
  | .spnTblOut => 0#32
  | .spnTblCore => 0#32
  | .spnTblBadCnt => 0#32
  | .spnTblReqCnt => 0#32
  | .secHbmKeygen => 0#32
  | .trsBaseLo => 0#32
  | .trsBaseHi => 0#32
  | .trsCmd => 0#32
  | .trsStatus => 0#32
  | .trsSel => 0#32
  | .trsInfo => 0#32
  | .trsStep => 0#32
  | .colErrStatus => 0#32
  | .colErrBlock => 0#32
  | .colBlkCnt => 0#32
  | .colSatCnt => 0#32
  | .colFbCnt => 0#32
  | .colNfCnt => 0#32
  | .colResCnt => 0#32
  | .colDigCnt => 0#32
  | .colRetryCnt => 0#32
  | .colHoldCnt => 0#32
  | .jnrBaseLo => 0#32
  | .jnrBaseHi => 0#32
  | .jnrCmd => 0#32
  | .jnrStatus => 0#32
  | .jnrSel => 0#32
  | .jnrInfo => 0#32
  | .jnrSteps => 0#32
  | .jnrFlags => 0#32
  | .jnrXpAddrLo => 0#32
  | .jnrXpAddrHi => 0#32
  | .jnrXpCmd => 0#32
  | .jnrXpStatus => 0#32
  | .jnrXpBytesLo => 0#32
  | .jnrXpBytesHi => 0#32
  | .jnrProgAddrLo => 0#32
  | .jnrProgAddrHi => 0#32
  | .jnrProgCmd => 0#32
  | .jnrProgStatus => 0#32
  | .jnrErrStatus => 0#32
  | .jnrErrWhere => 0#32
  | .jnrBlkCnt => 0#32
  | .jnrSkipCnt => 0#32
  | .jnrOvfCnt => 0#32
  | .jnrSrdupCnt => 0#32
  | .jnrSpoisonCnt => 0#32
  | .jnrNfwCnt => 0#32
  | .jnrBusyCnt => 0#32
  | .jnrWaitCnt => 0#32
  | .jnrQfullCnt => 0#32
  | .jnrGateCnt => 0#32
  | .lmdState => 0#32
  | .lmdLanes => 0#32
  | .lmdTimeDiff => 0#32
  | .lmdWakeTime => 0#32
  | .lmdFecCeCnt => 0#32
  | .lmdFecUeCnt => 0#32
  | .lmdAuthFailCnt => 0#32
  | .lmdSliceRejectCnt => 0#32
  | .lmdTwRejectCnt => 0#32
  | .lmdPegRejectCnt => 0#32
  | .lmdMisrouteCnt => 0#32
  | .lmdDupCnt => 0#32
  | .lmdResendCnt => 0#32
  | .lmdReorderDropCnt => 0#32
  | .lmdLaneSwapCnt => 0#32
  | .lmdSleepCnt => 0#32
  | .lmdRetrainCnt => 0#32
  | .lmdReplayFullCnt => 0#32
  | .lmdSlice => 0#32
  | .lmdKey => 0#32
  | .lmdBreak => 0#32
  | .lmdFlowBreakCnt => 0#32
  | .d2dState => 0#32
  | .d2dBundle => 0#32
  | .d2dCeCnt => 0#32
  | .d2dReplayCnt => 0#32
  | .d2dLaneSwapCnt => 0#32
  | .d2dBundleFailCnt => 0#32
  | .d2dRerouteCnt => 0#32
  | .prtCmd => 0#32
  | .prtStatus => 0#32
  | .prtDescLo => 0#32
  | .prtDescHi => 0#32
  | .prtArg0 => 0#32
  | .prtArg1 => 0#32
  | .prtVfBind => 0#32
  | .prtState => 0#32
  | .prtCores => 0#32
  | .prtReserve => 0#32
  | .prtShare => 0#32
  | .prtMigCnt => 0#32
  | .prtStaleCnt => 0#32
  | .prtVfId => 0#32
  | .prtVfCause => 0#32
  | .prtVfMask => 0#32
  | .prtVfVmap => 0#32
  | .prtVfDropCnt => 0#32
  | .prtMapVaLo => 0#32
  | .prtMapVaHi => 0#32
  | .prtMapPaLo => 0#32
  | .prtMapPaHi => 0#32
  | .prtMapCmd => 0#32
  | .prtMapStatus => 0#32
  | .prtInspLo => 0#32
  | .prtInspHi => 0#32
  | .prtInspLen => 0#32
  | .prtRst => 0#32
  | .prtInspStatus => 0#32
  | .prtRstCnt => 0#32
  | .prtEpochDropCnt => 0#32
  | .prtWdCnt => 0#32
  | .mgtRstCmd => 0#32
  | .mgtRstLast => 0#32
  | .mgtRstTimeLo => 0#32
  | .mgtRstTimeHi => 0#32
  | .mgtEngRstCnt => 0#32
  | .mgtPkgRstCnt => 0#32
  | .mgtBootCnt => 0#32
  | .mgtProbeAddrLo => 0#32
  | .mgtProbeAddrHi => 0#32
  | .mgtProbeCmd => 0#32
  | .mgtProbeStatus => 0#32
  | .mgtProbeId => 0#32
  | .mgtProbePassCnt => 0#32
  | .mgtProbeFailCnt => 0#32
  | .mgtSuspectCnt => 0#32
  | .mgtRetireCnt => 0#32
  | .mgtSubstCnt => 0#32
  | .mgtSuspectStatus => 0#32
  | .mgtSuspectUnit => 0#32
  | .mgtChkCnt => 0#32
  | .mgtCoreFloor => 0#32
  | .prtProbeGrant => 0#32
  | .prtProbeSaveLo => 0#32
  | .prtProbeSaveHi => 0#32
  | .prtProbeStatus => 0#32
  | .prtProbeFailCnt => 0#32
  | .hbmChMap => 0#32
  | .bentClk => 0#32
  | .bentShim => 0#32
  | .bentTemp => 0#32
  | .bentStopCnt => 0#32
  | .pwrDieTemp => 0#32
  | .pwrHbmTemp => 0#32
  | .pwrTripCnt => 0#32
  | .pwrClampCnt => 0#32
  | .plbTimeLo => 0#32
  | .plbTimeHi => 0#32
  | .plbLoadLo => 0#32
  | .plbLoadHi => 0#32
  | .plbCmd => 0#32
  | .plbStatus => 0#32
  | .plbOffset => 0#32
  | .plbPpsCnt => 0#32
  | .plbPpsRejCnt => 0#32
  | .plbErrCnt => 0#32
  | .plbSnapTLo => 0#32
  | .plbSnapTHi => 0#32
  | .plbSnapCmd => 0#32
  | .plbSnapStatus => 0#32
  | .pwrIn => 0#32
  | .pwrFloor => 0#32
  | .pwrStatus => 0#32
  | .pwrPfStatus => 0#32
  | .pwrPfLast => 0#32
  | .pwrPfCnt => 0#32
  | .pwrResumeCnt => 0#32
  | .pwrPeakCnt => 0#32
  | .pwrInfeasCnt => 0#32
  | .secBoot => 0#32
  | .secSerialLo => 0#32
  | .secSerialHi => 0#32
  | .secUpdAddrLo => 0#32
  | .secUpdAddrHi => 0#32
  | .secUpdCmd => 0#32
  | .secUpdStatus => 0#32
  | .secKeyAddrLo => 0#32
  | .secKeyAddrHi => 0#32
  | .secKeyCmd => 0#32
  | .secKeyStatus => 0#32
  | .secKeyState => 0#32
  | .mgtMaintCtl => 0#32
  | .mgtMaintStatus => 0#32
  | .mgtMaintLast => 0#32
  | .mgtMaintQueueCnt => 0#32
  | .mgtMaintDoneCnt => 0#32
  | .mgtHostLink => 0#32
  | .mgtHostAper => 0#32
  | .mgtHostCause => 0#32
  | .mgtHostMask => 0#32
  | .mgtHostCeCnt => 0#32
  | .mgtHostUeCnt => 0#32
  | .mgtHostAbortCnt => 0#32
  | .mgtHostRetrainCnt => 0#32
  | .mgtI3cStatus => 0#32
  | .mgtI3cDenyCnt => 0#32
  | .prtHqBaseLo => 0#32
  | .prtHqBaseHi => 0#32
  | .prtHqTail => 0#32
  | .prtHqHead => 0#32
  | .prtHqDoneCnt => 0#32
  | .prtHqErrCnt => 0#32
  | .dieCntLost => 0#32
  | .dieCntLostAmt => 0#32
  | .dieCntLostTot => 0#32
  | .mgtEvlogHead => 0#32
  | .mgtEvlogSel => 0#32
  | .mgtCntLost => 0#32
  | .mgtCntLostAmt => 0#32
  | .mgtEvlogData => 0#32
  | .plbSnapPer => 0#32
  | .plbSnapSeq => 0#32
  | .prtTelBaseLo => 0#32
  | .prtTelBaseHi => 0#32
  | .prtTelCtl => 0#32
  | .prtTelStatus => 0#32
  | .prtLogBaseLo => 0#32
  | .prtLogBaseHi => 0#32
  | .prtLogHead => 0#32
  | .prtLogTail => 0#32
  | .prtLogLostCnt => 0#32
  | .tstDbgAddrLo => 0#32
  | .tstDbgAddrHi => 0#32
  | .tstDbgCmd => 0#32
  | .tstDbgStatus => 0#32
  | .tstDbgState => 0#32
  | .tstNonceLo => 0#32
  | .tstNonceHi => 0#32
  | .tstRecSel => 0#32
  | .tstRecData => 0#32
  | .tstHbmCmd => 0#32
  | .tstHbmArg => 0#32
  | .tstHbmArg2 => 0#32
  | .tstHbmDataLo => 0#32
  | .tstHbmDataHi => 0#32
  | .tstHbmStatus => 0#32
  | .tstPertBridge => 0#32
  | .tstPertCredit => 0#32
  | .tstPertBp => 0#32
  | .tstPertSkew => 0#32
  | .tstPertWake => 0#32
  | .tstPertCnt => 0#32
  | .pegBentVal => 0#32
  | .pegSpnVal => 0#32
  | .bayCtxPeg => 0#32
  | .coreIdleLocalLo => 0#32
  | .coreIdleLocalHi => 0#32
  | .coreIdleCollLo => 0#32
  | .coreIdleCollHi => 0#32
  | .coreIdleMemLo => 0#32
  | .coreIdleMemHi => 0#32
  | .coreIdleHostLo => 0#32
  | .coreIdleHostHi => 0#32
  | .coreIdleJnrLo => 0#32
  | .coreIdleJnrHi => 0#32
  | .coreIdleShimLo => 0#32
  | .coreIdleShimHi => 0#32
  | .coreIdleThermLo => 0#32
  | .coreIdleThermHi => 0#32
  | .coreIdleMaintLo => 0#32
  | .coreIdleMaintHi => 0#32
  | .secPartRoot => 0#32
  | .bentSnapTLo => 0#32
  | .bentSnapTHi => 0#32
  | .spnSnapTLo => 0#32
  | .spnSnapTHi => 0#32

/-- The registers of one block. -/
def RegBlk.regs : RegBlk → List Reg
  | .pkg => [.pkgId, .pkgTopo, .pkgFabricAddr, .pkgCoreCount, .pkgCoreNarrow]
  | .core => [.coreState, .coreCtxStatus, .coreSqStatus, .coreSqWhere, .coreSqMismatchCnt, .coreSqSkipCnt, .coreArrayBusyLo, .coreArrayBusyHi, .coreCtxMode, .coreCtxFlags, .coreNanStatus, .coreNanOffset, .coreNanIndex, .coreNanTile, .coreNanElem, .coreCtxPc, .coreCtxRegion, .coreCtxCmd, .coreCtxIllegal]
  | .bay => [.ldrLathFmtStatus, .ldrLathFmtVaLo, .ldrLathFmtVaHi, .ldrLathFmtCnt, .ldrLathClampCnt, .ldrLathAlignCnt, .ldrKerfSatCnt, .bayCsAddrLo, .bayCsAddrHi, .bayCsArg, .bayCsCores, .bayCsCmd, .bayCsStatus, .bayCsRejectCnt, .bayCtxSel, .bayCtxStopat, .bayCtxIndex, .bayCtxDropCnt, .bayCtxP, .bayCtxPsegLo, .bayCtxPsegHi, .ldrXferCnt, .ldrBytesLo, .ldrBytesHi, .ldrCeCnt, .ldrUeCnt, .bayRingCfg, .bayRingProd, .bayRingCons, .bayCtxPeg]
  | .dld => [.pegDldCtl, .pegDldStatus, .pegDldTimeLo, .pegDldTimeHi, .pegDldWaiters, .pegDldFirst, .pegDldThresh, .pegDldValue, .pegDldFireCnt]
  | .pool => [.spnPoolBaseLo, .spnPoolBaseHi, .spnPoolCfg, .spnPoolFree, .spnPoolCmd, .spnPoolTag, .spnPoolDfreeCnt, .spnPoolRec]
  | .pegErr => [.pegErrStatus, .pegErrAmount, .pegErrCnt, .pegPollCnt]
  | .deck => [.dckWays, .dckKeep, .dckCmd, .dckHitCnt, .dckMissCnt, .dckWbCnt, .dckDiscardCnt, .dckKeepEvictCnt, .dckCeCnt, .dckPoisonCnt]
  | .chan => [.hbmChCfg, .hbmArb, .hbmLatMax, .hbmCeCnt, .hbmUeCnt, .hbmUeAddr, .hbmPromoteCnt, .hbmChMap]
  | .tbl => [.spnTblStatus, .spnTblOut, .spnTblCore, .spnTblBadCnt, .spnTblReqCnt]
  | .keygen => [.secHbmKeygen]
  | .trs => [.trsBaseLo, .trsBaseHi, .trsCmd, .trsStatus, .trsSel, .trsInfo, .trsStep]
  | .col => [.colErrStatus, .colErrBlock, .colBlkCnt, .colSatCnt, .colFbCnt, .colNfCnt, .colResCnt, .colDigCnt, .colRetryCnt, .colHoldCnt]
  | .jnr => [.jnrBaseLo, .jnrBaseHi, .jnrCmd, .jnrStatus, .jnrSel, .jnrInfo, .jnrSteps, .jnrFlags, .jnrXpAddrLo, .jnrXpAddrHi, .jnrXpCmd, .jnrXpStatus, .jnrXpBytesLo, .jnrXpBytesHi]
  | .jnrProg => [.jnrProgAddrLo, .jnrProgAddrHi, .jnrProgCmd, .jnrProgStatus]
  | .jnrDie => [.jnrErrStatus, .jnrErrWhere, .jnrBlkCnt, .jnrSkipCnt, .jnrOvfCnt, .jnrSrdupCnt, .jnrSpoisonCnt, .jnrNfwCnt, .jnrBusyCnt, .jnrWaitCnt, .jnrQfullCnt, .jnrGateCnt]
  | .port => [.lmdCtl, .lmdState, .lmdLanes, .lmdIdleTo, .lmdSwapTh, .lmdTimeDiff, .lmdWakeTime, .lmdFecCeCnt, .lmdFecUeCnt, .lmdAuthFailCnt, .lmdSliceRejectCnt, .lmdTwRejectCnt, .lmdPegRejectCnt, .lmdMisrouteCnt, .lmdDupCnt, .lmdResendCnt, .lmdReorderDropCnt, .lmdLaneSwapCnt, .lmdSleepCnt, .lmdRetrainCnt, .lmdReplayFullCnt]
  | .fabric => [.lmdSlice, .lmdKey, .lmdTimers, .lmdBreak, .lmdFlowBreakCnt]
  | .d2d => [.d2dState, .d2dBundle, .d2dSwapTh, .d2dCeCnt, .d2dReplayCnt, .d2dLaneSwapCnt, .d2dBundleFailCnt, .d2dRerouteCnt]
  | .prtCmd => [.prtCmd, .prtStatus, .prtDescLo, .prtDescHi, .prtArg0, .prtArg1, .prtVfBind]
  | .prtState => [.prtState, .prtCores, .prtReserve, .prtShare, .prtMigCnt, .prtStaleCnt, .prtProbeGrant, .prtProbeBudget, .prtProbeSaveLo, .prtProbeSaveHi, .prtProbeStatus, .prtProbeFailCnt]
  | .vf => [.prtVfId, .prtVfCause, .prtVfMask, .prtVfVmap, .prtVfDropCnt, .prtMapVaLo, .prtMapVaHi, .prtMapPaLo, .prtMapPaHi, .prtMapCmd, .prtMapStatus]
  | .recovery => [.prtWdCtx, .prtWdEng, .prtWdCol, .prtFence, .prtInspLo, .prtInspHi, .prtInspLen, .prtRst, .prtInspStatus, .prtRstCnt, .prtEpochDropCnt, .prtWdCnt]
  | .mgtRst => [.mgtRstCmd, .mgtRstLast, .mgtRstTimeLo, .mgtRstTimeHi, .mgtEngRstCnt, .mgtPkgRstCnt, .mgtBootCnt]
  | .reliab => [.mgtProbeAddrLo, .mgtProbeAddrHi, .mgtProbeCmd, .mgtProbeStatus, .mgtProbeId, .mgtProbePassCnt, .mgtProbeFailCnt, .mgtSuspectCnt, .mgtRetireCnt, .mgtSubstCnt, .mgtSuspectStatus, .mgtSuspectUnit, .mgtScrubCtl, .mgtChkCnt, .mgtCoreFloor]
  | .bent => [.bentClk, .bentShim, .bentTemp, .bentStopCnt, .bentSnapTLo, .bentSnapTHi]
  | .thermal => [.pwrDieTemp, .pwrHbmTemp, .pwrTripCnt, .pwrClampCnt]
  | .plumb => [.plbTimeLo, .plbTimeHi, .plbLoadLo, .plbLoadHi, .plbCmd, .plbStatus, .plbOffset, .plbRate, .plbPpsCnt, .plbPpsRejCnt, .plbErrCnt, .plbSnapTLo, .plbSnapTHi, .plbSnapCmd, .plbSnapStatus, .plbSnapPer, .plbSnapSeq]
  | .power => [.pwrCap, .pwrIn, .pwrFloor, .pwrStatus, .pwrTlim, .pwrRide, .pwrPfStatus, .pwrPfLast, .pwrPfCnt, .pwrResumeCnt, .pwrPeakCnt, .pwrInfeasCnt]
  | .pwrPart => [.pwrPart]
  | .sec => [.secBoot, .secSerialLo, .secSerialHi, .secUpdAddrLo, .secUpdAddrHi, .secUpdCmd, .secUpdStatus, .secKeyAddrLo, .secKeyAddrHi, .secKeyCmd, .secKeyStatus, .secKeyState]
  | .maint => [.mgtMaintCtl, .mgtMaintStatus, .mgtMaintLast, .mgtMaintQueueCnt, .mgtMaintDoneCnt]
  | .host => [.mgtHostLink, .mgtHostAper, .mgtHostCause, .mgtHostMask, .mgtHostCeCnt, .mgtHostUeCnt, .mgtHostAbortCnt, .mgtHostRetrainCnt, .mgtI3cStatus, .mgtI3cDenyCnt]
  | .vfHq => [.prtHqBaseLo, .prtHqBaseHi, .prtHqCfg, .prtHqTail, .prtHqHead, .prtHqDoneCnt, .prtHqErrCnt]
  | .die => [.dieCntLost, .dieCntLostAmt, .dieCntLostTot]
  | .tel => [.mgtEvlogHead, .mgtEvlogSel, .mgtEvlogMask, .mgtCntLost, .mgtCntLostAmt, .mgtEvlogData]
  | .vfTel => [.prtTelBaseLo, .prtTelBaseHi, .prtTelCtl, .prtTelStatus, .prtLogBaseLo, .prtLogBaseHi, .prtLogCtl, .prtLogHead, .prtLogTail, .prtLogLostCnt]
  | .tst => [.tstDbgAddrLo, .tstDbgAddrHi, .tstDbgCmd, .tstDbgStatus, .tstDbgState, .tstNonceLo, .tstNonceHi, .tstRecSel, .tstRecData, .tstHbmCmd, .tstHbmArg, .tstHbmArg2, .tstHbmDataLo, .tstHbmDataHi, .tstHbmStatus]
  | .pert => [.tstPertBridge, .tstPertCredit, .tstPertBp, .tstPertSkew, .tstPertWake, .tstPertCnt]
  | .pegBent => [.pegBentVal]
  | .pegSpn => [.pegSpnVal]
  | .idle => [.coreIdleLocalLo, .coreIdleLocalHi, .coreIdleCollLo, .coreIdleCollHi, .coreIdleMemLo, .coreIdleMemHi, .coreIdleHostLo, .coreIdleHostHi, .coreIdleJnrLo, .coreIdleJnrHi, .coreIdleShimLo, .coreIdleShimHi, .coreIdleThermLo, .coreIdleThermHi, .coreIdleMaintLo, .coreIdleMaintHi]
  | .root => [.secPartRoot]
  | .spnSnap => [.spnSnapTLo, .spnSnapTHi]

end Sys2Proof.Machine
end

