-- ==== Sys2Proof/Syntax.lean ====
section
/-! DEFINITION. The commands of the block and their operands. A command carries what the outside names: the unit it
acts on, the register source, the values that come from physics (measured values, injected errors). -/
namespace Sys2Proof

/-- Who issues a register access (R544): a program of a core, the I3C register target, a VF window, the PF, Welyar. -/
inductive Src
  | i3c
  | vf (v : Nat)
  | pf
  | welyar
  deriving DecidableEq, Repr

/-- A physical error of the array in one step: a wrong column output (the physical column and the bits inverted), or a
difference of the two adders of a sum buffer column (R54, R60, R64). -/
inductive ArrayFault
  | output (col : Nat) (flip : Word)
  | adder (col : Nat)
  deriving DecidableEq, Repr
/-- The commands of the block, one constructor per row of spec/opcode_table.json. -/
inductive Instr where
  /-- ADD (R155). Scalar add of two registers modulo 2^32 into rd. -/
  | opAdd (core : CoreAddr)
  /-- SUB (R155). Scalar subtract of two registers into rd. -/
  | opSub (core : CoreAddr)
  /-- AND (R155). Bitwise and of two registers into rd. -/
  | opAnd (core : CoreAddr)
  /-- OR (R155). Bitwise or of two registers into rd. -/
  | opOr (core : CoreAddr)
  /-- XOR (R155). Bitwise xor of two registers into rd. -/
  | opXor (core : CoreAddr)
  /-- SLL (R155). Shift left by rb[4:0]. -/
  | opSll (core : CoreAddr)
  /-- SRL (R155). Logical shift right by rb[4:0]. -/
  | opSrl (core : CoreAddr)
  /-- SRA (R155). Arithmetic shift right by rb[4:0]. -/
  | opSra (core : CoreAddr)
  /-- MUL (R155). Low 32 bits of the product, taking 3 bent cycles. -/
  | opMul (core : CoreAddr)
  /-- SLT (R155). Signed set-less-than into rd. -/
  | opSlt (core : CoreAddr)
  /-- SLTU (R155). Unsigned set-less-than into rd. -/
  | opSltu (core : CoreAddr)
  /-- ADDI (R155). Add a sign-extended immediate. -/
  | opAddi (core : CoreAddr)
  /-- ANDI (R155). And with a zero-extended immediate. -/
  | opAndi (core : CoreAddr)
  /-- ORI (R155). Or with a zero-extended immediate. -/
  | opOri (core : CoreAddr)
  /-- XORI (R155). Xor with a zero-extended immediate. -/
  | opXori (core : CoreAddr)
  /-- LUI (R155). Load the immediate into the upper half of rd. -/
  | opLui (core : CoreAddr)
  /-- SLLI (R155). Shift left by an immediate amount. -/
  | opSlli (core : CoreAddr)
  /-- SRLI (R155). Logical shift right by an immediate amount. -/
  | opSrli (core : CoreAddr)
  /-- SRAI (R155). Arithmetic shift right by an immediate amount. -/
  | opSrai (core : CoreAddr)
  /-- LW (R155). Load a data memory word of the context window; a poisoned word faults the context. -/
  | opLw (core : CoreAddr)
  /-- SW (R155). Store a word into the context data memory window, clearing its poison mark. -/
  | opSw (core : CoreAddr)
  /-- GETP (R155). Read a parameter register into rd. -/
  | opGetp (core : CoreAddr)
  /-- GETS (R157). Read a state item such as context number, index, flags, mode or plumb time. -/
  | opGets (core : CoreAddr)
  /-- CLRF (R155). Clear the context's own sticky flags selected by the immediate. -/
  | opClrf (core : CoreAddr)
  /-- SETM (R156). Set the context's own arithmetic mode. -/
  | opSetm (core : CoreAddr)
  /-- BEQ (R155). Branch if equal. -/
  | opBeq (core : CoreAddr)
  /-- BNE (R155). Branch if not equal. -/
  | opBne (core : CoreAddr)
  /-- BLT (R155). Branch if signed less than. -/
  | opBlt (core : CoreAddr)
  /-- BGE (R155). Branch if signed greater or equal. -/
  | opBge (core : CoreAddr)
  /-- BLTU (R155). Branch if unsigned less than. -/
  | opBltu (core : CoreAddr)
  /-- BGEU (R155). Branch if unsigned greater or equal. -/
  | opBgeu (core : CoreAddr)
  /-- JAL (R155). Jump and link. -/
  | opJal (core : CoreAddr)
  /-- JR (R155). Jump to the address in a register. -/
  | opJr (core : CoreAddr)
  /-- PWAIT (R193). Atomically check a peg against a threshold, subtracting or recording the context as a waiter and descheduling it. -/
  | opPwait (core : CoreAddr)
  /-- PSIG (R192). Send a signal adding an amount to a peg. -/
  | opPsig (core : CoreAddr)
  /-- PREAD (R195). Read a peg value into rd. -/
  | opPread (core : CoreAddr)
  /-- END (R170). End the run; the context becomes Empty while outstanding work completes. -/
  | opEnd (core : CoreAddr)
  /-- MMUL (R70). Issue a tile instruction into the tile queue, capturing the arithmetic mode. -/
  | mmul (core : CoreAddr)
  /-- MMUL_RS (R163). Issue a fused tile instruction whose drained rows are sent for reduce-scatter. -/
  | mmulRs (core : CoreAddr)
  /-- MMUL_AG (R163). Issue a tile instruction whose activations are gathered by the collective engine. -/
  | mmulAg (core : CoreAddr)
  /-- MMUL_AR (R163). Issue a fused tile instruction whose drained rows are sent for all-reduce. -/
  | mmulAr (core : CoreAddr)
  /-- CSEND (R165). Send a scratchpad range to a truss entry. -/
  | csend (core : CoreAddr)
  /-- COPY (R223). Transfer that copies, converts, quantises or dequantises rows of elements. -/
  | copy (core : CoreAddr)
  /-- ASTREAM (R228). Transfer that produces the activation lines of a tile instruction into a stream ring. -/
  | astream (core : CoreAddr)
  /-- WSTREAM (R229). Transfer that produces the weight lines of a tile instruction into a stream ring. -/
  | wstream (core : CoreAddr)
  /-- REQUANT (R141). Requantise a Lath copy in place using the kerf plane. -/
  | requant (core : CoreAddr)
  /-- FILL (R222). Write a 32-bit pattern over a destination range. -/
  | fill (core : CoreAddr)
  /-- RING_OPEN (R226). Open a stream ring in the issuing core's scratchpad. -/
  | ringOpen (core : CoreAddr)
  /-- RING_CLOSE (R226). Request closing of a stream ring. -/
  | ringClose (core : CoreAddr)
  /-- RING_CLOSE_COMPLETE (R226). The ring closes once its counts are equal and nothing names it, freeing the tracker. -/
  | ringCloseComplete (core : CoreAddr) (ring : BitVec 3)
  /-- GATHER (R242). Table engine request that pools embedding bags into output rows. -/
  | gather (core : CoreAddr)
  /-- POOL_ALLOC (R210). Alloc request granting the lowest free buffer or queueing. -/
  | poolAlloc (core : CoreAddr)
  /-- POOL_FREE (R211). Free request returning an owned buffer to the pool. -/
  | poolFree (core : CoreAddr)
  /-- POOL_GIVE (R211). Give request moving a buffer to a new owner tag. -/
  | poolGive (core : CoreAddr)
  /-- LINE_PRODUCE (R227). Loader writes the next stream line once the ring has room. -/
  | lineProduce (xfer : Nat)
  /-- TRANSFER_COMPLETE (R166). A transfer or send completes and signals its peg. -/
  | transferComplete (send : Bool) (xfer : Nat)
  /-- TILE_START (R70). The array takes the oldest queued tile instruction once free. -/
  | tileStart (core : CoreAddr)
  /-- ARRAY_LINE_READ (R45). The array reads the next stream line once it is reported written. -/
  | arrayLineRead (core : CoreAddr) (errs : List ArrayFault)
  /-- ROW_DRAIN (R55). A bank row is drained to its destination when the port and collective path allow. -/
  | rowDrain (core : CoreAddr)
  /-- TILE_COMPLETE (R166). The last drained row is written, flags are ORed in, and traps or stop markers take effect. -/
  | tileComplete (core : CoreAddr)
  /-- CONTEXT_SWITCH (R71). The scalar processor starts the next Ready context after a deschedule. -/
  | contextSwitch (core : CoreAddr)
  /-- HELD_START_RELEASE (R170). A held start proceeds once the ended run's work or migration has finished. -/
  | heldStartRelease (core : CoreAddr) (ctx : BitVec 2)
  /-- BAY_LOAD (R171). Bay controller load of a command stream into named cores and contexts. -/
  | bayLoad (bay : Nat) (src : Src) (ctxs : BitVec 4)
  /-- BAY_PATCH (R173). Bay controller application of a patch list. -/
  | bayPatch (bay : Nat) (src : Src) (ctxs : BitVec 4)
  /-- BAY_START (R171). Bay controller start of named Empty contexts. -/
  | bayStart (bay : Nat) (src : Src) (ctxs : BitVec 4)
  /-- BAY_PATCH_AND_START (R174). Apply a patch list then start the named contexts as one command. -/
  | bayPatchAndStart (bay : Nat) (src : Src) (ctxs : BitVec 4)
  /-- BAY_RESUME (R171). Resume named Stopped contexts at their pc. -/
  | bayResume (bay : Nat) (src : Src) (ctxs : BitVec 4)
  /-- BAY_CMD_UNDEFINED (R185). A command code 0, 6 or 7 ends with result 2. -/
  | bayCmdUndefined (bay : Nat) (src : Src) (cmd : BitVec 3) (ctxs : BitVec 4)
  /-- BAY_COMMAND_DONE (R174). A bay controller command ends, setting done and result. -/
  | bayCommandDone (bay : Nat)
  /-- BAY_CTX_P_WRITE (R175). Write of a parameter register, dropped while the context is in a run. -/
  | bayCtxPWrite (bay : Nat) (src : Src) (reg : BitVec 6) (value : Word)
  /-- BAY_CTX_STOPAT_WRITE (R175). Write of the stop index, dropped while the context is in a run. -/
  | bayCtxStopatWrite (bay : Nat) (src : Src) (value : Word)
  /-- BAY_CTX_PSEG_WRITE (R191). Write of a peg segment register, checked when valid is set. -/
  | bayCtxPsegWrite (bay : Nat) (src : Src) (seg : BitVec 2) (hi : Bool) (value : Word)
  /-- CORE_CTX_MODE_WRITE (R104). Host write of a context's arithmetic mode. -/
  | coreCtxModeWrite (core : CoreAddr) (src : Src) (value : Word)
  /-- CTX_STOP (R177). Host stop of a context through CORE_CTX_CMD. -/
  | ctxStop (core : CoreAddr) (src : Src) (stops : BitVec 4)
  /-- CTX_RESET (R426). Context reset ending its tile at a K-pass boundary and clearing its state. -/
  | ctxReset (core : CoreAddr) (src : Src) (resets : BitVec 4)
  /-- PEG_SIGNAL_ARRIVE (R195). Signals reaching a peg home are applied in the cycle order. -/
  | pegSignalArrive (home : Machine.PegHome) (ids : List Nat)
  /-- PEG_POLL (R200). A polling waiter checks its peg every 256 pt. -/
  | pegPoll (core : CoreAddr) (ctx : BitVec 2)
  /-- PEG_HOST_WRITE (R201). Host load of a peg value followed by a walk. -/
  | pegHostWrite (home : Machine.PegHome) (src : Src) (value : Word) (more : List (Src × Word)) (lost : List Nat)
  /-- PEG_MESSAGE (R199). A remote peg message is checked and applied at the receiving package. -/
  | pegMessage
  /-- DEADLOCK_FIRE (R204). The deadlock condition held for 2^16 pt; record, event and interrupt. -/
  | deadlockFire (p : BitVec 3)
  /-- POOL_RECLAIM (R213). Free every pool buffer whose tag equals SPN_POOL_TAG. -/
  | poolReclaim (die : BitVec 2) (pool : BitVec 6) (src : Src)
  /-- POOL_CFG_WRITE (R214). Write of a pool's configuration, with drop rules and enabling. -/
  | poolCfgWrite (die : BitVec 2) (pool : BitVec 6) (src : Src) (reg : Machine.PoolReg) (value : Word)
  /-- MEM_READ (R235). A read reaches its home spine and is served by the deck and HBM under its hint. -/
  | memRead (p : BitVec 3) (pepoch : BitVec 8) (by_ : Machine.Issuer) (pa : Nat) (len : Nat) (hint : BitVec 2) (lat : Bool) (issued : Time) (errs : List Machine.MemErr)
  /-- MEM_WRITE (R235). A write reaches its home spine and is served by the deck and HBM under its hint. -/
  | memWrite (p : BitVec 3) (pepoch : BitVec 8) (by_ : Machine.Issuer) (pa : Nat) (hint : BitVec 2) (data : List (Byte × Bool)) (errs : List Machine.MemErr)
  /-- MEM_REPLY_ARRIVE (R416). A reply reaches its requester and is dropped if its epoch is not current. -/
  | memReplyArrive (reply : Nat)
  /-- BULK_PROMOTE (R247). A bulk request that waited guard pt is promoted in priority mode. -/
  | bulkPromote (chan : Nat) (waited : Nat)
  /-- HBM_SCRUB_PASS (R441). Patrol scrub reads and repairs HBM granules. -/
  | hbmScrubPass (chan : Nat) (errs : List Machine.MemErr)
  /-- DECK_SCRUB_PASS (R441). Patrol scrub reads and repairs deck lines. -/
  | deckScrubPass (die : BitVec 2) (errs : List Machine.MemErr)
  /-- HBM_LAT_MAX_READ (R258). Read of the RC latency maximum returns and clears it. -/
  | hbmLatMaxRead (chan : Nat) (src : Src)
  /-- DECK_FLUSH (R238). Start writeback and invalidation of the partition's deck ways. -/
  | deckFlush (die : BitVec 2) (p : BitVec 3) (src : Src)
  /-- DECK_FLUSH_COMPLETE (R238). The flush ends and done is set. -/
  | deckFlushComplete (die : BitVec 2) (p : BitVec 3)
  /-- DECK_UNKEEP (R257). Clear every keep mark of the partition. -/
  | deckUnkeep (die : BitVec 2) (p : BitVec 3) (src : Src)
  /-- TRUSS_INSTALL (R264). Check and install a truss entry. -/
  | trussInstall (p : BitVec 3) (src : Src) (id : BitVec 12)
  /-- TRUSS_RETIRE (R290). Retire a truss entry when no step is in progress. -/
  | trussRetire (p : BitVec 3) (src : Src) (id : BitVec 12)
  /-- COL_SUPPLY (R273). A drained row or CSEND element reaches the collective engine for assembly. -/
  | colSupply (send : Bool) (unit : Nat)
  /-- COL_PARTIAL (R278). A partial record is added to the block's sum at an engine. -/
  | colPartial (rec_ : Nat) (errs : List (Nat × Word))
  /-- COL_RESULT (R287). An all-reduce result record is checked and delivered. -/
  | colResult (rec_ : Nat) (errs : List (Nat × Word))
  /-- COL_MAX_REPLY (R284). A max request or reply record for a block is combined or answered. -/
  | colMaxReply (rec_ : Nat)
  /-- COL_EXPONENT (R284). A fallback exponent record makes members reconvert and resend. -/
  | colExponent (rec_ : Nat)
  /-- COL_SETTLE (R285). A settle record writes the state byte and frees the retention buffer. -/
  | colSettle (rec_ : Nat)
  /-- COL_RETRY (R283). A retry record makes members resend retained sources. -/
  | colRetry (rec_ : Nat)
  /-- COL_GATHER_DATA (R288). Gather data is written to gbuf and MMUL.AG lines produced. -/
  | colGatherData (rec_ : Nat)
  /-- COL_TIMEOUT (R411). A stalled member ends its step after col_to pt. -/
  | colTimeout (p : BitVec 3) (id : BitVec 12) (pos : Nat)
  /-- JOINER_CTX_INSTALL (R295). Check and install a joiner context. -/
  | joinerCtxInstall (p : BitVec 3) (src : Src) (id : BitVec 10)
  /-- JOINER_CTX_RETIRE (R296). Retire a joiner context. -/
  | joinerCtxRetire (p : BitVec 3) (src : Src) (id : BitVec 10)
  /-- JOINER_PROG_LOAD (R303). Check and load a joiner program into a slot. -/
  | joinerProgLoad (src : Src) (p : BitVec 3) (slot : BitVec 6)
  /-- JOINER_PROG_FREE (R323). Free a joiner program slot. -/
  | joinerProgFree (src : Src) (p : BitVec 3) (slot : BitVec 6)
  /-- JOINER_BLOCK_OFFER (R305). The owner engine offers a block to the dispatcher, which accepts it when room and step allow. -/
  | joinerBlockOffer (p : BitVec 3) (entry : BitVec 12) (block : Nat)
  /-- JOINER_STEP_LATCH (R314). Wait on the gate peg, latch the step slot and activate the context. -/
  | joinerStepLatch (p : BitVec 3) (jctx : BitVec 10)
  /-- JOINER_BLOCK_APPLY (R305). A free joiner runs the program on a block and writes its state. -/
  | joinerBlockApply (p : BitVec 3) (jctx : BitVec 10) (num : BitVec 4) (block : Nat) (dup : List (Nat × Bool))
  /-- JOINER_ROW_APPLY (R310). A joiner runs phases A, B and C on a complete row. -/
  | joinerRowApply (p : BitVec 3) (jctx : BitVec 10) (num : BitVec 4) (row : Nat) (dup : List (Nat × Bool))
  /-- STATE_EXPORT (R320). Export a context's state planes as state records. -/
  | stateExport (p : BitVec 3) (src : Src)
  /-- STATE_IMPORT (R321). Check and import state records into a context. -/
  | stateImport (p : BitVec 3) (src : Src)
  /-- FRAME_CLOSE (R351). A data frame is closed and sprayed on the next eligible port. -/
  | frameClose (key : Machine.FlowKey)
  /-- DATA_FRAME (R352). A received data frame passes the checks and goes to reorder. -/
  | dataFrame (port : BitVec 3) (cws : List (List Nat)) (frame : Machine.Frame)
  /-- TRAY_WINDOW_FRAME (R353). A received tray-window frame is checked under the tray key. -/
  | trayWindowFrame (port : BitVec 3) (cws : List (List Nat)) (frame : Machine.Frame)
  /-- ACK_FRAME (R345). A received ack frame acknowledges or naks frames of flows. -/
  | ackFrame (port : BitVec 3) (cws : List (List Nat)) (frame : Machine.Frame)
  /-- LINK_CONTROL_FRAME (R337). A link-control frame between port and partner is consumed. -/
  | linkControlFrame (port : BitVec 3) (cws : List (List Nat)) (frame : Machine.Frame) (msg : Machine.LinkCtl)
  /-- IDLE_FRAME (R334). An idle frame fills an empty slot and is consumed. -/
  | idleFrame (port : BitVec 3) (cws : List (List Nat)) (frame : Machine.Frame)
  /-- ACK_SEND (R345). Send an ack after 128 delivered frames or 4,096 pt. -/
  | ackSend (key : Machine.FlowKey)
  /-- NAK_TIMEOUT (R346). A gap held for gap_to pt sends a nak. -/
  | nakTimeout (key : Machine.FlowKey)
  /-- FRAME_RESEND_TIMEOUT (R417). A frame unacknowledged for 2^20 pt is resent. -/
  | frameResendTimeout (key : Machine.FlowKey) (seq : Nat)
  /-- FLOW_DORMANT (R417). A flow record with no frames for 2^32 pt becomes dormant. -/
  | flowDormant (key : Machine.FlowKey)
  /-- PORT_AVOID_EXPIRE (R346). An avoided destination and port pair becomes eligible after 2^30 pt. -/
  | portAvoidExpire (addr : Nat) (port : BitVec 3)
  /-- NEXT_KEY_INSTALL (R511). 2^32 pt after a key switch, the key after the next is written. -/
  | nextKeyInstall (owner : Nat)
  /-- LUMDER_LANE_SWAP_REQUEST (R331). A lane above swap_th asks the arbiter for a swap. -/
  | lumderLaneSwapRequest (port : BitVec 3) (lane : Nat)
  /-- LUMDER_LANE_SWAP (R331). Both ends move a lane to a spare at the named superblock. -/
  | lumderLaneSwap (port : BitVec 3) (lane : Nat) (boundary : Nat)
  /-- LUMDER_LANE_FAIL (R332). A failed lane is replaced or the port retrains. -/
  | lumderLaneFail (port : BitVec 3) (lane : Nat)
  /-- PORT_TRAIN_DONE (R356). Training ends Up full, Up narrow or, after three attempts, Down. -/
  | portTrainDone (port : BitVec 3) (errs : List (Option Nat)) (partner : Option Machine.Partner)
  /-- PARTNER_SILENT (R356). No link-control frame for 2^20 pt sends the port to Training. -/
  | partnerSilent (port : BitVec 3)
  /-- SLEEP_REQUEST (R358). After idle_to pt of idle the port sends a sleep request. -/
  | sleepRequest (port : BitVec 3) (boundary : Nat)
  /-- SLEEP_ENTER (R358). Both ends stop at the named boundary and the port sleeps. -/
  | sleepEnter (port : BitVec 3)
  /-- WAKE_TRIGGER (R356). A frame need or wake tone starts a fast wake. -/
  | wakeTrigger (port : BitVec 3) (tone : Bool)
  /-- FAST_WAKE_DONE (R359). Fast wake ends Up, or retrains with unaligned set. -/
  | fastWakeDone (port : BitVec 3) (lock : Bool) (partner : Time) (rtt : Nat)
  /-- WAKE_TONE_TIMEOUT (R361). A partner silent 2^16 pt after a wake tone forces full retrain. -/
  | wakeToneTimeout (port : BitVec 3)
  /-- PORT_RETRAIN (R363). Write of retrain starts full training. -/
  | portRetrain (port : BitVec 3) (src : Src)
  /-- TW_READ (R354). A tray-window read request is served with Welyar's rights. -/
  | twRead
  /-- TW_WRITE (R354). A tray-window write request is served with Welyar's rights. -/
  | twWrite
  /-- TW_READ_DATA (R354). A read-data reply returns to the requester. -/
  | twReadData
  /-- TW_WRITE_DONE (R354). A write-done reply returns to the requester. -/
  | twWriteDone
  /-- TW_ERROR (R354). An error reply returns to the requester. -/
  | twError
  /-- TW_REPLY_TIMEOUT (R354). No reply within 2^20 pt reports an error to the issuer. -/
  | twReplyTimeout (tag : Nat)
  /-- D2D_FLIT_RECEIVE (R374). A flit is checked, delivered or dropped with a replay request. -/
  | d2dFlitReceive (die : BitVec 2) (e : Bool) (bundle : Nat) (new : Option Machine.Flit) (errs : List Nat)
  /-- D2D_REPLAY_REQUEST (R374). The sender resends from the requested flit. -/
  | d2dReplayRequest (die : BitVec 2) (e : Bool) (bundle seq : Nat)
  /-- D2D_LANE_SWAP_REQUEST (R375). A lane above swap_th asks the arbiter for a swap. -/
  | d2dLaneSwapRequest (die : BitVec 2) (e : Bool) (bundle lane : Nat)
  /-- D2D_LANE_SWAP (R375). Both ends move a lane to a spare at a flit boundary. -/
  | d2dLaneSwap (link : BitVec 2) (bundle ahead : Nat)
  /-- D2D_BUNDLE_FAIL (R376). A failed bundle's flits move to other bundles after the last accepted sequence. -/
  | d2dBundleFail (link : BitVec 2) (bundle lane : Nat)
  /-- D2D_BUNDLE_RETRAIN_DONE (R376). A failed bundle retrains to standby or is retired. -/
  | d2dBundleRetrainDone (link : BitVec 2) (bundle : Nat) (errs : List (Option Nat))
  /-- PARTITION_BUILD (R384). Check a build descriptor and build the partition. -/
  | partitionBuild (src : Src) (p : BitVec 3)
  /-- PARTITION_DISSOLVE (R386). Fence, unbind and return every unit of a partition. -/
  | partitionDissolve (src : Src) (p : BitVec 3)
  /-- CORE_MIGRATE (R403). Move a logical core to a reserve core, advancing its epoch. -/
  | coreMigrate (src : Src) (p : BitVec 3)
  /-- SHARES_SET (R398). Change the spine shares of a built partition. -/
  | sharesSet (src : Src) (p : BitVec 3)
  /-- VF_BIND (R391). Bind a VF to a partition with a host share. -/
  | vfBind (src : Src) (p : BitVec 3) (vf : BitVec 6)
  /-- VF_UNBIND (R397). Unbind a VF, resetting it. -/
  | vfUnbind (src : Src) (vf : BitVec 6)
  /-- PAGE_MAP (R390). Map consecutive pages in the partition page table. -/
  | pageMap (vf : BitVec 6) (w : Bool) (lg : Bool) (count : BitVec 9)
  /-- PAGE_UNMAP (R390). Remove pages from the partition page table. -/
  | pageUnmap (vf : BitVec 6) (count : BitVec 9)
  /-- PAGE_UNMAP_COMPLETE (R390). The unmap completes once caches drop the pages and accesses end. -/
  | pageUnmapComplete (vf : BitVec 6)
  /-- VF_MASK_WRITE (R395). Write of PRT_VF_MASK, sending a message when a set cause is unmasked. -/
  | vfMaskWrite (vf : BitVec 6) (value : Word)
  /-- PARTITION_RESET (R428). Notice, record, fence and reset a partition, then readmit work. -/
  | partitionReset (p : BitVec 3) (src : Src)
  /-- FENCE_DEADLINE (R419). At the fence deadline outstanding requests are answered with errors. -/
  | fenceDeadline (p : BitVec 3)
  /-- CTX_WATCHDOG (R409). A context without progress for ctx_wd pt faults with cause 0x07. -/
  | ctxWatchdog (core : CoreAddr) (ctx : BitVec 2)
  /-- ENGINE_WATCHDOG (R410). An engine without progress for eng_wd pt is reset. -/
  | engineWatchdog (kind : Machine.EngKind) (unit : Nat) (p : BitVec 3) (waited : Nat) (others : Bool)
  /-- ENGINE_RESET (R427). Fence an engine's items, advance its epoch and end them. -/
  | engineReset (kind : Machine.EngKind) (unit : Nat) (p : Option Nat)
  /-- RESET_BUDGET_EXPIRE (R413). A reset past its budget escalates to the next level. -/
  | resetBudgetExpire (unit : Machine.RstUnit)
  /-- PACKAGE_RESET (R430). Fence every partition and restart the package from boot step 4. -/
  | packageReset (src : Src)
  /-- POWER_CYCLE_REQUEST (R412). Ask the tray controller for a power cycle. -/
  | powerCycleRequest (src : Src)
  /-- PROBE_PACK_LOAD (R449). Check and load a signed probe pack. -/
  | probePackLoad (src : Src)
  /-- PROBE_PACK_LOAD_FORWARD (R449). Load a probe pack and forward it over the tray window. -/
  | probePackLoadForward (src : Src)
  /-- UNIT_PROBE (R450). Probe unheld units and reserve cores once per 2^46 pt. -/
  | unitProbe (kind unit : Nat) (result : Machine.Probed)
  /-- PROBE_WINDOW (R451). Open a probe window and probe idle bents in turn. -/
  | probeWindow (p : BitVec 3) (grant : Option (Src × (Nat × Nat))) (results : List (Nat × Machine.Probed))
  /-- PROBE_BUDGET_EXPIRE (R451). The window budget runs out; restore the bent and end. -/
  | probeBudgetExpire (p : BitVec 3)
  /-- CORE_SUBSTITUTE (R444). Migrate a pending suspect core once its contexts are clean, then probe it. -/
  | coreSubstitute (core : CoreAddr) (result : Machine.Probed)
  /-- CHANNEL_SUBSTITUTE (R447). Start copying a suspect channel to a spare. -/
  | channelSubstitute (chan spare : Nat)
  /-- CHANNEL_COPY_DONE (R447). The spare takes the slot and the suspect channel is retired. -/
  | channelCopyDone (chan : Nat)
  /-- CONTROL_PARITY_ERROR (R439). A control-state parity error faults contexts, resets an engine or poisons a peg. -/
  | controlParityError (unit : Machine.CtlUnit)
  /-- RESIDUE_MISMATCH (R440). A datapath residue mismatch poisons output or faults the context. -/
  | residueMismatch (unit : Machine.ResUnit)
  /-- PPS_PULSE (R462). A PPS_IN edge sets the offset and corrects the rate. -/
  | ppsPulse
  /-- PLUMB_CORRECTION (R463). Each 2^20 pt the remaining offset is removed by up to 64 pt. -/
  | plumbCorrection
  /-- PPS_HOLDOVER (R464). No pulse for 2^32 pt sets holdover and freezes the rate. -/
  | ppsHoldover
  /-- PLUMB_LOAD (R465). Whole load of plumb time before work is accepted. -/
  | plumbLoad (src : Src)
  /-- ISLAND_TIME_SYNC (R466). An island copy is corrected from its spine. -/
  | islandTimeSync (dom : Nat) (dev : Int)
  /-- SNAP_SCHEDULE (R467). Schedule a slot-1 snapshot at T or reject it as late. -/
  | snapSchedule (src : Src)
  /-- SNAP_PERIOD_WRITE (R554). Write of the snapshot period starts or stops periodic snapshots. -/
  | snapPeriodWrite (src : Src) (value : Word)
  /-- SNAPSHOT_LATCH (R468). At T each island latches its counters into the shadow. -/
  | snapshotLatch (slot : BitVec 1)
  /-- DUMP_COMPLETE (R555). A dump record is written to the VF ring and done set. -/
  | dumpComplete (vf : BitVec 6)
  /-- GOVERNOR_INTERVAL (R471). Every 2^14 pt power shims are set against the cap. -/
  | governorInterval (p pb f : Nat)
  /-- PEAK_CHECK (R471). Power above 18 kW over 2^10 pt forces x_pwr to 60. -/
  | peakCheck (p : Nat)
  /-- BOOST_STEP (R472). Each 2^20 pt a boost bent is lowered or raised one point. -/
  | boostStep
  /-- POINT_SWITCH (R460). A bent switches its clock after the supply ramp. -/
  | pointSwitch (bent : Nat)
  /-- THERMAL_INTERVAL (R478). Thermal shims rise or fall against tlim. -/
  | thermalInterval (bents : List (Nat × Nat)) (dies : List (Nat × Nat))
  /-- PARTITION_PARK (R474). After 200 ms infeasible, park partitions one at a time. -/
  | partitionPark (f : Nat)
  /-- PARTITION_UNPARK (R474). With headroom, unpark partitions one at a time. -/
  | partitionUnpark (f fw : Nat)
  /-- DIE_TRIP (R479). A sensor at 110 °C stops the die's bents and drives THERMTRIP_N. -/
  | dieTrip (die : BitVec 2) (temp : Nat)
  /-- DIE_TRIP_RESTART (R479). After 2^30 pt below 95 °C the bents restart. -/
  | dieTripRestart (die : BitVec 2)
  /-- THERMAL_SHUTDOWN (R480). 125 °C or 16 s tripped starts a shutdown with no resume. -/
  | thermalShutdown (temp : Nat)
  /-- HBM_TEMP_POLL (R481). Poll stack temperatures and set refresh states. -/
  | hbmTempPoll (die : BitVec 2) (temps : List Nat)
  /-- PWR_CAP_WRITE (R469). Write of the power cap, lower value winning in a cycle. -/
  | pwrCapWrite (writes : List (Src × Word))
  /-- PWR_PART_WRITE (R494). Write of a partition's clock mode with the fixed-neighbour check. -/
  | pwrPartWrite (src : Src) (p : BitVec 3) (value : Word)
  /-- PWRFAIL_FALL (R482). PWRFAIL_N low starts the shutdown sequence. -/
  | pwrfailFall
  /-- BLADE_UNDERVOLT (R482). A blade below 40 V starts shutdown with no_resume. -/
  | bladeUndervolt
  /-- BLADE_COLLAPSE (R487). A blade below 36 V stops the converters with all state lost. -/
  | bladeCollapse
  /-- PF_HOLD_DONE (R483). Hold phase ends and flush begins. -/
  | pfHoldDone
  /-- PF_FLUSH_DONE (R483). Decks clean; self-refresh begins. -/
  | pfFlushDone
  /-- RIDE_EXPIRE (R483). The ride ends and commit begins with rails down. -/
  | rideExpire
  /-- RAILS_DOWN_DONE (R486). All rails are off and the package waits for input. -/
  | railsDownDone
  /-- INPUT_RETURN (R485). Debounced input return before commit resumes the package. -/
  | inputReturn
  /-- COLD_START (R486). Input back for 2^30 pt after commit starts from step 2. -/
  | coldStart
  /-- BLADES_IN_RANGE (R32). All blades in range bring up the rails and PWR_OK. -/
  | bladesInRange
  /-- PKG_RESET_ASSERT (R412). PKG_RESET_N falls, ordering a package reset. -/
  | pkgResetAssert
  /-- BOOT_SEQUENCE (R32). PKG_RESET_N release runs mask ROM, image read, training and builds. -/
  | bootSequence (inp : Machine.StartIn)
  /-- STANDBY_TAKEOVER (R497). No alive mark in 0.25 s makes site 1 run mask ROM. -/
  | standbyTakeover (inp : Machine.StartIn)
  /-- LOCKSTEP_MISMATCH (R497). A Welyar lockstep mismatch orders a package reset. -/
  | lockstepMismatch (site : BitVec 1)
  /-- DATETIME_REPLY (R534). GetDateTime reply loads the seconds field. -/
  | datetimeReply (seconds : Nat)
  /-- DATETIME_TIMEOUT (R534). No reply in 2^30 pt; seconds start from 0. -/
  | datetimeTimeout
  /-- IMAGE_WRITE (R512). Check and write a new image into the other bank. -/
  | imageWrite (src : Src) (flashOk : Bool)
  /-- FIRMWARE_APPLY (R513). Apply firmware sections to running units via the arbiter. -/
  | firmwareApply (src : Src)
  /-- TRIAL_CONFIRM (R514). Confirm a trial boot. -/
  | trialConfirm (src : Src)
  /-- PENDING_CANCEL (R514). Clear pending. -/
  | pendingCancel (src : Src)
  /-- SVN_COMMIT (R514). Blow fuses up to the active image's svn and reseal. -/
  | svnCommit (src : Src)
  /-- KEY_BLOB_SUBMIT (R510). Check and open a key blob, installing the key. -/
  | keyBlobSubmit (src : Src)
  /-- PART_ROOT_WRITE (R519). Write of a tenant root word, dropped if not allowed. -/
  | partRootWrite (src : Src) (p : BitVec 3) (word : BitVec 4) (value : Word)
  /-- MAINT_REQUEST (R516). An activity request is started or queued by the arbiter. -/
  | maintRequest (code : Nat) (unit : Nat)
  /-- MAINT_ACTIVITY_END (R516). An activity ends and queued requests are examined. -/
  | maintActivityEnd (code : Nat) (unit : Nat)
  /-- MAINT_HOLD_WRITE (R516). Write of hold queues or releases activities. -/
  | maintHoldWrite (src : Src) (hold : Bool)
  /-- APERTURE_ACCESS (R523). A PF aperture access is served or refused. -/
  | apertureAccess (off : Nat) (len : Nat) (write : Option (List (Byte × Bool)))
  /-- HQ_TAIL_WRITE (R527). Host writes a new tail of a host queue. -/
  | hqTailWrite (vf : BitVec 6) (q : BitVec 2) (value : Word)
  /-- HQ_HOST_TO_PARTITION (R527). A descriptor moves bytes from host to partition. -/
  | hqHostToPartition (vf : BitVec 6) (q : BitVec 2) (desc : List Byte) (data : List (Byte × Bool))
  /-- HQ_PARTITION_TO_HOST (R527). A descriptor moves bytes from partition to host. -/
  | hqPartitionToHost (vf : BitVec 6) (q : BitVec 2) (desc : List Byte)
  /-- HQ_DESCRIPTOR_COMPLETE (R528). Write status, advance head, signal and interrupt. -/
  | hqDescriptorComplete (vf : BitVec 6) (q : BitVec 2)
  /-- HQ_HOST_READ_TIMEOUT (R526). A host read with no completion in 50 ms ends with status 3. -/
  | hqHostReadTimeout (vf : BitVec 6) (q : BitVec 2) (desc : List Byte) (data : List (Byte × Bool))
  /-- HOST_LINK_UP (R524). PCIe link training completes at a supported rate and width. -/
  | hostLinkUp (speed : BitVec 2) (width : Nat)
  /-- HOT_RESET (R525). Conventional reset retrains the link and resets every function. -/
  | hotReset
  /-- PF_FLR (R525). FLR of the PF clears its configuration and causes. -/
  | pfFlr
  /-- VF_FLR (R397). FLR of a VF clears its state and raises cause 17. -/
  | vfFlr (vf : BitVec 6)
  /-- I3C_ADDRESS_ASSIGN (R530). SETDASA or ENTDAA assigns a target dynamic address. -/
  | i3cAddressAssign (mctp : Bool) (da : BitVec 7)
  /-- I3C_REG_READ (R531). Register target read request. -/
  | i3cRegRead (off : BitVec 32)
  /-- I3C_REG_WRITE (R531). Register target write request. -/
  | i3cRegWrite (off : BitVec 32) (value : Word)
  /-- MCTP_SET_ENDPOINT_ID (R532). The bus owner sets the MCTP EID. -/
  | mctpSetEndpointId (eid : Byte)
  /-- PLDM_GET_TID (R532). PLDM GetTID. -/
  | pldmGetTid
  /-- PLDM_SET_TID (R532). PLDM SetTID. -/
  | pldmSetTid (tid : Byte)
  /-- PLDM_GET_VERSION (R532). PLDM GetPLDMVersion. -/
  | pldmGetVersion (ty : Machine.PldmType)
  /-- PLDM_GET_TYPES (R532). PLDM GetPLDMTypes. -/
  | pldmGetTypes
  /-- PLDM_GET_COMMANDS (R532). PLDM GetPLDMCommands. -/
  | pldmGetCommands (ty : Machine.PldmType)
  /-- PLDM_GET_PDR (R532). PLDM GetPDR. -/
  | pldmGetPdr (handle : Nat)
  /-- PLDM_GET_SENSOR_READING (R532). Read a temperature or power sensor. -/
  | pldmGetSensorReading (sensor : Nat)
  /-- PLDM_GET_EFFECTER (R532). Read the PWR_CAP effecter. -/
  | pldmGetEffecter (effecter : Nat)
  /-- PLDM_SET_EFFECTER (R532). Set PWR_CAP through the effecter. -/
  | pldmSetEffecter (effecter value : Nat)
  /-- PLDM_SET_EVENT_RECEIVER (R533). Set the event receiver and release queued events. -/
  | pldmSetEventReceiver (eid : Byte)
  /-- PLDM_FRU_METADATA (R532). GetFRURecordTableMetadata. -/
  | pldmFruMetadata
  /-- PLDM_FRU_TABLE (R532). GetFRURecordTable. -/
  | pldmFruTable
  /-- PLDM_UPDATE_COMPONENT (R532). Write the Clasel image to the other bank. -/
  | pldmUpdateComponent (component : Nat) (image : List Byte) (flashOk : Bool)
  /-- PLDM_ACTIVATE_FIRMWARE (R532). Apply the written image live. -/
  | pldmActivateFirmware
  /-- PLDM_FILE_TRANSFER (R532). Serve an inspection record as a file. -/
  | pldmFileTransfer
  /-- PLDM_UNSUPPORTED (R532). Answer any other message with the unsupported completion. -/
  | pldmUnsupported
  /-- SPDM_VERSION (R507). SPDM version, capabilities and algorithm negotiation. -/
  | spdmVersion
  /-- SPDM_CERTIFICATE (R507). Return digests or the slot-0 certificate chain. -/
  | spdmCertificate (slot : Nat)
  /-- SPDM_CHALLENGE (R507). Answer a challenge with the alias key. -/
  | spdmChallenge (slot : Nat)
  /-- SPDM_MEASUREMENTS (R507). Return signed measurements. -/
  | spdmMeasurements (index : Nat)
  /-- SPDM_KEY_EXCHANGE (R507). Establish a secured session. -/
  | spdmKeyExchange (id : Nat)
  /-- SPDM_HEARTBEAT (R507). Heartbeat of a session. -/
  | spdmHeartbeat (id : Nat)
  /-- SPDM_HEARTBEAT_TIMEOUT (R507). A session with no heartbeat in its period ends. -/
  | spdmHeartbeatTimeout (id : Nat)
  /-- SPDM_KEY_UPDATE (R507). Update session keys. -/
  | spdmKeyUpdate (id : Nat)
  /-- SPDM_CHUNK (R507). Chunked transfer of a large message. -/
  | spdmChunk
  /-- EVENT_DELIVER (R559). An event taken from a spine queue is delivered to logs. -/
  | eventDeliver
  /-- EVLOG_SELECT (R560). Copy a package log entry into the data registers. -/
  | evlogSelect (src : Src) (n : Word)
  /-- LOG_ENABLE (R567). Setting en resets the VF log head and tail. -/
  | logEnable (vf : BitVec 6) (value : Word)
  /-- LOG_TAIL_WRITE (R561). The VF advances its log tail. -/
  | logTailWrite (vf : BitVec 6) (value : Word)
  /-- COUNTER_WRITE (R546). A CNT write loads the counter, recording lost increments. -/
  | counterWrite (src : Src) (off : Nat) (value : Word) (lost : Nat)
  /-- COUNTER_LO_READ (R547). Read of a LO half latches HI for the source. -/
  | counterLoRead (src : Src) (off : Nat)
  /-- REGISTER_WRITE (R545). Write of any register with no behaviour of its own. -/
  | registerWrite (src : Src) (off : Nat) (value : Word) (enables : BitVec 4)
  /-- DEBUG_TOKEN_SUBMIT (R570). Check a debug token and enter a debug state. -/
  | debugTokenSubmit (src : Src)
  /-- JTAG_RESET (R571). TRST_N or Test-Logic-Reset loads IDCODE. -/
  | jtagReset
  /-- JTAG_IDCODE (R571). Select the 32-bit IDCODE register. -/
  | jtagIdcode
  /-- JTAG_SAMPLE_PRELOAD (R571). Sample or preload the boundary register. -/
  | jtagSamplePreload (pins shift : BitVec 15)
  /-- JTAG_EXTEST (R571). Drive pins from the boundary register while in reset. -/
  | jtagExtest (pins shift : BitVec 15)
  /-- JTAG_CLAMP (R571). Clamp outputs with bypass while in reset. -/
  | jtagClamp
  /-- JTAG_HIGHZ (R571). Float outputs while in reset. -/
  | jtagHighz
  /-- JTAG_BYPASS (R571). Select the one-bit bypass register. -/
  | jtagBypass
  /-- DBGACC (R573). A debug access served by Welyar on Update-DR. -/
  | dbgacc (dr : BitVec 88)
  /-- LANE_RECORD_SELECT (R576). Copy a lane record into the data registers. -/
  | laneRecordSelect (src : Src) (n : BitVec 16)
  /-- HBM_READ_ID (R577). Read a stack's device ID. -/
  | hbmReadId (src : Src) (stack : BitVec 5) (chan : BitVec 5) (id : Option (BitVec 64))
  /-- HBM_READ_TEMP (R577). Read a stack's temperature. -/
  | hbmReadTemp (src : Src) (stack : BitVec 5) (chan : BitVec 5) (temp : Option (BitVec 64))
  /-- HBM_MBIST (R577). Run MBIST on an unheld channel. -/
  | hbmMbist (src : Src) (stack : BitVec 5) (chan : BitVec 5) (rows : Option Word)
  /-- HBM_LANE_REPAIR (R577). Lane repair on an unheld channel. -/
  | hbmLaneRepair (src : Src) (stack : BitVec 5) (chan : BitVec 5) (ok : Bool)
  /-- HBM_SOFT_REPAIR (R577). Soft repair of a row, added to the repair list. -/
  | hbmSoftRepair (src : Src) (stack : BitVec 5) (chan : BitVec 5) (ok : Bool)
  /-- HBM_HARD_REPAIR (R577). Hard repair of a row. -/
  | hbmHardRepair (src : Src) (stack : BitVec 5) (chan : BitVec 5) (ok : Bool)
  /-- HOLD_BOUND_EXPIRE (R483). When the hold phase has not ended within its 4,194,304 pt bound, the package sets no_resume and goes on to the flush with requests still outstanding. -/
  | holdBoundExpire
  /-- PORT_TRAINING_DELAY_EXPIRE (R418). A port training that was held back starts once 2^32 pt have passed since the fence of the last package reset or dissolve. -/
  | portTrainingDelayExpire (port : BitVec 3)
  /-- MSIX_VECTOR_MASK_WRITE (R395). A host write to a vector's mask in an MSI-X table sends the pending message when the vector is unmasked, under the PCIe rules. -/
  | msixVectorMaskWrite (fn : BitVec 6) (vec : BitVec 6) (masked : Bool)
  /-- D2D_ACKNOWLEDGEMENT (R374). An acknowledgement on the reverse direction of a bundle releases the acknowledged flits from the sender's 256-flit replay buffer. -/
  | d2dAcknowledgement (die : BitVec 2) (e : Bool) (bundle seq : Nat)
  /-- PCIE_POWER_STATE_CHANGE (R524). A host configuration write moves a function between D0 and D3hot, after which memory space is refused in D3hot. -/
  | pciePowerStateChange (fn : BitVec 6) (d3 : Bool)
  /-- RESERVED_OP_COMMAND (R290). A go write to TRS_CMD, JNR_CMD, JNR_PROG_CMD, PRT_CMD, PRT_MAP_CMD, MGT_PROBE_CMD, SEC_UPD_CMD or TST_HBM_CMD with an undefined op ends with result 2. -/
  | reservedOpCommand (src : Src) (off : Nat) (value : Word)
  deriving DecidableEq, Repr

end Sys2Proof
end

