-- ==== Sys2Proof/Decode.lean ====
section
/-! DEFINITION. The decoder of table words. No row of spec/opcode_table.json gives bits: the commands of this block come
from outside, as events and register accesses, and no word spells one. The words of core instructions are fetched from
instruction memory and decoded by Machine/Scalar.lean and Machine/Tile.lean. -/
namespace Sys2Proof

/-- The command that a word spells by the table's bits: none, since no row gives any. -/
def decodeTableWord (_nbits _w : Nat) : Option Instr := none

end Sys2Proof
end

