-- ==== Sys2Proof/Machine/Lath.lean ====
section
/-! DEFINITION. Lath blocks, quantising, the planer and the kerf (04, R113-R144), on exact values. -/
namespace Sys2Proof.Machine

/-! ### Exact values -/

def FV.isNan : FV → Bool | .nan => true | _ => false
def FV.isInf : FV → Bool | .inf _ => true | _ => false
def FV.neg : FV → FV
  | .nan => .nan
  | .inf n => .inf (!n)
  | .fin n m e => .fin (!n) m e
def FV.sign : FV → Bool
  | .nan => false
  | .inf n => n
  | .fin n _ _ => n
/-- The value times 2^k. -/
def FV.scale (k : Int) : FV → FV
  | .fin n m e => .fin n m (e + k)
  | v => v

/-- A finite value as a signed multiple of a power of two. -/
def FV.signed : FV → Int × Int
  | .fin n m e => (if n then -(m : Int) else (m : Int), e)
  | _ => (0, 0)

/-- Exact sum of two signed multiples. -/
def addDy (a b : Int × Int) : Int × Int :=
  let e := if a.2 ≤ b.2 then a.2 else b.2
  (a.1 * 2 ^ (a.2 - e).toNat + b.1 * 2 ^ (b.2 - e).toNat, e)

def FV.ofSigned (a : Int × Int) : FV := .fin (decide (a.1 < 0)) a.1.natAbs a.2

/-- Exact sum of a list of terms with the special values of R134: any NaN gives NaN, infinities of both signs give
NaN, an exact zero is −0.0 only when every term is −0.0. -/
def sumFV (l : List FV) : FV :=
  if l.any FV.isNan then .nan
  else if l.any (fun v => v.isInf && v.sign) && l.any (fun v => v.isInf && !v.sign) then .nan
  else if l.any (fun v => v.isInf && v.sign) then .inf true
  else if l.any (fun v => v.isInf) then .inf false
  else
    let t := l.foldl (fun a v => addDy a v.signed) (0, 0)
    if t.1 = 0 then .fin (l.all fun v => v.sign) 0 0 else FV.ofSigned t

/-- Is |a| ≤ |b| × 2^k for finite values? -/
def FV.absLe (a b : FV) (k : Int) : Bool :=
  match a, b with
  | .fin _ m e, .fin _ m' e' =>
    let f := e' + k
    let g := if e ≤ f then e else f
    decide (m * 2 ^ (e - g).toNat ≤ m' * 2 ^ (f - g).toNat)
  | _, _ => false

/-- The largest magnitude of the finite values of a list, 0 if there is none. -/
def maxAbs (l : List FV) : FV :=
  l.foldl (fun a v => match v with
    | .fin _ m e => if FV.absLe (.fin false m e) a 0 then a else .fin false m e
    | _ => a) (.fin false 0 0)

def FV.isZero : FV → Bool
  | .fin _ m _ => m == 0
  | _ => false

/-- floor(log2 |v|) of a nonzero finite value. -/
def FV.log2 : FV → Int
  | .fin _ m e => (Nat.log2 m : Int) + e
  | _ => 0

/-- The integer nearest to v / 2^g, ties to even. -/
def FV.rneInt (v : FV) (g : Int) : Int :=
  match v with
  | .fin n m e => let q : Int := (rneGrid m e g).1; if n then -q else q
  | _ => 0

/-- A value rounded to a format (R86, R101). -/
def FFmt.roundFV (f : FFmt) : FV → Nat × FpFlags
  | .nan => (f.nan, fNone)
  | .inf n => (f.infEnc n, fNone)
  | .fin n m e => f.round n m e

def clampInt (lo hi v : Int) : Int := if v < lo then lo else if hi < v then hi else v

/-! ### Blocks (R113-R118) -/

/-- Bytes of a slot (R117). -/
def slotBytes (nmax : Nat) : Nat := 2 + 4 * nmax

/-- The payload code of an integer of width n (R115). -/
def qCode (n : Nat) (q : Int) : Nat :=
  if n = 1 then (if q < 0 then 1 else 0) else (q % (2 ^ n : Nat)).toNat

/-- The integer of a payload code (R115). -/
def qOf (n code : Nat) : Int :=
  if n = 1 then (if code = 0 then 1 else -1)
  else if code ≥ 2 ^ (n - 1) then (code : Int) - (2 ^ n : Nat) else code

/-- Codes packed `n` bits apart, element 0 lowest (R116). -/
def packBits (n : Nat) : List Nat → Nat
  | [] => 0
  | c :: r => c + 2 ^ n * packBits n r

/-- A block as the bytes of a slot of `nmax` (R114, R116, R117). -/
def Blk.bytes (b : Blk) (nmax : Nat) : List Byte :=
  let hd := leBytes 2 (b.u + (b.w - 1) * 2 ^ 8 + b.rot * 2 ^ 11)
  let pay := leBytes (4 * b.w) (packBits b.w (b.q.map (qCode b.w)))
  hd ++ pay ++ List.replicate (slotBytes nmax - 2 - 4 * b.w) 0#8

/-- The block a slot holds; header reserved bits and bytes beyond the block are ignored (R114, R117). -/
def Blk.ofBytes (l : List Byte) (poison : Bool) : Blk :=
  let h := leNat (l.take 2)
  let w := bitsOf h 10 8 + 1
  let v := leNat ((l.drop 2).take (4 * w))
  { w := w, u := bitsOf h 7 0, rot := bitsOf h 12 11, poison := poison
    q := (List.range 32).map fun i => qOf w (v / 2 ^ (i * w) % 2 ^ w) }

/-- The exact values of a block (R115). -/
def Blk.vals (b : Blk) : List FV := b.q.map fun q => FV.ofSigned (q, (b.u : Int) - 127)

/-! ### Quantising (R121-R126) -/

/-- The scale of a group at width n: over its elements within the K extent (R121). -/
def quantScale (xs : List FV) (n : Nat) : Nat :=
  let m := maxAbs xs
  if m.isZero then 0
  else if n ≥ 2 then (clampInt 0 255 (m.log2 - n + 129)).toNat
  else
    let t := (xs.filter fun v => !v.isNan && !v.isInf).foldl
      (fun a v => addDy a ((v.signed.1.natAbs : Int), v.signed.2)) (0, 0)
    let sm := t.1.natAbs
    let c := xs.length
    -- floor(log2(sm / c)) + exponent: k with c * 2^k ≤ sm < c * 2^(k+1)
    let k0 : Int := (Nat.log2 sm : Int) - (Nat.log2 c : Int)
    let le (k : Int) (a b : Nat) : Bool :=  -- a * 2^k ≤ b
      if 0 ≤ k then decide (a * 2 ^ k.toNat ≤ b) else decide (a ≤ b * 2 ^ (-k).toNat)
    let k := if le k0 c sm then k0 else k0 - 1
    -- a > 1.5 * 2^k, that is not (2 * sm ≤ 3 * c * 2^k)
    let up : Bool := if 0 ≤ k then decide (2 * sm > 3 * c * 2 ^ k.toNat) else decide (2 * sm * 2 ^ (-k).toNat > 3 * c)
    (clampInt 0 255 (k + t.2 + (if up then 1 else 0) + 127)).toNat

/-- One element at a scale: its integer, whether it was clamped (R121, R124). -/
def quantElem (n u : Nat) (x : FV) : Int × Bool :=
  match x with
  | .nan => (if n = 1 then 1 else 0, false)
  | .inf s =>
    if n = 1 then (if s then -1 else 1, true)
    else (if s then -(2 ^ (n - 1) : Nat) else (2 ^ (n - 1) : Nat) - 1, true)
  | v =>
    if n = 1 then (if v.sign then -1 else 1, false)
    else
      let r := v.rneInt ((u : Int) - 127)
      let q := clampInt (-(2 ^ (n - 1) : Nat)) ((2 ^ (n - 1) : Nat) - 1) r
      (q, decide (q ≠ r))

/-- Does q × 2^(u−127) equal the element? -/
def quantExact (u : Nat) (x : FV) (q : Int) : Bool :=
  match x with
  | .fin n m e => decide ((addDy (if n then -(m : Int) else (m : Int), e) (-q, (u : Int) - 127)).1 = 0)
  | _ => false

/-- What quantising one scale group gives: scale, integers, flags, clamps. -/
structure QuantRes where
  u : Nat
  q : List Int
  flags : FpFlags
  clamps : Nat

/-- Quantise one scale group (R121, R123, R124): `xs` its elements, of which the first `c` lie within the K extent. One whose
elements are all zero raises no flag (R126). -/
def quantGroup (xs : List FV) (c n : Nat) : QuantRes :=
  let ins := xs.take c
  let u := quantScale ins n
  let r := ins.map (quantElem n u)
  let inv := ins.any fun v => v.isNan || v.isInf
  let inex := !(ins.all FV.isZero) && (ins.zip r).any fun e => !quantExact u e.1 e.2.1
  { u := u
    q := r.map (·.1) ++ List.replicate (xs.length - c) (if n = 1 then 1 else 0)
    flags := (if inv then fInvalid else fNone) ||| (if inex then fInexact else fNone)
    clamps := (r.filter (·.2)).length }

/-- Does a width meet the bound of R125: every finite element within m × 2^(−tol)? -/
def widthMeets (xs : List FV) (c n tol : Nat) : Bool :=
  let ins := xs.take c
  let g := quantGroup xs c n
  let m := maxAbs ins
  (ins.zip g.q).all fun e => match e.1 with
    | .fin s mm ee => FV.absLe (FV.ofSigned (addDy (if s then -(mm : Int) else (mm : Int), ee) (-e.2, (g.u : Int) - 127)))
        m (-(tol : Int))
    | _ => true

/-- The width of a block (R125): the first from `wmin` upward that meets the bound, else `wmax`. -/
def pickWidth (xs : List FV) (c tol : Nat) : Nat → Nat → Nat
  | 0, w => w
  | f + 1, w => if widthMeets xs c w tol then w else pickWidth xs c tol f (w + 1)

/-- The fields of a transfer that read or write Lath (R119). -/
structure LathFields where
  nmax : Nat
  cls : Nat
  rot : Nat
  role : Nat
  wmin : Nat
  wmax : Nat
  tol : Nat
  group : Nat
  seed : Nat
  kbase : Nat
  deriving DecidableEq, Repr

def rotSize : Nat → Nat
  | 0 => 0 | 1 => 32 | 2 => 64 | _ => 128

def groupSize : Nat → Nat
  | 0 => 1 | 1 => 2 | 2 => 8 | _ => 32

/-- The elements of group `g` of `len` elements from a vector, padded beyond its end. -/
def groupElems {α : Type} (xs : List α) (g len : Nat) (pad : α) : List α :=
  let t := (xs.drop (g * len)).take len
  t ++ List.replicate (len - t.length) pad

/-- Quantise a vector into blocks (R118, R121, R125); `pz` marks poisoned elements, which poison every block of their
group (R252); such a group raises no flag and counts no clamp. (DESIGN CHOICE, log 101). -/
def quantVec (f : LathFields) (xs : List FV) (pz : List Bool) : List Blk × FpFlags × Nat :=
  let gl := 32 * groupSize f.group
  let ng := (xs.length + gl - 1) / gl
  (List.range ng).foldl (fun acc g =>
    let c := min gl (xs.length - g * gl)
    let e := groupElems xs g gl (.fin false 0 0)
    let bad := ((pz.drop (g * gl)).take gl).any id
    let w := if f.wmin < f.wmax then pickWidth e c f.tol (f.wmax - f.wmin) f.wmin else f.wmax
    let r := quantGroup e c w
    let nb := min (groupSize f.group) ((c + 31) / 32)
    let bs := (List.range nb).map fun b => { w := w, u := r.u, rot := f.rot, q := (r.q.drop (32 * b)).take 32,
                                             poison := bad : Blk }
    (acc.1 ++ bs, acc.2.1 ||| (if bad then fNone else r.flags), acc.2.2 + (if bad then 0 else r.clamps))) ([], fNone, 0)

/-! ### The planer (R134-R137) -/

def mask64 (v : Nat) : Nat := v % 2 ^ 64

/-- `planer_sign(seed, k)` is −1? (R135) -/
def planerNeg (seed k : Nat) : Bool :=
  let z := mask64 (Nat.xor seed k + 0x9E3779B97F4A7C15)
  let z := mask64 (Nat.xor z (z / 2 ^ 30) * 0xBF58476D1CE4E5B9)
  let z := mask64 (Nat.xor z (z / 2 ^ 27) * 0x94D049BB133111EB)
  (Nat.xor z (z / 2 ^ 31)).testBit 63

/-- Is the population count of a number below 2^8 odd? -/
def oddBits (v : Nat) : Bool :=
  (List.range 8).foldl (fun b i => b != v.testBit i) false

/-- One row of the rotation: signed terms of row r (R134). -/
def planerRow (s g0 seed r : Nat) (x : List FV) : List FV :=
  ((List.range s).zip x).map fun e => if oddBits (r &&& e.1) != planerNeg seed (g0 + e.1) then e.2.neg else e.2

def log2s (s : Nat) : Int := (Nat.log2 s : Int)

/-- `rotate` (R134). -/
def rotateGroup (s g0 seed role : Nat) (x : List FV) : List FV :=
  (List.range s).map fun r =>
    let y := sumFV (planerRow s g0 seed r x)
    if role = 1 then y.scale (-log2s s) else y

/-- Undo the rotation: D × H / s for role 0, D × H for role 1 (R137). (DEDUCED, log 94). -/
def unrotateGroup (s g0 seed role : Nat) (y : List FV) : List FV :=
  (List.range s).map fun c =>
    let t := sumFV (((List.range s).zip y).map fun e => if oddBits (e.1 &&& c) != planerNeg seed (g0 + c) then e.2.neg else e.2)
    if role = 1 then t else t.scale (-log2s s)

/-- Apply a function to each group of s elements of a vector, with the K index of the group. -/
def byGroups (s kbase : Nat) (f : Nat → List FV → List FV) (x : List FV) : List FV :=
  (List.range (x.length / s)).flatMap fun g => f (kbase + g * s) ((x.drop (g * s)).take s)

/-- Every element of a group is poisoned when one is (R252). -/
def spreadPoison (s : Nat) (pz : List Bool) : List Bool :=
  (List.range (pz.length / s)).flatMap fun g => List.replicate s (((pz.drop (g * s)).take s).any id)

/-- The planer over a vector; invalid for a NaN input and for an output that infinities of both signs make NaN. -/
def planer (f : LathFields) (x : List FV) (pz : List Bool) : List FV × List Bool × FpFlags :=
  let s := rotSize f.rot
  if s = 0 then (x, pz, fNone)
  else
    let y := byGroups s f.kbase (fun g0 v => rotateGroup s g0 f.seed f.role v) x
    (y, spreadPoison s pz, if y.any FV.isNan then fInvalid else fNone)

/-! ### The kerf (R140-R144) -/

/-- The signed value of a kerf byte. -/
def kerfOf (b : Byte) : Int := b.toInt

/-- The target of an element: x + k/128 × 2^(u_old − 127) (R141); an exact zero is −0.0 only for x = −0.0 with k = 0. (DESIGN
CHOICE, log 101). -/
def kerfTarget (x : FV) (k : Int) (uOld : Nat) : FV :=
  match x with
  | .fin n m e =>
    let t := addDy (if n then -(m : Int) else (m : Int), e) (k, (uOld : Int) - 134)
    if t.1 = 0 then .fin (n && decide (m = 0) && decide (k = 0)) 0 0 else FV.ofSigned t
  | v => v

/-- The new kerf byte of an element and whether it was clamped (R141, R144). -/
def kerfNew (t : FV) (q : Int) (uNew : Nat) : Byte × Bool :=
  match t with
  | .fin n m e =>
    let d := addDy (if n then -(m : Int) else (m : Int), e) (-q, (uNew : Int) - 127)
    let r := (FV.ofSigned d).rneInt ((uNew : Int) - 134)
    let c := clampInt (-128) 127 r
    (BitVec.ofInt 8 c, decide (c ≠ r))
  | _ => (0#8, false)

/-! ### Packing classes and lanes (R58, R59, R128-R131) -/

/-- Products per cell of a class: 1, 4, 16, 64. -/
def clsG : Nat → Nat | 0 => 1 | 1 => 4 | 2 => 16 | _ => 64
/-- Bits of a lane element of a class: 8, 4, 2, 1, which is also the widest width of the class. -/
def clsB : Nat → Nat | 0 => 8 | 1 => 4 | 2 => 2 | _ => 1
/-- The K depth of a pass: 16 elements for BF16 and FP16, 16 × g for a class (R49, R58). -/
def kdepth (fmt cls : Nat) : Nat := if fmt = 2 then 16 * clsG cls else 16

/-- Bytes of a lane: 2 for BF16 and FP16; 1, 2, 4, 8 for the classes. -/
def laneBytes (lfmt : Nat) : Nat :=
  match lfmt with | 0 => 2 | 1 => 2 | 2 => 1 | 3 => 2 | 4 => 4 | _ => 8

/-- Align the blocks of one pass to the group scale U (R130): U, the aligned integers by block, the blocks changed. -/
def alignBlocks (cls : Nat) (bs : List Blk) : Nat × List (List Int) × Nat :=
  let U : Nat := (bs.filter fun b => !b.poison).foldl (fun a b => max a b.u) 0
  let sh (b : Blk) : List Int :=
    if b.poison then b.q.map fun _ => 0
    else if cls = 3 then b.q
    else b.q.map fun q => (FV.ofSigned (q, 0)).rneInt ((U : Int) - b.u)
  (U, bs.map sh, (bs.filter fun b => !b.poison && decide (b.u < U)).length)

end Sys2Proof.Machine
end

