-- ==== Sys2Proof/Config.lean ====
section
/-! DEFINITION. What an implementation fixes and the free values: constants without a body, of which nothing can be
proved but what holds of every value. -/
namespace Sys2Proof.Config

/-- A byte of HBM that nothing has written since the last start, or that was written under another key: the
decryption of unspecified contents (R250). Arguments: package start, key generation of the partition, byte address. (DESIGN
CHOICE, log 6). -/
opaque unwritten (start gen addr : Nat) : Byte

/-- A fresh value of the random source of Welyar (R250, R505, R570): the argument is the draw counter of the state. (DESIGN
CHOICE, log 8). -/
opaque random (draw : Nat) : BitVec 256

/-- What GETS item 1 returns on a core that has no logical number (a reserve core, R157): the spec states none. (DESIGN
CHOICE, log 13). -/
opaque noLcore (core : Nat) : BitVec 32

/-- What a dequantise finds for the bytes of a block whose width exceeds `nmax`, beyond its slot (R117, R127): the spec
states none. Arguments: the virtual address of the slot, the byte within the block. (DESIGN CHOICE, log 17). -/
opaque lathBeyond (slot byte : Nat) : Byte

/-- The sections of an inspection record and their number (R424): the spec lists what they hold and gives no offsets
within an entry. `n` counts the records captured. (DEDUCED, log 78). -/
opaque inspectBody (n : Nat) : List Byte
opaque inspectSections (n : Nat) : BitVec 32

/-- The sections that are left when they must fit in `room` bytes (R425). -/
opaque inspectCut (n room : Nat) : List Byte

/-- The DRAM row of a channel offset: the interleave of banks and rows is the controller's (R240). (DESIGN CHOICE, log 21). -/
opaque hbmRow (chan off : Nat) : Nat

/-- The latency of a latency-class read of a transfer or an engine, in pt (R246, R258): the model serves such a read in one
step. (DESIGN CHOICE, log 103). -/
opaque readLatency (draw : Nat) : BitVec 16

/-- What a joiner computes with for a state element whose address does not translate: its outputs are poison (R309),
and the spec states no value for the row sum it enters. (DESIGN CHOICE, log 25). -/
opaque jnrUnread (va : Nat) : BitVec 32

/-- The info of the HKDF that derives the next key (R511): "slice rekey", the slice key and the generation number; the
spec gives no widths for the last two. (DESIGN CHOICE, log 29). -/
opaque rekeyInfo (slice gen : Nat) : List Byte

/-- The head fields and the payload of a link-control or idle frame: the spec gives the uses of the first and no layout
(R329, R331, R336, R358, R360), and of the second its type alone (R334). Arguments: kind, two numbers. (DESIGN CHOICE, log 26). -/
opaque linkHead (kind a b : Nat) : BitVec 128
opaque linkPayload (kind a b : Nat) : BitVec 8192

/-- The argument of PLDM event 0x0004 when software asks for the power cycle (R533 states it for an escalation). (DESIGN
CHOICE, log 34). -/
opaque cycleArg (draw : Nat) : BitVec 16

/-- The signing key slot under whose two keys the signatures of an image, a probe pack or a debug token verify: the first
of the slots that are not revoked (R501). Arguments: revoke fuses, the bytes. (DEDUCED, log 10). -/
opaque authentic (revoked : BitVec 4) (bytes : List Byte) : Option Nat

/-- The fused device serial (R518). -/
opaque serial : BitVec 64

/-- The DER chain of a signer (R510): the SHA-384 digest of its root certificate where the chain verifies; whether an
ECDSA P-384 signature verifies under its last certificate. -/
opaque chainRoot (chain : List Byte) : Option (List Byte)
opaque ecdsaOk (chain msg sig : List Byte) : Bool

/-- HPKE opening of a key blob under the exchange key of a start (R505, R509): the random value of the key, info, enc,
ct. The device secret is fused and no interface returns it (R495). (DEDUCED, log 10). -/
opaque hpkeOpen (exchange : BitVec 256) (info enc ct : List Byte) : Option (List Byte)

/-- Measurements whose byte encoding the spec does not state (R507): mask ROM; `svn_min`, revoke fuses and serial; the
exchange public key; a partition's descriptor, class, root, slice key and plane mask. -/
opaque measureRom : List Byte
opaque measureHw (svnMin revoked : Nat) (serial : BitVec 64) : List Byte
opaque exchangePub (exchange : BitVec 256) : List Byte
opaque measurePart (desc root : List Byte) (cls slice planes : Nat) : List Byte

/-- The certificate chain of slot 0 at a start (R506), the signatures and session data of SPDM replies, a chunk. (DESIGN
CHOICE, log 54). -/
opaque certChain (exchange : BitVec 256) (image : List Byte) : List Byte
opaque spdmSigned (draw : Nat) : List Byte
opaque spdmChunk (draw : Nat) : List Byte

/-- What an HBM stack answers to a test operation: its device ID, temperature or failing rows (R577). (DEDUCED, log 59). -/
opaque hbmReply (draw : Nat) : BitVec 64

/-- The spare rows of an HBM bank (R447, R578): the stack's, which the spec does not number. (DESIGN CHOICE, log 21). -/
opaque spareRows : Nat

/-- What a probe window writes into the save area for a core: R451 lists the contents and gives no order. (DESIGN CHOICE,
log 38). -/
opaque saveImage (draw : Nat) : List Byte

/-- Read data of a debug access or a register-target access that reads nothing (R531, R573): the spec states no value.
(DEDUCED, log 69). -/
opaque undriven (draw : Nat) : BitVec 32

/-- PLDM contents the spec leaves to the standards (R532): the version of a type, a platform descriptor record, the FRU
table metadata. -/
opaque pldmVersion (ty : Nat) : BitVec 32
opaque pdr (handle : Nat) : List Byte
opaque fruMeta : List Byte

/-- The fused supply trim of a bent, in mV above −20 (R456). (DESIGN CHOICE, log 79). -/
opaque trim (bent : Nat) : Fin 41

/-- The thermal shims a fixed bent takes for a temperature difference to a neighbour: R459 states no number. (DESIGN
CHOICE, log 79). -/
opaque clampShim (draw : Nat) : Fin 61

/-- One less than the records that the collective engine's queue toward the fabric holds (R274): the spec gives no length.
(DESIGN CHOICE, log 105). -/
opaque colQueueLen : Nat

end Sys2Proof.Config
end

