-- ==== Sys2Proof/Machine/State.lean ====
section
/-! DEFINITION. The state of the package: everything the spec gives it, as plain data, and its value at power-up.
Registers that a table gives live in `regs` under their names; those that show structured state are views
(`Sys2Proof.Machine.readReg`). -/
namespace Sys2Proof.Machine

/-- The name of one register: which register, of which unit (the number of the core, bay, bent, die, channel, port,
partition or VF it belongs to), which entry. -/
structure RKey where
  reg : Reg
  unit : Nat := 0
  idx : Nat := 0
  deriving DecidableEq, Repr

/-- A table of a partition's page table (R388): its place in the region, its level, the VA bits above its index. -/
structure PtTable where
  slot : Nat
  level : Nat
  pre : Nat
  deriving DecidableEq, Repr

/-- A leaf of a page table (R388): package page (address / 2 MiB), `w`, `lg`. -/
structure Leaf where
  page : Nat
  w : Bool
  lg : Bool
  deriving DecidableEq, Repr

/-- A partition (R380-R385, R388, R402, R403). Masks are lists of unit numbers; the lists per die hold four. -/
structure Part where
  built : Bool := false
  desc : List Byte := []
  unchecked : Bool := false
  bents : List Nat := []
  chans : List Nat := []
  ports : List Nat := []
  slice : BitVec 24 := 0#24
  ways : List Nat := [0, 0, 0, 0]
  pegblk : List Nat := [0, 0, 0, 0]
  pools : List Nat := [0, 0, 0, 0]
  share : List Nat := [0, 0, 0, 0]
  bundles : List Nat := [0, 0, 0, 0]
  ptbase : Nat := 0
  ptpages : Nat := 0
  tables : List PtTable := []
  leaves : List (Nat × Leaf) := []
  prio : Bool := false
  epoch : BitVec 8 := 0#8
  coreMap : List Nat := []
  coreEpoch : List (BitVec 8) := []
  migTime : List (Option Time) := []
  reserve : List Nat := []
  fenced : Bool := false
  parked : Bool := false
  resetWait : Option Nat := none
  window : Option Window := none
  stopSince : Option Time := none
  probedAt : List (Nat × Time) := []
  dldSince : Option Time := none
  dldFired : Bool := false
  inspEnd : Option Nat := none
  reset : Option (Nat × Time) := none
  deriving DecidableEq, Repr

/-- A virtual function (R391, R392, R395, R524, R527, R555, R559, R561): its binding, its MSI-X table (address, data), mask
and pending bits, its power state, the descriptor in progress of each queue, the dump in progress, the end of the last
dump in the ring and the core addresses it named, the spine queues whose dropped events its log has to mark, whether its
full ring dropped one. (PRESUMED, log 67). -/
structure Vf where
  bound : Option Nat := none
  hshare : Nat := 0
  msix : List (Nat × (BitVec 64 × Word)) := []
  msixMask : BitVec 64 := BitVec.allOnes 64
  msixPend : BitVec 64 := 0#64
  d3 : Bool := false
  jobs : List (Nat × HqJob) := []
  dump : Option Dump := none
  dumpEnd : Option Nat := none
  dumpWhere : List Nat := []
  logMarks : List Nat := []
  logMark : Bool := false
  deriving DecidableEq, Repr

/-- An event entry (R557). -/
structure Event where
  t : Time
  code : Nat
  part : Nat
  src : Word
  arg0 : BitVec 64
  arg1 : BitVec 64
  lost : Bool := false
  unaligned : Bool := false
  deriving DecidableEq, Repr

/-- A signal in flight to a peg (R192, R195, R196, R198, R402): its source for the order of R195 (`engine` after cores),
the partition it acts for, and, for a completion signal, the logical core and core epoch it carries. -/
structure Signal where
  id : Nat
  home : PegHome
  amount : Word
  engine : Bool
  die : Nat
  core : Nat
  ctx : Nat
  part : Nat
  carries : Option (Nat × BitVec 8) := none
  deriving DecidableEq, Repr

/-- An element supplied to a collective engine in the present cycle: partition, entry, member position, element, the core
and the number of the first record that carries it. -/
structure ColSup where
  part : Nat
  truss : Nat
  pos : Nat
  x : Nat
  core : Nat
  rid : Nat
  deriving DecidableEq, Repr

/-- What the present spine cycle has seen, kept to order what falls in one cycle; the tick clears it (the model's own, log
100): the records latched with their ranks (R217, R289, R365), the bytes that memory requests wrote with the rank of the
writer (R20), the dies whose collective engine held a supply (R291), the elements supplied (R289), the tenant roots of the
partitions dissolved (R517), the lowest cap written (R469), the partitions built (R578) and fenced (R579), the registers that
software wrote with the rank of the source served last (R544). -/
structure Cycle where
  latched : List (RKey × Nat) := []
  writes : List (Nat × Nat) := []
  held : List Nat := []
  sup : List ColSup := []
  roots : List (Nat × List Byte) := []
  cap : Option Nat := none
  builds : List Nat := []
  fences : List Nat := []
  soft : List (RKey × Nat) := []
  deriving DecidableEq, Repr

/-- What leaves the package and is seen outside. -/
inductive Msg
  | msix (fn : Nat) (vec : Nat)
  | pldm (code : Nat) (arg : Nat)
  | line (port : Nat) (lanes : List (Nat × List (BitVec 10)))
  | hostWrite (fn addr : Nat) (data : List (Byte × Bool)) (relaxed : Bool)
  | hostRead (fn : Nat) (data : Option (List (Byte × Bool)))
  | i3c (status : Nat) (data : Option Word)
  | mctp (data : List Byte)
  | pldmReply (r : PldmReply)
  | getDateTime
  | spdm (m : SpdmMsg)
  | drs
  | tdo (bits : Nat)
  | dbg (st : Nat) (data : Word)
  | probePack (data : List Byte)
  | defaultDropped (word : Nat)
  deriving DecidableEq, Repr

/-- Faults of the model. No command of the table needs one: the spec gives every command an effect. -/
inductive Fault
  /-- Raised by nothing: every row of the table has an effect in the spec. Safe. -/
  | none
  deriving DecidableEq, Repr

/-- Refusals of the model. -/
inductive Refusal
  /-- A command whose meaning is not written yet: raised only by its own arm of the dispatch. Safe. -/
  | notModelled (mnemonic : String)
  deriving DecidableEq, Repr

/-- The state of the package (INVENTORY.md, State). (DESIGN CHOICE, log 1). -/
structure State where
  /-- The commands that wait, first in first out (the block's own queue (log 1)). -/
  pending : List Instr := []
  /-- Every register of the register tables under its name, unit and index; one not listed holds the reset value of its table (R13, R14, R540 and the register tables). -/
  regs : List (RKey × Word) := []
  /-- Plumb time, the master copy (R9, R461). -/
  plumb : Time := 0#64
  /-- The clocks of the bents: the cycle in progress, its place in the frame of shims, a clock switch (R456, R460, R470). -/
  bentCyc : List (Nat × BentCyc) := []
  /-- What an island's copy differs from its spine's, the skew of R579 apart, and a spine's from die 0's (R11, R33, R466). -/
  isle : List (Nat × Time) := []
  /-- The place of the spine cycle in a frame of 64, where back-pressure is placed (R470, R579). -/
  spinePos : Nat := 0
  /-- The islands whose copies hold until their spines have caught up (R466). -/
  isleHold : List Nat := []
  /-- The model's own: how many free values have been drawn (not of the spec (log 8)). -/
  draws : Nat := 0
  /-- Memory: HBM, scratchpads and bay buffers as (address, byte) pairs in canonical form (R24, R25, R27, R250). -/
  mem : List (Nat × Byte) := []
  /-- The poisoned 32-byte granules, rising (R251, R252). -/
  poison : List Nat := []
  /-- The start count (R339, R435). -/
  starts : Nat := 0
  /-- Welyar has configured the cores (R32, R502). -/
  configured : Bool := false
  /-- The class of a core and its bad column where it is not healthy (R65, R75). -/
  classes : List (Nat × (Nat × Nat)) := []
  /-- The cores: contexts, instruction memory, array, rings (below) (R38, R69). -/
  cores : List (Nat × Core) := []
  /-- Transfers issued and not complete (below) (R167, R220). -/
  xfers : List Xfer := []
  /-- CSENDs issued and not complete (R165, R167). -/
  sends : List Csend := []
  /-- The drained row of a core that the collective engine has not accepted (R56, R272). -/
  supplies : List (Nat × Supply) := []
  /-- MMUL.AGs whose lines the collective engine still produces (R163, R288). -/
  ags : List AgProd := []
  /-- Installed truss entries (below) (R262, R264). -/
  trusses : List ((Nat × Nat) × Truss) := []
  /-- Collective records on their way (R266). -/
  colrecs : List ColRec := []
  /-- Installed joiner contexts (below) (R293, R294). -/
  jctxs : List ((Nat × Nat) × JCtx) := []
  /-- Loaded joiner programs (R299, R323). -/
  jprogs : List (Nat × JProg) := []
  /-- The model's own: the next number of a transfer, signal, record or reply (not of the spec (log 9)). -/
  nextId : Nat := 0
  /-- The waiter lists of the pegs, in the order of recording (R193, R194, R200). -/
  waiters : List Waiter := []
  /-- Signals in flight (R192, R196). -/
  signals : List Signal := []
  /-- Pegs poisoned by a parity error (R439). -/
  badPegs : List PegHome := []
  /-- Owner tags of the owned buffers, allocs that wait (R207, R208, R210). -/
  pools : List (Nat × Pool) := []
  /-- The lines of the deck caches: way, partition, keep, dirty, what HBM holds (R233-R238). -/
  deck : List DeckLine := []
  /-- The command a bay controller serves (R171). -/
  bays : List (Nat × BayCmd) := []
  /-- Replies to memory requests on their way (R414, R416). -/
  replies : List Reply := []
  /-- Replies their requesters took (what is seen of them) (R416). -/
  taken : List Reply := []
  /-- The error history of a channel (R443). -/
  chanErr : List (Nat × ChanErr) := []
  /-- What the last register read answered (what is seen of it) (R541, R547). -/
  lastRead : Option Word := none
  /-- The eight partitions (below) (R380-R385). -/
  parts : Vector Part 8 := Vector.replicate 8 {}
  /-- The PF and 63 VFs (below) (R391, R395, R524). -/
  vfs : List (Nat × Vf) := []
  /-- The event queue of each spine (R559). -/
  evq : Vector (List Event) 4 := Vector.replicate 4 []
  /-- The queue dropped an event since its last entry was taken (R559). -/
  evDrop : Vector Bool 4 := Vector.replicate 4 false
  /-- Suspect units and since when (R443). -/
  suspects : List ((Nat × Nat) × Time) := []
  /-- When each unit became suspect last (R443). -/
  suspectT : List ((Nat × Nat) × Time) := []
  /-- Units whose retirement is decided (R443, R504). -/
  retired : List (Nat × Nat) := []
  /-- Inspection records captured (R421). -/
  inspects : Nat := 0
  /-- The record of the last package reset or power cycle (R425). -/
  pkgRecord : List Byte := []
  /-- The epoch of each engine (R414). -/
  engEpoch : List (Nat × BitVec 8) := []
  /-- The times of the resets of a unit that Welyar ordered (R413). -/
  orders : List ((Nat × Nat) × List Time) := []
  /-- Cores whose substitution is pending (R444). -/
  pendingSub : List Nat := []
  /-- The times of the residue mismatches of a collective engine (R280). -/
  resTimes : List (Nat × List Time) := []
  /-- The HI latch of each source (R547). -/
  latches : List ((Src × RKey) × Word) := []
  /-- What has left the package: messages, frames, host writes, replies (R395, R528, R531-R533). -/
  msgs : List Msg := []
  /-- The eight Lumder ports (below) (R328, R355). -/
  ports : Vector Port 8 := Vector.replicate 8 {}
  /-- The sending side of each flow (R342, R351). -/
  sflows : List (FlowKey × SFlow) := []
  /-- The receiving side of each flow (R344-R346). -/
  rflows : List (FlowKey × RFlow) := []
  /-- The replay stores (R347). -/
  replay : List Replay := []
  /-- Naks counted for a (destination, port) pair and since when (R346). -/
  avoid : List ((Nat × Nat) × (Nat × Time)) := []
  /-- Peg messages delivered and not applied (R199, R350). -/
  pegMsgs : List PegMsg := []
  /-- Tray-window messages received and not served (R354). -/
  twIn : List TwMsg := []
  /-- Tray-window requests that await a reply (R354). -/
  twOut : List TwReq := []
  /-- How tray-window requests of Welyar and the export engines ended (what is seen of them) (R354). -/
  twDone : List TwEnd := []
  /-- The key slots: two a slice, two of the tray (R338, R508). -/
  keys : List ((Nat × Nat) × List Byte) := []
  /-- When a slice or the tray switched to its next key (R511). -/
  keySwitch : List (Nat × Time) := []
  /-- The slot of the tray key in use (R338, R511). -/
  trayIdx : Nat := 0
  /-- The four d2d links and their 48 bundles (below) (R366, R369, R371). -/
  links : Vector Link 4 := Vector.replicate 4 {}
  /-- The enabled mesh links, each by its two bents, the lower first (R387). -/
  mesh : List (Nat × Nat) := []
  /-- When the last package reset fenced (R418, R430). -/
  pkgFence : Option Time := none
  /-- The PLDM event receiver (R533). -/
  pldmRecv : Option Nat := none
  /-- PLDM events kept until a receiver is set (R533). -/
  pldmQueue : List (Nat × Nat) := []
  /-- The activities that run (R515, R516). -/
  maintRun : List Activity := []
  /-- The activities that wait (R516, R520). -/
  maintQueue : List Activity := []
  /-- The generation of the tray key (R511). -/
  trayGen : Nat := 0
  /-- The package as a whole: off, held, on, failed, halted (R32, R371, R430, R497, R503). -/
  pkg : PkgSt := .off
  /-- The level of PKG_RESET_N (R32, R535). -/
  resetPin : Bool := false
  /-- PWR_OK (R32, R483, R535). -/
  pwrOk : Bool := false
  /-- THERMTRIP_N (R479, R535). -/
  thermtripN : Bool := true
  /-- A partition has accepted work since the start (R465). -/
  worked : Bool := false
  /-- What the governor and the shutdown sequence keep (below) (R461-R487). -/
  power : Power := {}
  /-- The boot flash and the fuses (below) (R496, R501, R503, R504). -/
  flash : Flash := {}
  /-- The boot in service (below) (R497, R502, R505). -/
  boot : Boot := {}
  /-- The probe pack loaded (R448, R449). -/
  probePack : List Byte := []
  /-- When a unit was last probed (R450). -/
  unitProbed : List ((Nat × Nat) × Time) := []
  /-- Channels being copied to a spare, and since when (R447). -/
  copies : List (Nat × (Nat × Time)) := []
  /-- The instant of slot 1 (R467). -/
  snapAt : Option Time := none
  /-- The instant of slot 0 (R421, R467). -/
  snapWelyar : Option Time := none
  /-- The shadow registers of slots 0 and 1 (R551, R552). -/
  shadow : Vector (List (RKey × Word)) 2 := Vector.replicate 2 []
  /-- The package log (R560). -/
  evlog : List Event := []
  /-- Spine queues whose loss the package log has to mark (R559). -/
  evMarks : List Nat := []
  /-- SPDM sessions (R507). -/
  sessions : List Session := []
  /-- Debug tokens accepted since the start (R569, R570). -/
  tokens : List (List Byte) := []
  /-- The PLDM TID (R532). -/
  tid : Nat := 0
  /-- The JTAG port and its debug access (below) (R571-R573). -/
  tap : Tap := {}
  /-- The repair list: channel, bank, row (R577, R578). -/
  repairs : List (Nat × Nat × Nat) := []
  /-- Channels that an MBIST left zeroed (R577, R578). -/
  zeroed : List Nat := []
  /-- The model's own: what the present spine cycle has seen (not of the spec (log 100)). -/
  cyc : Cycle := {}
  deriving DecidableEq, Repr

/-- The state at power-up. (DESIGN CHOICE, log 7). -/
def State.reset : State := {}

end Sys2Proof.Machine
end

