-- ==== Sys2Proof/Machine/Ops.lean ====
section
/-! DEFINITION. The shared operations over the state: units and their numbers, registers, events and interrupts,
cores and contexts, faults of a context, pegs, memory and its poison, the deck cache, translation. -/
namespace Sys2Proof.Machine

/-! ### Units and their numbers (R5, R7, R8, R13, R21, R25) -/

def coreDie (c : Nat) : Nat := bitsOf c 18 17
def coreBentOf (c : Nat) : Nat := bitsOf c 16 12
def coreBayOf (c : Nat) : Nat := bitsOf c 11 8
def coreNum (c : Nat) : Nat := bitsOf c 7 0

/-- Does the number name a physical core (R5)? -/
def validCore (c : Nat) : Bool := decide (c < 2 ^ 19 ∧ coreBentOf c < 24 ∧ coreNum c < 200)

/-- A core address from its parts. -/
def coreAddr (die bent bay n : Nat) : Nat := die * 2 ^ 17 + bent * 2 ^ 12 + bay * 2 ^ 8 + n

/-- The package bent of a core: die × 24 + bent. -/
def bentOf (c : Nat) : Nat := coreDie c * 24 + coreBentOf c
/-- The package bay of a core (R21). -/
def bayOf (c : Nat) : Nat := bentOf c * 16 + coreBayOf c
/-- Core number `n` of package bay `a`. -/
def coreOfBay (a n : Nat) : Nat := coreAddr (a / 16 / 24) (a / 16 % 24) (a % 16) n
/-- The die of a package bent. -/
def dieOfBent (b : Nat) : Nat := b / 24

/-- The position of a die in ring order 0, 1, 3, 2, and the die at a position (R21). -/
def ringPos : Nat → Nat | 0 => 0 | 1 => 1 | 3 => 2 | _ => 3
def ringDie : Nat → Nat | 0 => 0 | 1 => 1 | 2 => 3 | _ => 2

/-- The clock domain of a package bent and of a spine (R7). -/
def domOfBent (b : Nat) : Nat := b / 24 * 25 + b % 24
def domOfSpine (d : Nat) : Nat := d * 25 + 24

/-- Every core address of a package bent, ascending. -/
def coresOfBent (b : Nat) : List Nat :=
  (List.range 16).flatMap fun a => (List.range 200).map fun n => coreAddr (b / 24) (b % 24) a n

/-! ### Registers -/

/-- The reset value of a register; HBM_CH_MAP starts at the channel's own number (R455); the serial is fused (R518). -/
def RKey.resetVal (k : RKey) : Word :=
  match k.reg with
  | .hbmChMap => BitVec.ofNat 32 (k.unit % 32)
  | .secSerialLo => Config.serial.truncate 32
  | .secSerialHi => (Config.serial >>> 32).truncate 32
  | r => r.resetVal

/-- The stored word of a register. -/
def State.reg (s : State) (k : RKey) : Word := (aget s.regs k).getD k.resetVal

def State.setReg (s : State) (k : RKey) (v : Word) : State := { s with regs := aset s.regs k v }

/-- Bits [hi:lo] of a register. -/
def State.rfld (s : State) (k : RKey) (hi lo : Nat) : Nat := wbits (s.reg k) hi lo

def State.rbit (s : State) (k : RKey) (i : Nat) : Bool := wbit (s.reg k) i

def State.setFld (s : State) (k : RKey) (hi lo v : Nat) : State := s.setReg k (setField (s.reg k) hi lo v)

/-- A counter counts up modulo 2^32 (R548). -/
def State.count (s : State) (r : Reg) (unit n : Nat) : State :=
  s.setReg ⟨r, unit, 0⟩ (s.reg ⟨r, unit, 0⟩ + BitVec.ofNat 32 n)

/-- A 64-bit counter held in two registers counts up modulo 2^64 (R547, R548). -/
def State.count64 (s : State) (lo hi : Reg) (unit n : Nat) : State :=
  let v := (s.reg ⟨lo, unit, 0⟩).toNat + 2 ^ 32 * (s.reg ⟨hi, unit, 0⟩).toNat + n
  (s.setReg ⟨lo, unit, 0⟩ (BitVec.ofNat 32 v)).setReg ⟨hi, unit, 0⟩ (BitVec.ofNat 32 (v / 2 ^ 32))

/-! ### Partitions -/

def State.part (s : State) (p : Nat) : Part := s.parts.getD p {}
def State.setPart (s : State) (p : Nat) (q : Part) : State := { s with parts := s.parts.setIfInBounds p q }

/-- The built partition that holds a package bent, if any. -/
def State.partOfBent (s : State) (b : Nat) : Option Nat :=
  (List.range 8).find? fun p => (s.part p).built && (s.part p).bents.contains b

def State.partOfCore (s : State) (c : Nat) : Option Nat := s.partOfBent (bentOf c)

/-! ### The plumb time of an island (R11, R33, R466, R579) -/

/-- Plumb ticks since a recorded time. -/
def State.since (s : State) (t : Time) : Nat := (s.plumb - t).toNat

/-- The skew of an island's copy under perturbation (R579). -/
def State.skewOf (s : State) (dom : Nat) : Time :=
  if dom % 25 = 24 then 0#64
  else match s.partOfBent (dom / 25 * 24 + dom % 25) with
    | some p => ((s.reg ⟨.tstPertSkew, p, 0⟩).truncate 5 : BitVec 5).signExtend 64
    | none => 0#64

/-- The plumb copy of a spine: what it differs from the master's, that of die 0's spine (R33). -/
def State.spineCopy (s : State) (d : Nat) : Time := s.plumb + (aget s.isle (domOfSpine d)).getD 0#64

/-- The plumb copy of an island: a bent's from its spine's. -/
def State.timeOf (s : State) (dom : Nat) : Time :=
  if dom % 25 = 24 then s.spineCopy (dom / 25)
  else s.spineCopy (dom / 25) + s.skewOf dom + (aget s.isle dom).getD 0#64

/-! ### Events, causes and messages (R394, R395, R537, R557-R559) -/

/-- `src` of an event: unit kind and unit (R557). -/
def srcOf (kind unit : Nat) : Word := BitVec.ofNat 32 (kind * 2 ^ 28 + unit % 2 ^ 28)
def srcCore (c x : Nat) : Word := srcOf 1 (c + x * 2 ^ 19)
def srcBay (a : Nat) : Word := srcOf 2 a
def srcEngine (die eng : Nat) : Word := srcOf 4 (die + eng * 16)

/-- The class of an event code (R557). -/
def evClass (code : Nat) : Nat := code / 256 % 16

/-- An event enters the queue of a spine; a full queue (1,024 entries) drops it, and the loss is kept for the next
entry taken (R559). -/
def State.emit (s : State) (spine : Fin 4) (e : Event) : State :=
  if (s.evq.get spine).length < 1024 then
    { s with evq := s.evq.set spine (s.evq.get spine ++ [e]) spine.isLt }
  else { s with evDrop := s.evDrop.set spine true spine.isLt }

/-- Fin 4 from a die number. -/
def die4 (d : Nat) : Fin 4 := ⟨d % 4, Nat.mod_lt _ (by decide)⟩

/-- Send event `code` for partition `part` (255: the package) from island `dom` of die `d`. (DEDUCED, log 81). -/
def State.event (s : State) (d dom code part : Nat) (src : Word) (a0 a1 : Nat) : State :=
  s.emit (die4 d) { t := s.timeOf dom, code := code, part := part, src := src,
                    arg0 := BitVec.ofNat 64 a0, arg1 := BitVec.ofNat 64 a1 }

/-- A PLDM event (R533): sent to the receiver, or queued until one is set; beyond 64 the oldest is dropped. -/
def State.pldmEvent (s : State) (code arg : Nat) : State :=
  if s.pldmRecv.isSome then { s with msgs := s.msgs ++ [Msg.pldm code (arg % 2 ^ 16)] }
  else
    let q := s.pldmQueue ++ [(code, arg % 2 ^ 16)]
    { s with pldmQueue := if 64 < q.length then q.drop 1 else q }

/-- A virtual function, or the PF at number 0. -/
def State.vf (s : State) (v : Nat) : Vf := (aget s.vfs v).getD {}
def State.setVf (s : State) (v : Nat) (f : Vf) : State := { s with vfs := aset s.vfs v f }

/-- One MSI-X message of a function: a masked vector sets its pending bit instead, as PCIe has it (R395). (PRESUMED, log
67). -/
def State.msix (s : State) (v vec : Nat) : State :=
  let f := s.vf v
  if f.msixMask.getLsbD vec then s.setVf v { f with msixPend := f.msixPend ||| BitVec.ofNat 64 (2 ^ vec) }
  else { s with msgs := s.msgs ++ [.msix v vec] }

/-- The vector of cause `c` of VF `v` (R407). -/
def State.vfVec (s : State) (v c : Nat) : Nat :=
  s.rfld ⟨.prtVfVmap, v, c / 4⟩ (8 * (c % 4) + 5) (8 * (c % 4))

/-- A cause bit of a VF is set; a rise while unmasked sends one message (R395). -/
def State.vfCause (s : State) (v c : Nat) : State :=
  let k : RKey := ⟨.prtVfCause, v, 0⟩
  if s.rbit k c then s
  else
    let s1 := s.setFld k c c 1
    if s.rbit ⟨.prtVfMask, v, 0⟩ c then s1 else s1.msix v (s.vfVec v c)

/-- A cause bit of the PF is set; a rise while unmasked sends one message on PF vector `c` (R537). -/
def State.pfCause (s : State) (c : Nat) : State :=
  let k : RKey := ⟨.mgtHostCause, 0, 0⟩
  if s.rbit k c then s
  else
    let s1 := s.setFld k c c 1
    if s.rbit ⟨.mgtHostMask, 0, 0⟩ c then s1 else s1.msix 0 c

/-- The VFs bound to a partition, ascending. -/
def State.vfsOf (s : State) (p : Nat) : List Nat :=
  (upto 1 63).filter fun v => (s.vf v).bound == some p

/-- A cause of a partition: set on every VF bound to it and on no other, and on the PF when it was set on one
(R394, R396, R537). -/
def State.cause (s : State) (p c : Nat) : State :=
  match s.vfsOf p with
  | [] => s
  | v :: r => (((v :: r).foldl (fun s v => s.vfCause v c) s)).pfCause c

/-! ### Channels and cores -/

/-- The partition that holds a global HBM channel. -/
def State.partOfChan (s : State) (ch : Nat) : Option Nat :=
  (List.range 8).find? fun p => (s.part p).built && (s.part p).chans.contains ch

/-- The partition that holds a port. -/
def State.partOfPort (s : State) (n : Nat) : Option Nat :=
  (List.range 8).find? fun p => (s.part p).built && (s.part p).ports.contains n

/-- The class of a core and its bad column (R65): 0 disabled, 1 healthy, 2 one bad column. -/
def State.coreClass (s : State) (c : Nat) : Nat × Nat :=
  if s.configured && validCore c then (aget s.classes c).getD (1, 0) else (0, 0)

def State.enabled (s : State) (c : Nat) : Bool := decide ((s.coreClass c).1 ≠ 0)

/-- Is the core full-unchecked (R66, R67)? -/
def State.fullUnchecked (s : State) (c : Nat) : Bool :=
  (s.coreClass c).1 == 2 && (match s.partOfCore c with | some p => (s.part p).unchecked | none => false)

/-- Width of an N pass (R49): 15 on a narrow-checked core, else 16. -/
def State.nwidth (s : State) (c : Nat) : Nat :=
  if (s.coreClass c).1 == 2 && !s.fullUnchecked c then 15 else 16

/-- The logical core number of a physical core in its partition (R6, R385, R403). -/
def State.lcoreOf (s : State) (c : Nat) : Option Nat :=
  match s.partOfCore c with
  | none => none
  | some p => (s.part p).coreMap.findIdx? (· == c)

/-- The core epoch of a logical core (R402). -/
def State.cepoch (s : State) (p l : Nat) : BitVec 8 := (s.part p).coreEpoch.getD l 0#8

/-- Is the pair of a logical core and its epoch current (R402)? A request of a core without a logical number passes. -/
def State.fresh (s : State) (p : Nat) : Option Nat → BitVec 8 → Bool
  | none, _ => true
  | some l, e => s.cepoch p l == e

def State.core (s : State) (c : Nat) : Core := (aget s.cores c).getD {}
def State.setCore (s : State) (c : Nat) (k : Core) : State := { s with cores := aset s.cores c k }
def State.ctx (s : State) (c x : Nat) : Ctx := (s.core c).ctxs.getD x {}
def Core.setCtx (k : Core) (x : Nat) (v : Ctx) : Core := { k with ctxs := k.ctxs.setIfInBounds x v }
def State.setCtx (s : State) (c x : Nat) (v : Ctx) : State := s.setCore c ((s.core c).setCtx x v)

/-- In a run (R170): Ready, Running or Waiting. -/
def Ctx.inRun (v : Ctx) : Bool := v.st == .ready || v.st == .running || v.st == .waiting

/-- Does the context have a tile instruction queued or in flight (R76)? -/
def State.tilePending (s : State) (c x : Nat) : Bool :=
  let k := s.core c
  k.queue.any (·.ctx == x) || (match k.run with | some r => r.tile.ctx == x | none => false) ||
    k.tail.any (·.tile.ctx == x)

/-- Transfers and sends of a context that are issued and not complete (R167). -/
def State.xfersOf (s : State) (c x : Nat) : List Xfer := s.xfers.filter fun t => t.core == c && t.ctx == x
def State.sendsOf (s : State) (c x : Nat) : List Csend := s.sends.filter fun t => t.core == c && t.ctx == x

/-- Has the context work outstanding from an ended run (R170)? -/
def State.outstanding (s : State) (c x : Nat) : Bool :=
  s.tilePending c x || !(s.xfersOf c x).isEmpty || !(s.sendsOf c x).isEmpty

/-- Discard the queue entries of a context that have not started (R72). -/
def Core.discard (k : Core) (x : Nat) : Core := { k with queue := k.queue.filter (fun t => t.ctx != x) }

/-- Remove a context from every waiter list (R177, R202). -/
def State.unwait (s : State) (c x : Nat) : State :=
  { s with waiters := s.waiters.filter fun w => !(w.core == c && w.ctx == x && w.jnr.isNone) }

/-- The clock of a bent. -/
def State.bentCycle (s : State) (b : Nat) : BentCyc := (aget s.bentCyc b).getD {}

/-- Is cycle i of a frame of 64 one of its x shims (R470): floor((i + 1) × x / 64) > floor(i × x / 64)? -/
def shimAt (x i : Nat) : Bool := decide (i * x / 64 < (i + 1) * x / 64)

/-- Is the present cycle of a bent a shim (R470)? x = max(x_pwr, x_thm). -/
def State.shimNow (s : State) (b : Nat) : Bool :=
  let k : RKey := ⟨.bentShim, b, 0⟩
  shimAt (max (s.rfld k 5 0) (s.rfld k 13 8)) (s.bentCycle b).pos

/-- Do the units of a partition that a bit of TST_PERT_BP chooses (6 loaders, 7 engine items) accept nothing in the present
spine cycle (R579)? (DESIGN CHOICE, log 109). -/
def State.backPressed (s : State) (p bit : Nat) : Bool :=
  let w := s.reg ⟨.tstPertBp, p, 0⟩
  wbit w bit && shimAt (wbits w 5 0) s.spinePos

/-- Do the cores, loaders and bay controllers of a bent advance in its present cycle? Not while it is stopped (R475, R489),
its clock switches (R460) or the cycle is a shim (R470). -/
def State.bentRuns (s : State) (b : Nat) : Bool :=
  !(s.rbit ⟨.bentClk, b, 0⟩ 18) && (s.bentCycle b).halt == 0 && !(s.shimNow b)

/-- Does a core advance in the present cycle of its bent? -/
def State.clocked (s : State) (c : Nat) : Bool := s.bentRuns (bentOf c)

/-- Does a partition take no work: fenced (R419), or the start has not yet loaded the date (R32, R465, R534)? (DEDUCED,
log 41). -/
def State.shut (s : State) (p : Nat) : Bool := (s.part p).fenced || s.boot.dateAsked.isSome

/-- Is the partition of a core shut? Its contexts issue nothing then. -/
def State.fencedCore (s : State) (c : Nat) : Bool :=
  match s.partOfCore c with
  | some p => s.shut p
  | none => false

/-- A partition accepts work from here on (R384, R465). -/
def State.noteWork (s : State) : State :=
  { s with worked := s.worked || (s.boot.dateAsked.isNone && (List.range 8).any fun p => (s.part p).built) }

/-- A running context leaves the scalar processor (R71): the next is taken in the order current + 1, current + 2, …
when one is Ready then, else the processor idles. (DEDUCED, log 14). -/
def State.depart (s : State) (c x : Nat) : State :=
  let k := s.core c
  if (k.ctxs.getD x {}).st == .running then
    s.setCore c { k with cur := x, rotate := (List.range 4).any fun y => (k.ctxs.getD y {}).st == .ready }
  else s

/-- The context's state changes to Faulted with a cause (a context that is Faulted keeps its first cause): its queue entries that have not started are discarded, it
leaves every waiter list, the event and the partition's cause 1 are sent (R72, R106, R158, R394, R558). -/
def State.faultCtx (s : State) (c x : Nat) (cause : BitVec 8) : State :=
  let v := s.ctx c x
  if v.st == .faulted then s else
  let s := s.depart c x
  let s1 := (s.setCore c (((s.core c).discard x).setCtx x
    { v with st := .faulted, cause := cause, wait := .none, heldStart := false })).unwait c x
  let p := (s.partOfCore c).getD 255
  (s1.event (coreDie c) (domOfBent (bentOf c)) 0x0101 p (srcCore c x) cause.toNat v.index.toNat).cause p 1

/-- Latch a record: with `valid` (bit 0 of the status register) clear, the status takes `st` with valid set and the
other registers take their values; else nothing is latched and, where the register has one (`ov`), `overrun` (bit 1) is set.
Of two records of one cycle the one of the lower `rank` stands, whichever came first. -/
def State.latchBy (s : State) (ov : Bool) (status : RKey) (rank : Nat) (st : Word) (others : List (RKey × Word)) : State :=
  let held := s.rbit status 0
  let wins := match aget s.cyc.latched status with | some r => decide (rank < r) | none => false
  let keep : Word := if ov then s.reg status &&& 2#32 else 0#32
  let s1 := if !held || wins then
      { (others.foldl (fun s kv => s.setReg kv.1 kv.2) s).setReg status ((st ||| 1#32) ||| keep) with
        cyc := { s.cyc with latched := aset s.cyc.latched status rank } }
    else s
  if held && ov then s1.setFld status 1 1 1 else s1

/-- Latch a record of a register whose first record of a cycle stands. -/
def State.latch (s : State) (status : RKey) (st : Word) (others : List (RKey × Word)) : State :=
  s.latchBy true status 0 st others

/-- An illegal instruction (R158): cause 0x05, the record with the lowest reason, the event. -/
def State.illegal (s : State) (c x : Nat) (pc : Nat) (reason : Nat) : State :=
  let p := (s.partOfCore c).getD 255
  let s1 := s.latchBy true ⟨.coreCtxIllegal, c, 0⟩ x (BitVec.ofNat 32 (x * 4 + pc * 16 + reason * 2 ^ 17)) []
  let s2 := s1.event (coreDie c) (domOfBent (bentOf c)) 0x0102 p (srcCore c x) (reason + pc * 2 ^ 16) 0
  s2.faultCtx c x 0x05#8

/-- Idle cycles of a core under a cause (R327, R549). -/
def idleRegs : Nat → Reg × Reg
  | 0 => (.coreIdleLocalLo, .coreIdleLocalHi)
  | 1 => (.coreIdleCollLo, .coreIdleCollHi)
  | 2 => (.coreIdleMemLo, .coreIdleMemHi)
  | 3 => (.coreIdleHostLo, .coreIdleHostHi)
  | 4 => (.coreIdleJnrLo, .coreIdleJnrHi)
  | 5 => (.coreIdleShimLo, .coreIdleShimHi)
  | 6 => (.coreIdleThermLo, .coreIdleThermHi)
  | _ => (.coreIdleMaintLo, .coreIdleMaintHi)

/-- A core counts idle cycles under a cause. (DESIGN CHOICE, log 4). -/
def State.idle (s : State) (c cause n : Nat) : State :=
  s.count64 (idleRegs cause).1 (idleRegs cause).2 c n

/-! ### Pegs (R187, R192-R195, R201, R217) -/

/-- The value of a peg; a remote peg has none here. -/
def State.peg (s : State) : PegHome → Word
  | .ctx c x i => (s.ctx c x).cpeg.getD i 0#32
  | .bent b i => s.reg ⟨.pegBentVal, b, i⟩
  | .spine d i => s.reg ⟨.pegSpnVal, d, i⟩
  | .remote _ _ _ _ => 0#32

def State.setPeg (s : State) (h : PegHome) (v : Word) : State :=
  match h with
  | .ctx c x i => let k := s.ctx c x; s.setCtx c x { k with cpeg := k.cpeg.setIfInBounds i v }
  | .bent b i => s.setReg ⟨.pegBentVal, b, i⟩ v
  | .spine d i => s.setReg ⟨.pegSpnVal, d, i⟩ v
  | .remote _ _ _ _ => s

/-- The domain whose peg error record serves a peg (R201, R217). -/
def PegHome.dom : PegHome → Nat
  | .ctx c _ _ => domOfBent (bentOf c)
  | .bent b _ => domOfBent b
  | .spine d _ => domOfSpine d
  | .remote _ _ d _ => domOfSpine d

def PegHome.die : PegHome → Nat
  | .ctx c _ _ => coreDie c
  | .bent b _ => dieOfBent b
  | .spine d _ => d
  | .remote _ _ d _ => d

/-- The partition that holds a peg (R188, R380): a spine peg by its block of 256. -/
def State.partOfPeg (s : State) : PegHome → Option Nat
  | .ctx c _ _ => s.partOfCore c
  | .bent b _ => s.partOfBent b
  | .spine d i => (List.range 8).find? fun p =>
      (s.part p).built && ((s.part p).pegblk.getD d 0).testBit (i / 256)
  | .remote _ _ _ _ => none

/-- `index`, `cpeg` and `bcore` of the peg error record (R217). -/
def PegHome.record : PegHome → Nat × Nat × Nat
  | .ctx c x i => (i + x * 16, 1, coreBayOf c * 200 + coreNum c)
  | .bent _ i => (i, 0, 0)
  | .spine _ i => (i, 0, 0)
  | .remote _ _ _ i => (i, 0, 0)

/-- The order of the pegs of a home in its error record (R217). -/
def PegHome.rank : PegHome → Nat
  | .ctx c x i => 2 ^ 20 + (coreBayOf c * 200 + coreNum c) * 64 + x * 16 + i
  | .bent _ i => i
  | .spine _ i => i
  | .remote _ _ _ i => i

/-- A peg error of a kind is recorded: of two in a cycle the lower peg's record, count, event, cause 7 (R192, R198, R201,
R217, R558). -/
def State.pegError (s : State) (h : PegHome) (kind : Nat) (amount : Word) : State :=
  let (ix, cp, bc) := h.record
  let p := (s.partOfPeg h).getD 255
  let s1 := s.latchBy true ⟨.pegErrStatus, h.dom, 0⟩ h.rank (BitVec.ofNat 32 (kind * 4 + ix * 16 + cp * 2 ^ 18 + bc * 2 ^ 19))
    [(⟨.pegErrAmount, h.dom, 0⟩, amount)]
  let s2 := s1.count .pegErrCnt h.dom 1
  let src := match h with
    | .ctx c _ _ => srcOf 3 (bentOf c)
    | .bent b _ => srcOf 3 b
    | _ => srcOf 8 h.die
  (s2.event h.die h.dom 0x0105 p src (kind + ix * 2 ^ 16 + cp * 2 ^ 30 + bc * 2 ^ 32) amount.toNat).cause p 7

/-- A waiting context becomes Ready (R197). -/
def State.wake (s : State) (c x : Nat) : State :=
  let v := s.ctx c x
  if v.st == .waiting then
    s.setCtx c x { v with st := .ready, wait := .none, pc := v.pc + 4#13, progress := s.plumb }
  else s

/-- An engine waiter is served: the gate of a joiner context is granted (R314). -/
def State.grant (s : State) (q : Nat × Nat) : State :=
  match aget s.jctxs q with
  | some j => { s with jctxs := aset s.jctxs q { j with granted := true } }
  | none => s

/-- The walk of the waiter list of a peg from its head (R194): a waiter whose threshold is met is removed and woken,
its threshold subtracted if its subtract bit is set; the others keep their places. -/
def State.walk (h : PegHome) : List Waiter → State → State × List Waiter
  | [], s => (s, [])
  | w :: r, s =>
    if w.home = h ∧ w.thr ≤ s.peg h then
      let s1 := if w.sub then s.setPeg h (s.peg h - w.thr) else s
      State.walk h r (match w.jnr with
        | some q => s1.grant q
        | none => s1.wake w.core w.ctx)
    else
      let (s', r') := State.walk h r s
      (s', w :: r')

/-- Walk and keep the waiters that stay. -/
def State.walkPeg (s : State) (h : PegHome) : State :=
  let (s', ws) := State.walk h s.waiters s
  { s' with waiters := ws }

/-- A signal of amount `v` sets the value to min(value + v, 0xFFFF_FFFF); saturation is a peg error (R192). -/
def State.addPeg (s : State) (h : PegHome) (v : Word) : State :=
  let t := (s.peg h).toNat + v.toNat
  if t ≤ 0xFFFFFFFF then s.setPeg h (BitVec.ofNat 32 t)
  else (s.setPeg h 0xFFFFFFFF#32).pegError h 1 v

/-- A signal leaves its source (R192, R196). (DESIGN CHOICE, log 9). -/
def State.sendSignal (s : State) (g : Signal) : State :=
  { s with signals := s.signals ++ [{ g with id := s.nextId }], nextId := s.nextId + 1 }

/-- The completion signal of an instruction, a transfer or a send of a context, amount 1 (R166, R198, R402). -/
def State.signalDone (s : State) (c x : Nat) (lc : Option Nat) (e : BitVec 8) : Option PegHome → State
  | none => s
  | some h => s.sendSignal
      { id := 0, home := h, amount := 1#32, engine := false, die := coreDie c, core := c, ctx := x,
        part := (s.partOfCore c).getD 255, carries := lc.map fun l => (l, e) }

/-- An engine of die `d` signals a physical peg of a descriptor of partition `p`: checked against the partition on each
signal; a signal that fails is dropped with a record of kind 3 (R195, R198). -/
def State.engineSignal (s : State) (d p : Nat) (h : PegHome) (amount : Word) : State :=
  if s.partOfPeg h == some p then
    s.sendSignal { id := 0, home := h, amount := amount, engine := true, die := d, core := 0, ctx := 0, part := p }
  else s.pegError h 3 amount

/-! ### The package address space (R24, R25, R27) -/

/-- What a package address names. -/
inductive Place
  | hbm (chan off : Nat)
  | spad (core off : Nat)
  | bay (bay off : Nat)
  | reg (off : Nat)
  | hole
  deriving DecidableEq, Repr

def spadBase : Nat := 0xE0000000000
def bayBase : Nat := 0xE0800000000
def regBase : Nat := 0xF0000000000

/-- The bytes of a channel: 1.125 GiB in a fast stack, 2 GiB in a deep one (R25). -/
def chanBytes (ch : Nat) : Nat := if ch / 32 % 6 < 3 then 0x48000000 else 0x80000000

/-- Does the address slot of a channel have no physical channel, since its own took over another slot (R447, R455)? -/
def State.slotHole (s : State) (ch : Nat) : Bool :=
  s.rfld ⟨.hbmChMap, ch, 0⟩ 4 0 != ch % 32 &&
  !((upto (ch / 32 * 32) 32).any fun c => s.rfld ⟨.hbmChMap, c, 0⟩ 4 0 == ch % 32)

/-- The decode of a package address (R24, R25, R27); an address of a disabled core is a hole. -/
def State.place (s : State) (a : Nat) : Place :=
  if a < 2 ^ 41 then
    let k := bitsOf a 38 36
    let ch := (bitsOf a 40 39 * 6 + k) * 32 + bitsOf a 35 31
    if k < 6 ∧ bitsOf a 30 0 < chanBytes ch ∧ !(s.slotHole ch) then .hbm ch (bitsOf a 30 0) else .hole
  else if spadBase ≤ a ∧ a < bayBase then
    let c := (a - spadBase) / 2 ^ 16
    if s.enabled c then .spad c (a % 2 ^ 16) else .hole
  else if bayBase ≤ a ∧ a < bayBase + 1536 * 2 ^ 20 then .bay ((a - bayBase) / 2 ^ 20) (a % 2 ^ 20)
  else if regBase ≤ a ∧ a < regBase + 2 ^ 32 then .reg (a - regBase)
  else .hole

/-- The package address of a scratchpad byte (R27). -/
def spadAddr (c off : Nat) : Nat := spadBase + c * 2 ^ 16 + off

/-! ### Memory bytes and poison (R250, R251, R252) -/

/-- What an unlisted address reads as: an SRAM byte reads 0, an HBM byte has no value of its own. (DESIGN CHOICE, log 6). -/
def Memory.unlisted (a : Nat) : Option Byte := if a < 2 ^ 41 then none else some 0#8

/-- Memory is in its canonical form: addresses strictly rising, and no entry equal to what an unlisted address
reads as. -/
abbrev Memory.wf (m : List (Nat × Byte)) : Prop :=
  (m.map Prod.fst).Pairwise (· < ·) ∧ ∀ e ∈ m, Memory.unlisted e.1 ≠ some e.2

/-- Read of one byte of memory: `none` where nothing gives it a value. -/
def Memory.read (m : List (Nat × Byte)) (a : Nat) : Option Byte :=
  match aget m a with
  | some b => some b
  | none => Memory.unlisted a

/-- Write of one byte, keeping the canonical form. -/
def Memory.write (m : List (Nat × Byte)) (a : Nat) (b : Byte) : List (Nat × Byte) :=
  if Memory.unlisted a = some b then mdel m a else mput m a b

/-- Forget the bytes of a range: they read as unlisted again. -/
def Memory.forget (m : List (Nat × Byte)) (lo hi : Nat) : List (Nat × Byte) :=
  m.filter fun e => decide (e.1 < lo ∨ hi ≤ e.1)

/-- A number of the key that the channel of an address decrypts with (R250): partition and generation; 0 unheld. -/
def State.keygenAt (s : State) (a : Nat) : Nat :=
  match s.place a with
  | .hbm ch _ => match s.partOfChan ch with
    | some p => s.rfld ⟨.secHbmKeygen, p, 0⟩ 15 0 * 8 + p + 1
    | none => 0
  | _ => 0

/-- The byte at a package address; an HBM byte that nothing wrote under its key is a free value (R250), but 0 in a channel
that an MBIST left zeroed (R578). (DESIGN CHOICE, log 6). -/
def State.byte (s : State) (a : Nat) : Byte :=
  (Memory.read s.mem a).getD (if s.zeroed.contains ((bitsOf a 40 39 * 6 + bitsOf a 38 36) * 32 + bitsOf a 35 31) then 0#8
    else Config.unwritten s.starts (s.keygenAt a) a)

def State.bytes (s : State) (a n : Nat) : List Byte := (List.range n).map fun i => s.byte (a + i)

def State.pokeByte (s : State) (a : Nat) (b : Byte) : State := { s with mem := Memory.write s.mem a b }

def State.pokeBytes : State → Nat → List Byte → State
  | s, _, [] => s
  | s, a, b :: r => (s.pokeByte a b).pokeBytes (a + 1) r

/-- The line size and the lanes of a line format (R226): BF16, FP16, L8, L4, L2, L1. -/
def lineBytes : Nat → Nat
  | 0 => 32 | 1 => 32 | 2 => 16 | 3 => 32 | 4 => 64 | _ => 128

/-- The open ring whose slots cover scratchpad byte `off`, as the offset of the slot and its size (R251). -/
def Core.slotAt (k : Core) (off : Nat) : Option (Nat × Nat) :=
  k.rings.toList.findSome? fun r =>
    let sz := lineBytes r.lfmt
    if r.opened && decide (r.base ≤ off ∧ off < r.base + r.lines * sz)
    then some (r.base + (off - r.base) / sz * sz, sz) else none

/-- Is the byte at an address poisoned: by its granule, or inside an open ring by its line slot (R251)? -/
def State.poisoned (s : State) (a : Nat) : Bool :=
  match s.place a with
  | .spad c off =>
    match (s.core c).slotAt off with
    | some (o, _) => (s.core c).slotPoison.contains (o / 16)
    | none => s.poison.contains (a / 32)
  | _ => s.poison.contains (a / 32)

/-- Bytes with their poison. -/
abbrev PByte := Byte × Bool

def State.pbytes (s : State) (a n : Nat) : List PByte :=
  (List.range n).map fun i => (s.byte (a + i), s.poisoned (a + i))

def anyPoison (l : List PByte) : Bool := l.any (·.2)
def dataOf (l : List PByte) : List Byte := l.map (·.1)
def clean (l : List Byte) : List PByte := l.map fun b => (b, false)

def State.markGranule (s : State) (g : Nat) (m : Bool) : State :=
  { s with poison := if m then sput s.poison g else sdel s.poison g }

def State.markSlot (s : State) (c slot16 : Nat) (m : Bool) : State :=
  let k := s.core c
  s.setCore c { k with slotPoison := if m then sput k.slotPoison slot16 else sdel k.slotPoison slot16 }

/-- The bytes of a write of `l` at `a` in [lo, hi) that satisfy `f`: is one poisoned, is each byte of the range that
satisfies `f` written? -/
def anyIn (a : Nat) (l : List PByte) (f : Nat → Bool) (lo hi : Nat) : Bool :=
  (upto lo (hi - lo)).any fun i => f i && decide (a ≤ i) && (match l[i - a]? with | some b => b.2 | none => false)
def wholeIn (a n : Nat) (f : Nat → Bool) (lo hi : Nat) : Bool :=
  (upto lo (hi - lo)).all fun i => !(f i) || decide (a ≤ i ∧ i < a + n)

/-- The mark of a range of bytes after a write of `l` at `a` (R252): set when it receives a poisoned byte, cleared when it is
written whole, else kept. `f`: the bytes the mark stands for. -/
def markAfter (a : Nat) (l : List PByte) (f : Nat → Bool) (lo hi : Nat) (mark : Bool → State → State) (s : State) : State :=
  if anyIn a l f lo hi then mark true s
  else if (upto lo (hi - lo)).any f && wholeIn a l.length f lo hi then mark false s else s

/-- The marks of the granules that a write of `l` at `a` reaches, for their bytes outside open rings (R251). -/
def State.markGranules (s : State) (a : Nat) (l : List PByte) (f : Nat → Bool) : State :=
  (upto (a / 32) ((a + l.length - 1) / 32 - a / 32 + 1)).foldl (fun s g =>
    markAfter a l f (32 * g) (32 * g + 32) (fun m s => s.markGranule g m) s) s

/-- The marks of the line slots of an open ring that a write of `l` at `a` reaches; `b` is the address of offset 0 of the
scratchpad (R251). -/
def State.markSlots (s : State) (c b a : Nat) (l : List PByte) (g : Ring) : State :=
  let sz := lineBytes g.lfmt
  (List.range g.lines).foldl (fun s i =>
    let o := g.base + i * sz
    if a < b + o + sz ∧ b + o < a + l.length
    then markAfter a l (fun _ => true) (b + o) (b + o + sz) (fun m s => s.markSlot c (o / 16) m) s else s) s

/-- The marks after a write of `l` at `a` (R251, R252): of a scratchpad, per line slot inside open rings, per granule
outside. -/
def State.markWrite (s : State) (a : Nat) (l : List PByte) : State :=
  if l.isEmpty then s
  else
    match s.place a with
    | .spad c off =>
      let k := s.core c
      let s1 := s.markGranules a l fun i => (k.slotAt (i + off - a)).isNone
      (k.rings.toList.filter (·.opened)).foldl (fun s g => s.markSlots c (a - off) a l g) s1
    | _ => s.markGranules a l fun _ => true

/-- A write of bytes with poison at a package address, below the deck. -/
def State.pokeP (s : State) (a : Nat) (l : List PByte) : State :=
  (s.pokeBytes a (dataOf l)).markWrite a l

/-! ### The deck cache (R233-R239) -/

/-- The set of a line address (package address / 128): a[24:7] xor a[38:25] (R233). -/
def deckSet (line : Nat) : Nat := Nat.xor (bitsOf line 17 0) (bitsOf line 31 18)

def deckUnit (d p : Nat) : Nat := d * 8 + p

/-- The lines of a partition in a set of a die, most recent first. -/
def State.deckLines (s : State) (d p set : Nat) : List DeckLine :=
  s.deck.filter fun l => l.die == d && l.part == p && deckSet l.line == set

def State.deckFind (s : State) (d line : Nat) : Option DeckLine :=
  s.deck.find? fun l => l.die == d && l.line == line

def State.deckDrop (s : State) (d line : Nat) : State :=
  { s with deck := s.deck.filter fun l => !(l.die == d && l.line == line) }

/-- Put a changed line in its place. -/
def State.deckSetLine (s : State) (n : DeckLine) : State :=
  { s with deck := s.deck.map fun l => if l.die == n.die && l.line == n.line then n else l }

/-- Make a line the most recent. (DEDUCED, log 22). -/
def State.deckTouch (s : State) (d line : Nat) : State :=
  match s.deckFind d line with
  | some l => { s with deck := l :: (s.deckDrop d line).deck }
  | none => s

/-- Evict a line: a dirty one is written back (its bytes in `mem` are already the latest) (R234, R238). -/
def State.deckEvict (s : State) (l : DeckLine) : State :=
  let s1 := s.deckDrop l.die l.line
  if l.dirty then s1.count .dckWbCnt (deckUnit l.die l.part) 1 else s1

/-- The ways of a partition on a die, ascending. -/
def State.waysOf (s : State) (p d : Nat) : List Nat :=
  (List.range 16).filter fun w => ((s.part p).ways.getD d 0).testBit w

/-- Cap the keep lines of a set (R236): while there are more than `keep_max`, the least recently used loses its mark. -/
def State.deckCap (s : State) (d p set : Nat) : State :=
  let ks := (s.deckLines d p set).filter (·.keep)
  if ks.length > s.rfld ⟨.dckKeep, deckUnit d p, 0⟩ 4 0 then
    match ks.getLast? with
    | some l => s.deckSetLine { l with keep := false }
    | none => s
  else s

/-- Allocate a line (R234, R236): the lowest invalid way, else the least recently used line that is not keep, else
the least recently used keep line. `none` where the access is served as stream. -/
def State.deckAlloc (s : State) (d p line : Nat) (keep : Bool) : Option State :=
  let set := deckSet line
  let ls := s.deckLines d p set
  let ws := s.waysOf p d
  let mk (s : State) (w : Nat) : State :=
    let s1 := { s with deck := { die := d, line := line, way := w, part := p, keep := keep, dirty := false,
                                 old := [], oldPoison := [] } :: s.deck }
    if keep then s1.deckCap d p set else s1
  match ws.find? (fun w => ls.all fun l => l.way != w) with
  | some w => some (mk s w)
  | none =>
    if ws.isEmpty then none else
    match (ls.filter (fun l => !l.keep)).getLast? with
    | some l => some (mk (s.deckEvict l) l.way)
    | none =>
      if keep then
        match ls.getLast? with
        | some l => some (mk ((s.deckEvict l).count .dckKeepEvictCnt (deckUnit d p) 1) l.way)
        | none => none
      else none

/-- What HBM holds of a line: its listed bytes and the marks of its four granules. -/
def State.hbmCopy (s : State) (line : Nat) : List (Option Byte) × List Bool :=
  ((upto 0 128).map fun i => aget s.mem (line * 128 + i), (upto 0 4).map fun g => s.poison.contains (line * 4 + g))

/-- Mark a line dirty, keeping what HBM holds (R237). (DEDUCED, log 22). -/
def State.deckDirty (s : State) (d line : Nat) : State :=
  match s.deckFind d line with
  | some l =>
    if l.dirty then s
    else let (o, q) := s.hbmCopy line; s.deckSetLine { l with dirty := true, old := o, oldPoison := q }
  | none => s

/-- Give the bytes of a line back what HBM holds (R237). (DEDUCED, log 22). -/
def State.deckRestore (s : State) (l : DeckLine) : State :=
  let s1 := ((upto 0 128).zip l.old).foldl (fun s e =>
    match e.2 with
    | some b => { s with mem := Memory.write s.mem (l.line * 128 + e.1) b }
    | none => { s with mem := mdel s.mem (l.line * 128 + e.1) }) s
  ((upto 0 4).zip l.oldPoison).foldl (fun s e => s.markGranule (l.line * 4 + e.1) e.2) s1

/-- The effect of a read of one line on the deck, by hint (R235-R237, R239). The bytes were served before. -/
def State.deckRead (s : State) (d p line hint : Nat) : State :=
  let u := deckUnit d p
  match s.deckFind d line with
  | some l =>
    let s1 := s.count .dckHitCnt u 1
    match hint with
    | 0 => s1.deckTouch d line
    | 1 => s1
    | 2 => ((s1.deckSetLine { l with keep := true }).deckTouch d line).deckCap d p (deckSet line)
    | _ =>
      let s2 := (s1.deckDrop d line)
      if l.dirty then (s2.deckRestore l).count .dckDiscardCnt u 1 else s2
  | none =>
    let s1 := s.count .dckMissCnt u 1
    match hint with
    | 0 => (s1.deckAlloc d p line false).getD s1
    | 2 => (s1.deckAlloc d p line true).getD s1
    | _ => s1

/-- The effect of a write of one line on the deck, by hint, before the bytes are written (R235, R236). -/
def State.deckWrite (s : State) (d p line hint : Nat) : State :=
  let u := deckUnit d p
  match s.deckFind d line with
  | some l =>
    let s1 := s.count .dckHitCnt u 1
    match hint with
    | 1 => s1.deckDirty d line
    | 2 => (((s1.deckSetLine { l with keep := true }).deckTouch d line).deckCap d p (deckSet line)).deckDirty d line
    | _ => (s1.deckTouch d line).deckDirty d line
  | none =>
    let s1 := s.count .dckMissCnt u 1
    match hint with
    | 1 => s1
    | 2 => ((s1.deckAlloc d p line true).getD s1).deckDirty d line
    | _ => ((s1.deckAlloc d p line false).getD s1).deckDirty d line

/-- The line addresses a range touches. -/
def linesOf (a n : Nat) : List Nat := if n = 0 then [] else upto (a / 128) ((a + n - 1) / 128 - a / 128 + 1)

/-- The die of an HBM address (R25). -/
def hbmDie (a : Nat) : Nat := bitsOf a 40 39

/-- A read of memory for partition `p` under a hint: the bytes, then the deck's bookkeeping for an HBM range. -/
def State.loadP (s : State) (p a n hint : Nat) : State × List PByte :=
  let l := s.pbytes a n
  if a < 2 ^ 41 then ((linesOf a n).foldl (fun s ln => s.deckRead (hbmDie a) p ln hint) s, l) else (s, l)

/-- A write of memory for partition `p` under a hint. (DEDUCED, log 22). -/
def State.storeP (s : State) (p a hint : Nat) (l : List PByte) : State :=
  let s1 := if a < 2 ^ 41 then (linesOf a l.length).foldl (fun s ln => s.deckWrite (hbmDie a) p ln hint) s else s
  s1.pokeP a l

/-! ### Page tables and translation (R28, R388, R389) -/

/-- The outcome of a translation. -/
inductive Tr
  | ok (pa : Nat)
  | fault
  | poison
  deriving DecidableEq, Repr

/-- Does a package address belong to partition `p`: HBM in its channels, scratchpads and bay buffers of its bents? -/
def State.owns (s : State) (p a : Nat) : Bool :=
  match s.place a with
  | .hbm ch _ => (s.part p).chans.contains ch
  | .spad c _ => (s.part p).bents.contains (bentOf c)
  | .bay b _ => (s.part p).bents.contains (b / 16)
  | _ => false

/-- The package addresses of the table entries that a walk of `va` reads. (DEDUCED, log 20). -/
def Part.walkEntries (q : Part) (va : Nat) : List Nat :=
  q.tables.filterMap fun t =>
    let ix := match t.level with | 1 => bitsOf va 47 39 | 2 => bitsOf va 38 30 | _ => bitsOf va 29 21
    let pre := match t.level with | 1 => 0 | 2 => bitsOf va 47 39 | _ => bitsOf va 47 30
    if t.pre = pre then some (q.ptbase + t.slot * 4096 + ix * 8) else none

/-- Translate a virtual address of partition `p` (R28, R388, R389). (DEDUCED, log 20). -/
def State.translate (s : State) (p va : Nat) (write : Bool) : Tr :=
  let q := s.part p
  if !q.built || decide (2 ^ 48 ≤ va) then .fault
  else if (q.walkEntries va).any (fun a => s.poison.contains (a / 32)) then .poison
  else
    match aget q.leaves (va / 2 ^ 21) with
    | none => .fault
    | some lf =>
      if write && !lf.w then .fault
      else
        let a := lf.page * 2 ^ 21 + va % 2 ^ 21
        let pa : Option Nat :=
          if lf.lg then (q.coreMap[(a - spadBase) / 2 ^ 16]?).map fun c => spadAddr c (a % 2 ^ 16) else some a
        match pa with
        | none => .fault
        | some pa => if s.owns p pa then .ok pa else .fault

/-- Cut a range at 64 KiB boundaries: within one piece a translation is linear. -/
def pieces : Nat → Nat → Nat → List (Nat × Nat)
  | 0, _, _ => []
  | f + 1, va, n =>
    if n = 0 then []
    else let k := min n (2 ^ 16 - va % 2 ^ 16); (va, k) :: pieces f (va + k) (n - k)

/-- The pieces of a virtual range. -/
def vpieces (va n : Nat) : List (Nat × Nat) := pieces (n / 2 ^ 16 + 2) va n

/-- The translations of all the pieces of a range: the first that is not ok, else ok. -/
def State.checkRange (s : State) (p va n : Nat) (write : Bool) : Tr :=
  (vpieces va n).foldl (fun r q => match r with
    | .ok _ => s.translate p q.1 write
    | r => r) (.ok 0)

/-- Read a virtual range; `none` on a translation failure. -/
def State.vload (s : State) (p va n hint : Nat) : Option (State × List PByte) :=
  (vpieces va n).foldl (fun r q => match r with
    | none => none
    | some (s, acc) =>
      match s.translate p q.1 false with
      | .ok pa => let (s', l) := s.loadP p pa q.2 hint; some (s', acc ++ l)
      | _ => none) (some (s, []))

/-- Write a virtual range; the pieces before a translation failure stay written (R225). (DEDUCED, log 16). -/
def State.vstore (s : State) (p va hint : Nat) (l : List PByte) : State × Bool :=
  (vpieces va l.length).foldl (fun r q =>
    if r.2 then
      match r.1.translate p q.1 true with
      | .ok pa => (r.1.storeP p pa hint ((l.drop (q.1 - va)).take q.2), true)
      | _ => (r.1, false)
    else r) (s, true)

/-- The physical channel that serves an address slot (R447, R455). -/
def State.physChan (s : State) (slot : Nat) : Nat :=
  ((upto (slot / 32 * 32) 32).find? fun c =>
    s.rfld ⟨.hbmChMap, c, 0⟩ 4 0 == slot % 32 && !(s.retired.contains (6, c))).getD slot

/-- A latency-class read of a channel ends: HBM_LAT_MAX rises to its latency (R258). -/
def State.latMax (s : State) (ch lat : Nat) : State :=
  let k : RKey := ⟨.hbmLatMax, ch, 0⟩
  s.setFld k 15 0 (max (s.rfld k 15 0) (min lat 0xFFFF))

/-- The latency-class reads of a virtual range (R246, R258): the model serves them in one step, and their latency is a free
value. (DESIGN CHOICE, log 103). -/
def State.latRange (s : State) (p va n : Nat) : State :=
  (vpieces va n).foldl (fun s q => match s.translate p q.1 false with
    | .ok pa => match s.place pa with
      | .hbm ch _ => { s.latMax (s.physChan ch) (Config.readLatency s.draws).toNat with draws := s.draws + 1 }
      | _ => s
    | _ => s) s

/-- The bytes of a range before the first piece that does not translate for writing. -/
def State.vdone (s : State) (p va n : Nat) : Nat :=
  ((vpieces va n).foldl (fun (r : Nat × Bool) q =>
    if r.2 then (match s.translate p q.1 true with | .ok _ => (r.1 + q.2, true) | _ => (r.1, false)) else r) (0, true)).1

/-! ### Pools (R207, R210-R212) -/

def State.pool (s : State) (d q : Nat) : Pool := (aget s.pools (d * 64 + q)).getD {}
def State.setPool (s : State) (d q : Nat) (v : Pool) : State := { s with pools := aset s.pools (d * 64 + q) v }

/-- SPN_POOL_CFG of a pool: enable, partition, size exponent, count; the base address. -/
def State.poolOn (s : State) (d q p : Nat) : Bool :=
  s.rbit ⟨.spnPoolCfg, d * 64 + q, 0⟩ 7 && s.rfld ⟨.spnPoolCfg, d * 64 + q, 0⟩ 6 4 == p
def State.poolBytes (s : State) (d q : Nat) : Nat := 64 * 2 ^ s.rfld ⟨.spnPoolCfg, d * 64 + q, 0⟩ 3 0
def State.poolCount (s : State) (d q : Nat) : Nat := s.rfld ⟨.spnPoolCfg, d * 64 + q, 0⟩ 31 16 + 1
def State.poolBase (s : State) (d q : Nat) : Nat :=
  (s.reg ⟨.spnPoolBaseLo, d * 64 + q, 0⟩).toNat + 2 ^ 32 * s.rfld ⟨.spnPoolBaseHi, d * 64 + q, 0⟩ 15 0

/-- Is a context held after its marked instruction (R176)? -/
def Ctx.held (v : Ctx) : Bool := v.st == .waiting && (match v.wait with | .held _ => true | _ => false)

/-- The lowest-numbered free buffer (R210). -/
def State.poolFree (s : State) (d q : Nat) : Option Nat :=
  (List.range (s.poolCount d q)).find? fun i => (aget (s.pool d q).tags i).isNone

/-- Take a buffer for an owner tag. -/
def State.poolTake (s : State) (d q i : Nat) (tag : Word) : State :=
  s.setPool d q { s.pool d q with tags := aset (s.pool d q).tags i tag }

def State.poolDrop (s : State) (d q i : Nat) : State :=
  s.setPool d q { s.pool d q with tags := adel (s.pool d q).tags i }

/-! ### CRC-32 (R169) -/

def crcBit : Nat → Nat → Nat
  | 0, c => c
  | n + 1, c => crcBit n (if c % 2 = 1 then Nat.xor (c / 2) 0xEDB88320 else c / 2)

def crcStep (c : Nat) (b : Byte) : Nat := crcBit 8 (Nat.xor c b.toNat)

/-- CRC-32, IEEE 802.3 polynomial, reflected, initial value and final XOR 0xFFFF_FFFF. -/
def crc32 (l : List Byte) : Nat := Nat.xor (l.foldl crcStep 0xFFFFFFFF) 0xFFFFFFFF


/-! ### Stopped bents (R474, R475, R489) -/

/-- A bent's clock stops: 1 park, 2 thermal trip, 3 power-fail hold. A stopped bent keeps its first reason. The timers of
its partition are held from the first stop. (DEDUCED, log 91). -/
def State.stopBent (s : State) (b why : Nat) : State :=
  let k : RKey := ⟨.bentClk, b, 0⟩
  if s.rbit k 18 then s
  else
    let s1 := { s.setFld k 20 18 (1 + why * 2) with isle := adel s.isle (domOfBent b), isleHold := s.isleHold.filter (· != domOfBent b) }
    match s.partOfBent b with
    | some p => if (s.part p).stopSince.isSome then s1 else s1.setPart p { s1.part p with stopSince := some s.plumb }
    | none => s1

/-- The phase of the shutdown sequence (R483, R493). -/
def State.phase (s : State) : Nat := s.rfld ⟨.pwrPfStatus, 0, 0⟩ 2 0

/-- Is a bent of the partition stopped? Its watchdogs and timers are held then (R475). -/
def State.partStopped (s : State) (p : Nat) : Bool := (s.part p).bents.any fun b => s.rbit ⟨.bentClk, b, 0⟩ 18

/-- A partition is parked. -/
def State.parkPart (s : State) (p : Nat) : State :=
  let s1 := (s.part p).bents.foldl (fun s b => s.stopBent b 1) s
  (s1.setPart p { s1.part p with parked := true }).setFld ⟨.pwrStatus, 0, 0⟩ (8 + p) (8 + p) 1

/-! ### Lane records (R574, R575) -/

/-- One bit per lane of a list. -/
def laneMask (l : List Nat) : Nat := (l.map fun i => 2 ^ i).foldl (· + ·) 0

/-- The 64 bytes of a record: type, source, unit, sequence, time, the masks or their 32 bytes. -/
def laneRec (ty src unit seq : Nat) (t : Time) (masks : List Byte) : List Byte :=
  let b := leBytes 1 ty ++ leBytes 1 src ++ leBytes 2 unit ++ leBytes 4 seq ++ leBytes 8 t.toNat ++ masks
  b ++ leBytes 4 (crc32 b) ++ List.replicate 12 0#8

def recField (d : List Byte) (off n : Nat) : Nat := leNat ((d.drop off).take n)

/-- Is a record one of a unit and type, with its CRC right? -/
def recOf (ty unit : Nat) (d : List Byte) : Bool :=
  recField d 0 1 == ty && recField d 2 2 == unit && recField d 0x30 4 == crc32 (d.take 0x30)

/-- Append a record. -/
def State.addRecord (s : State) (ty src unit : Nat) (masks : List Byte) : State :=
  { s with flash := { s.flash with lanes := s.flash.lanes ++ [laneRec ty src unit s.flash.lanes.length s.plumb masks] } }

/-- Record the lanes of a bundle or a port: `all` lanes of which some are in use and some spare, the rest bad. -/
def laneMasks (all : Nat) (act spare : List Nat) : List Byte :=
  leBytes 16 (laneMask ((List.range all).filter fun i => !(act.contains i) && !(spare.contains i))) ++ leBytes 16 (laneMask act)

/-- The record of a start is written when the selection differs from the last one of the unit. -/
def State.startRecord (s : State) (ty unit : Nat) (masks : List Byte) : State :=
  match (s.flash.lanes.filter (recOf ty unit)).getLast? with
  | some d => if (d.drop 0x10).take 32 = masks then s else s.addRecord ty 1 unit masks
  | none => s.addRecord ty 1 unit masks

/-- The lanes that assembly marked bad. -/
def State.assemblyBad (s : State) (ty unit lane : Nat) : Bool :=
  (s.flash.lanes.filter (recOf ty unit)).any fun d => recField d 1 1 == 0 && (recField d 0x10 16).testBit lane

end Sys2Proof.Machine
end

