-- ==== Sys2Proof/Machine/Operands.lean ====
section
/-! DEFINITION. Operand forms: the words of core instructions (R154-R165), peg ids (R189-R191), transfer descriptors
(R209, R221, R242). -/
namespace Sys2Proof.Machine

/-! ### Scalar instruction words (R154, R155) -/

/-- bits [31:26]. -/
def opOf (w : Word) : Nat := wbits w 31 26
/-- bits [25:21], [20:16], [15:11] as register numbers, imm [15:0]. -/
def fA (w : Word) : BitVec 5 := w.extractLsb' 21 5
def fB (w : Word) : BitVec 5 := w.extractLsb' 16 5
def fC (w : Word) : BitVec 5 := w.extractLsb' 11 5
def imm16 (w : Word) : BitVec 16 := w.extractLsb' 0 16
def simm (w : Word) : Word := (imm16 w).signExtend 32
def zimm (w : Word) : Word := (imm16 w).zeroExtend 32

/-- Is the op defined (R155, R159)? -/
def opDefined (op : Nat) : Bool :=
  decide (op ≤ 0x0A ∨ (0x10 ≤ op ∧ op ≤ 0x1D) ∨ (0x20 ≤ op ∧ op ≤ 0x2A) ∨ op = 0x2F ∨
    (0x30 ≤ op ∧ op ≤ 0x33) ∨ op = 0x38 ∨ op = 0x39)

/-- The bits of word 0 of a scalar instruction that must be zero are zero, and its item or op value is not reserved
(R155, R157). -/
def scalarLegal (w : Word) : Bool :=
  let a := fA w
  let b := fB w
  let i := wbits w 15 0
  let op := opOf w
  if op ≤ 0x0A then wbits w 10 0 == 0
  else if op = 0x14 then b == 0#5
  else if op = 0x15 ∨ op = 0x16 ∨ op = 0x17 then decide (i < 32)
  else if op = 0x1A then b == 0#5 && decide (i < 64)
  else if op = 0x1B then b == 0#5 && decide (i < 7)
  else if op = 0x1C then a == 0#5 && b == 0#5 && decide (i < 32)
  else if op = 0x1D then a == 0#5 && b == 0#5 && decide (i < 4)
  else if op = 0x26 then b == 0#5
  else if op = 0x27 then a == 0#5 && i == 0
  else if op = 0x28 then a == 0#5 && decide (i < 2 ^ 11)
  else if op = 0x29 then a == 0#5 && decide (i < 2 ^ 10)
  else if op = 0x2A then b == 0#5 && decide (i < 2 ^ 10)
  else if op = 0x2F then wbits w 25 0 == 0
  else true

/-- Read of a scalar register: s0 reads zero (R152). -/
def Ctx.sreg (v : Ctx) (r : BitVec 5) : Word := if r = 0#5 then 0#32 else v.s.get r.toFin

/-- Write of a scalar register: a write of s0 is ignored (R152). -/
def Ctx.setSreg (v : Ctx) (r : BitVec 5) (w : Word) : Ctx :=
  if r = 0#5 then v else { v with s := v.s.set r.toNat w r.isLt }

/-- Is an instruction memory address inside the stream region and word-aligned (R150, R158)? -/
def Ctx.inRegion (v : Ctx) (a : Nat) : Bool :=
  decide (a % 4 = 0 ∧ v.base.toNat ≤ a ∧ a < v.base.toNat + v.len.toNat)

/-- The running context of a core, if any (R71). -/
def State.running (s : State) (c : Nat) : Option Nat :=
  (List.range 4).find? fun x => (s.ctx c x).st == .running

/-! ### Peg ids (R188-R191, R198) -/

/-- The physical peg of a peg id of a context, with the checks made on every use; `none`: cause 0x02. -/
def State.pegOf (s : State) (c x id : Nat) : Option PegHome :=
  let v := s.ctx c x
  let lo := v.psegLo.getD (id / 256 % 4) 0#32
  let hi := v.psegHi.getD (id / 256 % 4) 0#32
  let o := id % 256
  let n := wbits lo 23 10 + o
  if !wbit lo 0 || decide (wbits lo 31 24 + 1 ≤ o) then none
  else
    match wbits lo 2 1 with
    | 0 => if n < 16 then some (.ctx c x n) else none
    | 1 =>
      let b := wbits lo 4 3 * 24 + wbits lo 9 5
      if wbits lo 9 5 < 24 ∧ wbits lo 4 3 = coreDie c ∧ n < 4096 ∧ (s.partOfBent b).isSome
          ∧ s.partOfBent b = s.partOfCore c then some (.bent b n) else none
    | 2 =>
      let h := PegHome.spine (wbits lo 4 3) n
      if n < 16384 ∧ (s.partOfPeg h).isSome ∧ s.partOfPeg h = s.partOfCore c then some h else none
    | _ => some (.remote (wbits hi 16 0) (wbits hi 19 17) (wbits lo 4 3) n)

def PegHome.isRemote : PegHome → Bool | .remote .. => true | _ => false

/-- `idle_cause` and `ext` of the segment of a peg id (R190). -/
def Ctx.idleCause (v : Ctx) (id : Nat) : Nat := wbits (v.psegHi.getD (id / 256 % 4) 0#32) 22 20
def Ctx.ext (v : Ctx) (id : Nat) : Bool := wbit (v.psegHi.getD (id / 256 % 4) 0#32) 23

/-- Does the waiter store of a peg's home hold a free entry for partition `p` (R200, R381)? -/
def State.storeFree (s : State) (h : PegHome) (p : Nat) : Bool :=
  match h with
  | .ctx .. => true
  | .bent b _ => decide ((s.waiters.filter fun w => match w.home with | .bent b' _ => b' == b | _ => false).length < 16384)
  | .spine d _ =>
    let cap := 1024 * ((List.range 64).filter fun k => ((s.part p).pegblk.getD d 0).testBit k).length
    decide ((s.waiters.filter fun w => match w.home with
      | .spine d' i => d' == d && s.partOfPeg (.spine d' i) == some p
      | _ => false).length < cap)
  | .remote .. => false

/-- The check of PWAIT at the peg's home in one atomic step (R193, R200): the condition, the subtraction, or the
recording of the context as a waiter, or as a polling waiter when the store is full. -/
def State.waitCheck (s : State) (c x id : Nat) (h : PegHome) (thr : Word) (sub : Bool) : State × Bool :=
  if thr ≤ s.peg h then ((if sub then s.setPeg h (s.peg h - thr) else s), true)
  else
    let free := s.storeFree h ((s.partOfCore c).getD 255)
    let v := s.ctx c x
    let s1 := (s.depart c x).setCtx c x { v with st := .waiting, wait := .peg id h thr sub (!free) }
    (if free then { s1 with waiters := s1.waiters ++ [{ home := h, core := c, ctx := x, thr := thr, sub := sub }] } else s1, false)

/-! ### Transfer descriptors (R221, R209, R242) -/

/-- A number field of a descriptor: `n` bytes at an offset. -/
def dfield (d : List Byte) (off n : Nat) : Nat := leNat ((d.drop off).take n)

/-- A transfer descriptor, decoded. -/
structure Desc where
  kind : Nat
  sfmt : Nat
  dfmt : Nat
  shint : Nat
  dhint : Nat
  lat : Bool
  lf : LathFields
  kcol : Bool
  tr : Bool
  mc : Nat
  src : Nat
  dst : Nat
  rows : Nat
  cols : Nat
  sstride : Nat
  dstride : Nat
  seed : Nat
  n : Nat
  aux : Nat
  deriving DecidableEq, Repr

def Desc.ofBytes (d : List Byte) : Desc :=
  let fmt := dfield d 1 1
  let hint := dfield d 2 1
  let la := dfield d 3 1
  let lb := dfield d 4 2
  { kind := dfield d 0 1, sfmt := bitsOf fmt 1 0, dfmt := bitsOf fmt 3 2
    shint := bitsOf hint 1 0, dhint := bitsOf hint 3 2, lat := hint.testBit 4
    lf := { nmax := bitsOf la 2 0 + 1, cls := bitsOf la 4 3, rot := bitsOf la 6 5, role := bitsOf la 7 7
            wmin := bitsOf lb 2 0 + 1, wmax := bitsOf lb 5 3 + 1, tol := bitsOf lb 9 6, group := bitsOf lb 11 10
            seed := dfield d 0x28 8, kbase := dfield d 0x30 4 }
    kcol := lb.testBit 12, tr := lb.testBit 13, mc := dfield d 6 1 + 1
    src := dfield d 8 8, dst := dfield d 0x10 8, rows := dfield d 0x18 4, cols := dfield d 0x1C 4
    sstride := dfield d 0x20 4, dstride := dfield d 0x24 4, seed := dfield d 0x28 8
    n := bitsOf (dfield d 0x34 4) 11 0 + 1, aux := dfield d 0x38 8 }

/-! ### Pool results (R208, R210) -/

/-- Replace a transfer in the list. -/
def State.putXfer (s : State) (x : Xfer) : State := { s with xfers := s.xfers.map fun y => if y.id = x.id then x else y }
def State.dropXfer (s : State) (i : Nat) : State := { s with xfers := s.xfers.filter fun y => y.id != i }

/-- The owner tag of a context (R208). -/
def ctxTag (lc x : Nat) : Word := BitVec.ofNat 32 (lc * 4 + x)

def Xfer.tag (x : Xfer) : Word := ctxTag (x.lcore.getD 0) x.ctx

/-- The result of an alloc: the 8-byte virtual address at `ret`, each word's mark cleared (R210, R251). -/
def State.allocResult (s : State) (x : Xfer) (va : Nat) : State :=
  let v := s.ctx x.core x.ctx
  let i := dfield x.desc 4 4 / 4
  let s1 := s.setCtx x.core x.ctx
    { v with dmem := wput (wput v.dmem i (BitVec.ofNat 32 va)) (i + 1) (BitVec.ofNat 32 (va / 2 ^ 32))
             dmPoison := sdel (sdel v.dmPoison i) (i + 1) }
  s1.putXfer { x with ready := true }

/-- Grant a free buffer to the oldest waiting alloc (R210). -/
def State.poolServe (s : State) (d q : Nat) : State :=
  match (s.pool d q).queue, s.poolFree d q with
  | i :: r, some b =>
    match s.xfers.find? (fun x => x.id == i) with
    | none => s.setPool d q { s.pool d q with queue := r }
    | some x =>
      ((s.setPool d q { s.pool d q with queue := r }).poolTake d q b x.tag).allocResult x
        (s.poolBase d q + b * s.poolBytes d q)
  | _, _ => s

/-- Serve the waiting allocs of a pool while it has a free buffer (R210). -/
def State.poolDrain (s : State) (d q : Nat) : Nat → State
  | 0 => s
  | n + 1 => (s.poolServe d q).poolDrain d q n

/-- A buffer is freed, and a waiting alloc takes it (R210, R211). -/
def State.poolRelease (s : State) (d q i : Nat) : State := (s.poolDrop d q i).poolServe d q

/-- Free every buffer of a pool that carries a tag, then serve its waiting allocs (R213). -/
def State.poolReclaim (s : State) (d q : Nat) (tag : Word) : State :=
  let v := s.pool d q
  (s.setPool d q { v with tags := v.tags.filter fun e => e.2 != tag }).poolDrain d q v.queue.length

/-! ### Checks of descriptors -/

/-- The bits of a transfer descriptor that no kind uses are zero (R221). -/
def descReserved (d : List Byte) : Bool :=
  bitsOf (dfield d 1 1) 7 4 == 0 && bitsOf (dfield d 2 1) 7 5 == 0 && bitsOf (dfield d 4 2) 15 14 == 0 &&
  dfield d 7 1 == 0 && bitsOf (dfield d 8 8) 63 48 == 0 && bitsOf (dfield d 0x10 8) 63 48 == 0 &&
  bitsOf (dfield d 0x34 4) 31 12 == 0

/-- Element size of a floating-point format code: FP32 4, BF16 and FP16 2; Lath sides align to 2 (R224, R225). -/
def esize : Nat → Nat | 0 => 4 | _ => 2

def fmtOf : Nat → FFmt | 0 => .fp32 | 1 => .bf16 | _ => .fp16

/-- The line format code of a ring or a stream (R226, R256): BF16, FP16, L8, L4, L2, L1; `none` for FP32. -/
def lfmtOf (dfmt cls : Nat) : Option Nat :=
  match dfmt with
  | 0 => none
  | 1 => some 0
  | 2 => some 1
  | _ => some (2 + cls)

/-- Does a transfer quantise? -/
def Desc.quant (d : Desc) : Bool := d.dfmt == 3 && d.sfmt != 3

/-- The Lath fields of R120 conflict: `group` above 1 with a width range, a rotation that `kbase` or the K extent does
not fit, or a width above the class on a transfer that writes an operand for a pass. -/
def Desc.lathBad (d : Desc) (operand : Bool) : Bool :=
  let s := rotSize d.lf.rot
  (d.quant && (decide (d.lf.wmax < d.lf.wmin) || decide (d.lf.nmax < d.lf.wmax))) ||
  (d.lf.group != 0 && d.lf.wmin != d.lf.wmax) ||
  (s != 0 && (d.lf.kbase % s != 0 || d.cols % s != 0)) ||
  (operand && d.dfmt == 3 && decide (clsB d.lf.cls < d.lf.wmax))

/-- The fields that a kind does not use are zero (R221, R222). (DEDUCED, log 89). -/
def descUnused (d : List Byte) (e : Desc) : Bool :=
  let z (off n : Nat) : Bool := dfield d off n == 0
  match e.kind with
  | 0x01 => e.lf.cls == 0 && !e.tr && z 6 1 && z 0x34 4 && z 0x38 8
  | 0x02 => e.dhint == 0 && !e.tr && z 0x24 4 && z 0x38 8
  | 0x03 => e.dhint == 0 && !e.kcol && z 0x24 4 && z 0x38 8
  | 0x04 => e.lf.cls == 0 && !e.tr && z 6 1 && z 0x34 4
  | 0x05 => z 1 1 && e.shint == 0 && !e.lat && z 3 1 && z 4 2 && z 6 1 && z 8 8 && z 0x20 4 &&
      dfield d 0x2C 4 == 0 && z 0x30 4 && z 0x34 4 && z 0x38 8
  | 0x08 => e.sfmt == 0 && z 2 1 && e.lf.nmax == 1 && e.lf.rot == 0 && e.lf.role == 0 && z 4 2 && z 6 1 && z 8 8 &&
      z 0x1C 4 && z 0x20 4 && z 0x24 4 && z 0x28 8 && z 0x30 4 && z 0x34 4 && z 0x38 8
  | 0x09 => e.sfmt == 0 && z 2 1 && e.lf.nmax == 1 && e.lf.rot == 0 && e.lf.role == 0 && z 4 2 && z 6 1 && z 8 8 &&
      z 0x18 4 && z 0x1C 4 && z 0x20 4 && z 0x24 4 && z 0x28 8 && z 0x30 4 && z 0x34 4 && z 0x38 8
  | _ => true

/-- The open ring of a core at a scratchpad base with a line format (R226). -/
def Core.ringAt (k : Core) (base : Nat) : Option Nat :=
  (List.range 8).find? fun i => (k.rings.getD i {}).opened && (k.rings.getD i {}).base == base

/-- The virtual ranges of row (vector) `v` of a side with `len` elements (R224): base, stride, format, kcol, nmax. -/
def sideRanges (base stride fmt : Nat) (kcol : Bool) (nmax len v : Nat) : List (Nat × Nat) :=
  if fmt = 3 then [(base + v * stride, (len + 31) / 32 * slotBytes nmax)]
  else if kcol then (List.range len).map fun j => (base + j * stride + v * esize fmt, esize fmt)
  else [(base + v * stride, len * esize fmt)]

/-- Every range of a side of `n` vectors translates; else the first failure (R225). -/
def State.checkSide (s : State) (p base stride fmt : Nat) (kcol : Bool) (nmax len n : Nat) (write : Bool) : Tr :=
  (List.range n).foldl (fun r v => match r with
    | .ok _ => (sideRanges base stride fmt kcol nmax len v).foldl (fun r q => match r with
        | .ok _ => s.checkRange p q.1 q.2 write
        | r => r) r
    | r => r) (.ok 0)

/-- The checks of a GATHER descriptor (R242) that need no memory. -/
def gatherLegal (d : List Byte) : Bool :=
  let mode := dfield d 2 1
  decide (dfield d 1 1 < 4) && bitsOf mode 1 0 != 3 && bitsOf mode 3 2 != 3 && bitsOf mode 5 4 != 3 &&
  !mode.testBit 7 && bitsOf (dfield d 3 1) 7 2 == 0 && decide (1 ≤ dfield d 4 2 ∧ dfield d 4 2 ≤ 4096) &&
  dfield d 6 2 == 0 && decide (1 ≤ dfield d 0x1C 4 ∧ dfield d 0x1C 4 ≤ 65536) &&
  (bitsOf mode 1 0 == 2 || dfield d 0x30 8 == 0) && dfield d 0x3C 4 == 0 &&
  decide (dfield d 8 8 < 2 ^ 48 ∧ dfield d 0x10 8 < 2 ^ 48 ∧ dfield d 0x20 8 < 2 ^ 48 ∧ dfield d 0x28 8 < 2 ^ 48 ∧
    dfield d 0x30 8 < 2 ^ 48) &&
  dfield d 8 8 % esize (bitsOf mode 3 2) == 0 && dfield d 0x18 4 % esize (bitsOf mode 3 2) == 0 &&
  dfield d 0x10 8 % esize (bitsOf mode 5 4) == 0 && dfield d 0x20 8 % 4 == 0 && dfield d 0x28 8 % 4 == 0 &&
  dfield d 0x30 8 % 4 == 0

/-- The checks of a pool request (R209). -/
def poolLegal (d : List Byte) : Bool :=
  let k := dfield d 0 1
  decide (dfield d 1 1 < 4) && decide (dfield d 2 1 < 64) && bitsOf (dfield d 3 1) 7 1 == 0 &&
  ((d.drop 0x14).all (· == 0#8)) &&
  (if k = 0xC0 then dfield d 4 4 % 8 == 0 && decide (dfield d 4 4 ≤ 0x3F8) && dfield d 8 8 == 0 && dfield d 0x10 4 == 0
   else dfield d 3 1 == 0 && dfield d 4 4 == 0 && (k == 0xC2 || dfield d 0x10 4 == 0))

/-- What the check of a descriptor in the XFER issue cycle answers (R225). -/
inductive Chk
  | ok (ring : Nat)
  | reason5
  | trans
  | poison
  deriving DecidableEq, Repr

def Tr.chk : Tr → Chk
  | .ok _ => .ok 0
  | .fault => .trans
  | .poison => .poison

def Chk.and (a : Chk) (b : Unit → Chk) : Chk := match a with | .ok _ => b () | r => r

/-- Every range of a GATHER whose place the descriptor gives translates: the offsets, the rows of the table, the outputs
(R225, R242). The indices and weights lie where the offsets say. -/
def State.gatherChk (s : State) (p : Nat) (d : List Byte) : Chk :=
  let m := dfield d 2 1
  let row := dfield d 4 2 * esize (bitsOf m 3 2)
  (s.checkRange p (dfield d 0x20 8) ((dfield d 0x1C 4 + 1) * 4) false).chk.and fun _ =>
    ((List.range (dfield d 0x38 4)).foldl (fun (r : Tr) i => match r with
      | .ok _ => s.checkRange p (dfield d 8 8 + i * dfield d 0x18 4) row false
      | r => r) (.ok 0)).chk.and fun _ =>
    (s.checkRange p (dfield d 0x10 8) (dfield d 0x1C 4 * dfield d 4 2 * esize (bitsOf m 5 4)) true).chk

/-- The check of a descriptor (R120, R209, R221, R222, R225, R226, R229, R232, R242). (DEDUCED, log 89). -/
def State.checkDesc (s : State) (c p : Nat) (d : List Byte) : Chk :=
  let e := Desc.ofBytes d
  let k := s.core c
  let dim := decide (1 ≤ e.rows ∧ e.rows ≤ 65536 ∧ 1 ≤ e.cols ∧ e.cols ≤ 65536)
  let lf := lfmtOf e.dfmt e.lf.cls
  let clsOk := e.dfmt == 3 || e.lf.cls == 0
  let base := descReserved d && descUnused d e
  let srcAl := e.src % esize e.sfmt == 0 && e.sstride % esize e.sfmt == 0
  let dstAl := e.dst % esize e.dfmt == 0 && e.dstride % esize e.dfmt == 0
  let ring : Option Nat := (k.ringAt e.dst).bind fun i => if some (k.rings.getD i {}).lfmt == lf then some i else none
  match e.kind with
  | 0x01 =>
    if !(base && dim && srcAl && dstAl) || e.lathBad false then .reason5
    else (s.checkSide p e.src e.sstride e.sfmt e.kcol e.lf.nmax e.cols e.rows false).chk.and fun _ =>
      (s.checkSide p e.dst e.dstride e.dfmt e.kcol e.lf.nmax e.cols e.rows true).chk
  | 0x02 =>
    if !(base && dim && srcAl) || e.lathBad true then .reason5
    else match ring with
      | none => .reason5
      | some i => (s.checkSide p e.src e.sstride e.sfmt e.kcol e.lf.nmax e.cols e.rows false).chk.and fun _ => .ok i
  | 0x03 =>
    if !(base && dim && srcAl) || e.lathBad true || (e.sfmt == 3 && e.tr) then .reason5
    else match ring with
      | none => .reason5
      | some i => (s.checkSide p e.src e.sstride e.sfmt (!e.tr) e.lf.nmax e.cols e.n false).chk.and fun _ => .ok i
  | 0x04 =>
    if !(base && dim && srcAl && dstAl) || e.lathBad false || e.sfmt == 3 || e.dfmt != 3 || decide (2 ^ 48 ≤ e.aux)
    then .reason5
    else (s.checkSide p e.src e.sstride e.sfmt e.kcol e.lf.nmax e.cols e.rows false).chk.and fun _ =>
      (s.checkSide p e.dst e.dstride 3 false e.lf.nmax e.cols e.rows true).chk.and fun _ =>
      if e.aux = 0 then .ok 0 else (s.checkRange p e.aux (e.rows * ((e.cols + 31) / 32) * 32) true).chk
  | 0x05 =>
    if !(base && dim && dstAl) || e.cols % 4 != 0 then .reason5
    else (s.checkSide p e.dst e.dstride 0 false 1 (e.cols / 4) e.rows true).chk
  | 0x08 =>
    let sz := match lf with | some f => lineBytes f | none => 0
    let overlap := k.rings.toList.any fun r => r.opened &&
      decide (r.base < e.dst + e.rows * sz ∧ e.dst < r.base + r.lines * lineBytes r.lfmt)
    if !(base && clsOk) || lf.isNone || decide (e.rows < 16 ∨ 4096 < e.rows) || e.dst % 64 != 0 ||
        decide (65536 < e.dst + e.rows * sz) || overlap then .reason5
    else match (List.range 8).find? fun i => !(k.rings.getD i {}).opened with
      | none => .reason5
      | some i => .ok i
  | 0x09 =>
    if !(base && clsOk) then .reason5
    else match ring with
      | none => .reason5
      | some i => .ok i
  | 0x10 =>
    if !gatherLegal d then .reason5 else s.gatherChk p d
  | 0xC0 => if poolLegal d then .ok 0 else .reason5
  | 0xC1 => if poolLegal d then .ok 0 else .reason5
  | 0xC2 => if poolLegal d then .ok 0 else .reason5
  | _ => .reason5

end Sys2Proof.Machine
end

