-- ==== Sys2Proof/Machine/Regs.lean ====
section
/-! DEFINITION. The register space (R13, R74, R392, R393, R531, R540, R541, R544): which register an offset names, who
reaches it, what a plain write does to its fields. -/
namespace Sys2Proof.Machine

/-- The register of a block at a relative offset. -/
def findIn (b : RegBlk) (unit rel : Nat) : Option RKey :=
  b.regs.findSome? fun r =>
    let (_, o, st, n) := r.place
    if o ≤ rel ∧ (rel - o) % st = 0 ∧ (rel - o) / st < n then some ⟨r, unit, (rel - o) / st⟩ else none

/-- A row of equal blocks of size `sz`, `n` of them, the first unit `u0`. -/
def findRow (b : RegBlk) (u0 n sz rel : Nat) : Option RKey :=
  if rel / sz < n then findIn b (u0 + rel / sz) (rel % sz) else none

/-- A register of the spine of die `d` (R205-R379, R491, R553). -/
def spineRegAt (d o : Nat) : Option RKey :=
  if o < 0x100000 then none
  else if o < 0x120000 then findRow .deck (d * 8) 8 0x40 (o - 0x100000)
  else if o < 0x140000 then findRow .chan (d * 192) 192 0x40 (o - 0x120000)
  else if o < 0x160000 then findIn .tbl d (o - 0x140000)
  else if o < 0x180000 then findIn .col d (o - 0x160000)
  else if o < 0x1A0000 then findIn .jnrDie d (o - 0x180000)
  else if o < 0x1C0000 then findRow .port (d * 2) 2 0x100 (o - 0x1A0000)
  else if o < 0x1E0000 then findRow .d2d (d * 2) 2 0x100 (o - 0x1C0000)
  else if o < 0x1F0000 then findRow .pool (d * 64) 64 0x20 (o - 0x1E0000)
  else if o < 0x200000 then findIn .pegErr (domOfSpine d) (o - 0x1F0000)
  else if o < 0x210000 then findIn .pegSpn d (o - 0x200000)
  else if o < 0x210100 then findIn .thermal d (o - 0x210000)
  else findIn .spnSnap d (o - 0x210100)

/-- A register of a package bent (R74, R216, R217, R489, R490, R549). -/
def bentRegAt (b o : Nat) : Option RKey :=
  if o < 0x8000 then findIn .bent b o
  else if o < 0x40000 then
    let i := (o - 0x8000) / 0x40
    if i < 3200 then findIn .idle (coreAddr (b / 24) (b % 24) (i / 200) (i % 200)) ((o - 0x8000) % 0x40) else none
  else if o < 0x44000 then findIn .pegBent b (o - 0x40000)
  else if o < 0x80000 then findIn .pegErr (domOfBent b) (o - 0x44000)
  else
    let a := (o - 0x80000) / 0x8000
    let q := (o - 0x80000) % 0x8000
    if q < 0x1000 then findIn .bay (b * 16 + a) q
    else if (q - 0x1000) / 0x80 < 200 then
      findIn .core (coreAddr (b / 24) (b % 24) a ((q - 0x1000) / 0x80)) ((q - 0x1000) % 0x80)
    else none

/-- A register of a die block. -/
def dieRegAt (d o : Nat) : Option RKey :=
  if o < 0x10000 then (if 0x100 ≤ o then findIn .die d (o - 0x100) else none)
  else if 0x01000000 ≤ o ∧ o < 0x01000000 + 24 * 0x100000 then
    bentRegAt (d * 24 + (o - 0x01000000) / 0x100000) ((o - 0x01000000) % 0x100000)
  else if 0x0F000000 ≤ o then spineRegAt d (o - 0x0F000000)
  else none

/-- A register of the package-global block. -/
def globalRegAt (o : Nat) : Option RKey :=
  match o / 0x1000 with
  | 0x0 => findIn .pkg 0 o
  | 0x1 => findRow .dld 0 8 0x40 (o - 0x1000)
  | 0x2 => findRow .keygen 0 8 4 (o - 0x2000)
  | 0x3 => findRow .trs 0 8 0x40 (o - 0x3000)
  | 0x4 => if o < 0x4200 then findRow .jnr 0 8 0x40 (o - 0x4000) else findIn .jnrProg 0 (o - 0x4200)
  | 0x5 => findRow .fabric 0 8 0x20 (o - 0x5000)
  | 0x6 => if o < 0x6200 then findIn .prtCmd 0 (o - 0x6000) else findRow .prtState 0 8 0x40 (o - 0x6200)
  | 0x7 => if o < 0x7400 then findRow .recovery 0 8 0x40 (o - 0x7000) else findIn .mgtRst 0 (o - 0x7400)
  | 0x8 => findIn .reliab 0 (o - 0x8000)
  | 0x9 => findIn .plumb 0 (o - 0x9000)
  | 0xA => if o < 0xA100 then findIn .power 0 (o - 0xA000) else findRow .pwrPart 0 8 0x10 (o - 0xA100)
  | 0xB => if o < 0xB100 then findIn .sec 0 (o - 0xB000) else findRow .root 0 8 0x40 (o - 0xB100)
  | 0xC => findIn .maint 0 (o - 0xC000)
  | 0xD => findIn .host 0 (o - 0xD000)
  | 0xE => findIn .tel 0 (o - 0xE000)
  | _ => if o < 0xF200 then findIn .tst 0 (o - 0xF000) else findRow .pert 0 8 0x20 (o - 0xF200)

/-- The register at a physical offset (R13, R540, R541). -/
def regAt (off : Nat) : Option RKey :=
  if off % 4 ≠ 0 then none
  else if off < 0x40000000 then dieRegAt (off / 2 ^ 28) (off % 2 ^ 28)
  else if off < 0x40010000 then globalRegAt (off - 0x40000000)
  else none

/-- The physical offset of a block of a unit. -/
def blkBase (b : RegBlk) (u : Nat) : Option Nat :=
  let bentBase (b : Nat) : Nat := b / 24 * 2 ^ 28 + 0x01000000 + b % 24 * 0x100000
  let spine (d : Nat) : Nat := d * 2 ^ 28 + 0x0F000000
  match b with
  | .pkg => some 0x40000000
  | .core => some (bentBase (bentOf u) + 0x80000 + coreBayOf u * 0x8000 + 0x1000 + coreNum u * 0x80)
  | .bay => some (bentBase (u / 16) + 0x80000 + u % 16 * 0x8000)
  | .dld => some (0x40001000 + u * 0x40)
  | .pool => some (spine (u / 64) + 0x1E0000 + u % 64 * 0x20)
  | .pegErr => if u % 25 = 24 then some (spine (u / 25) + 0x1F0000) else some (bentBase (u / 25 * 24 + u % 25) + 0x44000)
  | .deck => some (spine (u / 8) + 0x100000 + u % 8 * 0x40)
  | .chan => some (spine (u / 192) + 0x120000 + u % 192 * 0x40)
  | .tbl => some (spine u + 0x140000)
  | .keygen => some (0x40002000 + u * 4)
  | .trs => some (0x40003000 + u * 0x40)
  | .col => some (spine u + 0x160000)
  | .jnr => some (0x40004000 + u * 0x40)
  | .jnrProg => some 0x40004200
  | .jnrDie => some (spine u + 0x180000)
  | .port => some (spine (u / 2) + 0x1A0000 + u % 2 * 0x100)
  | .fabric => some (0x40005000 + u * 0x20)
  | .d2d => some (spine (u / 2) + 0x1C0000 + u % 2 * 0x100)
  | .prtCmd => some 0x40006000
  | .prtState => some (0x40006200 + u * 0x40)
  | .vf => none
  | .recovery => some (0x40007000 + u * 0x40)
  | .mgtRst => some 0x40007400
  | .reliab => some 0x40008000
  | .bent => some (bentBase u)
  | .thermal => some (spine u + 0x210000)
  | .plumb => some 0x40009000
  | .power => some 0x4000A000
  | .pwrPart => some (0x4000A100 + u * 0x10)
  | .sec => some 0x4000B000
  | .maint => some 0x4000C000
  | .host => some 0x4000D000
  | .vfHq => none
  | .die => some (u * 2 ^ 28 + 0x100)
  | .tel => some 0x4000E000
  | .vfTel => none
  | .tst => some 0x4000F000
  | .pert => some (0x4000F200 + u * 0x20)
  | .pegBent => some (bentBase u + 0x40000)
  | .pegSpn => some (spine u + 0x200000)
  | .idle => some (bentBase (bentOf u) + 0x8000 + (coreBayOf u * 200 + coreNum u) * 0x40)
  | .root => some (0x4000B100 + u * 0x40)
  | .spnSnap => some (spine u + 0x210100)

def RKey.blk (k : RKey) : RegBlk := k.reg.place.1

/-- The physical offset of a register; the VF pages have none. -/
def RKey.addr (k : RKey) : Option Nat :=
  let (b, o, st, _) := k.reg.place
  (blkBase b k.unit).map fun a => a + o + k.idx * st

/-! ### VF windows (R392, R393) -/

/-- The bents of a partition in ascending order: the bent index of R392. -/
def State.bentIndex (s : State) (p i : Nat) : Option Nat := ((List.range 96).filter fun b => (s.part p).bents.contains b)[i]?

/-- The register that a window offset of VF `v` names, for its partition. -/
def State.windowReg (s : State) (v p off : Nat) : Option RKey :=
  if off % 4 ≠ 0 then none
  else if off < 0x100 then findIn .vf v off
  else if off < 0x180 then findRow .vfHq (v * 8) 4 0x20 (off - 0x100)
  else if off < 0x200 then none
  else if off < 0x10000 then findIn .vfTel v off
  else if off < 0x20000 then none
  else if off < 0x30000 then
    let o := off - 0x20000
    if o < 0x100 then findIn .dld p o
    else if o < 0x200 then findIn .trs p (o - 0x100)
    else if o < 0x300 then findIn .jnr p (o - 0x200)
    else if o < 0x400 then findIn .jnrProg 0 (o - 0x300)
    else if o < 0x500 then findIn .fabric p (o - 0x400)
    else if o < 0x600 then findIn .keygen p (o - 0x500)
    else findIn .prtState p (o - 0x600)
  else if off < 0x100000 then none
  else if off < 0x500000 then spineRegAt ((off - 0x100000) / 0x100000) (0x100000 + (off - 0x100000) % 0x100000)
  else if off < 0x540000 then spineRegAt ((off - 0x500000) / 0x10000) (0x200000 + (off - 0x500000) % 0x10000)
  else if off < 0x600000 then none
  else if off < 0x600000 + 96 * 0x8000 then
    (s.bentIndex p ((off - 0x600000) / 0x8000)).bind fun b => bentRegAt b (0x40000 + (off - 0x600000) % 0x8000)
  else if off < 0x1000000 then none
  else (s.bentIndex p ((off - 0x1000000) / 0x80000)).bind fun b => bentRegAt b (0x80000 + (off - 0x1000000) % 0x80000)

/-- Is a register one of the partition's own units, in the window of VF `v` (R393)? (DEDUCED, log 88). -/
def State.vfSees (s : State) (v p : Nat) (k : RKey) : Bool :=
  let q := s.part p
  match k.blk with
  | .core => q.bents.contains (bentOf k.unit)
  | .bay => q.bents.contains (k.unit / 16)
  | .dld => k.unit == p
  | .pool => (q.pools.getD (k.unit / 64) 0).testBit (k.unit % 64)
  | .pegErr => decide (k.unit % 25 ≠ 24) && q.bents.contains (k.unit / 25 * 24 + k.unit % 25)
  | .deck => k.unit % 8 == p
  | .chan => q.chans.contains k.unit
  | .keygen => k.unit == p
  | .trs => k.unit == p
  | .jnr => k.unit == p
  | .jnrProg => true
  | .port => q.ports.contains k.unit
  | .fabric => k.unit == p
  | .prtState => k.unit == p
  | .vf => k.unit == v
  | .vfHq => k.unit / 8 == v
  | .vfTel => k.unit == v
  | .pegBent => q.bents.contains k.unit
  | .pegSpn => (q.pegblk.getD k.unit 0).testBit (k.idx / 256)
  | _ => false

/-- The offsets the I3C register target reaches (R531). -/
def i3cReach (a : Nat) (write : Bool) : Bool :=
  let o := a - 0x40000000
  decide (0x40000000 ≤ a) &&
  (decide (o < 0x100 ∨ (0x7400 ≤ o ∧ o < 0x7420) ∨ (0x8000 ≤ o ∧ o < 0x8054) ∨ (0x9000 ≤ o ∧ o < 0x9058) ∨
    (0xA000 ≤ o ∧ o < 0xA180) ∨ (0xB000 ≤ o ∧ o < 0xB030) ∨ (0xC000 ≤ o ∧ o < 0xC014) ∨ (0xF000 ≤ o ∧ o < 0xF098)) ||
   (!write && decide (0xD000 ≤ o ∧ o < 0xD028)))

/-- Does a source reach a register (R393, R405, R420, R434, R531, R544)? While a partition is fenced only the VF page
stays live. (DEDUCED, log 88). -/
def State.reaches (s : State) (src : Src) (k : RKey) (write : Bool) : Bool :=
  match src with
  | .i3c => match k.addr with | some a => i3cReach a write | none => false
  | .vf v =>
    match (s.vf v).bound with
    | some p => s.vfSees v p k && (!(s.part p).fenced || k.blk == .vf || k.blk == .vfHq || k.blk == .vfTel)
    | none => false
  | .pf => k.addr.isSome
  | .welyar => true

/-- A write that does not reach its register is dropped and counted (R393, R531). (DEDUCED, log 58). -/
def State.denied (s : State) (src : Src) : State :=
  match src with
  | .vf v => if (s.vf v).bound.isSome then s.count .prtVfDropCnt v 1 else s
  | .i3c => s.count .mgtI3cDenyCnt 0 1
  | _ => s

/-- Can a source issue an access: the package is started, and for a function the link is up (R524, R539) and the function
not in D3hot (R524)? -/
def State.srcLive (s : State) (src : Src) : Bool :=
  s.pkg == .on &&
  (match src with
   | .vf v => s.rbit ⟨.mgtHostLink, 0, 0⟩ 0 && !(s.vf v).d3
   | .pf => s.rbit ⟨.mgtHostLink, 0, 0⟩ 0 && !(s.vf 0).d3
   | _ => true)

/-- A write access of a source to a register: its effect when the source reaches it. -/
def State.accessW (s : State) (src : Src) (k : RKey) (f : State → State) : State :=
  if !(s.srcLive src) then s
  else if s.reaches src k true then f s else s.denied src

/-- Write of the fields of a stored register by their access types (R14, R541). -/
def Fld.write (f : Fld) (old v : Word) : Word :=
  let hi := f.lo + f.width - 1
  match f.acc with
  | .rw => setField old hi f.lo (wbits v hi f.lo)
  | .cnt => setField old hi f.lo (wbits v hi f.lo)
  | .w1c => setField old hi f.lo (Nat.land (wbits old hi f.lo) (2 ^ f.width - 1 - wbits v hi f.lo))
  | .w1s => setField old hi f.lo (Nat.lor (wbits old hi f.lo) (wbits v hi f.lo))
  | _ => old

/-- A bit that the hardware sets in the cycle of the write stays set (R545). -/
def State.writeFields (s : State) (k : RKey) (v : Word) : State :=
  let set := (aget s.cyc.latched k).isSome
  s.setReg k (k.reg.fields.foldl (fun w f => if set && f.acc == .w1c then w else f.write w v) (s.reg k))

/-- End of a command of a command register: `result` in [1:0] with `reason` at `rlo`, `done` at bit 2; cause 9 of the
partition where there is one (R394). -/
def State.cmdDone (s : State) (k : RKey) (result reason rlo : Nat) (p : Option Nat) : State :=
  let w := setField (setField (s.reg k) 1 0 result) 2 2 1
  let s1 := s.setReg k (if rlo = 0 then w else setField w (rlo + 2) rlo reason)
  match p with
  | some p => s1.cause p 9
  | none => s1

/-- Shared event helper: an event of a partition's engine on die `d` under the spine's time. -/
def State.spineEvent (s : State) (d code p : Nat) (src : Word) (a0 a1 : Nat) : State :=
  s.event d (domOfSpine d) code p src a0 a1

end Sys2Proof.Machine
end

