-- ==== Sys2Proof/Machine/Maint.lean ====
section
/-! DEFINITION. The maintenance arbiter (17: R515, R516, R517) and suspicion (15: R443, R444). -/
namespace Sys2Proof.Machine

/-- The dies that an activity's unit touches: a bent, a die, a stack, a link's two dies, a port. -/
def Activity.dies (a : Activity) : List Nat :=
  match a.code with
  | 1 => [a.unit / 24]
  | 2 => [a.unit]
  | 4 => [a.unit / 24]
  | 5 => [a.unit / 24]
  | 6 => [a.unit / 6]
  | 7 => [a.unit / 6]
  | 8 => match a.unit / 48 with | 0 => [0, 1] | 1 => [1, 3] | 2 => [3, 2] | _ => [2, 0]
  | 9 => [a.unit / 2]
  | _ => []

/-- The entry of the matrix of R515 for a pair of codes: 0 never, 1 always, 2 same bent, 3 same die, 4 same stack,
5 same bundle or port. -/
def maintMatrix (a b : Nat) : Nat :=
  if a = 3 ∨ b = 3 then 1
  else if a = 10 ∨ b = 10 then (if a = b then 1 else 0)
  else if a = 2 ∨ b = 2 then
    (let o := if a = 2 then b else a
     if o = 1 ∨ o = 4 then 0 else 3)
  else if (a = 1 ∨ a = 4 ∨ a = 5) ∧ (b = 1 ∨ b = 4 ∨ b = 5) then 2
  else if (a = 6 ∨ a = 7) ∧ (b = 6 ∨ b = 7) then 4
  else if a = b ∧ (a = 8 ∨ a = 9) then 5
  else 0

/-- Do two activities conflict (R515)? -/
def Activity.conflicts (a b : Activity) : Bool :=
  match maintMatrix a.code b.code with
  | 0 => false
  | 1 => true
  | 3 => a.dies.any b.dies.contains
  | _ => a.unit == b.unit

/-- The partition that holds the unit of an activity. -/
def State.maintPart (s : State) (a : Activity) : List Nat :=
  (List.range 8).filter fun p =>
    let q := s.part p
    q.built && (match a.code with
      | 1 => q.bents.contains a.unit
      | 2 => q.bents.any fun b => b / 24 == a.unit
      | 3 => true
      | 4 => q.bents.contains a.unit
      | 5 => q.bents.contains a.unit
      | 6 => q.chans.any fun c => c / 32 == a.unit
      | 7 => q.chans.any fun c => c / 32 == a.unit
      | 8 => ((s.links.toList[a.unit / 48]?).bind fun l => l.bundles[a.unit % 48]?).any fun b => b.st == 4 && b.part == p
      | 9 => q.ports.contains a.unit
      | _ => false)

/-- The event source of an activity's unit. -/
def Activity.src (a : Activity) : Word :=
  match a.code with
  | 1 => srcOf 3 a.unit
  | 2 => srcEngine a.unit 0
  | 4 => srcOf 3 a.unit
  | 5 => srcOf 3 a.unit
  | 6 => srcOf 6 (a.unit * 32)
  | 7 => srcOf 6 (a.unit * 32)
  | 8 => srcOf 7 a.unit
  | 9 => srcOf 5 a.unit
  | _ => 0#32

/-- Event 0x0403: 0 start, 1 end, 2 queued. -/
def State.maintEvent (s : State) (a : Activity) (w : Nat) : State :=
  s.event 0 (domOfSpine 0) 0x0403 255 a.src a.code w

/-- May an activity start (R516, rules 1 and 4), with the requests queued before it? -/
def State.maintFree (s : State) (before : List Activity) (a : Activity) : Bool :=
  !((s.maintRun ++ before).any a.conflicts) && decide (s.maintRun.length < 16) &&
  (!(s.rbit ⟨.mgtMaintCtl, 0, 0⟩ 0) || a.code == 4 || a.code == 6 || a.code == 8 || a.code == 9) &&
  (a.code != 1 || decide ((s.maintRun.filter fun b => b.code == 1 && b.unit / 24 == a.unit / 24).length < 4))

/-- An activity starts: cause 13 on the partitions that hold its unit (R394, R516). -/
def State.maintStart (s : State) (a : Activity) : State :=
  (s.maintPart a).foldl (fun s p => s.cause p 13) ({ s with maintRun := s.maintRun ++ [a] }.maintEvent a 0)

/-- A request: it starts, joins the queue, or is refused (result 0, 2, 1). -/
def State.maintAsk (s : State) (a : Activity) : State × Nat :=
  if s.maintFree s.maintQueue a then (s.maintStart a, 0)
  else if 256 ≤ s.maintQueue.length then (s, 1)
  else
    let s1 := ({ s with maintQueue := s.maintQueue ++ [a] }.count .mgtMaintQueueCnt 0 1).setReg ⟨.mgtMaintLast, 0, 0⟩
      (BitVec.ofNat 32 (a.code + a.unit * 16))
    ((s1.pldmEvent 0x0006 a.code).maintEvent a 2, 2)

/-- Examine the queue in order (R516, rule 3): `before` holds the requests that stay queued. -/
def State.maintScan (before : List Activity) : List Activity → State → State
  | [], s => { s with maintQueue := before }
  | a :: r, s =>
    if s.maintFree before a then State.maintScan before r (s.maintStart a) else State.maintScan (before ++ [a]) r s

/-- An activity ends. -/
def State.maintEnd (s : State) (a : Activity) : State :=
  if s.maintRun.contains a then
    State.maintScan [] s.maintQueue
      (({ s with maintRun := s.maintRun.erase a }.count .mgtMaintDoneCnt 0 1).maintEvent a 1)
  else s

/-- A queued request is withdrawn (R517). -/
def State.maintCancel (s : State) (a : Activity) : State := { s with maintQueue := s.maintQueue.erase a }

/-! ### Suspicion (R443, R444) -/

/-- The event source of a unit of MGT_SUSPECT_STATUS: core, joiner, table engine, loader, collective engine, channel. -/
def unitSrc (kind id : Nat) : Word :=
  match kind with
  | 1 => srcOf 1 id
  | 2 => srcEngine (id / 16) 2
  | 3 => srcEngine id 1
  | 4 => srcBay id
  | 5 => srcEngine id 0
  | _ => srcOf 6 id

/-- The cores of a bay whose loader is retired are no reserve cores (R443). -/
def State.ineligible (s : State) (bay : Nat) : State :=
  (List.range 8).foldl (fun s p => s.setPart p { s.part p with reserve := (s.part p).reserve.filter fun c => bayOf c != bay }) s

/-- Retirement of a unit is decided: it enters the retirement list once (R443, R504). -/
def State.retireUnit (s : State) (kind id : Nat) : State :=
  if s.retired.contains (kind, id) then s
  else
    let fk := match kind with | 1 => 1 | 2 => 4 | 3 => 5 | 4 => 6 | 5 => 7 | _ => 3
    let s1 := { s with retired := s.retired ++ [(kind, id)], flash := { s.flash with retire := s.flash.retire ++ [(fk, 0, id, s.plumb)] } }
    let s2 := if kind = 4 then s1.ineligible id else s1
    (s2.count .mgtRetireCnt 0 1).event 0 (domOfSpine 0) 0x0404 255 (unitSrc kind id) kind 2

/-- Welyar marks a unit suspect (R443): the first suspicion is latched, each counted; a core or joiner suspect twice
within 2^42 pt is retired. A core of a partition that has a reserve core becomes pending, sets cause 13 and has a
substitution asked for (R444). (DEDUCED, log 86). -/
def State.suspect (s : State) (kind id : Nat) : State :=
  let again : Bool := match aget s.suspectT (kind, id) with
    | some t => decide (s.since t ≤ 2 ^ 42) && decide (kind ≤ 2)
    | none => false
  let s1 := (s.latch ⟨.mgtSuspectStatus, 0, 0⟩ (BitVec.ofNat 32 (kind * 4))
    [(⟨.mgtSuspectUnit, 0, 0⟩, BitVec.ofNat 32 id)]).count .mgtSuspectCnt 0 1
  let s2 := ({ s1 with suspects := aset s1.suspects (kind, id) s.plumb, suspectT := aset s1.suspectT (kind, id) s.plumb }).event 0 (domOfSpine 0) 0x0404 255
    (unitSrc kind id) kind 1
  let s3 := if again then s2.retireUnit kind id else s2
  if kind = 1 then
    match s.partOfCore id with
    | some p =>
      if (s.part p).reserve.isEmpty || !((s.part p).coreMap.contains id) || s3.pendingSub.contains id then s3
      else ({ s3 with pendingSub := s3.pendingSub ++ [id] }.cause p 13).maintAsk ⟨4, bentOf id⟩ |>.1
    | none => s3
  else s3

/-! ### Commands -/

/-- MAINT_REQUEST (R515, R516). -/
def execMaintRequest (code : Nat) (unit : Nat) (s : State) : Host.Outcome State Fault Refusal :=
  .next (if 1 ≤ code ∧ code ≤ 10 then (s.maintAsk ⟨code, unit⟩).1 else s)

/-- MAINT_HOLD_WRITE (R516, R520): clearing `hold` lets the queue be examined. -/
def execMaintHoldWrite (src : Src) (hold : Bool) (s : State) : Host.Outcome State Fault Refusal :=
  let k : RKey := ⟨.mgtMaintCtl, 0, 0⟩
  .next (s.accessW src k fun s =>
    let s1 := s.setFld k 0 0 (b2n hold)
    if hold then s1 else State.maintScan [] s1.maintQueue s1)

end Sys2Proof.Machine
end

