-- ==== Sys2Proof/Machine/Crypto.lean ====
section
/-! DEFINITION. The algorithms the spec names by their standards (R337, R339, R501, R511): SHA-384 (FIPS 180-4), HMAC
(FIPS 198-1), HKDF (RFC 5869), AES-256 (FIPS 197), GCM (NIST SP 800-38D). (DEDUCED, log 10). -/
namespace Sys2Proof.Machine

/-- Big-endian bytes of a number, and back. -/
def beBytes (n v : Nat) : List Byte := (leBytes n v).reverse
def beNat (l : List Byte) : Nat := leNat l.reverse

/-! ### SHA-384 -/

/-- floor of the `k`-th root of `n`, from `b` bits. -/
def iroot (k n : Nat) : Nat → Nat → Nat
  | 0, r => r
  | b + 1, r => iroot k n b (if (r + 2 ^ b) ^ k ≤ n then r + 2 ^ b else r)

/-- The first 80 primes: the constants are the first 64 fraction bits of their cube roots, and of the square roots of the
ninth to sixteenth. -/
def shaPrimes : List Nat :=
  [2, 3, 5, 7, 11, 13, 17, 19, 23, 29, 31, 37, 41, 43, 47, 53, 59, 61, 67, 71, 73, 79, 83, 89, 97, 101, 103, 107, 109, 113] ++
  [127, 131, 137, 139, 149, 151, 157, 163, 167, 173, 179, 181, 191, 193, 197, 199, 211, 223, 227, 229, 233, 239, 241, 251] ++
  [257, 263, 269, 271, 277, 281, 283, 293, 307, 311, 313, 317, 331, 337, 347, 349, 353, 359, 367, 373, 379, 383, 389, 397] ++
  [401, 409]

def shaK : List (BitVec 64) := shaPrimes.map fun p => BitVec.ofNat 64 (iroot 3 (p * 2 ^ 192) 68 0)

/-- The working variables a to h. -/
structure ShaVars where
  a : BitVec 64
  b : BitVec 64
  c : BitVec 64
  d : BitVec 64
  e : BitVec 64
  f : BitVec 64
  g : BitVec 64
  h : BitVec 64
  deriving DecidableEq, Repr

def ShaVars.ofList (l : List (BitVec 64)) : ShaVars :=
  let w (i : Nat) := l.getD i 0#64
  ⟨w 0, w 1, w 2, w 3, w 4, w 5, w 6, w 7⟩

def ShaVars.toList (v : ShaVars) : List (BitVec 64) := [v.a, v.b, v.c, v.d, v.e, v.f, v.g, v.h]

def sha384Init : ShaVars :=
  ShaVars.ofList (((shaPrimes.drop 8).take 8).map fun p => BitVec.ofNat 64 (iroot 2 (p * 2 ^ 128) 68 0))

/-- The message schedule, newest word first. -/
def shaSchedule : Nat → List (BitVec 64) → List (BitVec 64)
  | 0, w => w
  | n + 1, w =>
    let x := w.getD 14 0#64
    let y := w.getD 1 0#64
    let s0 := x.rotateRight 1 ^^^ x.rotateRight 8 ^^^ (x >>> 7)
    let s1 := y.rotateRight 19 ^^^ y.rotateRight 61 ^^^ (y >>> 6)
    shaSchedule n ((s1 + w.getD 6 0#64 + s0 + w.getD 15 0#64) :: w)

def ShaVars.round (v : ShaVars) (kw : BitVec 64 × BitVec 64) : ShaVars :=
  let s1 := v.e.rotateRight 14 ^^^ v.e.rotateRight 18 ^^^ v.e.rotateRight 41
  let ch := (v.e &&& v.f) ^^^ (~~~v.e &&& v.g)
  let t1 := v.h + s1 + ch + kw.1 + kw.2
  let s0 := v.a.rotateRight 28 ^^^ v.a.rotateRight 34 ^^^ v.a.rotateRight 39
  let maj := (v.a &&& v.b) ^^^ (v.a &&& v.c) ^^^ (v.b &&& v.c)
  ⟨t1 + (s0 + maj), v.a, v.b, v.c, v.d + t1, v.e, v.f, v.g⟩

/-- The words of a block of 128 bytes. -/
def shaWords (l : List Byte) : List (BitVec 64) := (List.range 16).map fun i => BitVec.ofNat 64 (beNat ((l.drop (8 * i)).take 8))

def ShaVars.block (v : ShaVars) (l : List Byte) : ShaVars :=
  let w := (shaSchedule 64 (shaWords l).reverse).reverse
  ShaVars.ofList (List.zipWith (· + ·) v.toList ((shaK.zip w).foldl ShaVars.round v).toList)

def sha384 (m : List Byte) : List Byte :=
  let p := m ++ [0x80#8] ++ List.replicate ((239 - m.length % 128) % 128) 0#8 ++ beBytes 16 (8 * m.length)
  let v := (List.range (p.length / 128)).foldl (fun v i => ShaVars.block v ((p.drop (128 * i)).take 128)) sha384Init
  (v.toList.take 6).flatMap fun x => beBytes 8 x.toNat

def xorBytes (a b : List Byte) : List Byte := List.zipWith (· ^^^ ·) a b

def hmacSha384 (key m : List Byte) : List Byte :=
  let k := if 128 < key.length then sha384 key else key
  let k := k ++ List.replicate (128 - k.length) 0#8
  sha384 (xorBytes k (List.replicate 128 0x5C#8) ++ sha384 (xorBytes k (List.replicate 128 0x36#8) ++ m))

/-- HKDF-SHA-384 without a salt: the first 32 output bytes (R339). -/
def hkdf (key info : List Byte) : List Byte :=
  (hmacSha384 (hmacSha384 (List.replicate 48 0#8) key) (info ++ [1#8])).take 32

/-! ### AES-256 -/

def aesXtime (b : Byte) : Byte := (b <<< 1) ^^^ (if b.getLsbD 7 then 0x1B#8 else 0#8)

def aesMul (a b : Byte) : Byte :=
  ((List.range 8).foldl (fun (r : Byte × Byte) i => (if b.getLsbD i then r.1 ^^^ r.2 else r.1, aesXtime r.2)) (0#8, a)).1

/-- The inverse in GF(2^8), 0 of 0: the 254th power. -/
def aesInv (a : Byte) : Byte :=
  let sq := fun x => aesMul x x
  let a3 := aesMul (sq a) a
  let a15 := aesMul (sq (sq a3)) a3
  let a127 := aesMul (sq (aesMul (sq (sq a15)) a3)) a
  sq a127

def aesSbox (a : Byte) : Byte :=
  let b := aesInv a
  b ^^^ b.rotateLeft 1 ^^^ b.rotateLeft 2 ^^^ b.rotateLeft 3 ^^^ b.rotateLeft 4 ^^^ 0x63#8

/-- The key schedule, newest word first: `i` is the number of the next word. -/
def aesSchedule : Nat → Nat → Byte → List (List Byte) → List (List Byte)
  | 0, _, _, w => w
  | n + 1, i, rc, w =>
    let t := w.headD []
    let rot := (t.drop 1) ++ (t.take 1)
    let u := if i % 8 = 0 then xorBytes (rot.map aesSbox) [rc, 0#8, 0#8, 0#8] else if i % 8 = 4 then t.map aesSbox else t
    aesSchedule n (i + 1) (if i % 8 = 0 then aesXtime rc else rc) (xorBytes (w.getD 7 []) u :: w)

/-- The 15 round keys of a 32-byte key. -/
def aesKeys (key : List Byte) : List (List Byte) :=
  let w := (aesSchedule 52 8 1#8 ((List.range 8).map fun i => (key.drop (4 * i)).take 4).reverse).reverse
  (List.range 15).map fun i => ((w.drop (4 * i)).take 4).flatten

def aesShiftRows (s : List Byte) : List Byte :=
  (List.range 16).map fun i => s.getD (i % 4 + 4 * ((i / 4 + i % 4) % 4)) 0#8

def aesMixColumns (s : List Byte) : List Byte :=
  (List.range 16).map fun i =>
    let b (k : Nat) : Byte := s.getD (i / 4 * 4 + (i + k) % 4) 0#8
    aesXtime (b 0) ^^^ (aesXtime (b 1) ^^^ b 1) ^^^ b 2 ^^^ b 3

/-- One block under the round keys. -/
def aesBlock (ks : List (List Byte)) (p : List Byte) : List Byte :=
  let mid := ((ks.drop 1).take 13).foldl (fun s k => xorBytes (aesMixColumns (aesShiftRows (s.map aesSbox))) k)
    (xorBytes p (ks.headD []))
  xorBytes (aesShiftRows (mid.map aesSbox)) (ks.getD 14 [])

/-! ### GCM -/

/-- The product in GF(2^128), bit 0 the leftmost. -/
def ghashMul (x y : BitVec 128) : BitVec 128 :=
  ((List.range 128).foldl (fun (r : BitVec 128 × BitVec 128) i =>
    (if x.getMsbD i then r.1 ^^^ r.2 else r.1,
     (r.2 >>> 1) ^^^ (if r.2.getLsbD 0 then (0xE1#128 <<< 120) else 0#128))) (0#128, y)).1

def ghash (h : BitVec 128) (l : List Byte) : BitVec 128 :=
  (List.range ((l.length + 15) / 16)).foldl (fun a i => ghashMul (a ^^^ BitVec.ofNat 128 (beNat ((l.drop (16 * i)).take 16))) h) 0#128

def gcmPad (l : List Byte) : List Byte := l ++ List.replicate ((16 - l.length % 16) % 16) 0#8

/-- The key stream for `n` bytes from counter 2. -/
def gcmStream (ks : List (List Byte)) (iv : List Byte) (n : Nat) : List Byte :=
  ((List.range ((n + 15) / 16)).flatMap fun i => aesBlock ks (iv ++ beBytes 4 (i + 2))).take n

def gcmTag (ks : List (List Byte)) (iv aad cipher : List Byte) : List Byte :=
  let h := BitVec.ofNat 128 (beNat (aesBlock ks (List.replicate 16 0#8)))
  let s := ghash h (gcmPad aad ++ gcmPad cipher ++ beBytes 8 (8 * aad.length) ++ beBytes 8 (8 * cipher.length))
  xorBytes (beBytes 16 s.toNat) (aesBlock ks (iv ++ beBytes 4 1))

/-- Seal under a 32-byte key and a 12-byte IV: the ciphertext and the tag of 128 bits. -/
def gcmSeal (key iv aad plain : List Byte) : List Byte × List Byte :=
  let ks := aesKeys key
  let c := xorBytes plain (gcmStream ks iv plain.length)
  (c, gcmTag ks iv aad c)

/-- Open: the plaintext when the tag verifies. -/
def gcmOpen (key iv aad cipher tag : List Byte) : Option (List Byte) :=
  let ks := aesKeys key
  if gcmTag ks iv aad cipher = tag then some (xorBytes cipher (gcmStream ks iv cipher.length)) else none

end Sys2Proof.Machine
end

