-- ==== Sys2Proof/Machine/Fec.lean ====
section
/-! DEFINITION. The line code of a Lumder port: RS(560, 528) over GF(2^10), its packing and its lanes (R333, R334). -/
namespace Sys2Proof.Machine

/-! ### GF(2^10), field polynomial x^10 + x^3 + 1 -/

def gfDouble (a : BitVec 10) : BitVec 10 := (a <<< 1) ^^^ (if a.getLsbD 9 then 0x009#10 else 0#10)

def gfMul (a b : BitVec 10) : BitVec 10 :=
  ((List.range 10).foldl (fun (r : BitVec 10 × BitVec 10) i => (if b.getLsbD i then r.1 ^^^ r.2 else r.1, gfDouble r.2)) (0#10, a)).1

/-! ### The code -/

/-- The product of a polynomial, highest coefficient first, with x + r. -/
def polyMul1 (p : List (BitVec 10)) (r : BitVec 10) : List (BitVec 10) :=
  List.zipWith (· ^^^ ·) (p ++ [0#10]) (0#10 :: p.map (gfMul r))

/-- The generator polynomial: its roots are the powers 0 to 31 of x; highest coefficient first. (PRESUMED, log 107). -/
def rsGen : List (BitVec 10) :=
  ((List.range 32).foldl (fun (e : List (BitVec 10) × BitVec 10) _ => (polyMul1 e.1 e.2, gfDouble e.2)) ([1#10], 1#10)).1

/-- One data symbol enters the division by the generator: the 32 remainder symbols, highest first. -/
def rsStep (r : List (BitVec 10)) (m : BitVec 10) : List (BitVec 10) :=
  let f := m ^^^ r.headD 0#10
  List.zipWith (fun a g => a ^^^ gfMul f g) (r.drop 1 ++ [0#10]) (rsGen.drop 1)

/-- A codeword: 528 data symbols, then 32 check symbols. -/
def rsEncode (data : List (BitVec 10)) : List (BitVec 10) := data ++ data.foldl rsStep (List.replicate 32 0#10)

/-- Data symbol `i` of 660 bytes: packed least significant bit first (R333). -/
def packSymbols (l : List Byte) : List (BitVec 10) :=
  let v := leNat l
  (List.range 528).map fun i => BitVec.ofNat 10 (v / 2 ^ (10 * i))

/-- The eight codewords of the 5,280 data bytes of a superblock (R334). -/
def superblock (l : List Byte) : List (List (BitVec 10)) :=
  (List.range 8).map fun c => rsEncode (packSymbols ((l.drop (660 * c)).take 660))

/-- The symbols that logical lane `k` of `n` carries: symbol i of a codeword goes on lane i mod n (R333). -/
def laneSymbols (n k : Nat) (cws : List (List (BitVec 10))) : List (BitVec 10) :=
  cws.flatMap fun c => ((List.range 560).filter fun i => i % n == k).map fun i => c.getD i 0#10

/-- Codewords that begin in frame slot `slot` of a superblock: 660-byte steps in 1,056-byte frames (R334). -/
def slotCodewords (slot : Nat) : Nat := ((List.range 8).filter fun c => 660 * c / 1056 == slot).length

/-- The decoder corrects up to 16 symbols of a codeword (R333); `errs`: the symbols in error. -/
def corrected (errs : List Nat) : Bool := decide (errs.eraseDups.length ≤ 16)

end Sys2Proof.Machine
end

