-- ==== Sys2Proof/Machine/Inspect.lean ====
section
/-! DEFINITION. The inspection record (14: R421-R425): its header, its place in the ring buffer of a partition, the
record of the package for the tray controller. -/
namespace Sys2Proof.Machine

/-- The fabric address of the package (R35). -/
def State.fabricAddr (s : State) : Nat := s.rfld ⟨.pkgFabricAddr, 0, 0⟩ 16 0

/-- A record: the 64-byte header of R422 and its sections. (DEDUCED, log 78). -/
def recordOf (level trigger part epoch flags : Nat) (t : Time) (addr nsect : Nat) (body : List Byte) : List Byte :=
  leBytes 2 0x49D7 ++ leBytes 1 1 ++ leBytes 1 level ++ leBytes 1 trigger ++ leBytes 1 part ++ leBytes 1 epoch ++
  leBytes 1 flags ++ leBytes 8 t.toNat ++ leBytes 4 addr ++ leBytes 4 nsect ++ leBytes 4 (64 + body.length) ++
  leBytes 4 (crc32 body) ++ List.replicate 32 0#8 ++ body

/-- The snapshot instant of a record (R421). (DEDUCED, log 32). -/
def State.inspectT (s : State) : Time := s.plumb + 65536#64

/-- Write bytes into partition memory; a page that does not translate takes none. (DEDUCED, log 65). -/
def State.vput (s : State) (p va : Nat) (l : List Byte) : State := (s.vstore p va 0 (clean l)).1

/-- An inspection record of a partition (R421, R425, R434): it starts at the first multiple of 4 KiB after the one
before, or at the base when it would pass the end; with `len` 0 only the status is kept. -/
def State.inspect (s : State) (p level trigger : Nat) : State :=
  let q := s.part p
  let n := s.inspects
  let room := (s.reg ⟨.prtInspLen, p, 0⟩).toNat
  let base := (s.reg ⟨.prtInspLo, p, 0⟩).toNat + 2 ^ 32 * s.rfld ⟨.prtInspHi, p, 0⟩ 15 0
  let full := Config.inspectBody n
  let trunc := decide (room ≠ 0 ∧ room < 64 + full.length)
  let body := if trunc then (Config.inspectCut n (room - 64)).take (room - 64) else full
  let rec_ := recordOf level trigger p q.epoch.toNat (b2n trunc) s.inspectT s.fabricAddr (Config.inspectSections n).toNat body
  let next := match q.inspEnd with | none => 0 | some e => (e + 4095) / 4096 * 4096
  let pos := if room < next + rec_.length then 0 else next
  let s1 := { s with inspects := n + 1, snapWelyar := some s.inspectT }
  let s2 := if room = 0 then s1
    else
      let gap := match q.inspEnd with
        | some e => if e < pos then s1.vput p (base + e) (List.replicate (pos - e) 0#8) else s1
        | none => s1
      (gap.vput p (base + pos) rec_).setPart p { s1.part p with inspEnd := some (pos + rec_.length) }
  let last := if room = 0 then 0 else pos / 4096
  s2.setReg ⟨.prtInspStatus, p, 0⟩
    (BitVec.ofNat 32 (1 + b2n trunc * 2 + level * 4 + trigger * 32 + last * 2 ^ 13))

/-- The record of a package reset or power cycle goes to the tray controller, at most 16 MiB (R425). (DEDUCED, log 78). -/
def State.inspectPkg (s : State) (level trigger : Nat) : State :=
  let n := s.inspects
  let full := Config.inspectBody n
  let trunc := decide (2 ^ 24 < 64 + full.length)
  let body := if trunc then (Config.inspectCut n (2 ^ 24 - 64)).take (2 ^ 24 - 64) else full
  let r := recordOf level trigger 0xFF (s.rfld ⟨.mgtBootCnt, 0, 0⟩ 7 0) (b2n trunc) s.inspectT s.fabricAddr
    (Config.inspectSections n).toNat body
  { s with inspects := n + 1, pkgRecord := r, snapWelyar := some s.inspectT }.pldmEvent 0x0005 (r.length / 4096)

/-- The last reset of level 2 or above (R435). -/
def State.rstLast (s : State) (level trigger part : Nat) : State :=
  ((s.setReg ⟨.mgtRstLast, 0, 0⟩ (BitVec.ofNat 32 (level + trigger * 8 + part * 2 ^ 11))).setReg ⟨.mgtRstTimeLo, 0, 0⟩
    (s.inspectT.truncate 32)).setReg ⟨.mgtRstTimeHi, 0, 0⟩ ((s.inspectT >>> 32).truncate 32)

end Sys2Proof.Machine
end

