-- ==== Sys2Proof/Machine/Streams.lean ====
section
/-! DEFINITION. The layout of activation and weight streams: which element stands in which lane of which line (R43,
R49, R58, R118, R128-R131, R228, R229). -/
namespace Sys2Proof.Machine

/-- The shape of a tile instruction on a core: `e` the depth of a K pass, `w` the width of an N pass (R49). -/
structure Shape where
  mc : Nat
  m : Nat
  k : Nat
  n : Nat
  e : Nat
  w : Nat
  deriving DecidableEq, Repr

def ceilDiv (a b : Nat) : Nat := (a + b - 1) / b

def Shape.chunks (h : Shape) : Nat := ceilDiv h.m h.mc
def Shape.rows (h : Shape) (c : Nat) : Nat := min h.mc (h.m - c * h.mc)
/-- M′ of a chunk (R43). -/
def Shape.padded (h : Shape) (c : Nat) : Nat := max (h.rows c) 16
def Shape.kpasses (h : Shape) : Nat := ceilDiv h.k h.e
def Shape.npasses (h : Shape) : Nat := ceilDiv h.n h.w
/-- S: the stream rows of a chunk (R43). -/
def Shape.streamRows (h : Shape) (c : Nat) : Nat := h.kpasses * h.padded c
/-- The active columns of an N pass. -/
def Shape.cols (h : Shape) (q : Nat) : Nat := min h.w (h.n - q * h.w)

/-- Find the part of a sequence of parts with given lengths that holds position `i`, and the position in it. -/
def locate : List Nat → Nat → Nat → Option (Nat × Nat)
  | [], _, _ => none
  | l :: r, c, i => if i < l then some (c, i) else locate r (c + 1) (i - l)

/-- Chunk, N pass and stream line of the i-th activation line of the instruction (R228). -/
def Shape.actAt (h : Shape) (i : Nat) : Option (Nat × Nat × Nat) :=
  (locate ((List.range h.chunks).map fun c => h.npasses * h.streamRows c) 0 i).map fun p =>
    (p.1, p.2 / h.streamRows p.1, p.2 % h.streamRows p.1)

def Shape.actLines (h : Shape) : Nat := ((List.range h.chunks).map fun c => h.npasses * h.streamRows c).foldl (· + ·) 0

/-- N pass, K pass and weight row of the i-th weight line (R229); every chunk takes the same lines. -/
def Shape.wAt (h : Shape) (i : Nat) : Nat × Nat × Nat :=
  let r := i % (h.npasses * h.kpasses * 16)
  (r / (h.kpasses * 16), r / 16 % h.kpasses, r % 16)

def Shape.wLines (h : Shape) : Nat := h.chunks * h.npasses * h.kpasses * 16

/-- Stream row in lane `k` of line `j` (R43): K pass and row of the chunk. -/
def Shape.laneRow (h : Shape) (c j k : Nat) : Nat × Nat :=
  let S := h.streamRows c
  let s := (j + S - k) % S
  (s / h.padded c, s % h.padded c)

/-- Why a block cannot be laid (R128): 1 its width exceeds `nmax`, 2 it exceeds the class. -/
def fmtReason (nmax cls : Nat) (b : Blk) : Nat :=
  if b.poison then 0 else if nmax < b.w then 1 else if clsB cls < b.w then 2 else 0

/-- The blocks of a vector that K pass `p` covers (R129), those it cannot lay marked as poison. -/
def passBlocks (cls nmax : Nat) (v : Vec) (p : Nat) : List Blk :=
  let e := 16 * clsG cls
  ((v.blks.drop (p * e / 32)).take (max 1 (e / 32))).map fun b =>
    if fmtReason nmax cls b = 0 then b else { b with poison := true }

/-- One lane: its bits, whether an element of it is poisoned. `lfmt`: the line format (R226); `kk`: the cell row. An element at
or beyond K is zero and carries no poison, also in a poisoned or format-error block (R118, R128). (DESIGN CHOICE, log 101). -/
def laneOf (lfmt nmax : Nat) (v : Vec) (K p kk : Nat) : Nat × Bool :=
  if lfmt < 2 then
    (if p * 16 + kk < K then v.enc.getD (p * 16 + kk) (0, false) else (0, false))
  else
    let cls := lfmt - 2
    let g := clsG cls
    let b := clsB cls
    let bs := passBlocks cls nmax v p
    let q := (alignBlocks cls bs).2.1
    let b0 := p * (16 * g) / 32
    (List.range g).foldl (fun acc i =>
      let ix := p * (16 * g) + kk * g + i
      if ix < K then
        let blk := ix / 32 - b0
        let z : Int := (q.getD blk []).getD (ix % 32) 0
        (acc.1 + 2 ^ (i * b) * qCode b z, acc.2 || (match bs[blk]? with | some b => b.poison | none => false))
      else acc) (0, false)

/-- The group scale of a vector in a K pass (R130). -/
def scaleOf (lfmt nmax : Nat) (v : Vec) (p : Nat) : Nat :=
  if lfmt < 2 then 0 else (alignBlocks (lfmt - 2) (passBlocks (lfmt - 2) nmax v p)).1

/-- What laying one vector's blocks for one pass counts (R128, R130): aligned blocks; format errors as (header address,
reason, width), at each laying. (DESIGN CHOICE, log 101). -/
def layCounts (lfmt nmax : Nat) (v : Vec) (p : Nat) : Nat × List (Nat × Nat × Nat) :=
  if lfmt < 2 then (0, [])
  else
    let cls := lfmt - 2
    let e := 16 * clsG cls
    let b0 := p * e / 32
    let raw := (v.blks.drop b0).take (max 1 (e / 32))
    ((alignBlocks cls (passBlocks cls nmax v p)).2.2,
     ((List.range raw.length).zip raw).filterMap fun x =>
       let r := fmtReason nmax cls x.2
       if r = 0 then none else some (v.va + (b0 + x.1) * slotBytes nmax, r, x.2.w))

/-- Lanes packed into the bytes of a line. -/
def lineOf (lfmt : Nat) (lanes : List (Nat × Bool)) (side : Nat) : Line :=
  { data := lanes.flatMap fun l => leBytes (laneBytes lfmt) l.1
    side := BitVec.ofNat 8 side
    poison := lanes.any (·.2) }

/-- Activation line j of chunk c (R228) from the rows of A. -/
def actLine (h : Shape) (lfmt nmax : Nat) (rowsA : List Vec) (c j : Nat) : Line :=
  let lane (k : Nat) : Nat × Bool :=
    let (p, r) := h.laneRow c j k
    if r < h.rows c then laneOf lfmt nmax (rowsA.getD (c * h.mc + r) {}) h.k p k else (0, false)
  let r := j % h.padded c
  let side := if r < h.rows c then scaleOf lfmt nmax (rowsA.getD (c * h.mc + r) {}) (j / h.padded c) else 0
  lineOf lfmt ((List.range 16).map lane) side

/-- Weight line of N pass q, K pass p, cell row k (R229) from the columns of W. -/
def weightLine (h : Shape) (lfmt nmax : Nat) (colsW : List Vec) (q p k : Nat) : Line :=
  let lane (j : Nat) : Nat × Bool :=
    if j < h.cols q then laneOf lfmt nmax (colsW.getD (q * h.w + j) {}) h.k p k else (0, false)
  let side := if k < h.cols q then scaleOf lfmt nmax (colsW.getD (q * h.w + k) {}) p else 0
  lineOf lfmt ((List.range 16).map lane) side

/-- A stream line read back: lane `k` as a number. -/
def Line.lane (l : Line) (bytes k : Nat) : Nat := leNat ((l.data.drop (k * bytes)).take bytes)

end Sys2Proof.Machine
end

