-- ==== Sys2Proof/Machine/Collective.lean ====
section
/-! DEFINITION. Collectives: truss entries, routes, Sill-32, digests, owners, fallback, settling, gathers (08, R261-R291).
A record that an engine sends is in flight in `colrecs` until the command that delivers it, or until a frame carries it
to another package. -/
namespace Sys2Proof.Machine

/-! ### Entries, members, routes -/

def State.trussAt (s : State) (p id : Nat) : Option Truss := aget s.trusses (p, id)
def State.setTruss (s : State) (p id : Nat) (t : Truss) : State := { s with trusses := aset s.trusses (p, id) t }

def clog2 (n : Nat) : Nat := if n ≤ 1 then 0 else Nat.log2 (n - 1) + 1

/-- G of an entry (R264). -/
def Truss.guard (t : Truss) : Nat := clog2 t.nmem
/-- B: the blocks of the extent. -/
def Truss.blocks (t : Truss) : Nat := ceilDiv t.nelem 64
/-- Elements per logical row; 0 encodes 2^32 (R262). -/
def Truss.rowLen (t : Truss) : Nat := if t.ld = 0 then 2 ^ 32 else t.ld
/-- The position that owns a block (R275). -/
def Truss.ownerPos (t : Truss) (b : Nat) : Nat := b / ceilDiv t.blocks t.nmem
/-- The packages in the order of their lowest member positions (R276). -/
def Truss.pkgs (t : Truss) : List (Nat × Nat) :=
  (t.members.foldl (fun l m => if l.contains (m.addr, m.part) then l else (m.addr, m.part) :: l) []).reverse

def Truss.rankOf (t : Truss) (pk : Nat × Nat) : Nat := (t.pkgs.findIdx? (· == pk)).getD 0
/-- Own rank of partition `p`. -/
def State.ownRank (s : State) (p : Nat) (t : Truss) : Nat := t.rankOf (s.fabricAddr, p)
def Truss.pkgOfPos (t : Truss) (pos : Nat) : Nat × Nat :=
  match t.members[pos]? with | some m => (m.addr, m.part) | none => (0, 0)
/-- Rank of the owner package of a block. -/
def Truss.ownerRank (t : Truss) (b : Nat) : Nat := t.rankOf (t.pkgOfPos (t.ownerPos b))

/-- Members that package rank `r` holds. -/
def Truss.pkgMembers (t : Truss) (r : Nat) : Nat :=
  match t.pkgs[r]? with
  | some pk => (t.members.filter fun m => (m.addr, m.part) == pk).length
  | none => 0

/-- Where the sums of a block end: the owner's rank, or its partner below P2 in halving-doubling (R277). -/
def routeEnd (alg P o : Nat) : Nat :=
  let p2 := 2 ^ Nat.log2 P
  if alg = 2 ∧ p2 ≤ o then o - p2 else o

/-- The rank to which rank `r` sends its partial of a block owned at rank `o` (R277); `none` at the end of the route. -/
def routeNext (alg P o r : Nat) : Option Nat :=
  let rho := (r + P - o) % P
  match alg with
  | 0 => if rho = 0 then none else some ((o + rho - 1) % P)
  | 1 => if rho = 0 then none else some ((o + (rho - 2 ^ Nat.log2 rho)) % P)
  | _ =>
    let p2 := 2 ^ Nat.log2 P
    let e := routeEnd 2 P o
    if p2 ≤ r then some (r - p2)
    else if r = e then none
    else some (Nat.xor r (2 ^ Nat.log2 (Nat.xor r e)))

/-- Does the route from rank `x` pass rank `r`? -/
def routePasses (alg P o r : Nat) : Nat → Nat → Bool
  | 0, x => x == r
  | f + 1, x => x == r || (match routeNext alg P o x with | some y => routePasses alg P o r f y | none => false)

/-- The contributions that the sum of rank `r` must hold before it goes on (R276, R277). -/
def Truss.expect (t : Truss) (b r : Nat) : Nat :=
  let P := t.pkgs.length
  ((List.range P).map fun x => if routePasses t.alg P (t.ownerRank b) r P x then t.pkgMembers x else 0).foldl (· + ·) 0

/-- The ranks that receive a control record of a block from rank `r`: the route in reverse. -/
def Truss.children (t : Truss) (b r : Nat) : List Nat :=
  let P := t.pkgs.length
  let o := t.ownerRank b
  let e := routeEnd t.alg P o
  let kids := (List.range P).filter fun x => routeNext t.alg P o x == some r && x != o && x != r
  if r = o ∧ e ≠ o then [e] else kids

/-- The die whose engine forms the package sum: that of the lowest own member (R276). (DEDUCED, log 84). -/
def Truss.sumDie (t : Truss) : Nat := match t.own.head? with | some m => m.die | none => 0

/-- The own member that a logical core belongs to (R263, R265). -/
def State.memberOf (s : State) (p c : Nat) (t : Truss) : Option OwnMem :=
  (s.lcoreOf c).bind fun l => if s.partOfCore c == some p then
    t.own.find? fun m => match t.members[m.pos]? with | some r => decide (r.lo ≤ l ∧ l ≤ r.hi) | none => false
  else none

/-! ### Records and errors -/

/-- A collective error record (R291, R394, R558): of two in one cycle the lower kind stands (R289). -/
def State.colError (s : State) (d kind p id b : Nat) : State :=
  let s1 := s.latchBy true ⟨.colErrStatus, d, 0⟩ kind (BitVec.ofNat 32 (kind * 4 + p * 32 + id * 256))
    [(⟨.colErrBlock, d, 0⟩, BitVec.ofNat 32 (b % 2 ^ 26))]
  (s1.spineEvent d 0x0108 p (srcEngine d 0) (kind + id * 2 ^ 16) b).cause p 4

/-- A record leaves an engine. (DESIGN CHOICE, log 9). -/
def State.colSend (s : State) (r : ColRec) : State :=
  { s with colrecs := s.colrecs ++ [{ r with id := s.nextId, epoch := (s.part r.part).epoch }], nextId := s.nextId + 1 }

/-- A control or result record of the owner: its own package takes it first, and taking it sends it on along the route in
reverse. (DEDUCED, log 84). -/
def State.colDown (s : State) (p : Nat) (t : Truss) (r : ColRec) : State := s.colSend { r with dst := s.ownRank p t }

/-- A received control or result record goes on to the children. -/
def State.colForward (s : State) (p : Nat) (t : Truss) (r : ColRec) : State :=
  (t.children r.b (s.ownRank p t)).foldl (fun s x => s.colSend { r with dst := x }) s

/-- Is a record a control record of the owner (kinds 2 to 5)? -/
def ColRec.control (r : ColRec) : Bool := decide (2 ≤ r.kind ∧ r.kind ≤ 5) && r.cnt == 0

/-- Does a control record wait behind an earlier one of its block (R279)? -/
def State.colBehind (s : State) (r : ColRec) : Bool :=
  r.control && s.colrecs.any fun x =>
    x.control && x.part == r.part && x.entry == r.entry && x.b == r.b && x.dst == r.dst && decide (x.id < r.id)

/-- Take the record `i` of the given kinds that has arrived at this package, if its entry is valid (R279): a record
that names none is dropped with a record of kind 0; the control records of a block are taken in the order in which the owner
sent them. (DEDUCED, log 84). -/
def State.colTake (s : State) (i : Nat) (kinds : List Nat) : State × Option (ColRec × Truss) :=
  match s.colrecs.find? (fun r => r.id == i && kinds.contains r.kind) with
  | none => (s, none)
  | some r =>
    let s1 := { s with colrecs := s.colrecs.filter fun x => x.id != i }
    match s.trussAt r.part r.entry with
    | none => (s1.colError 0 0 r.part r.entry r.b, none)
    | some t => if s.ownRank r.part t ≠ r.dst || s.colBehind r then (s, none) else (s1, some (r, t))

/-- A record of the entry arrived or left: the members are not stalled (R411). -/
def Truss.stamp (t : Truss) (now : Time) : Truss := { t with own := t.own.map fun m => { m with last := now } }

/-- A residue mismatch of a collective engine (R280, R440, R443). (DEDUCED, log 86). -/
def State.colResidue (s : State) (d p id b : Nat) : State :=
  let s1 := (s.count .colResCnt d 1).colError d 2 p id b
  let k : RKey := ⟨.mgtChkCnt, 0, d⟩
  let s2 := s1.setReg k (s1.reg k + 1#32)
  let ts := ((aget s2.resTimes d).getD []).filter (fun t => decide (s2.since t ≤ 2 ^ 36)) ++ [s2.plumb]
  let s3 := { s2 with resTimes := aset s2.resTimes d ts }
  if 3 ≤ ts.length then { s3 with resTimes := aset s3.resTimes d [] }.suspect 5 d else s3

/-! ### Sill-32 (R267-R270, R281) -/

/-- The state byte of a set of values (R268); 0 when all are zero or not finite. -/
def stateByte (l : List FV) : Nat :=
  let m := maxAbs l
  if m.isZero then 0 else (clampInt 1 255 (m.log2 + 127)).toNat

/-- E of a predicted pass (R269) and of a fallback (R284). -/
def predictE (s G : Nat) : Int := clampInt (-128) 127 ((s : Int) - 127 + 1 + G + 2)
def fallbackE (s G : Nat) : Int := clampInt (-128) 127 ((s : Int) - 127 + 2 + G)

/-- M = 2^61 − 1. -/
def digMod : Nat := 2 ^ 61 - 1

/-- The digest of a block (R281). -/
def digestOf (dseed b : Nat) (q : List Word) : Nat :=
  let r := Nat.xor dseed b % (2 ^ 61 - 3) + 2
  let acc := q.foldl (fun (a : Nat × Nat) w =>
    let pw := a.1 * r % digMod
    (pw, (a.2 + ((w.toInt % (digMod : Int)).toNat) * pw) % digMod)) (1, 0)
  acc.2

/-- `to_sill` (R267): the marks and integers of a block. -/
def toSill (vals : List (Word × Bool)) (G : Nat) (e : Int) : ColRec → ColRec := fun r =>
  let zeros : List Word := List.replicate 64 0#32
  if vals.any (·.2) then { r with poison := true, q := zeros, e := (e + 128).toNat }
  else if vals.any (fun v => notFinite32 v.1) then { r with nf := true, q := zeros, e := (e + 128).toNat }
  else
    let lim : Int := 2 ^ (31 - G) - 1
    let cv (v : Word × Bool) : Int := (fv32 v.1).rneInt (e - 31)
    let q := vals.map fun v => clampInt (-lim) lim (cv v)
    { r with q := q.map fun z => BitVec.ofInt 32 z, e := (e + 128).toNat
             ovf := vals.any fun v => decide (lim < (cv v).natAbs) }

/-- Convert a retained block and send it toward its owner (R267, R273): the counters of the converting engine. -/
def State.sillSend (s : State) (p id : Nat) (t : Truss) (u : RetBuf) (e : Int) (fb rt : Bool) : State :=
  let r0 : ColRec := { part := p, entry := id, kind := 0, step := BitVec.ofNat 8 u.step, cnt := 1, b := u.b, fb := fb,
                       rt := rt, dst := s.ownRank p t }
  let r1 := toSill (u.vals.map fun v => v.getD (0#32, false)) t.guard e r0
  let r2 := { r1 with dig := digestOf t.dseed u.b r1.q }
  let s1 := s.count .colBlkCnt u.die 1
  let s2 := if r2.ovf then s1.count .colSatCnt u.die 1 else s1
  let s3 := if r2.nf then s2.count .colNfCnt u.die 1 else s2
  s3.colSend r2

/-! ### Memory accesses of the engine -/

/-- The exponent state byte of a block, read by the engine of die `d` (R268): an access that fails or is poisoned reads 0 and
latches kind 0 there. -/
def State.estateRead (s : State) (d p id : Nat) (t : Truss) (b : Nat) : State × Nat :=
  match s.vload p (t.estate + b) 1 0 with
  | some (s1, l) => if anyPoison l then (s1.colError d 0 p id b, 0) else (s1, leNat (dataOf l))
  | none => (s.colError d 0 p id b, 0)

/-- The engine of die `d` writes the state byte of a settle or result record; the byte 0 leaves it unchanged (R268, R285).
(DEDUCED, log 84). -/
def State.estateWrite (s : State) (d p id : Nat) (t : Truss) (b st : Nat) : State :=
  if st = 0 then s
  else
    match s.vstore p (t.estate + b) 0 [(BitVec.ofNat 8 st, false)] with
    | (s1, true) => s1
    | (_, false) => s.colError d 0 p id b

/-- The dies whose engines hold a retention buffer of a block in a step. -/
def Truss.bufDies (t : Truss) (b : Nat) (step : BitVec 8) : List Nat :=
  (t.bufs.filter fun u => u.b == b && u.sent && BitVec.ofNat 8 u.step == step).foldl (fun l u => sput l u.die) []

/-- Each member's engine writes the state byte of a settled block (R285). -/
def State.estateSettle (s : State) (p id : Nat) (t : Truss) (r : ColRec) : State :=
  (t.bufDies r.b r.step).foldl (fun s d => s.estateWrite d p id t r.b r.st) s

/-- Write one element of a result or of gathered data; one whose page fails is not written (R286, R288). (DEDUCED, log 84). -/
def State.colStore (s : State) (p id : Nat) (t : Truss) (b va : Nat) (l : List PByte) : State × Bool :=
  match s.vstore p va 0 l with
  | (s1, true) => (s1, true)
  | (_, false) => (s.colError t.sumDie 0 p id b, false)

/-! ### Delivery, settling and completion (R270, R282, R285-R287) -/

def rfmtSize : Nat → Nat | 0 => 4 | _ => 2
def rfmtOf : Nat → FFmt | 0 => .fp32 | 1 => .bf16 | _ => .fp16

/-- The value of an element of a delivered sum (R270). -/
def sillValue (t : Truss) (e : Nat) (q : Word) : Nat :=
  let f := rfmtOf t.rfmt
  if q = 0#32 then 0
  else (f.round (q.toInt < 0) q.toInt.natAbs ((e : Int) - 128 - 31 - t.rshift)).1

/-- Write a delivered block at `dst` (R270, R286). -/
def State.deliverBlock (s : State) (p id : Nat) (t : Truss) (r : ColRec) : State :=
  let sz := rfmtSize t.rfmt
  (List.range 64).foldl (fun s i =>
    let x := 64 * r.b + i
    if x < t.nelem then
      let v := if r.nf then (rfmtOf t.rfmt).nan else sillValue t r.e (r.q.getD i 0#32)
      (s.colStore p id t r.b (t.dst + x * sz) ((leBytes sz (if r.poison then 0 else v)).map fun b => (b, r.poison))).1
    else s) s

/-- Blocks owned by a position. -/
def Truss.ownedBy (t : Truss) (pos : Nat) : Nat :=
  let c := ceilDiv t.blocks t.nmem
  min t.blocks ((pos + 1) * c) - min t.blocks (pos * c)

/-- Has the member everything that completes its current step (R286)? -/
def Truss.stepDone (t : Truss) (m : OwnMem) : Bool :=
  let n := m.step
  if t.op = 3 then decide (t.nelem ≤ ((aget t.arrived n).getD []).length)
  else
    (aget m.settled n).getD 0 == t.blocks && (t.op == 2 || (aget m.owned n).getD 0 == t.ownedBy m.pos)

/-- Complete the steps that are complete: done_peg, event, the step number (R286). -/
def State.colComplete (s : State) (p id : Nat) : State :=
  match s.trussAt p id with
  | none => s
  | some t0 =>
    let s1 := t0.own.foldl (fun s m =>
      if t0.stepDone m then
        match s.trussAt p id with
        | some t =>
          let own' := t.own.map fun x => if x.pos = m.pos then
            { x with step := m.step + 1, settled := adel x.settled m.step, owned := adel x.owned m.step } else x
          let arr := if own'.all (fun x => decide (m.step < x.step)) then adel t.arrived m.step else t.arrived
          ((s.setTruss p id { t with own := own', arrived := arr }).engineSignal m.die p t.donePeg 1#32).spineEvent m.die
            0x0201 p (srcEngine m.die 0) id m.step
        | none => s
      else s) s
    s1

def bump (l : List (Nat × Nat)) (k : Nat) : List (Nat × Nat) := aset l k ((aget l k).getD 0 + 1)

/-- A block settled for a step at the own members (R285): the retention buffers are freed, the block counted. -/
def State.settleHere (s : State) (p id b : Nat) (step : BitVec 8) : State :=
  match s.trussAt p id with
  | none => s
  | some t =>
    let done (u : RetBuf) : Bool := u.b == b && u.sent && BitVec.ofNat 8 u.step == step
    let mine := t.bufs.filter done
    let s1 := mine.foldl (fun s u => s.poolRelease u.die t.rpool u.buf) s
    let own' := t.own.map fun m =>
      match mine.find? (fun u => u.pos == m.pos) with
      | some u => { m with settled := bump m.settled u.step }
      | none => m
    let t1 := { t with bufs := t.bufs.filter (fun u => !(done u)), own := own'
                       bstep := mine.foldl (fun l (u : RetBuf) => aset l (u.pos, b) (u.step + 1)) t.bstep }
    (s1.setTruss p id (t1.stamp s.plumb)).colComplete p id

/-- What the owner keeps of a block. -/
def Truss.ownerOf (t : Truss) (b : Nat) : OwnerBlk := (t.owner.find? fun o => o.b == b).getD { b := b }
def Truss.setOwner (t : Truss) (o : OwnerBlk) : Truss := { t with owner := o :: t.owner.filter fun x => x.b != o.b }

/-- Settle (R285): kind 4, or for all-reduce the result record, to every member; the owned block is counted.
The old byte is read only where an all-zero result lets it stand; a state of 0 leaves every member's byte unchanged.
(DEDUCED, log 84). -/
def State.settle (s : State) (p id : Nat) (r : ColRec) (keepState : Bool) : State :=
  match s.trussAt p id with
  | none => s
  | some t =>
    let nb := stateByte (r.q.map fun q => FV.ofSigned (q.toInt, (r.e : Int) - 128 - 31))
    let (s1, old) := if !keepState && nb == 0 then s.estateRead t.sumDie p id t r.b else (s, 0)
    let st := if keepState then 0 else if nb = 0 then (if old = 0 then 1 else old) else nb
    let o := t.ownerOf r.b
    let pos := t.ownerPos r.b
    let res : ColRec := { r with kind := if t.op = 2 then 1 else 4, st := st, cnt := 0, rt := false
                                 q := if t.op = 2 then r.q else [] }
    let t1 := (t.setOwner { o with step := o.step + 1, retried := false, fellback := false, offered := none
                                   result := if t.op = 2 then some res else none })
    let t2 := { t1 with own := t1.own.map fun m => if m.pos = pos then { m with owned := bump m.owned o.step } else m }
    (s1.setTruss p id t2).colDown p t2 res

/-- Deliver and settle a decided block, a poisoned one with every integer 0 (R267): to `dst`, to the joiner (which settles on acceptance, R305), or as the result
of an all-reduce. -/
def State.deliver (s : State) (p id : Nat) (t : Truss) (r0 : ColRec) (keepState : Bool) : State :=
  let r := if r0.poison then { r0 with q := List.replicate 64 0#32, dig := 0 } else r0
  if t.joiner then s.setTruss p id (t.setOwner { t.ownerOf r.b with offered := some (r, keepState) })
  else if t.op = 2 then s.settle p id r keepState
  else ((s.deliverBlock p id t r).settle p id r keepState).colComplete p id

/-- The owner decides at `cnt` = `nmem` (R282). A retry of a fallback pass sends the fallback exponent before the retry
record (R283). -/
def State.ownerDecide (s : State) (p id : Nat) (r : ColRec) : State :=
  match s.trussAt p id with
  | none => s
  | some t =>
    let d := t.sumDie
    let o := t.ownerOf r.b
    let mis := r.dig != digestOf t.dseed r.b r.q
    let ctl (k : Nat) : ColRec := { part := p, entry := id, kind := k, step := r.step, cnt := 0, b := r.b }
    if r.poison then s.deliver p id t r true
    else if (r.err || mis) && !o.retried then
      let s1 := if mis then s.count .colDigCnt d 1 else s
      let s2 := (s1.colError d 1 p id r.b).count .colRetryCnt d 1
      let t1 := t.setOwner { o with retried := true }
      let s3 := s2.setTruss p id t1
      (if r.fb then s3.colDown p t1 { ctl 3 with e := o.e } else s3).colDown p t1 (ctl 5)
    else if r.err || mis then
      let s1 := if mis then s.count .colDigCnt d 1 else s
      (s1.colError d 3 p id r.b).deliver p id t { r with poison := true } true
    else if r.nf then s.deliver p id t r true
    else if r.ovf && !r.fb then
      let t1 := t.setOwner { o with fellback := true }
      ((s.count .colFbCnt d 1).setTruss p id t1).colDown p t1 (ctl 2)
    else if r.ovf then (s.colError d 4 p id r.b).deliver p id t r false
    else s.deliver p id t r false

/-- Add two partials of a block (R278, R281): integers word by word, marks, counts, digests; `errs` are bit errors of
the adder output by word. -/
def addRec (a r : ColRec) (errs : List (Nat × Word)) : ColRec :=
  let q := (List.range 64).map fun i =>
    let w := a.q.getD i 0#32 + r.q.getD i 0#32
    match aget errs i with | some f => w ^^^ f | none => w
  { a with q := q, cnt := a.cnt + r.cnt, dig := (a.dig + r.dig) % digMod, ovf := a.ovf || r.ovf, nf := a.nf || r.nf
           poison := a.poison || r.poison, err := a.err || r.err, rt := a.rt || r.rt }

/-- The words of an addition whose two residues differ (R280). -/
def residueBad (a r o : ColRec) : List Nat :=
  (List.range 64).filter fun i =>
    decide (((a.q.getD i 0#32).toInt % 7 + (r.q.getD i 0#32).toInt % 7) % 7 ≠ (o.q.getD i 0#32).toInt % 7)

/-- Is a contribution's step neither the owner's current step for the block nor the next one (R274)? -/
def Truss.staleStep (t : Truss) (r : ColRec) : Bool :=
  let cur : BitVec 8 := BitVec.ofNat 8 (t.ownerOf r.b).step
  r.step != cur && r.step != cur + 1#8

/-- COL_PARTIAL (R276-R280, R282): a partial reaches the engine that sums it. -/
def execColPartial (rec_ : Nat) (errs : List (Nat × Word)) (s : State) : Host.Outcome State Fault Refusal :=
  .next (match s.colTake rec_ [0] with
  | (s1, none) => s1
  | (s1, some (r, t)) =>
    let p := r.part
    let id := r.entry
    let me := s1.ownRank p t
    let own := t.ownerRank r.b == me
    if own && t.staleStep r then s1.colError t.sumDie 6 p id r.b
    else if own && r.cnt == t.nmem then (s1.setTruss p id (t.stamp s1.plumb)).ownerDecide p id r
    else
      let key (x : ColSum) : Bool := x.b == r.b && x.step == r.step && !x.max && x.fb == r.fb && x.rt == r.rt
      let prev := t.sums.find? key
      let sum := match prev with | some x => addRec x.acc r errs | none => r
      let bad := match prev with | some x => residueBad x.acc r sum | none => []
      let sum := if !bad.isEmpty then { sum with err := true } else sum
      let t1 := ({ t with sums := t.sums.filter fun x => !(key x) }).stamp s1.plumb
      let s2 := bad.foldl (fun s _ => s.colResidue t.sumDie p id r.b) s1
      if sum.cnt < t.expect r.b me then
        s2.setTruss p id { t1 with sums := t1.sums ++ [⟨r.b, r.step, false, r.fb, r.rt, sum⟩] }
      else
        match routeNext t.alg t.pkgs.length (t.ownerRank r.b) me with
        | some nx => (s2.setTruss p id t1).colSend { sum with dst := nx }
        | none =>
          if own then (s2.setTruss p id t1).ownerDecide p id sum
          else (s2.setTruss p id t1).colSend { sum with dst := t.ownerRank r.b })

/-- The owner sends the fallback exponent that the combined state byte gives (R284), and keeps it (R283). -/
def State.sendExponent (s : State) (p id : Nat) (t : Truss) (r : ColRec) (st : Nat) : State :=
  let e := (fallbackE st t.guard + 128).toNat
  let t1 := t.setOwner { t.ownerOf r.b with fellback := true, e := e }
  (s.setTruss p id t1).colDown p t1 { part := p, entry := id, kind := 3, step := r.step, cnt := 0, b := r.b, e := e }

/-- COL_MAX_REPLY (R274, R284): a request is passed on and answered by the own members; replies combine by maximum, and at
the owner they give the fallback exponent. -/
def execColMaxReply (rec_ : Nat) (s : State) : Host.Outcome State Fault Refusal :=
  .next (match s.colTake rec_ [2] with
  | (s1, none) => s1
  | (s1, some (r, t)) =>
    let p := r.part
    let id := r.entry
    let me := s1.ownRank p t
    if r.cnt = 0 then
      let s2 := s1.colForward p t r
      (t.bufs.filter fun u => u.b == r.b && u.sent && BitVec.ofNat 8 u.step == r.step).foldl (fun s u =>
        s.colSend { part := p, entry := id, kind := 2, step := BitVec.ofNat 8 u.step, cnt := 1, b := r.b
                    st := stateByte (u.vals.filterMap fun v => v.map fun w => fv32 w.1), dst := me }) s2
    else if t.ownerRank r.b == me && t.staleStep r then s1.colError t.sumDie 6 p id r.b
    else
      let key (x : ColSum) : Bool := x.b == r.b && x.step == r.step && x.max
      let sum := match t.sums.find? key with
        | some x => { x.acc with cnt := x.acc.cnt + r.cnt, st := max x.acc.st r.st }
        | none => r
      let t1 := ({ t with sums := t.sums.filter fun x => !(key x) }).stamp s1.plumb
      let own := t.ownerRank r.b == me
      if sum.cnt < t.expect r.b me && !(own && sum.cnt == t.nmem) then
        s1.setTruss p id { t1 with sums := t1.sums ++ [⟨r.b, r.step, true, false, false, sum⟩] }
      else
        match routeNext t.alg t.pkgs.length (t.ownerRank r.b) me with
        | some nx =>
          if own && sum.cnt == t.nmem then
            let o := t1.ownerOf r.b
            let s2 := if o.fellback then s1 else s1.count .colFbCnt t.sumDie 1
            s2.sendExponent p id t1 r sum.st
          else (s1.setTruss p id t1).colSend { sum with dst := nx }
        | none =>
          if own then
            let o := t1.ownerOf r.b
            let s2 := if o.fellback then s1 else s1.count .colFbCnt t.sumDie 1
            s2.sendExponent p id t1 r sum.st
          else (s1.setTruss p id t1).colSend { sum with dst := t.ownerRank r.b })

/-- Is a buffer the retained source of a block in a step? -/
def RetBuf.retains (u : RetBuf) (b : Nat) (step : BitVec 8) : Bool := u.b == b && u.sent && BitVec.ofNat 8 u.step == step

/-- Convert the retained sources that `which` picks and send them again (R283, R284). -/
def State.resend (s : State) (p id : Nat) (which : RetBuf → Bool) (rt : Bool) : State :=
  match s.trussAt p id with
  | none => s
  | some t => (t.bufs.filter which).foldl (fun s u => s.sillSend p id t u ((u.e : Int) - 128) u.fb rt)
    (s.setTruss p id (t.stamp s.plumb))

/-- The retained sources of a block take the fallback exponent. -/
def State.setExponent (s : State) (p id : Nat) (r : ColRec) : State :=
  match s.trussAt p id with
  | none => s
  | some t => s.setTruss p id { t with bufs := t.bufs.map fun u => if u.retains r.b r.step then { u with e := r.e, fb := true } else u }

/-- COL_EXPONENT (R283, R284): members take the fallback exponent; those that were not in the fallback convert with it and
send again. One that a retry resends changes nothing else: the retry record follows it. (DEDUCED, log 84). -/
def execColExponent (rec_ : Nat) (s : State) : Host.Outcome State Fault Refusal :=
  .next (match s.colTake rec_ [3] with
  | (s1, none) => s1
  | (s1, some (r, t)) =>
    let first := (t.bufs.filter fun u => u.retains r.b r.step && !u.fb).map (·.pos)
    ((s1.colForward r.part t r).setExponent r.part r.entry r).resend r.part r.entry
      (fun u => u.retains r.b r.step && first.contains u.pos) false)

/-- COL_RETRY (R283, R287): members send their retained sources again with the same e; a record that asks the owner for
a result again (`cnt` 1, the asking rank in `x0`) is answered with the kept result. -/
def execColRetry (rec_ : Nat) (s : State) : Host.Outcome State Fault Refusal :=
  .next (match s.colTake rec_ [5] with
  | (s1, none) => s1
  | (s1, some (r, t)) =>
    if r.cnt = 0 then (s1.colForward r.part t r).resend r.part r.entry (fun u => u.retains r.b r.step) true
    else
      match (t.ownerOf r.b).result with
      | some res => s1.colSend { res with dst := r.x0, rt := true }
      | none => s1)

/-- COL_SETTLE (R285). -/
def execColSettle (rec_ : Nat) (s : State) : Host.Outcome State Fault Refusal :=
  .next (match s.colTake rec_ [4] with
  | (s1, none) => s1
  | (s1, some (r, t)) =>
    ((s1.colForward r.part t r).estateSettle r.part r.entry t r).settleHere r.part r.entry r.b r.step)

/-- Words with the bit errors of a path. -/
def flipWords (errs : List (Nat × Word)) (l : List Word) : List Word :=
  (List.range l.length).map fun i =>
    match aget errs i with
    | some f => l.getD i 0#32 ^^^ f
    | none => l.getD i 0#32

/-- COL_RESULT (R287): the receiving package checks the digest, asks once more on a mismatch, delivers and settles.
`errs` are bit errors of the path. -/
def execColResult (rec_ : Nat) (errs : List (Nat × Word)) (s : State) : Host.Outcome State Fault Refusal :=
  .next (match s.colTake rec_ [1] with
  | (s1, none) => s1
  | (s1, some (r0, t)) =>
    let p := r0.part
    let id := r0.entry
    let r := { r0 with q := flipWords errs r0.q }
    let mis := r.dig != digestOf t.dseed r.b r.q
    let key := (r.b, r.step.toNat)
    let s2 := if r0.rt then s1 else s1.colForward p t r0
    if mis && !(t.rechecked.contains key) then
      ((s2.count .colDigCnt t.sumDie 1).setTruss p id { t with rechecked := key :: t.rechecked }).colSend
        { part := p, entry := id, kind := 5, step := r.step, cnt := 1, b := r.b, x0 := s1.ownRank p t
          dst := t.ownerRank r.b }
    else
      let s3 := if mis then (s2.count .colDigCnt t.sumDie 1).colError t.sumDie 3 p id r.b else s2
      let r' := if mis then { r with poison := true } else r
      let s4 := s3.setTruss p id { t with rechecked := t.rechecked.filter (· != key) }
      ((s4.deliverBlock p id t r').estateSettle p id t r).settleHere p id r.b r.step)

/-! ### Sending (R272-R274) -/

/-- The engine's owner tag (R208, R273). -/
def engineTag (d : Nat) : Word := BitVec.ofNat 32 (0x80000010 + d)

/-- A block is ready at a member: convert with the predicted exponent and send, or send a max reply (R268, R269, R273). -/
def State.blockReady (s : State) (p id : Nat) (u : RetBuf) : State :=
  match s.trussAt p id with
  | none => s
  | some t =>
    let (s1, st) := s.estateRead u.die p id t u.b
    let e : Int := if st = 0 then 0 else predictE st t.guard
    let u' := { u with sent := true, e := (e + 128).toNat }
    let t1 := ({ t with bufs := t.bufs.map fun (x : RetBuf) => if x.b == u.b && x.pos == u.pos && !x.sent then u' else x }).stamp s.plumb
    let s2 := s1.setTruss p id t1
    if st = 0 then
      s2.colSend { part := p, entry := id, kind := 2, step := BitVec.ofNat 8 u.step, cnt := 1, b := u.b
                   st := stateByte (u.vals.filterMap fun v => v.map fun w => fv32 w.1), dst := s.ownRank p t }
    else s2.sillSend p id t1 u' e false false

/-- The package and partition that a record travels to, when it is another. -/
def State.recPeer (s : State) (r : ColRec) : Option (Nat × Nat) :=
  (s.trussAt r.part r.entry).bind fun t =>
    (t.pkgs[r.dst]?).bind fun q => if q = (s.fabricAddr, r.part) then none else some q

/-- Is the engine's queue toward the fabric full for an entry (R274)? Its length is the implementation's. (DESIGN CHOICE,
log 105). -/
def State.colFull (s : State) (p : Nat) (t : Truss) : Bool :=
  decide (1 < t.pkgs.length) &&
  decide (Config.colQueueLen < (s.colrecs.filter fun r => r.part == p && (s.recPeer r).isSome).length)

/-- What the engine answers to one supplied element: held, held for the alloc that it asked of the pool, or accepted. -/
inductive Acc
  | held
  | asked (s : State)
  | ok (s : State)

/-- The core that supplied an element in the present cycle, with the first record that carries it (R289). -/
def State.supOf (s : State) (p id pos x : Nat) : Option ColSup :=
  s.cyc.sup.find? fun e => e.part == p && e.truss == id && e.pos == pos && e.x == x

def State.addSup (s : State) (e : ColSup) : State := { s with cyc := { s.cyc with sup := e :: s.cyc.sup } }

/-- An element supplied again (R273): a record of kind 5; the first supply stands, of two cores in one cycle the lower one's
(R289): `swap` puts its value in. -/
def State.dupElem (s : State) (d p id pos x c : Nat) (swap : ColSup → State → State) : State :=
  let s1 := s.colError d 5 p id (x / 64)
  match s.supOf p id pos x with
  | some e => if c < e.core then (swap e s1).addSup { e with core := c } else s1
  | none => s1

/-- An element of an all-gather leaves as it is, toward every package (R288). -/
def State.gatherElem (s : State) (d p id c : Nat) (t : Truss) (m : OwnMem) (x : Nat) (raw : List (Byte × Bool)) : State :=
  let had := (aget t.gsup (m.pos, m.step)).getD []
  if had.contains x then s.dupElem d p id m.pos x c fun e s =>
    { s with colrecs := s.colrecs.map fun (r : ColRec) =>
        if r.kind = 6 ∧ r.part = p ∧ r.entry = id ∧ r.x0 = x ∧ e.rid ≤ r.id then { r with bytes := raw } else r }
  else
    let t1 := ({ t with gsup := aset t.gsup (m.pos, m.step) (sput had x) }).stamp s.plumb
    let r : ColRec := { part := p, entry := id, kind := 6, step := BitVec.ofNat 8 m.step, cnt := 1, b := x / 64
                        x0 := x, bytes := raw }
    (List.range t.pkgs.length).foldl (fun s k => s.colSend { r with dst := k })
      ((s.setTruss p id t1).addSup ⟨p, id, m.pos, x, c, s.nextId⟩)

/-- A buffer that has begun takes the value of an element. -/
def Truss.fill (t : Truss) (pos x : Nat) (v : Word × Bool) : Truss :=
  { t with bufs := t.bufs.map fun (y : RetBuf) =>
      if y.pos == pos && y.b == x / 64 then { y with vals := y.vals.set (x % 64) (some v) } else y }

/-- An element of a reduction enters the buffer of its block (R273, R274). With no buffer yet, the engine of the supplying
core's die asks its pool for one. (DEDUCED, log 104). -/
def State.reduceElem (s : State) (d p id c : Nat) (t : Truss) (m : OwnMem) (x : Nat) (v : Word × Bool) : Acc :=
  match t.bufs.find? (fun u => u.pos == m.pos && u.b == x / 64) with
  | some u =>
    if u.sent then .held
    else
      match u.vals.getD (x % 64) none with
      | some _ => .ok (s.dupElem d p id m.pos x c fun _ s => match s.trussAt p id with
          | some t => s.setTruss p id (t.fill m.pos x v)
          | none => s)
      | none => .ok ((s.setTruss p id ((t.fill m.pos x v).stamp s.plumb)).addSup ⟨p, id, m.pos, x, c, s.nextId⟩)
  | none =>
    let q := s.pool d t.rpool
    let e : EngAlloc := ⟨p, id, m.pos, x / 64⟩
    if (s.poolFree d t.rpool).isNone then .held
    else if q.eng.contains e then .asked s
    else .asked (s.setPool d t.rpool { q with eng := q.eng ++ [e] })

/-- An element reaches the engine of the supplying core's die (R272-R274, R402). -/
def State.supplyElem (s : State) (p id c : Nat) (lc : Option Nat) (ep : BitVec 8) (x : Nat) (v : Word × Bool)
    (raw : List (Byte × Bool)) : Acc :=
  let d := coreDie c
  if !(s.fresh p lc ep) then .ok (s.count .prtStaleCnt p 1)
  else
    match s.trussAt p id with
    | none => .ok (s.colError d 0 p id (x / 64))
    | some t =>
      if t.nelem ≤ x then .ok (s.colError d 7 p id (x / 64))
      else
        match s.memberOf p c t with
        | none => .ok (s.colError d 0 p id (x / 64))
        | some m =>
          if s.colFull p t then .held
          else if t.op = 3 then .ok (s.gatherElem d p id c t m x raw)
          else s.reduceElem d p id c t m x v

/-- The pool serves an alloc of the engine of die `d` (R212, R273): the buffer with the engine's tag begins the block; with
none free the supply asks again. -/
def State.engGrant (s : State) (d q : Nat) (e : EngAlloc) : State :=
  match s.trussAt e.part e.truss, s.poolFree d q with
  | some t, some i =>
    match t.own.find? (fun m => m.pos == e.pos) with
    | none => s
    | some m =>
      if t.bufs.any fun u => u.pos == e.pos && u.b == e.b then s
      else
        let u : RetBuf :=
          { pos := e.pos, b := e.b, step := max m.step ((aget t.bstep (e.pos, e.b)).getD 0), die := d, buf := i
            vals := (List.range 64).map fun j => if 64 * e.b + j < t.nelem then none else some (0#32, false) }
        (s.poolTake d q i (engineTag d)).setTruss e.part e.truss (({ t with bufs := t.bufs ++ [u] }).stamp s.plumb)
  | _, _ => s

/-- At the end of a cycle the engines convert and send the blocks that are ready (R273). (DEDUCED, log 104). -/
def State.colReady (s : State) : State :=
  s.trusses.foldl (fun s e => (e.2.bufs.filter fun u => !u.sent && u.vals.all Option.isSome).foldl
    (fun s u => s.blockReady e.1.1 e.1.2 u) s) s

/-- Offer elements in order until one is held: the state, how many were accepted, whether the last one was held by R274. -/
def State.supplyAll (s : State) (p id c : Nat) (lc : Option Nat) (ep : BitVec 8) :
    List (Nat × (Word × Bool) × List (Byte × Bool)) → State × Nat × Bool
  | [] => (s, 0, false)
  | (x, v, raw) :: r =>
    match s.supplyElem p id c lc ep x v raw with
    | .held => (s, 0, true)
    | .asked s1 => (s1, 0, false)
    | .ok s1 => let (s2, n, h) := s1.supplyAll p id c lc ep r; (s2, n + 1, h)

/-- A held drain or CSEND (R274, R291): a cycle in which the engine of its die held one counts once. -/
def State.colHold (s : State) (c : Nat) : State :=
  let d := coreDie c
  if s.cyc.held.contains d then s
  else { s.count .colHoldCnt d 1 with cyc := { s.cyc with held := d :: s.cyc.held } }

/-- Element size of a CSEND (R272): 4 for Sill entries, else that of the entry's format. -/
def Truss.sendSize (t : Truss) : Nat :=
  match t.fmt with | 0 => 4 | 1 => 4 | 2 => 2 | 3 => 2 | _ => 1

/-- COL_SUPPLY (R272-R274): a drained row of core `id`, or the next 64 bytes of CSEND `id`, reach the engine; they are held
while back-pressure is on the partition's engine items (R579). -/
def execColSupply (send : Bool) (unit : Nat) (s : State) : Host.Outcome State Fault Refusal :=
  .next (
    if send then
      match s.sends.find? (fun g => g.id == unit) with
      | none => s
      | some g =>
        if g.len ≤ g.pos || !(s.clocked g.core) then s
        else if s.backPressed g.part 7 then s.colHold g.core
        else
          let sz := match s.trussAt g.part g.truss with | some t => t.sendSize | none => 4
          let a := spadAddr g.core (g.base + g.pos)
          let l := s.pbytes a 64
          let els := (List.range (min (64 / sz) ((g.len - g.pos) / sz))).map fun i =>
            let e := (l.drop (i * sz)).take sz
            (g.key.toNat + g.pos / sz + i, (BitVec.ofNat 32 (leNat (dataOf e)), anyPoison e), e)
          let (s1, n, h) := s.supplyAll g.part g.truss g.core g.lcore g.epoch els
          let s2 := { s1 with sends := s1.sends.map fun x => if x.id = unit then { x with pos := x.pos + n * sz } else x }
          if h then s2.colHold g.core else s2
    else
      match aget s.supplies unit with
      | none => s
      | some u =>
        if s.backPressed u.part 7 then s.colHold unit
        else
          let (s1, n, h) := s.supplyAll u.part u.truss unit u.lcore u.epoch (u.elems.map fun e => (e.1, e.2, []))
          if n = u.elems.length then { s1 with supplies := adel s1.supplies unit }
          else
            let s2 := { s1 with supplies := aset s1.supplies unit { u with elems := u.elems.drop n } }
            if h then s2.colHold unit else s2)

/-! ### All-gather (R288) -/

/-- Has element x of an entry arrived for step `n`? -/
def Truss.arrivedAt (t : Truss) (n x : Nat) : Bool :=
  t.own.all (fun m => decide (n < m.step)) || ((aget t.arrived n).getD []).contains x

/-- The elements of A that activation line j of chunk c takes, as lane, row and K index. -/
def Shape.lineElems (h : Shape) (c j : Nat) : List (Nat × Nat × Nat) :=
  (List.range 16).filterMap fun k =>
    let (p, r) := h.laneRow c j k
    if r < h.rows c ∧ p * 16 + k < h.k then some (k, c * h.mc + r, p * 16 + k) else none

/-- Produce the next line of an MMUL.AG when the ring has room and every element of the line has arrived (R288). -/
def State.agLine (s : State) (i : Nat) : Option State :=
  match s.ags.find? (fun a => a.id == i) with
  | none => none
  | some a =>
    match s.trussAt a.part a.truss with
    | none => none
    | some t =>
      let h : Shape := ⟨a.mc, a.m, a.k, a.n, 16, s.nwidth a.core⟩
      let k := s.core a.core
      let rg := k.rings.getD a.ring {}
      if !(rg.prod - rg.cons).toNat.blt rg.lines || !(s.clocked a.core) then none
      else
        match h.actAt a.lines with
        | none => none
        | some (c, _, j) =>
          let el (m kk : Nat) : Nat := a.key.toNat + m * t.rowLen + kk
          if !((h.lineElems c j).all fun e => t.arrivedAt a.step (el e.2.1 e.2.2)) then none
          else
            let lane (kk : Nat) : List PByte :=
              match (h.lineElems c j).find? (fun e => e.1 == kk) with
              | none => clean [0#8, 0#8]
              | some e =>
                if t.failed.contains (el e.2.1 e.2.2) then [(0#8, true), (0#8, true)]
                else match s.vload a.part (t.gbuf + el e.2.1 e.2.2 * 2) 2 0 with
                | some (_, l) => l
                | none => [(0#8, true), (0#8, true)]
            let l := (List.range 16).flatMap lane
            let s1 := (s.pokeBytes (spadAddr a.core (rg.base + rg.wslot * 32)) (dataOf l)).markSlot a.core
              ((rg.base + rg.wslot * 32) / 16) (anyPoison l)
            let k1 := s1.core a.core
            let rg' := { rg with prod := rg.prod + 1#32, wslot := (rg.wslot + 1) % rg.lines }
            let s2 := s1.setCore a.core { k1 with rings := k1.rings.setIfInBounds a.ring rg' }
            some { s2 with ags := if a.lines + 1 = h.actLines then s2.ags.filter (fun x => x.id != i)
                                  else s2.ags.map fun x => if x.id = i then { x with lines := a.lines + 1 } else x }

/-- Produce lines while possible, at most `n`. -/
def State.agRun (i : Nat) : Nat → State → State
  | 0, s => s
  | n + 1, s => match s.agLine i with | some s1 => State.agRun i n s1 | none => s

/-- COL_GATHER_DATA (R288): the elements are written at `gbuf`, count as arrived, and feed MMUL.AG lines. -/
def execColGatherData (rec_ : Nat) (s : State) : Host.Outcome State Fault Refusal :=
  .next (match s.colTake rec_ [6] with
  | (s1, none) => s1
  | (s1, some (r, t)) =>
    let p := r.part
    let id := r.entry
    let sz := t.sendSize
    let lo := (t.own.map (·.step)).foldl min ((t.own.map (·.step)).headD 0)
    let st? : Option Nat := [lo, lo + 1].find? fun n => BitVec.ofNat 8 n == r.step
    match st? with
    | none => s1.colError t.sumDie 6 p id r.b
    | some n =>
      let nel := r.bytes.length / sz
      let (s2, failed) := (List.range nel).foldl (fun (a : State × List Nat) i =>
        let x := r.x0 + i
        if x < t.nelem then
          let (s, ok) := a.1.colStore p id t (x / 64) (t.gbuf + x * sz) ((r.bytes.drop (i * sz)).take sz)
          (s, if ok then a.2.filter (· != x) else sput a.2 x)
        else a) (s1, t.failed)
      let arr := (List.range nel).foldl (fun l i => if r.x0 + i < t.nelem then sput l (r.x0 + i) else l)
        ((aget t.arrived n).getD [])
      let s3 := s2.setTruss p id (({ t with arrived := aset t.arrived n arr, failed := failed }).stamp s.plumb)
      let s4 := s3.colComplete p id
      (s4.ags.filter fun a => a.part == p && a.truss == id).foldl (fun s a => State.agRun a.id 4096 s) s4)

/-! ### Install, retire, timeout -/

/-- Is a member's step in progress (R290)? -/
def Truss.active (t : Truss) : Bool :=
  !t.bufs.isEmpty || !t.sums.isEmpty || t.owner.any (fun o => o.offered.isSome || o.retried || o.fellback) ||
  t.own.any (fun m => !m.settled.isEmpty || !m.owned.isEmpty) || !t.arrived.isEmpty ||
  t.gsup.any (fun g => t.own.any fun m => m.pos == g.1.1 && m.step == g.1.2)

/-- Does a peg belong to a partition as a spine peg (R198)? `f` packs peg [13:0] and die [15:14]. -/
def spinePegOf (f : Nat) : PegHome := .spine (bitsOf f 15 14) (bitsOf f 13 0)

/-- A member record from its 8 bytes; `none` when it is malformed (R263). -/
def Member.ofNat (v : Nat) : Option Member :=
  if bitsOf v 23 20 = 0 ∧ bitsOf v 63 62 = 0 ∧ bitsOf v 42 24 ≤ bitsOf v 61 43 then
    some ⟨bitsOf v 16 0, bitsOf v 19 17, bitsOf v 42 24, bitsOf v 61 43⟩
  else none

/-- Are the fields of an entry in range and its unused fields zero (R262, R264 row 1)? -/
def trussFields (d : List Byte) : Bool :=
  let f := fun o n => dfield d o n
  let op := f 0 1
  let fl := f 3 1
  decide (1 ≤ op ∧ op ≤ 3) && (if op = 3 then decide (1 ≤ f 1 1 ∧ f 1 1 ≤ 4) else f 1 1 == 0) && (if op = 3 then f 2 1 == 0 else decide (f 2 1 ≤ 2)) &&
  decide (fl < 8 ∧ bitsOf fl 2 1 ≠ 3) && decide (1 ≤ f 4 4 ∧ f 4 4 ≤ 131072) && f 8 8 % 8 == 0 &&
  decide (1 ≤ f 0x10 8 ∧ f 0x10 8 ≤ 2 ^ 32) && decide (f 0x1C 1 ≤ 31) && decide (f 0x1D 1 ≤ 63) &&
  (op != 3 || (fl == 0 && f 0x1C 1 == 0 && f 0x1D 1 == 0 && f 0x20 8 == 0 && f 0x28 8 == 0 && f 0x30 8 == 0)) &&
  (op == 3 || f 0x38 8 == 0) && (fl.testBit 0 || f 0x40 4 == 0) && (!fl.testBit 0 || f 0x28 8 == 0) &&
  ((d.drop 0x44).all (· == 0#8))

/-- The member records of a list of bytes. -/
def membersOf : Nat → List Byte → List (Option Member)
  | 0, _ => []
  | n + 1, l => Member.ofNat (leNat (l.take 8)) :: membersOf n (l.drop 8)

/-- The checks of R264 rows 2 to 5, in order: the reason, or the entry. -/
def State.trussCheck (s : State) (p : Nat) (d : List Byte) (ms : List (Option Member)) : Nat ⊕ Truss :=
  let f := fun o n => dfield d o n
  let mem := ms.filterMap (fun x => x)
  let op := f 0 1
  let own := (List.range mem.length).filter fun i => match mem[i]? with
    | some m => m.addr == s.fabricAddr && m.part == p
    | none => false
  let rng := own.filterMap fun i => mem[i]?.map fun m => (m.lo, m.hi)
  let overlap := (List.range rng.length).any fun i => (List.range rng.length).any fun j =>
    match rng[i]?, rng[j]? with
    | some a, some b => decide (i < j ∧ a.1 ≤ b.2 ∧ b.1 ≤ a.2)
    | _, _ => false
  let cores := (s.part p).coreMap.length
  let peg := spinePegOf (f 0x1E 2)
  let rp := f 0x1D 1
  let dies := (List.range 4).filter fun dd => (s.part p).bents.any fun b => dieOfBent b == dd
  let poolOk := op == 3 || dies.all fun dd => s.poolOn dd rp p && decide (256 ≤ s.poolBytes dd rp)
  if ms.length ≠ mem.length ∨ !(decide mem.Nodup) then .inl 2
  else if own.isEmpty ∨ 64 < own.length ∨ overlap ∨ rng.any (fun r => decide (cores ≤ r.2)) then .inl 3
  else if s.partOfPeg peg ≠ some p ∨ !poolOk then .inl 4
  else if mem.any (fun m => m.addr != s.fabricAddr) ∧ (s.part p).ports.isEmpty then .inl 5
  else .inr
    { op := op, fmt := f 1 1, alg := f 2 1, joiner := (f 3 1).testBit 0, rfmt := bitsOf (f 3 1) 2 1, nmem := f 4 4
      members := mem, nelem := f 0x10 8, ld := f 0x18 4, rshift := f 0x1C 1, rpool := rp, donePeg := peg
      estate := f 0x20 8, dst := f 0x28 8, dseed := f 0x30 8, gbuf := f 0x38 8, jctx := f 0x40 4
      own := own.map fun i =>
        { pos := i, last := s.plumb
          die := match mem[i]? with | some m => coreDie ((s.part p).coreMap.getD m.lo 0) | none => 0 } }

/-- The joiner conditions of an entry (R296). -/
def State.trussJoinerOk (s : State) (p id : Nat) (t : Truss) : Bool :=
  if !t.joiner then true
  else
    match aget s.jctxs (p, t.jctx) with
    | none => false
    | some j =>
      let shardLo := (t.own.map fun m => m.pos * ceilDiv t.blocks t.nmem).foldl min t.blocks
      decide (t.jctx < 1024) && j.entry == id && t.op == 1 &&
      !(s.trusses.any fun e => e.1.1 == p && e.1.2 != id && e.2.joiner && e.2.jctx == t.jctx) &&
      (match j.pub with
        | none => true
        | some q => match s.trussAt p q with
          | some u => u.op == 3 && u.fmt == 2 && u.nelem == t.nelem && u.members == t.members
          | none => false) &&
      (if j.dim = 0 then j.xbase == 64 * shardLo
       else t.nelem % j.dim == 0 && (64 * ceilDiv t.blocks t.nmem) % j.dim == 0)

/-- TRS_CMD of a partition takes its fields. -/
def State.trsCmd (s : State) (p id op : Nat) : State :=
  s.setReg ⟨.trsCmd, p, 0⟩ (BitVec.ofNat 32 (id + op * 2 ^ 12))

/-- TRUSS_INSTALL (R264, R289, R290): the results 3, 1 and 2 with their reasons, or the entry is valid. -/
def execTrussInstall (p : BitVec 3) (src : Src) (id : BitVec 12) (s : State) : Host.Outcome State Fault Refusal :=
  .next (
    let P := p.toNat
    let i := id.toNat
    let k : RKey := ⟨.trsStatus, P, 0⟩
    s.accessW src ⟨.trsCmd, P, 0⟩ fun s0 =>
      let s := s0.trsCmd P i 1
      if !(s.part P).built then s
      else if (s.trussAt P i).isSome then s.cmdDone k 1 0 8 (some P)
      else
        let base := (s.reg ⟨.trsBaseLo, P, 0⟩).toNat + 2 ^ 32 * s.rfld ⟨.trsBaseHi, P, 0⟩ 15 0
        match s.vload P (base + i * 128) 128 0 with
        | none => s.cmdDone k 3 0 8 (some P)
        | some (s1, l) =>
          if anyPoison l || !(trussFields (dataOf l)) then s1.cmdDone k 2 1 8 (some P)
          else
            let d := dataOf l
            let n := dfield d 4 4
            match s1.vload P (dfield d 8 8) (n * 8) 0 with
            | none => s1.cmdDone k 3 0 8 (some P)
            | some (s2, ml) =>
              if anyPoison ml then s2.cmdDone k 2 2 8 (some P)
              else
                match s2.trussCheck P d (membersOf n (dataOf ml)) with
                | .inl r => s2.cmdDone k 2 r 8 (some P)
                | .inr t =>
                  if s2.trussJoinerOk P i t then (s2.setTruss P i t).cmdDone k 0 0 8 (some P)
                  else s2.cmdDone k 2 1 8 (some P))

/-- TRUSS_RETIRE (R290). -/
def execTrussRetire (p : BitVec 3) (src : Src) (id : BitVec 12) (s : State) : Host.Outcome State Fault Refusal :=
  .next (
    let P := p.toNat
    let i := id.toNat
    let k : RKey := ⟨.trsStatus, P, 0⟩
    s.accessW src ⟨.trsCmd, P, 0⟩ fun s0 =>
      let s := s0.trsCmd P i 2
      match s.trussAt P i with
      | none => s.cmdDone k 2 1 8 (some P)
      | some t =>
        if t.active then s.cmdDone k 1 0 8 (some P)
        else { s with trusses := adel s.trusses (P, i) }.cmdDone k 0 0 8 (some P))

/-- Is the member stalled (R411)? -/
def Truss.stalled (t : Truss) (m : OwnMem) : Bool :=
  t.bufs.any (fun u => u.pos == m.pos && u.sent) ||
  (t.op != 3 && (aget m.owned m.step).getD 0 < t.ownedBy m.pos && t.active)

/-- A member's step ends (R411, R427): its owned blocks that are not delivered are delivered as poison, its retention
buffers freed, the step completes and `done_peg` is signalled. -/
def State.endStep (s : State) (P i pos : Nat) : State :=
  match s.trussAt P i with
  | none => s
  | some t =>
    match t.own.find? (fun m => m.pos == pos) with
    | none => s
    | some m =>
      let c := ceilDiv t.blocks t.nmem
      let owned := (upto (pos * c) (t.ownedBy pos)).filter fun b => (t.ownerOf b).step ≤ m.step
      let s1 := owned.foldl (fun s b =>
        match s.trussAt P i with
        | none => s
        | some t =>
          let r : ColRec := { part := P, entry := i, kind := 0, step := BitVec.ofNat 8 m.step, b := b, poison := true
                              q := List.replicate 64 0#32 }
          let o : OwnerBlk := { t.ownerOf b with retried := false, fellback := false }
          if t.joiner then s.setTruss P i (t.setOwner { o with offered := some (r, true) })
          else (s.deliverBlock P i t r).setTruss P i (t.setOwner { o with step := o.step + 1 })) s
      match s1.trussAt P i with
      | none => s1
      | some t1 =>
        let mine := t1.bufs.filter fun u => u.pos == pos
        let s2 := mine.foldl (fun s u => s.poolRelease u.die t1.rpool u.buf) s1
        let stepOn (x : OwnMem) : OwnMem :=
          if x.pos = pos then
            { x with step := m.step + 1, settled := adel x.settled m.step, owned := adel x.owned m.step, last := s.plumb }
          else x
        let t2 := { t1 with bufs := t1.bufs.filter (fun u => u.pos != pos)
                            sums := t1.sums.filter (fun x => !(x.step == BitVec.ofNat 8 m.step))
                            own := t1.own.map stepOn }
        ((s2.setTruss P i t2).engineSignal m.die P t2.donePeg 1#32).spineEvent m.die 0x0201 P (srcEngine m.die 0) i m.step

/-- COL_TIMEOUT (R408, R411): a member that stayed stalled for `col_to` pt ends its step, with an inspection record of
level 0. A limit of 0 disables it; it is held while a bent of the partition is stopped (R475). -/
def execColTimeout (p : BitVec 3) (id : BitVec 12) (pos : Nat) (s : State) : Host.Outcome State Fault Refusal :=
  .next (
    let P := p.toNat
    match s.trussAt P id.toNat with
    | none => s
    | some t =>
      match t.own.find? (fun m => m.pos == pos) with
      | none => s
      | some m =>
        let lim := (s.reg ⟨.prtWdCol, P, 0⟩).toNat
        if lim = 0 || !(t.stalled m) || s.since m.last < lim || s.partStopped P then s
        else ((s.endStep P id.toNat pos).count .prtWdCnt P 1).inspect P 0 0x03)

end Sys2Proof.Machine
end

