-- ==== Sys2Proof/Machine/Joiner.lean ====
section
/-! DEFINITION. Joiners: their arithmetic, programs, contexts, blocks and rows, export and import of state
(09: R292-R324). -/
namespace Sys2Proof.Machine

/-! ### Arithmetic (R301, R302) -/

/-- floor(√n), from `b` bits. -/
def isqrt (n : Nat) : Nat → Nat → Nat
  | 0, r => r
  | b + 1, r => isqrt n b (if (r + 2 ^ b) * (r + 2 ^ b) ≤ n then r + 2 ^ b else r)

/-- floor(√n). -/
def natSqrt (n : Nat) : Nat := isqrt n (Nat.log2 n / 2 + 1) 0

/-- A truncated quotient or root as a value that rounds as the exact one: one more bit says that something is left. -/
def sticky (neg : Bool) (q : Nat) (exact : Bool) (e : Int) : Word × FpFlags :=
  rneFp32 neg (2 * q + (if exact then 0 else 1)) (e - 1)

/-- a × b, exact. -/
def mulExact (a b : FV) : FV × FpFlags :=
  match a, b with
  | .nan, _ => (.nan, fNone)
  | _, .nan => (.nan, fNone)
  | .inf s, .inf t => (.inf (s != t), fNone)
  | .inf s, .fin t m _ => if m = 0 then (.nan, fInvalid) else (.inf (s != t), fNone)
  | .fin s m _, .inf t => if m = 0 then (.nan, fInvalid) else (.inf (s != t), fNone)
  | .fin s m e, .fin t m' e' => (.fin (s != t) (m * m') (e + e'), fNone)

def roundW (v : FV) : Word × FpFlags := let (w, f) := FFmt.fp32.roundFV v; (BitVec.ofNat 32 w, f)

def jDiv (a b : FV) : Word × FpFlags :=
  match a, b with
  | .nan, _ => (nan32, fNone)
  | _, .nan => (nan32, fNone)
  | .inf _, .inf _ => (nan32, fInvalid)
  | .inf s, .fin t _ _ => (inf32 (s != t), fNone)
  | .fin s _ _, .inf t => (if s != t then negZero32 else 0#32, fNone)
  | .fin s m e, .fin t m' e' =>
    if m' = 0 then (if m = 0 then (nan32, fInvalid) else (inf32 (s != t), fInvalid))
    else if m = 0 then (if s != t then negZero32 else 0#32, fNone)
    else sticky (s != t) (m * 2 ^ 64 / m') (m * 2 ^ 64 % m' == 0) (e - e' - 64)

def jSqrt (a : FV) : Word × FpFlags :=
  match a with
  | .nan => (nan32, fNone)
  | .inf s => if s then (nan32, fInvalid) else (inf32 false, fNone)
  | .fin s m e =>
    if m = 0 then (if s then negZero32 else 0#32, fNone)
    else if s then (nan32, fInvalid)
    else
      let (m1, e1) := if e % 2 = 0 then (m, e) else (2 * m, e - 1)
      let r := natSqrt (m1 * 2 ^ 80)
      sticky false r (r * r == m1 * 2 ^ 80) (e1 / 2 - 40)

def jRsq (a : FV) : Word × FpFlags :=
  match a with
  | .nan => (nan32, fNone)
  | .inf s => if s then (nan32, fInvalid) else (0#32, fNone)
  | .fin s m e =>
    if m = 0 then (inf32 s, fInvalid)
    else if s then (nan32, fInvalid)
    else
      let (m1, e1) := if e % 2 = 0 then (m, e) else (2 * m, e - 1)
      let r := natSqrt (2 ^ 160 / m1)
      sticky false r (r * r * m1 == 2 ^ 160) (-80 - e1 / 2)

/-- Order of FP32 values that are not NaN; with `z` −0.0 lies below +0.0. -/
def ordKey (z : Bool) (w : Word) : Int :=
  let m : Int := (w.toNat % 2 ^ 31 : Nat)
  if wbit w 31 then -m - (if z then 1 else 0) else m

def isNan32 (w : Word) : Bool := decide (w.toNat % 2 ^ 31 > 0x7F800000)
def canon32 (w : Word) : Word := if isNan32 w then nan32 else w

/-- One arithmetic op of a joiner program; RACC and MOVR answer a. -/
def jOp (op : Nat) (a b c : Word) : Word × FpFlags :=
  let x := fv32 a
  let y := fv32 b
  match op with
  | 0x01 => addFV x y
  | 0x02 => addFV x y.neg
  | 0x03 => let (v, f) := mulExact x y; let (w, g) := roundW v; (w, f ||| g)
  | 0x04 =>
    if isNan32 c then (nan32, fNone)
    else let (v, f) := mulExact x y; let (w, g) := addFV v (fv32 c); (w, f ||| g)
  | 0x05 => jDiv x y
  | 0x06 => jSqrt x
  | 0x07 => jRsq x
  | 0x08 => if isNan32 a || isNan32 b then (nan32, fInvalid) else (if ordKey true a < ordKey true b then b else a, fNone)
  | 0x09 => if isNan32 a || isNan32 b then (nan32, fInvalid) else (if ordKey true b < ordKey true a then b else a, fNone)
  | 0x0A => (if isNan32 a then nan32 else a &&& 0x7FFFFFFF#32, fNone)
  | 0x0B => (if isNan32 a then nan32 else a ^^^ 0x80000000#32, fNone)
  | 0x0C =>
    if isNan32 a || isNan32 b then (0#32, fInvalid)
    else (if ordKey false a < ordKey false b then 0x3F800000#32 else 0#32, fNone)
  | 0x0D => (canon32 (if !isNan32 a && a &&& 0x7FFFFFFF#32 != 0#32 then b else c), fNone)
  | _ => (canon32 a, fNone)

/-! ### Programs (R299-R303) -/

def jcOp (w : Word) : Nat := wbits w 31 26
def jcD (w : Word) : Nat := wbits w 25 21
def jcA (w : Word) : Nat := wbits w 20 16
def jcB (w : Word) : Nat := wbits w 15 11
def jcC (w : Word) : Nat := wbits w 10 6

/-- Spine cycles of an op; 0 for an undefined one. (DESIGN CHOICE, log 4). -/
def jCycles (op : Nat) : Nat :=
  if op = 0x05 ∨ op = 0x06 ∨ op = 0x07 then 4
  else if (0x01 ≤ op ∧ op ≤ 0x0E) ∨ op = 0x10 ∨ op = 0x11 then 1 else 0

/-- The source fields an op uses: a alone, a and b, or all. -/
def jSrcs (op : Nat) : Nat :=
  if op ≤ 0x03 ∨ op = 0x05 ∨ op = 0x08 ∨ op = 0x09 ∨ op = 0x0C then 2
  else if op = 0x04 ∨ op = 0x0D then 3 else 1

def jRegOk (hOk : Bool) (r : Nat) : Bool := decide (r < 28) || hOk

/-- Is a word legal in a phase (0 A, 1 B, 2 C) of a form (R301, R303)? -/
def jWordOk (form phase : Nat) (w : Word) : Bool :=
  let op := jcOp w
  let n := jSrcs op
  let h := form == 1 && phase != 0
  decide (jCycles op ≠ 0) && wbits w 5 0 == 0 && jRegOk h (jcA w) &&
  (if 2 ≤ n then jRegOk h (jcB w) else jcB w == 0) && (if 3 ≤ n then jRegOk h (jcC w) else jcC w == 0) &&
  (if op = 0x10 then form == 1 && phase == 0 && jcD w == 0
   else if op = 0x11 then form == 1 && phase == 1 && decide (jcD w < 4)
   else decide (jcD w < 16))

def JProg.phaseOf (g : JProg) (i : Nat) : Nat := if i < g.na then 0 else if i < g.na + g.nb then 1 else 2

def JProg.legal (g : JProg) : Bool :=
  ((List.range g.code.length).zip g.code).all (fun e => jWordOk g.form (g.phaseOf e.1) e.2) &&
  decide ((g.code.filter fun w => jcOp w == 0x10).length ≤ 1) &&
  (if g.form = 0 then decide (1 ≤ g.na ∧ g.na ≤ 64 ∧ g.nb = 0 ∧ g.nc = 0)
   else decide (1 ≤ g.na ∧ 1 ≤ g.nb ∧ 1 ≤ g.nc ∧ g.na + g.nb + g.nc ≤ 64))

def JProg.phase (g : JProg) (ph : Nat) : List Word :=
  match ph with
  | 0 => g.code.take g.na
  | 1 => (g.code.drop g.na).take g.nb
  | _ => g.code.drop (g.na + g.nb)

/-- Σ of a phase (R304). -/
def JProg.cycles (g : JProg) (ph : Nat) : Nat := ((g.phase ph).map fun w => jCycles (jcOp w)).foldl (· + ·) 0

/-- The registers of a lane: f, h, the value RACC named, the flags raised. -/
structure JLane where
  f : List Word
  h : List Word
  racc : Option Word := none
  fl : FpFlags := 0#5
  deriving DecidableEq, Repr

def JLane.get (l : JLane) (c : List Word) (r : Nat) : Word :=
  if r < 16 then l.f.getD r 0#32 else if r < 28 then c.getD (r - 16) 0#32 else l.h.getD (r - 28) 0#32

def JLane.step (c : List Word) (l : JLane) (w : Word) : JLane :=
  let a := l.get c (jcA w)
  let (v, fl) := jOp (jcOp w) a (l.get c (jcB w)) (l.get c (jcC w))
  if jcOp w = 0x10 then { l with racc := some a }
  else if jcOp w = 0x11 then { l with h := l.h.set (jcD w) a }
  else { l with f := l.f.set (jcD w) v, fl := l.fl ||| fl }

def JLane.run (c : List Word) (code : List Word) (l : JLane) : JLane := code.foldl (JLane.step c) l

/-! ### Stochastic rounding (R308) -/

def mix (z0 : BitVec 64) : BitVec 64 :=
  let z1 := z0 + 0x9E3779B97F4A7C15#64
  let z2 := (z1 ^^^ (z1 >>> 30)) * 0xBF58476D1CE4E5B9#64
  let z3 := (z2 ^^^ (z2 >>> 27)) * 0x94D049BB133111EB#64
  z3 ^^^ (z3 >>> 31)

/-- `sr_bf16` and the flags it raises. -/
def srBf16 (v : Word) (seed : BitVec 64) (step tid idx : Nat) : Nat × FpFlags :=
  if isNan32 v then (0x7FC0, fNone)
  else if notFinite32 v then (wbits v 31 16, fNone)
  else
    let u := mix (mix (seed ^^^ BitVec.ofNat 64 step) ^^^ (BitVec.ofNat 64 tid <<< 48) ^^^ BitVec.ofNat 64 idx) >>> 48
    let w := wbits v 31 16 + (if 2 ^ 16 ≤ wbits v 15 0 + u.toNat then 1 else 0)
    let inex := wbits v 15 0 != 0
    let f := if w % 2 ^ 15 = 0x7F80 then fOverflow ||| fInexact
      else if inex then (if w % 2 ^ 15 < 0x80 then fInexact ||| fUnderflow else fInexact) else fNone
    (w, f)

/-! ### Joiner errors and counters -/

/-- An error record of the joiners of a die (R324, R394, R558): of two in one cycle the lower kind stands (R309). -/
def State.jnrError (s : State) (d kind p ctx wh : Nat) : State :=
  let s1 := s.latchBy true ⟨.jnrErrStatus, d, 0⟩ kind (BitVec.ofNat 32 (kind * 4 + p * 32 + ctx * 256))
    [(⟨.jnrErrWhere, d, 0⟩, BitVec.ofNat 32 (wh % 2 ^ 26))]
  (s1.spineEvent d 0x0109 p (srcEngine d 2) (kind + ctx * 2 ^ 16) wh).cause p 5

/-- Flags of the joiners of a partition (R302, R307, R322). -/
def State.jnrFlags (s : State) (p : Nat) (f : FpFlags) : State :=
  let k : RKey := ⟨.jnrFlags, p, 0⟩
  s.setReg k (s.reg k ||| BitVec.ofNat 32 (f.toNat % 16))

def State.setJctx (s : State) (p i : Nat) (j : JCtx) : State := { s with jctxs := aset s.jctxs (p, i) j }

/-! ### State planes (R298) -/

/-- The coordinate of an element: logical index, position in the moment planes, weight address. -/
structure Coord where
  idx : Nat
  u : Nat
  wva : Nat
  deriving DecidableEq, Repr

def JCtx.at (j : JCtx) (x : Nat) : Coord := ⟨j.lbase + x, x - j.xbase, j.wplane + (x - j.xbase) * 2⟩
def JCtx.atRow (j : JCtx) (t e : Nat) : Coord := ⟨t * j.dim + e, t * j.dim + e, j.wplane + t * j.tstride + e * 2⟩

/-- Elements of a size at consecutive addresses: bits, poison; `none` where the address does not translate. (DESIGN CHOICE,
log 25). -/
def State.readElems (s : State) (p va n sz hint : Nat) : State × List (Option (Nat × Bool)) :=
  match s.vload p va (n * sz) hint with
  | some (s1, l) =>
    (s1, (List.range n).map fun i => let e := (l.drop (i * sz)).take sz; some (leNat (dataOf e), anyPoison e))
  | none => (List.range n).foldl (fun r i =>
      match r.1.vload p (va + i * sz) sz hint with
      | some (s1, l) => (s1, r.2 ++ [some (leNat (dataOf l), anyPoison l)])
      | none => (r.1, r.2 ++ [none])) (s, [])

/-- State words of a plane as FP32, with poison; `none` as above. -/
abbrev JVal := Option (Word × Bool)

def bfVal (e : Option (Nat × Bool)) : JVal := e.map fun v => (BitVec.ofNat 32 (v.1 * 2 ^ 16), v.2)

/-- The blocks of a Lath-8 plane as FP32 (R127, R298): `n` elements from position `u`, a multiple of 32. -/
def State.readLath (s : State) (p plane u n hint : Nat) : State × List JVal :=
  (List.range (ceilDiv n 32)).foldl (fun r b =>
    let k := min 32 (n - 32 * b)
    match r.1.vload p (plane + (u / 32 + b) * 34) 34 hint with
    | some (s1, l) =>
      let blk := Blk.ofBytes (dataOf l) (anyPoison l)
      (s1, r.2 ++ (blk.vals.take k).map fun v => some ((roundW v).1, blk.poison))
    | none => (r.1, r.2 ++ List.replicate k none)) (s, [])

/-- A moment plane for `n` elements from position `u`; an absent plane reads +0.0. -/
def State.readMoment (s : State) (p plane mfmt u n hint : Nat) : State × List JVal :=
  if plane = 0 then (s, List.replicate n (some (0#32, false)))
  else if mfmt = 1 then s.readLath p plane u n hint
  else let (s1, l) := s.readElems p (plane + u * 2) n 2 hint; (s1, l.map bfVal)

def State.readWeights (s : State) (p : Nat) (j : JCtx) (c : Coord) (n : Nat) : State × List JVal :=
  if j.wplane = 0 then (s, List.replicate n (some (0#32, false)))
  else let (s1, l) := s.readElems p c.wva n 2 j.shint; (s1, l.map bfVal)

/-- The fields that make a Lath-8 moment block: n = 8, no rotation. -/
def lath8 : LathFields := ⟨8, 0, 0, 0, 8, 8, 0, 0, 0, 0⟩

/-- Does a range translate for writing? -/
def State.writable (s : State) (p va n : Nat) : Bool := s.vdone p va n == n

/-- Adjacent pieces as one. -/
def coalesce (l : List (Nat × List PByte)) : List (Nat × List PByte) :=
  l.foldr (fun e r => match r with
    | (a, b) :: q => if e.1 + e.2.length = a then (e.1, e.2 ++ b) :: q else e :: r
    | [] => [e]) []

/-- Write pieces, adjacent ones in one access, so that a granule written whole loses its mark (R252); a piece that does not
translate is left unwritten (R295): false. -/
def State.storeRuns (s : State) (p hint : Nat) (l : List (Nat × List PByte)) : State × Bool :=
  let ok := l.filter fun e => s.writable p e.1 e.2.length
  ((coalesce ok).foldl (fun s e => (s.vstore p e.1 hint e.2).1) s, ok.length == l.length)

/-- Where an element of a moment plane is written: address and bytes (R298). -/
def momentAt (plane mfmt u : Nat) : Nat × Nat := if mfmt = 1 then (plane + u / 32 * 34, 34) else (plane + u * 2, 2)

/-- The bytes of an element of two bytes. -/
def elem2 (v : Nat) (bad : Bool) : List PByte := (leBytes 2 v).map fun b => (b, bad)

/-- Write a moment plane from position `u` (R307): the flags of the write, false on a translation failure. -/
def State.writeMoment (s : State) (p plane mfmt u hint : Nat) (l : List (Word × Bool)) : State × FpFlags × Bool :=
  if plane = 0 then (s, fNone, true)
  else if mfmt = 1 then
    let (bs, f, _) := quantVec lath8 (l.map fun e => fv32 e.1) (l.map (·.2))
    let r := s.storeRuns p hint (((List.range bs.length).zip bs).map fun b =>
      ((momentAt plane 1 (u + 32 * b.1)).1, (b.2.bytes 8).map fun x => (x, b.2.poison)))
    (r.1, f, r.2)
  else
    let es := l.map fun e => (convertEnc .fp32 .bf16 e.1.toNat, e.2)
    let r := s.storeRuns p hint (((List.range es.length).zip es).map fun e =>
      ((momentAt plane 0 (u + e.1)).1, elem2 e.2.1.1 e.2.2))
    (r.1, es.foldl (fun a e => if e.2 then a else a ||| e.1.2) fNone, r.2)

/-! ### A group of up to 32 elements -/

/-- What a lane starts from: gradient, weight, moments, whether a read of it was poisoned, whether one failed. -/
structure JIn where
  g : Word
  w : Word
  m1 : Word
  m2 : Word
  bad : Bool
  fail : Bool
  deriving DecidableEq, Repr

/-- Read the state of consecutive elements. -/
def State.readGroup (s : State) (p : Nat) (j : JCtx) (c : Coord) (gs : List Word) : State × List JIn :=
  let n := gs.length
  let (s1, ws) := s.readWeights p j c n
  let (s2, a) := s1.readMoment p j.m1plane j.mfmt c.u n j.shint
  let (s3, b) := s2.readMoment p j.m2plane j.mfmt c.u n j.shint
  let val (pl : Nat) (v : JVal) : Word := match v with | some e => e.1 | none => Config.jnrUnread pl
  let psn (v : JVal) : Bool := match v with | some e => e.2 | none => true
  (s3, (List.range n).map fun i =>
    let w := ws.getD i none
    let m := a.getD i none
    let v := b.getD i none
    { g := gs.getD i 0#32, w := val c.wva w, m1 := val (j.m1plane + c.u) m, m2 := val (j.m2plane + c.u) v
      bad := psn w || psn m || psn v, fail := w.isNone || m.isNone || v.isNone })

def JIn.lane (e : JIn) (h : List Word) : JLane := { f := [e.g, e.w, e.m1, e.m2] ++ List.replicate 12 0#32, h := h }

/-- The disagreements of the two rounding circuits in a run: the extent element, whether they disagreed twice (R308). -/
abbrev SrDup := List (Nat × Bool)

/-- Supply a new weight to the publication entry as the member at a position (R288, R305), through the engine of die `d`;
it ranks after the supplies of the cores in its cycle. An entry no longer valid drops it (R272). -/
def State.pubSupply (s : State) (d p id pos x : Nat) (raw : List PByte) : State :=
  match s.trussAt p id with
  | none => s.colError d 0 p id (x / 64)
  | some t =>
    match t.own.find? (fun m => m.pos == pos) with
    | none => s.colError d 0 p id (x / 64)
    | some m => if t.nelem ≤ x then s.colError d 7 p id (x / 64) else s.gatherElem d p id (2 ^ 20) t m x raw

def State.pubList (s : State) (d p : Nat) (j : JCtx) (pos x0 : Nat) (l : List (Nat × Bool)) : State :=
  match j.pub with
  | none => s
  | some id => ((List.range l.length).zip l).foldl (fun s e => s.pubSupply d p id pos (x0 + e.1) (elem2 e.2.1 e.2.2)) s

/-- Must a joiner wait for its supplies to be accepted (R305, R274)? -/
def State.pubHeld (s : State) (p : Nat) (j : JCtx) : Bool :=
  match j.pub.bind (s.trussAt p) with
  | some t => s.colFull p t
  | none => false

/-- What a joiner works for: partition, context number, context, die, extent position of the owner, where; `num`: which
joiner of the die works (R21). -/
structure JJob where
  p : Nat
  i : Nat
  j : JCtx
  d : Nat
  pos : Nat
  wh : Nat
  num : Nat := 0
  deriving DecidableEq, Repr

/-- The step number of the current step (R314). -/
def JCtx.cur (j : JCtx) : Nat := (j.step0 + j.n) % 2 ^ 32

/-- Write the state of a group after its program (R307-R309); `all`: every output is poison. `x0` is the extent element
of the first. An element whose write does not translate is handled as one whose read is poisoned (R295). A disagreement of
its rounding circuits makes the joiner suspect (R443). -/
def State.writeGroup (s : State) (jb : JJob) (c : Coord) (x0 : Nat) (ins : List JIn) (outs : List JLane) (all : Bool)
    (dup : SrDup) : State :=
  let j := jb.j
  let n := ins.length
  let fits (k : Nat) : Bool :=
    (j.wplane == 0 || s.writable jb.p (c.wva + 2 * k) 2) && [j.m1plane, j.m2plane].all fun pl =>
      pl == 0 || s.writable jb.p (momentAt pl j.mfmt (c.u + k)).1 (momentAt pl j.mfmt (c.u + k)).2
  let bad (k : Nat) : Bool := all || !(fits k) || (match ins[k]? with | some e => e.bad | none => true)
  let fOf (k r : Nat) : Word := match outs[k]? with | some l => l.f.getD r 0#32 | none => 0#32
  let sr := (List.range n).map fun k => srBf16 (fOf k 1) (BitVec.ofNat 64 j.seed) j.cur j.tid (c.idx + k)
  let twice (k : Nat) : Bool := aget dup (x0 + k) == some true
  let ws := (List.range n).map fun k => ((sr.getD k (0, fNone)).1, bad k || twice k)
  let nb := (List.range n).filter bad
  let ok := (List.range n).filter fun k => !bad k
  let s1 := if j.wplane = 0 then s
    else (s.storeRuns jb.p j.shint (((List.range n).zip ws).map fun e => (c.wva + 2 * e.1, elem2 e.2.1 e.2.2))).1
  let (s2, f1, _) := s1.writeMoment jb.p j.m1plane j.mfmt c.u j.shint ((List.range n).map fun k => (fOf k 2, bad k))
  let (s3, f2, _) := s2.writeMoment jb.p j.m2plane j.mfmt c.u j.shint ((List.range n).map fun k => (fOf k 3, bad k))
  let fl := ok.foldl (fun a k => a ||| (if j.wplane = 0 then fNone else (sr.getD k (0, fNone)).2) |||
    (match outs[k]? with | some l => l.fl | none => fNone)) fNone
  let s4 := s3.jnrFlags jb.p (fl ||| f1 ||| f2)
  let nfw := if j.wplane = 0 then 0 else (ok.filter fun k => 0x7F80 ≤ (sr.getD k (0, fNone)).1 % 2 ^ 15).length
  let s5 := (s4.count .jnrSpoisonCnt jb.d (if all then 0 else nb.length)).count .jnrNfwCnt jb.d nfw
  let ds := (List.range n).filter fun k => (aget dup (x0 + k)).isSome
  let s6 := s5.count .jnrSrdupCnt jb.d ds.length
  let s7 := (ds.filter twice).foldl (fun s _ => s.jnrError jb.d 3 jb.p jb.i jb.wh) s6
  let s8 := if (!all && !nb.isEmpty) || !((List.range n).all fits) then s7.jnrError jb.d 6 jb.p jb.i jb.wh else s7
  let s9 := if ds.isEmpty then s8 else s8.suspect 2 (jb.d * 16 + jb.num)
  s9.pubList jb.d jb.p j jb.pos x0 ws

/-! ### Steps -/

/-- The blocks of the shard of an entry (R297). -/
def Truss.shard (t : Truss) : List Nat := (List.range t.blocks).filter fun b => t.own.any fun m => m.pos == t.ownerPos b

def Truss.ext (t : Truss) : JExt := { nelem := t.nelem, rshift := t.rshift, die := t.sumDie, shard := t.shard }

/-- What a context uses of its entry: an active step what it latched, else the valid entry; of an entry retired since, the
last step's. (DEDUCED, log 85). -/
def State.jnrExt (s : State) (p : Nat) (j : JCtx) : Option JExt :=
  let live := (s.trussAt p j.entry).map Truss.ext
  if j.active.isSome then j.ext.or live else live.or j.ext

/-- The step slot of the current step: constants and program (R294, R314). -/
def State.jnrSlot (s : State) (p : Nat) (j : JCtx) : State × JLatch :=
  match s.vload p (j.va + 0x80 + j.cur % 2 * 0x40) 0x40 0 with
  | some (s1, l) =>
    let d := dataOf l
    (s1, { consts := wordsAt 12 d, prog := if anyPoison l then 64 else dfield d 0x30 1 })
  | none => (s, { consts := [], prog := 64 })
where
  wordsAt : Nat → List Byte → List Word
    | 0, _ => []
    | n + 1, l => BitVec.ofNat 32 (leNat (l.take 4)) :: wordsAt n (l.drop 4)

/-- The program of the latched slot when the partition holds it (R309). -/
def State.jnrProgOf (s : State) (p : Nat) (j : JCtx) : Option (JLatch × JProg) :=
  j.active.bind fun a => (aget s.jprogs a.prog).bind fun g =>
    if g.part = p ∧ g.form = (if j.dim = 0 then 0 else 1) then some (a, g) else none

/-! ### Export and import (R318-R321) -/

/-- A maximal run of shard blocks as (first element, elements). -/
def shardRuns (nelem : Nat) : List Nat → List (Nat × Nat)
  | [] => []
  | b :: r =>
    let n := min 64 (nelem - 64 * b)
    match shardRuns nelem r with
    | (x, k) :: q => if x = 64 * (b + 1) then (64 * b, k + n) :: q else (64 * b, n) :: (x, k) :: q
    | [] => [(64 * b, n)]

/-- A record's head (R319). -/
def stateHead (plane efmt tid step dim idx0 count crc : Nat) : List Byte :=
  leBytes 2 0x5E4A ++ leBytes 1 1 ++ leBytes 1 plane ++ leBytes 1 efmt ++ leBytes 1 0 ++ leBytes 2 tid ++ leBytes 4 step ++
  leBytes 4 dim ++ leBytes 8 idx0 ++ leBytes 8 count ++ leBytes 4 crc ++ List.replicate 28 0#8

def pad64 (n : Nat) : Nat := (64 - n % 64) % 64

def stateRecord (plane efmt tid step dim idx0 count : Nat) (payload : List PByte) : List PByte :=
  clean (stateHead plane efmt tid step dim idx0 count (crc32 (dataOf payload))) ++ payload ++
    clean (List.replicate (pad64 payload.length) 0#8)

/-- Read ranges one after another. -/
def State.vloads (s : State) (p hint : Nat) (l : List (Nat × Nat)) : Option (State × List PByte) :=
  l.foldl (fun r q => r.bind fun e => (e.1.vload p q.1 q.2 hint).map fun v => (v.1, e.2 ++ v.2)) (some (s, []))

/-- The records of an export as (plane, element format, idx0, count, ranges of the payload). -/
def exportPlan (j : JCtx) (t : JExt) (planes row0 nrows : Nat) : List (Nat × Nat × Nat × Nat × List (Nat × Nat)) :=
  let runs : List (Nat × Nat) := if j.dim = 0 then shardRuns t.nelem t.shard else [(row0 * j.dim, nrows * j.dim)]
  let idxOf (x : Nat) : Nat := if j.dim = 0 then j.lbase + x else x
  let pos (x : Nat) : Nat := if j.dim = 0 then x - j.xbase else x
  let weight := if planes.testBit 0 && j.wplane != 0 then runs.map fun r =>
      (0, 1, idxOf r.1, r.2,
        if j.dim = 0 then [(j.wplane + pos r.1 * 2, r.2 * 2)]
        else (List.range nrows).map fun k => (j.wplane + (row0 + k) * j.tstride, j.dim * 2))
    else []
  let moment (pl : Nat) (base : Nat) := if planes.testBit pl && base != 0 then runs.map fun r =>
      (pl, 1 + j.mfmt, idxOf r.1, r.2,
        if j.mfmt = 1 then [(base + pos r.1 / 32 * 34, ceilDiv r.2 32 * 34)] else [(base + pos r.1 * 2, r.2 * 2)])
    else []
  let row := if planes.testBit 3 && j.hplane != 0 then [(3, 0, row0, nrows, [(j.hplane + row0 * 4, nrows * 4)])] else []
  weight ++ moment 1 j.m1plane ++ moment 2 j.m2plane ++ row

/-- Is a request descriptor well formed for the context (R318)? -/
def xpLegal (d : List Byte) (j : JCtx) : Bool :=
  bitsOf (dfield d 1 1) 7 4 == 0 && decide (dfield d 2 2 < 1024) && dfield d 4 4 == 0 && dfield d 8 8 % 64 == 0 &&
  decide (dfield d 8 8 < 2 ^ 48) && ((d.drop 0x28).all (· == 0#8)) &&
  (if j.dim = 0 then dfield d 0x18 8 == 0 && dfield d 0x20 8 == 0
   else decide (dfield d 0x18 8 + dfield d 0x20 8 ≤ j.trows))

/-- The bytes an export has written (R320). -/
def State.xpBytes (s : State) (p n : Nat) : State :=
  (s.setReg ⟨.jnrXpBytesLo, p, 0⟩ (BitVec.ofNat 32 n)).setReg ⟨.jnrXpBytesHi, p, 0⟩ (BitVec.ofNat 32 (n / 2 ^ 32))

/-- Serve an export: the state and the result. -/
def State.jnrExport (s : State) (p : Nat) (d : List Byte) (j : JCtx) (t : JExt) : State × Nat :=
  let step := (j.cur + (2 ^ 32 - 1)) % 2 ^ 32
  let plan := exportPlan j t (dfield d 1 1) (dfield d 0x18 8) (dfield d 0x20 8)
  let r := plan.foldl (fun (r : Option (State × List PByte)) e => r.bind fun a =>
    (a.1.vloads p j.shint e.2.2.2.2).map fun v =>
      (v.1, a.2 ++ stateRecord e.1 e.2.1 j.tid step j.dim e.2.2.1 e.2.2.2.1 v.2)) (some (s, []))
  match r with
  | none => (s.xpBytes p 0, 3)
  | some (s1, l) =>
    if dfield d 0x10 8 < l.length then (s1.xpBytes p 0, 2)
    else
      let r := s1.vstore p (dfield d 8 8) 0 l
      (r.1.xpBytes p (s1.vdone p (dfield d 8 8) l.length), if r.2 then 0 else 3)

/-- A record of an import stream. -/
structure StRec where
  plane : Nat
  efmt : Nat
  tid : Nat
  dim : Nat
  idx0 : Nat
  count : Nat
  payload : List PByte
  deriving DecidableEq, Repr

def stBytes (efmt count : Nat) : Nat :=
  match efmt with | 0 => 4 * count | 1 => 2 * count | _ => ceilDiv count 32 * 34

/-- The records of a stream; `none` when a head or a CRC fails or a byte of it is poisoned (R321, R442). -/
def stateRecords : Nat → List PByte → Option (List StRec)
  | 0, l => if l.isEmpty then some [] else none
  | f + 1, l =>
    if l.isEmpty then some []
    else
      let h := l.take 64
      let d := dataOf h
      let efmt := dfield d 4 1
      let count := dfield d 0x18 8
      let n := stBytes efmt count
      let pay := (l.drop 64).take n
      if h.length < 64 || anyPoison h || dfield d 0 2 != 0x5E4A || dfield d 2 1 != 1 || decide (3 < dfield d 3 1) ||
          decide (2 < efmt) || dfield d 5 1 != 0 || !((d.drop 0x24).all (· == 0#8)) ||
          decide (l.length < 64 + n + pad64 n) || anyPoison ((l.drop 64).take (n + pad64 n)) || crc32 (dataOf pay) != dfield d 0x20 4 then none
      else
        (stateRecords f (l.drop (64 + n + pad64 n))).map fun r =>
          { plane := dfield d 3 1, efmt := efmt, tid := dfield d 6 2, dim := dfield d 0xC 4, idx0 := dfield d 0x10 8
            count := count, payload := pay } :: r

/-- Element `k` of a record as FP32 with its poison (R101, R127). -/
def StRec.elem (r : StRec) (k : Nat) : Word × Bool :=
  match r.efmt with
  | 0 => let e := (r.payload.drop (4 * k)).take 4; (BitVec.ofNat 32 (leNat (dataOf e)), anyPoison e)
  | 1 => let e := (r.payload.drop (2 * k)).take 2; (BitVec.ofNat 32 (leNat (dataOf e) * 2 ^ 16), anyPoison e)
  | _ =>
    let e := (r.payload.drop (k / 32 * 34)).take 34
    let b := Blk.ofBytes (dataOf e) (anyPoison e)
    (match b.vals[k % 32]? with | some v => (roundW v).1 | none => 0#32, b.poison)

/-- The coordinate of a logical index in the shard or the request's rows; `none` outside. -/
def JCtx.cover (j : JCtx) (t : JExt) (row0 nrows idx : Nat) : Option Coord :=
  if j.dim = 0 then
    (if j.lbase ≤ idx ∧ idx - j.lbase < t.nelem ∧ t.shard.contains ((idx - j.lbase) / 64)
     then some (j.at (idx - j.lbase)) else none)
  else if row0 ≤ idx / j.dim ∧ idx / j.dim < row0 + nrows then some (j.atRow (idx / j.dim) (idx % j.dim)) else none

/-- Elements of a record that the context covers, with their coordinates. -/
def StRec.covered (r : StRec) (j : JCtx) (t : JExt) (row0 nrows : Nat) : List (Coord × Word × Bool) :=
  (List.range r.count).filterMap fun k => (j.cover t row0 nrows (r.idx0 + k)).map fun c => (c, r.elem k)

/-- Replace covered elements of the Lath-8 blocks of a moment plane (R321): a block covered only in part is read; what lies
outside the extent is +0.0 (R307). -/
def State.importLath (s : State) (p : Nat) (j : JCtx) (t : JExt) (plane : Nat) (l : List (Coord × Word × Bool)) :
    State × FpFlags × Bool :=
  let slots := (l.map fun e => e.1.u / 32).foldl sput []
  slots.foldl (fun r b =>
    let outside (k : Nat) : Bool := j.dim == 0 && decide (t.nelem ≤ j.xbase + 32 * b + k)
    let cov (k : Nat) := l.find? fun e => e.1.u == 32 * b + k
    let (s1, old) := if (List.range 32).all (fun k => outside k || (cov k).isSome) then (r.1, [])
      else r.1.readLath p plane (32 * b) 32 j.shint
    let new := (List.range 32).map fun k =>
      match cov k with
      | some e => e.2
      | none => if outside k then (0#32, false) else (old.getD k none).getD (0#32, true)
    let (s2, f, ok) := s1.writeMoment p plane 1 (32 * b) j.shint new
    (s2, r.2.1 ||| f, r.2.2 && ok)) (s, fNone, true)

/-- Apply one record: the flags of its writes, false on a translation failure. -/
def State.importRec (s : State) (p : Nat) (j : JCtx) (t : JExt) (d : List Byte) (r : StRec) : State × FpFlags × Bool :=
  let row0 := dfield d 0x18 8
  let nrows := dfield d 0x20 8
  if r.tid ≠ j.tid ∨ r.dim ≠ j.dim ∨ !((dfield d 1 1).testBit r.plane) then (s, fNone, true)
  else if r.plane = 3 then
    if j.hplane = 0 then (s, fNone, true)
    else
      let ks := (List.range r.count).filter fun k => decide (row0 ≤ r.idx0 + k ∧ r.idx0 + k < row0 + nrows)
      let w := s.storeRuns p j.shint (ks.map fun k =>
        (j.hplane + (r.idx0 + k) * 4, (leBytes 4 (r.elem k).1.toNat).map fun b => (b, (r.elem k).2)))
      (w.1, fNone, w.2)
  else
    let l := r.covered j t row0 nrows
    let plane := match r.plane with | 0 => j.wplane | 1 => j.m1plane | _ => j.m2plane
    if plane = 0 then (s, fNone, true)
    else if r.plane ≠ 0 ∧ j.mfmt = 1 then s.importLath p j t plane l
    else
      let es := l.map fun e =>
        (if r.plane = 0 then e.1.wva else plane + e.1.u * 2, convertEnc .fp32 .bf16 e.2.1.toNat, e.2.2)
      let q := s.storeRuns p j.shint (es.map fun e => (e.1, elem2 e.2.1.1 e.2.2))
      (q.1, es.foldl (fun a e => a ||| e.2.1.2) fNone, q.2)

/-- Serve an import. -/
def State.jnrImport (s : State) (p : Nat) (d : List Byte) (j : JCtx) (t : JExt) : State × Nat :=
  match s.vload p (dfield d 8 8) (dfield d 0x10 8) 0 with
  | none => (s, 3)
  | some (s1, l) =>
    match stateRecords l.length l with
    | none => (s1, 2)
    | some rs =>
      let r := rs.foldl (fun a x =>
        let (s2, f, ok) := a.1.importRec p j t d x
        (s2, a.2.1 ||| f, a.2.2 && ok)) (s1, fNone, true)
      (r.1.jnrFlags p r.2.1, if r.2.2 then 0 else 3)

/-- A request ends: `go` clears, `done` and the result are set (R322). -/
def State.xpDone (s : State) (p result : Nat) : State :=
  (s.setFld ⟨.jnrXpCmd, p, 0⟩ 0 0 0).cmdDone ⟨.jnrXpStatus, p, 0⟩ result 0 0 (some p)

/-- Serve a request whose context is not active. The element form needs the shard of its entry. (DEDUCED, log 85). -/
def State.xpServe (s : State) (p : Nat) (d : List Byte) : State :=
  match aget s.jctxs (p, dfield d 2 2) with
  | none => s.xpDone p 2
  | some j =>
    let e := s.jnrExt p j
    if !(xpLegal d j) || (j.dim == 0 && e.isNone) then (if dfield d 0 1 = 1 then s.xpBytes p 0 else s).xpDone p 2
    else
      let t := e.getD {}
      let (s1, r) := if dfield d 0 1 = 1 then s.jnrExport p d j t else s.jnrImport p d j t
      s1.xpDone p r

/-- A request is given: it runs, or waits for the step of its context to complete when that is active (R317, R318). `op` is the operation of
the command; a descriptor of the other operation is that command's. (DEDUCED, log 85). -/
def State.xpGo (s : State) (p : Nat) (src : Src) (op : Nat) : State :=
  let k : RKey := ⟨.jnrXpCmd, p, 0⟩
  s.accessW src k fun s =>
    if s.rbit k 0 || !(s.part p).built then s
    else
      let va := (s.reg ⟨.jnrXpAddrLo, p, 0⟩).toNat + 2 ^ 32 * s.rfld ⟨.jnrXpAddrHi, p, 0⟩ 15 0
      match s.vload p va 64 0 with
      | none => (s.setFld k 0 0 1).xpDone p 3
      | some (s1, l) =>
        let d := dataOf l
        let dop := dfield d 0 1
        if !anyPoison l && (dop == 1 || dop == 2) && dop != op then s
        else
          let s2 := s1.setFld k 0 0 1
          if anyPoison l || dop != op || va % 64 != 0 then s2.xpDone p 2
          else
            match aget s2.jctxs (p, dfield d 2 2) with
            | none => s2.xpDone p 2
            | some j =>
              if j.active.isSome then s2.setJctx p (dfield d 2 2) { j with xp := some d }
              else s2.xpServe p d

/-- STATE_EXPORT (R317, R318, R320, R322). -/
def execStateExport (p : BitVec 3) (src : Src) (s : State) : Host.Outcome State Fault Refusal :=
  .next (s.xpGo p.toNat src 1)

/-- STATE_IMPORT (R317, R318, R321, R322). -/
def execStateImport (p : BitVec 3) (src : Src) (s : State) : Host.Outcome State Fault Refusal :=
  .next (s.xpGo p.toNat src 2)

/-! ### Completion (R315) -/

/-- Complete the step when every block of the shard has been applied or skipped; a waiting request then runs. (DEDUCED, log
85). -/
def State.jnrComplete (s : State) (p i : Nat) : State :=
  match aget s.jctxs (p, i) with
  | none => s
  | some j =>
    match s.jnrExt p j with
    | none => s
    | some t =>
      if j.active.isNone || !(t.shard.all fun b => j.done.contains b) then s
      else
        let j1 := { j with n := j.n + 1, active := none, granted := false, rows := [], skips := [], done := [], xp := none }
        let s1 := ((s.setJctx p i j1).engineSignal t.die p j.jpeg 1#32).spineEvent t.die 0x0202 p (srcEngine t.die 2) i (j.n + 1)
        match j.xp with
        | some d => s1.xpServe p d
        | none => s1

/-- A block is applied or skipped: it leaves the queue. -/
def State.jnrBlockDone (s : State) (p i b : Nat) (skip : Bool) : State :=
  match aget s.jctxs (p, i) with
  | none => s
  | some j =>
    let j1 := { j with queue := j.queue.filter (fun q => q.crec.b != b), done := sput j.done b
                       skips := if skip then sput j.skips b else j.skips }
    (s.setJctx p i j1).jnrComplete p i

/-! ### Applying (R305, R309, R310) -/

/-- The gradient of an integer of a block (R305). -/
def jGrad (t : JExt) (r : ColRec) (k : Nat) : Word :=
  let q := (r.q.getD k 0#32).toInt
  if q = 0 then 0#32 else (rneFp32 (decide (q < 0)) q.natAbs ((r.e : Int) - 128 - 31 - t.rshift)).1

/-- Supply the current weights of a skipped block (R309). -/
def State.skipPub (s : State) (jb : JJob) (t : JExt) (b : Nat) : State :=
  if jb.j.pub.isNone || jb.j.dim != 0 then s
  else
    let n := min 64 (t.nelem - 64 * b)
    let (s1, l) := s.readWeights jb.p jb.j (jb.j.at (64 * b)) n
    s1.pubList jb.d jb.p jb.j jb.pos (64 * b) (l.map fun v =>
      match v with | some e => (wbits e.1 31 16, e.2) | none => (0, true))

/-- Skip a block with a record (R309). -/
def State.skipBlock (s : State) (jb : JJob) (t : JExt) (b kind : Nat) : State :=
  (((s.count .jnrSkipCnt jb.d 1).jnrError jb.d kind jb.p jb.i b).skipPub jb t b).jnrBlockDone jb.p jb.i b true

/-- Run the element-form program on a block. -/
def State.applyElems (s : State) (jb : JJob) (t : JExt) (r : ColRec) (a : JLatch) (g : JProg) (dup : SrDup) : State :=
  let s1 := [0, 1].foldl (fun s h =>
    let x0 := 64 * r.b + 32 * h
    let n := min 32 (t.nelem - x0)
    if n = 0 then s
    else
      let c := jb.j.at x0
      let (s1, ins) := s.readGroup jb.p jb.j c ((List.range n).map fun k => jGrad t r (32 * h + k))
      let outs := ins.map fun e => (e.lane (List.replicate 4 0#32)).run a.consts (g.phase 0)
      s1.writeGroup jb c x0 ins outs false dup) s
  let s2 := if r.ovf then s1.count .jnrOvfCnt jb.d 1 else s1
  ((s2.count .jnrBlkCnt jb.d 1).count .jnrBusyCnt jb.d (2 * (g.cycles 0 + 4))).jnrBlockDone jb.p jb.i r.b false

/-- The blocks that hold an extent row. -/
def JCtx.rowBlocks (j : JCtx) (row : Nat) : List Nat :=
  upto (row * j.dim / 64) ((row * j.dim + j.dim - 1) / 64 - row * j.dim / 64 + 1)

/-- The gradients of a row from its accepted blocks. -/
def JCtx.rowGrads (j : JCtx) (t : JExt) (row : Nat) : List Word :=
  (List.range j.dim).map fun e =>
    let x := row * j.dim + e
    match j.queue.find? (fun q => q.crec.b == x / 64) with
    | some q => jGrad t q.crec (x % 64)
    | none => 0#32

/-- Run a row (R306, R310) whose table row is known. -/
def State.runRow (s : State) (jb : JJob) (t : JExt) (a : JLatch) (g : JProg) (row tr : Nat) (dup : SrDup) : State :=
  let j := jb.j
  let gs := j.rowGrads t row
  let groups := List.range (j.dim / 32)
  let h0 : List Word := List.replicate 4 0#32
  -- phase A
  let ra := groups.foldl (fun (r : State × List (List JIn)) q =>
    let (s1, ins) := r.1.readGroup jb.p j (j.atRow tr (32 * q)) ((gs.drop (32 * q)).take 32)
    (s1, r.2 ++ [ins])) (s, [])
  let lanesA := ra.2.flatten.map fun e => (e, (e.lane h0).run a.consts (g.phase 0))
  let sum := lanesA.foldl (fun (acc : Word × FpFlags) l => match l.2.racc with
    | some v => let (w, f) := addFp32 acc.1 v; (w, acc.2 ||| f)
    | none => acc) (negZero32, fNone)
  let flA := lanesA.foldl (fun f l => if l.1.bad then f else f ||| l.2.fl) sum.2
  -- phase B
  let (s1, hs) : State × JVal :=
    if j.hplane = 0 then (ra.1, some (0#32, false))
    else
      let r := ra.1.readElems jb.p (j.hplane + tr * 4) 1 4 j.shint
      (r.1, (r.2.headD none).map fun v => (BitVec.ofNat 32 v.1, v.2))
  let all := (match hs with | some v => v.2 | none => true) || (j.hplane != 0 && !(s1.writable jb.p (j.hplane + tr * 4) 4))
  let st := match hs with | some v => v.1 | none => Config.jnrUnread (j.hplane + tr * 4)
  let lb := ({ f := [sum.1, 0#32, st] ++ List.replicate 13 0#32, h := [sum.1, 0#32, 0#32, 0#32] } : JLane).run a.consts (g.phase 1)
  let s2 := s1.jnrFlags jb.p (if all then flA else flA ||| lb.fl)
  let s3 := if j.hplane = 0 then s2
    else
      let w := s2.vstore jb.p (j.hplane + tr * 4) j.shint ((leBytes 4 (lb.f.getD 2 0#32).toNat).map fun b => (b, all))
      if all then w.1.jnrError jb.d 6 jb.p jb.i jb.wh else w.1
  let s4 := if all then s3.count .jnrSpoisonCnt jb.d (j.dim + 1) else s3
  -- phase C
  let s5 := (groups.zip ra.2).foldl (fun s q =>
    let outs := q.2.map fun e => (e.lane lb.h).run a.consts (g.phase 2)
    s.writeGroup jb (j.atRow tr (32 * q.1)) (row * j.dim + 32 * q.1) q.2 outs all dup) s4
  s5.count .jnrBusyCnt jb.d (j.dim / 32 * (g.cycles 0 + g.cycles 2 + 4) + j.dim / 4 + g.cycles 1 + 4)

/-- Finish the blocks all of whose rows have run. -/
def State.rowBlocksDone (s : State) (jb : JJob) (t : JExt) : State :=
  match aget s.jctxs (jb.p, jb.i) with
  | none => s
  | some j =>
    if j.dim = 0 then s else
    let rowsOf (b : Nat) : List Nat :=
      upto (64 * b / j.dim) ((min (64 * b + 64) t.nelem - 1) / j.dim - 64 * b / j.dim + 1)
    (j.queue.filter fun q => (rowsOf q.crec.b).all fun r => j.rows.contains r || (j.rowBlocks r).any j.skips.contains).foldl
      (fun s q =>
        let s1 := if q.crec.ovf then s.count .jnrOvfCnt jb.d 1 else s
        (s1.count .jnrBlkCnt jb.d 1).jnrBlockDone jb.p jb.i q.crec.b false) s

/-- A row whose every block has been accepted runs once (R310). -/
def State.applyRow (s : State) (jb0 : JJob) (t : JExt) (a : JLatch) (g : JProg) (row : Nat) (dup : SrDup) : State :=
  match aget s.jctxs (jb0.p, jb0.i) with
  | none => s
  | some j =>
    if j.dim = 0 || j.rows.contains row || decide (t.nelem ≤ row * j.dim) ||
        !((j.rowBlocks row).all fun b => j.queue.any fun q => q.crec.b == b && !q.crec.poison && !q.crec.nf) then s
    else
      let jb := { jb0 with j := j, wh := row * j.dim / 64 }
      let s1 := s.setJctx jb.p jb.i { j with rows := sput j.rows row }
      let s2 := match s1.vload jb.p (j.rowmap + row * 8) 8 j.shint with
        | none => (s1.jnrError jb.d 4 jb.p jb.i row).jnrError jb.d 6 jb.p jb.i row
        | some (s2, l) =>
          let tr := leNat (dataOf l)
          if anyPoison l || decide (j.trows ≤ tr) then s2.jnrError jb.d 4 jb.p jb.i row
          else s2.runRow jb t a g row tr dup
      s2.rowBlocksDone jb t

/-- The job of a context for a block it has accepted. -/
def State.jnrJob (s : State) (p i b : Nat) : Option (JJob × JExt × JBlock) :=
  (aget s.jctxs (p, i)).bind fun j => (s.jnrExt p j).bind fun t =>
    (j.queue.find? fun q => q.crec.b == b).map fun q =>
      ({ p := p, i := i, j := j, d := t.die, pos := q.pos, wh := b }, t, q)

/-- That job with joiner `num` of the owner die at work; the dispatcher skips a retired joiner (R443). -/
def State.jnrTake (s : State) (p i num b : Nat) : Option (JJob × JExt × JBlock) :=
  (s.jnrJob p i b).bind fun e =>
    if s.retired.contains (2, e.1.d * 16 + num) then none else some ({ e.1 with num := num }, e.2)

/-- JOINER_BLOCK_APPLY (R305-R309): a free joiner takes an accepted block: it skips it, runs the element program on it, or
runs every row of it that is complete; it waits while the publication entry accepts no supply. `num`: which joiner of the
owner die is free (R292); `dup`: disagreements of its rounding circuits. -/
def execJoinerBlockApply (p : BitVec 3) (jctx : BitVec 10) (num : BitVec 4) (block : Nat) (dup : List (Nat × Bool)) (s : State) :
    Host.Outcome State Fault Refusal :=
  .next (
    match s.jnrTake p.toNat jctx.toNat num.toNat block with
    | none => s
    | some (jb, t, q) =>
      if s.pubHeld jb.p jb.j then s
      else if q.crec.poison then
        (s.skipBlock jb t block 1).rowBlocksDone jb t
      else if q.crec.nf then (s.skipBlock jb t block 2).rowBlocksDone jb t
      else
        match s.jnrProgOf jb.p jb.j with
        | none => s.skipBlock jb t block 5
        | some (a, g) =>
          if jb.j.dim = 0 then s.applyElems jb t q.crec a g dup
          else ((upto (64 * block / jb.j.dim) (64 / jb.j.dim + 1)).foldl
            (fun s r => s.applyRow jb t a g r dup) s).rowBlocksDone jb t)

/-- JOINER_ROW_APPLY (R306, R310, R309): a joiner runs a row whose every element has arrived. -/
def execJoinerRowApply (p : BitVec 3) (jctx : BitVec 10) (num : BitVec 4) (row : Nat) (dup : List (Nat × Bool)) (s : State) :
    Host.Outcome State Fault Refusal :=
  .next (
    match aget s.jctxs (p.toNat, jctx.toNat) with
    | none => s
    | some j =>
      match s.jnrTake p.toNat jctx.toNat num.toNat (row * j.dim / 64) with
      | none => s
      | some (jb, t, _) =>
        match s.jnrProgOf jb.p j with
        | none => s
        | some (a, g) => s.applyRow jb t a g row dup)

/-! ### Offers and latches (R305, R314, R317) -/

/-- Blocks queued in the dispatcher of a die. -/
def State.dispatcherLoad (s : State) (d : Nat) : Nat :=
  (s.jctxs.map fun e => match s.jnrExt e.1.1 e.2 with
    | some t => if t.die = d then e.2.queue.length else 0
    | none => 0).foldl (· + ·) 0

/-- The block of an entry that its owner offers, with the joiner context. -/
def State.offeredBlock (s : State) (p id b : Nat) : Option (Truss × OwnerBlk × (ColRec × Bool)) :=
  (s.trussAt p id).bind fun t => (t.owner.find? fun o => o.b == b).bind fun o => o.offered.map fun r => (t, o, r)

/-- JOINER_BLOCK_OFFER (R285, R305, R317, R579): accepted when the dispatcher has room and the block is of the latched step; the
owner settles it then. A block that is not accepted is counted. -/
def execJoinerBlockOffer (p : BitVec 3) (entry : BitVec 12) (block : Nat) (s : State) : Host.Outcome State Fault Refusal :=
  let P := p.toNat
  .next (
    match s.offeredBlock P entry.toNat block with
    | none => s
    | some (t, _, (r, keep)) =>
      match aget s.jctxs (P, t.jctx) with
      | none => s
      | some j =>
        if j.active.isNone || j.done.contains block || (j.queue.any fun q => q.crec.b == block) ||
            decide (256 ≤ s.dispatcherLoad t.sumDie) || s.backPressed P 7 then s.count .jnrQfullCnt t.sumDie 1
        else
          let s1 := s.setJctx P t.jctx { j with queue := j.queue ++ [{ crec := r, pos := t.ownerPos block }] }
          (s1.settle P entry.toNat r keep).colComplete P entry.toNat)

/-- JOINER_STEP_LATCH (R314, R317): when a block of the current step is offered and the context is not active, the gate
peg is taken or waited on, the step slot read, and the context active. -/
def execJoinerStepLatch (p : BitVec 3) (jctx : BitVec 10) (s : State) : Host.Outcome State Fault Refusal :=
  let P := p.toNat
  let i := jctx.toNat
  .next (
    match aget s.jctxs (P, i) with
    | none => s
    | some j =>
      match s.trussAt P j.entry with
      | none => s
      | some t =>
        let want := t.joiner && t.jctx == i && t.owner.any fun o => o.offered.isSome
        let act (s : State) (j : JCtx) : State :=
          let (s1, a) := s.jnrSlot P j
          s1.setJctx P i { j with active := some a, ext := some t.ext, gated := false, granted := false }
        if j.active.isSome || j.xp.isSome then s
        else
          match j.gate with
          | none => if want then act s j else s
          | some h =>
            if j.granted then act s j
            else if j.gated then s.count .jnrGateCnt t.sumDie 1
            else if !want then s
            else if 1#32 ≤ s.peg h then act (s.setPeg h (s.peg h - 1#32)) j
            else
              { s.setJctx P i { j with gated := true } with
                waiters := s.waiters ++ [{ home := h, core := 0, ctx := 0, thr := 1#32, sub := true, jnr := some (P, i) }] })

/-! ### Contexts and programs (R295, R296, R303, R323) -/

/-- The base of the context table of a partition. -/
def State.jnrBase (s : State) (p : Nat) : Nat :=
  (s.reg ⟨.jnrBaseLo, p, 0⟩).toNat + 2 ^ 32 * s.rfld ⟨.jnrBaseHi, p, 0⟩ 15 0

/-- The fields of a context from its 256 bytes. -/
def JCtx.ofBytes (va : Nat) (d : List Byte) : JCtx :=
  let f := fun o n => dfield d o n
  { va := va, entry := bitsOf (f 0 2) 11 0, tid := f 2 2, mfmt := f 4 1 % 2, shint := f 5 1 % 4, dim := f 8 4, step0 := f 0xC 4
    lbase := bitsOf (f 0x10 8) 47 0, xbase := f 0x18 8, wplane := f 0x20 8, m1plane := f 0x28 8, m2plane := f 0x30 8
    hplane := f 0x38 8, rowmap := f 0x40 8, trows := f 0x48 8, tstride := f 0x50 8, seed := f 0x58 8
    jpeg := spinePegOf (f 0x60 4), gate := if (f 0x64 4).testBit 16 then some (spinePegOf (f 0x64 4)) else none
    pub := if (f 0x68 4).testBit 12 then some (bitsOf (f 0x68 4) 11 0) else none }

/-- Row 1 of R295 but for poison: zero fields, those the context does not use among them (R294), `dim`, `xbase`, `tstride`,
`rowmap`, `pub_en`. -/
def jctxFields (d : List Byte) : Bool :=
  let f := fun o n => dfield d o n
  let row := f 8 4 != 0
  let z (o n : Nat) : Bool := ((d.drop o).take n).all (· == 0#8)
  bitsOf (f 0 2) 15 12 == 0 && decide (f 4 1 < 2) && decide (f 5 1 < 4) && f 6 2 == 0 &&
  (!row || decide (f 8 4 % 32 = 0 ∧ f 8 4 ≤ 4096)) && decide (f 0x10 8 < 2 ^ 48) && f 0x18 8 % 64 == 0 &&
  (f 4 1 == 0 || f 0x28 8 != 0 || f 0x30 8 != 0) &&
  (if row then f 0x10 8 == 0 && f 0x18 8 == 0 && f 0x40 8 != 0 && !((f 0x68 4).testBit 12) &&
     (f 0x50 8 == 0 || f 0x20 8 != 0)
   else f 0x38 8 == 0 && f 0x40 8 == 0 && f 0x48 8 == 0 && f 0x50 8 == 0) &&
  decide (f 0x60 4 < 2 ^ 16) && decide (f 0x64 4 < 2 ^ 17) && ((f 0x64 4).testBit 16 || f 0x64 4 == 0) &&
  decide (f 0x68 4 < 2 ^ 13) && ((f 0x68 4).testBit 12 || f 0x68 4 == 0) && z 0x6C 20 && z 0xB1 15 && z 0xF1 15

/-- The checks of R295 in order: 0 when the context is accepted, else the reason. -/
def State.jctxCheck (s : State) (p : Nat) (l : List PByte) : Nat :=
  let d := dataOf l
  let j := JCtx.ofBytes 0 d
  let held (o : Nat) : Bool := match aget s.jprogs (dfield d o 1) with | some g => g.part == p | none => false
  if anyPoison l || !(jctxFields d) then 1
  else if j.wplane % 2 ≠ 0 ∨ j.m1plane % 2 ≠ 0 ∨ j.m2plane % 2 ≠ 0 ∨ j.hplane % 4 ≠ 0 ∨ j.rowmap % 8 ≠ 0 then 2
  else if s.partOfPeg j.jpeg != some p || (match j.gate with | some h => s.partOfPeg h != some p | none => false) then 3
  else if !(held 0xB0) || !(held 0xF0) then 4
  else 0

/-- A write of JNR_CMD: the fields stand. -/
def State.jnrCmd (s : State) (p id op : Nat) : State := s.setReg ⟨.jnrCmd, p, 0⟩ (BitVec.ofNat 32 (id + op * 2 ^ 10))

/-- JOINER_CTX_INSTALL (R293-R295, R322). (DEDUCED, log 23). -/
def execJoinerCtxInstall (p : BitVec 3) (src : Src) (id : BitVec 10) (s : State) : Host.Outcome State Fault Refusal :=
  .next (
    let P := p.toNat
    let i := id.toNat
    let k : RKey := ⟨.jnrStatus, P, 0⟩
    s.accessW src ⟨.jnrCmd, P, 0⟩ fun s0 =>
      let s := s0.jnrCmd P i 1
      if !(s.part P).built then s
      else if (aget s.jctxs (P, i)).isSome then s.cmdDone k 1 0 8 (some P)
      else
        let va := s.jnrBase P + i * 256
        match s.vload P va 256 0 with
        | none => s.cmdDone k 3 0 8 (some P)
        | some (s1, l) =>
          let r := s1.jctxCheck P l
          if r = 0 then (s1.setJctx P i (JCtx.ofBytes va (dataOf l))).cmdDone k 0 0 8 (some P)
          else s1.cmdDone k 2 r 8 (some P))

/-- JOINER_CTX_RETIRE (R295, R296, R322). -/
def execJoinerCtxRetire (p : BitVec 3) (src : Src) (id : BitVec 10) (s : State) : Host.Outcome State Fault Refusal :=
  .next (
    let P := p.toNat
    let i := id.toNat
    let k : RKey := ⟨.jnrStatus, P, 0⟩
    s.accessW src ⟨.jnrCmd, P, 0⟩ fun s0 =>
      let s := s0.jnrCmd P i 2
      match aget s.jctxs (P, i) with
      | none => s.cmdDone k 2 1 8 (some P)
      | some j =>
        if j.active.isSome || j.gated || s.trusses.any fun e => e.1.1 == P && e.2.joiner && e.2.jctx == i
        then s.cmdDone k 1 0 8 (some P)
        else { s with jctxs := adel s.jctxs (P, i) }.cmdDone k 0 0 8 (some P))

/-- `part` of a program command: through a VF window it is the VF's partition (R393). -/
def State.progPart (s : State) (src : Src) (p : Nat) : Nat :=
  match src with
  | .vf v => ((s.vf v).bound).getD p
  | _ => p

def State.progCmd (s : State) (slot p op : Nat) : State :=
  s.setReg ⟨.jnrProgCmd, 0, 0⟩ (BitVec.ofNat 32 (slot + p * 2 ^ 6 + op * 2 ^ 9))

/-- The program of an image whose head and code are read; `none` when it is malformed (R299, R303). -/
def progOf (p : Nat) (h code : List Byte) : Option JProg :=
  let g : JProg := { part := p, form := dfield h 3 1, na := dfield h 4 1, nb := dfield h 5 1, nc := dfield h 6 1
                     code := State.jnrSlot.wordsAt (code.length / 4) code }
  if dfield h 0 2 = 0x7E4A ∧ dfield h 2 1 = 1 ∧ g.form < 2 ∧ dfield h 7 1 = 0 ∧ dfield h 0xC 4 = 0 ∧
      crc32 code = dfield h 8 4 ∧ g.legal then some g else none

/-- JOINER_PROG_LOAD (R303, R323, R393). -/
def execJoinerProgLoad (src : Src) (p : BitVec 3) (slot : BitVec 6) (s : State) : Host.Outcome State Fault Refusal :=
  .next (
    let k : RKey := ⟨.jnrProgStatus, 0, 0⟩
    s.accessW src ⟨.jnrProgCmd, 0, 0⟩ fun s0 =>
      let P := s0.progPart src p.toNat
      let i := slot.toNat
      let s := s0.progCmd i P 1
      let va := (s.reg ⟨.jnrProgAddrLo, 0, 0⟩).toNat + 2 ^ 32 * s.rfld ⟨.jnrProgAddrHi, 0, 0⟩ 15 0
      let other := match aget s.jprogs i with | some g => g.part != P | none => false
      if other then s.cmdDone k 2 0 0 (some P)
      else if s.jctxs.any fun e => match e.2.active with | some a => a.prog == i | none => false then s.cmdDone k 1 0 0 (some P)
      else
        match s.vload P va 16 0 with
        | none => s.cmdDone k 3 0 0 (some P)
        | some (s1, h) =>
          let hd := dataOf h
          match s1.vload P (va + 16) (4 * (dfield hd 4 1 + dfield hd 5 1 + dfield hd 6 1)) 0 with
          | none => s1.cmdDone k 3 0 0 (some P)
          | some (s2, c) =>
            match progOf P hd (dataOf c) with
            | some g =>
              if anyPoison h || anyPoison c || va % 16 != 0 then s2.cmdDone k 2 0 0 (some P)
              else { s2 with jprogs := aset s2.jprogs i g }.cmdDone k 0 0 0 (some P)
            | none => s2.cmdDone k 2 0 0 (some P))

/-- Does a valid context of a partition name a program slot in either step slot (R323)? -/
def State.slotNamed (s : State) (p slot : Nat) : Bool :=
  s.jctxs.any fun e => e.1.1 == p && [0xB0, 0xF0].any fun o =>
    match s.vload p (e.2.va + o) 1 0 with
    | some (_, l) => leNat (dataOf l) == slot
    | none => false

/-- JOINER_PROG_FREE (R323, R393). -/
def execJoinerProgFree (src : Src) (p : BitVec 3) (slot : BitVec 6) (s : State) : Host.Outcome State Fault Refusal :=
  .next (
    let k : RKey := ⟨.jnrProgStatus, 0, 0⟩
    s.accessW src ⟨.jnrProgCmd, 0, 0⟩ fun s0 =>
      let P := s0.progPart src p.toNat
      let i := slot.toNat
      let s := s0.progCmd i P 2
      match aget s.jprogs i with
      | none => s.cmdDone k 2 0 0 (some P)
      | some g =>
        if g.part ≠ P then s.cmdDone k 2 0 0 (some P)
        else if s.slotNamed P i then s.cmdDone k 1 0 0 (some P)
        else { s with jprogs := adel s.jprogs i }.cmdDone k 0 0 0 (some P))

end Sys2Proof.Machine
end

