-- ==== Sys2Proof/Machine/Fabric.lean ====
section
/-! DEFINITION. Lumder ports and the fabric: keys, frames, flows, acknowledgement, training, sleep and wake (11, 14, 17:
R199, R328-R365, R415-R418, R511). -/
namespace Sys2Proof.Machine

/-! ### Ports -/

def State.port (s : State) (n : Nat) : Port := s.ports.getD n {}
def State.setPort (s : State) (n : Nat) (q : Port) : State := { s with ports := s.ports.setIfInBounds n q }

/-- An event of a port carries the unaligned mark while the port has it (R360). -/
def State.portEvent (s : State) (n code part : Nat) (a0 a1 : Nat) : State :=
  s.emit (die4 (n / 2)) { t := s.timeOf (domOfSpine (n / 2)), code := code, part := part, src := srcOf 5 n
                          arg0 := BitVec.ofNat 64 a0, arg1 := BitVec.ofNat 64 a1, unaligned := (s.port n).unaligned }

/-! ### Keys (R338, R339, R508, R511) -/

/-- The key of a slot: owner 0-7 is the slice of a partition, 8 the tray; slot 0 or 1. -/
def State.slotKey (s : State) (owner slot : Nat) : Option (List Byte) := aget s.keys (owner, slot)

/-- The slot in use. -/
def State.keyIdx (s : State) (owner : Nat) : Nat :=
  if owner = 8 then s.trayIdx else s.rfld ⟨.lmdKey, owner, 0⟩ 1 0

/-- The next key of a slice or of the tray (R511): HKDF-SHA-384 of the key in use. (DESIGN CHOICE, log 29). -/
def State.nextKey (s : State) (owner : Nat) (k : List Byte) : List Byte :=
  hkdf k (Config.rekeyInfo (if owner = 8 then 0 else (s.part owner).slice.toNat)
    ((if owner = 8 then s.trayGen else s.rfld ⟨.lmdKey, owner, 0⟩ 15 8) + 1))

/-- A key comes into use in a slot, the next key in the other (R338, R511). -/
def State.installKey (s : State) (owner : Nat) (k : List Byte) : State :=
  let i := s.keyIdx owner
  let s1 := { s with keys := aset (aset s.keys (owner, i) k) (owner, 1 - i) (s.nextKey owner k) }
  if owner = 8 then { s1 with trayGen := s.trayGen + 1 }
  else { s1.setFld ⟨.lmdKey, owner, 0⟩ 15 8 ((s.rfld ⟨.lmdKey, owner, 0⟩ 15 8 + 1) % 256) with keySwitch := adel s1.keySwitch owner }

/-- Move to the next key (R511): the slots change places; the freed one is written 2^32 pt later. -/
def State.switchKey (s : State) (owner : Nat) : State :=
  let s1 := { s with keySwitch := aset s.keySwitch owner s.plumb }
  if owner = 8 then { s1 with trayIdx := 1 - s.trayIdx, trayGen := s.trayGen + 1 }
  else (s1.setFld ⟨.lmdKey, owner, 0⟩ 1 0 (1 - s.keyIdx owner)).setFld ⟨.lmdKey, owner, 0⟩ 15 8
    ((s.rfld ⟨.lmdKey, owner, 0⟩ 15 8 + 1) % 256)

/-- NEXT_KEY_INSTALL (R511): 2^32 pt after a switch the key after the next is written into the freed slot. -/
def execNextKeyInstall (owner : Nat) (s : State) : Host.Outcome State Fault Refusal :=
  .next (
    match aget s.keySwitch owner with
    | none => s
    | some t =>
      if s.since t < 2 ^ 32 then s
      else match s.slotKey owner (s.keyIdx owner) with
        | none => s
        | some k =>
          { s with keys := aset s.keys (owner, 1 - s.keyIdx owner) (s.nextKey owner k), keySwitch := adel s.keySwitch owner })

/-- "frame key" and "tray frame key". -/
def strFrameKey : List Byte := [0x66#8, 0x72#8, 0x61#8, 0x6D#8, 0x65#8, 0x20#8, 0x6B#8, 0x65#8, 0x79#8]
def strTrayKey : List Byte := [0x74#8, 0x72#8, 0x61#8, 0x79#8, 0x20#8] ++ strFrameKey

/-- The frame key (R339). -/
def frameKey (slot : List Byte) (tray : Bool) (src spart epoch start : Nat) : List Byte :=
  if tray then hkdf slot (strTrayKey ++ leBytes 4 src ++ leBytes 4 start)
  else hkdf slot (strFrameKey ++ leBytes 4 (src + spart * 2 ^ 17) ++ leBytes 1 epoch)

/-- The IV (R337); `cls` 0 data, 1 tray window, 2 ack. -/
def frameIv (src spart dst dpart rty cls seq : Nat) : List Byte :=
  leBytes 12 (src + spart * 2 ^ 17 + dst * 2 ^ 20 + dpart * 2 ^ 37 + rty * 2 ^ 40 + cls * 2 ^ 42 + seq % 2 ^ 52 * 2 ^ 44)

/-! ### Heads (R336) -/

/-- The fields of a frame head. -/
structure Head where
  dst : Nat
  dpart : Nat
  src : Nat
  spart : Nat
  slice : Nat
  oseq : Nat
  plen : Nat
  ftype : Nat
  kidx : Nat
  rty : Nat
  epoch : Nat
  deriving DecidableEq, Repr

def Head.bytes (h : Head) : List Byte :=
  leBytes 8 (h.dst + h.dpart * 2 ^ 17 + h.src * 2 ^ 20 + h.spart * 2 ^ 37 + h.slice * 2 ^ 40) ++
  leBytes 8 (h.oseq + (h.plen - 1) * 2 ^ 32 + h.ftype * 2 ^ 42 + h.kidx * 2 ^ 45 + h.rty * 2 ^ 47 + h.epoch * 2 ^ 49)

def Head.ofBytes (l : List Byte) : Head :=
  let a := leNat (l.take 8)
  let b := leNat ((l.drop 8).take 8)
  { dst := bitsOf a 16 0, dpart := bitsOf a 19 17, src := bitsOf a 36 20, spart := bitsOf a 39 37, slice := bitsOf a 63 40
    oseq := bitsOf b 31 0, plen := bitsOf b 41 32 + 1, ftype := bitsOf b 44 42, kidx := bitsOf b 46 45, rty := bitsOf b 48 47
    epoch := bitsOf b 56 49 }

/-- The start count (R339). -/
def State.startCount (s : State) : Nat := s.starts % 2 ^ 24

/-- The epoch a flow sends under: the partition's epoch, or the boot count (R336, R414). -/
def State.flowEpoch (s : State) (k : FlowKey) : BitVec 8 :=
  if k.tray then BitVec.ofNat 8 (s.rfld ⟨.mgtBootCnt, 0, 0⟩ 7 0) else (s.part k.part).epoch

/-- A frame of a flow, sealed; `none` without a key. `ack`: an ack frame of the flow's class. -/
def State.seal (s : State) (k : FlowKey) (ack : Bool) (seq rty : Nat) (epoch : BitVec 8) (payload : List Byte) : Option Frame :=
  let owner := if k.tray then 8 else k.part
  (s.slotKey owner (s.keyIdx owner)).map fun key =>
    let h : Head :=
      { dst := k.addr, dpart := k.ppart, src := s.fabricAddr, spart := k.part
        slice := if k.tray then s.startCount else (s.part k.part).slice.toNat
        oseq := seq % 2 ^ 32, plen := payload.length, ftype := if ack then 4 else if k.tray then 2 else 1
        kidx := s.keyIdx owner + (if k.tray then 2 else 0), rty := rty, epoch := epoch.toNat }
    let fk := frameKey key k.tray s.fabricAddr k.part epoch.toNat s.startCount
    let iv := frameIv s.fabricAddr k.part k.addr k.ppart rty (if ack then 2 else if k.tray then 1 else 0) seq
    let c := gcmSeal fk iv h.bytes (payload ++ List.replicate (1024 - payload.length) 0#8)
    { head := h.bytes, body := c.1, tag := c.2 }

/-! ### The line (R333, R334) -/

/-- A frame joins the queue of a port. -/
def State.queueFrame (s : State) (n : Nat) (f : Frame) : State := s.setPort n { s.port n with txq := (s.port n).txq ++ [f] }

/-- A frame of type 0 or 3: its `slice` is zero, the payload bytes beyond `plen` are zero (R336), its tag holds a CRC-32 over
head and payload, then 12 zero bytes (R337). (DESIGN CHOICE, log 26). -/
def plainFrame (ftype kind a b : Nat) : Frame :=
  let h := { Head.ofBytes (leBytes 16 (Config.linkHead kind a b).toNat) with slice := 0, ftype := ftype }
  let body := (leBytes 1024 (Config.linkPayload kind a b).toNat).take h.plen ++ List.replicate (1024 - h.plen) 0#8
  { head := h.bytes, body := body, tag := leBytes 4 (crc32 (h.bytes ++ body)) ++ List.replicate 12 0#8 }

/-- The frame of a slot with nothing to send (R334). (DESIGN CHOICE, log 26). -/
def idleFrame : Frame := plainFrame 0 6 0 0

/-- A link-control message as a kind and two numbers, for its payload. (DESIGN CHOICE, log 26). -/
def LinkCtl.code : LinkCtl → Nat × Nat × Nat
  | .credit => (0, 0, 0)
  | .sleepReq b => (1, b, 0)
  | .sleepAck => (2, 0, 0)
  | .sleepAbort => (3, 0, 0)
  | .swap lane b => (4, lane, b)
  | .time t r u => (5, t.toNat + b2n u * 2 ^ 64, r)

/-- A port sends a link-control frame (R331, R358, R360). -/
def State.sendCtl (s : State) (n : Nat) (m : LinkCtl) : State :=
  let c := m.code
  s.queueFrame n (plainFrame 3 c.1 c.2.1 c.2.2)

/-- A frame of a flow leaves on a port: the port is not idle, and a sleep handshake is aborted (R358, R361). -/
def State.emitFrame (s : State) (n : Nat) (f : Frame) : State :=
  let q := s.port n
  let s1 := s.setPort n { q with idleSince := s.plumb, sleepAt := none, sleepAcked := false }
  (if q.sleepAt.isSome then s1.sendCtl n .sleepAbort else s1).queueFrame n f

/-- The spine cycles of a frame slot (R334): 1.25 ns, 2.5 ns in narrow mode. -/
def Port.slotCycles (q : Port) : Nat := if q.narrow then 4 else 2

/-- What the lanes of a port carry for five frames (R333, R334): each physical lane in use with its symbols. -/
def Port.lineOf (q : Port) (fs : List Frame) : List (Nat × List (BitVec 10)) :=
  let cws := superblock (fs.flatMap fun f => f.head ++ f.body ++ f.tag)
  let w := if q.narrow then 8 else 16
  (List.range w).map fun k => (q.lanes.getD k k, laneSymbols w k cws)

/-- A spine cycle of the line of a port: every frame slot carries a queued frame or an idle frame, five make a superblock. -/
def State.lineTick (s : State) (n : Nat) : State :=
  let q := s.port n
  if q.st != .up then s
  else if q.slotT + 1 < q.slotCycles then s.setPort n { q with slotT := q.slotT + 1 }
  else
    let q1 := { q with slotT := 0, txq := q.txq.drop 1, block := q.block ++ [q.txq.headD idleFrame] }
    if q1.block.length < 5 then s.setPort n q1
    else { s.setPort n { q1 with block := [], sent := q.sent + 1 } with msgs := s.msgs ++ [.line n (q.lineOf q1.block)] }

/-! ### Spraying (R341, R343, R346, R347) -/

def State.replayRoom (s : State) (n : Nat) : Bool := decide ((s.replay.filter fun r => r.port == n).length < 15887)

/-- Is a port avoided for a destination (R346)? -/
def State.avoided (s : State) (addr n : Nat) : Bool :=
  match aget s.avoid (addr, n) with
  | some (c, t) => decide (2 ≤ c ∧ s.since t < 2 ^ 30)
  | none => false

/-- May a port carry frames of a flow? A tray-window flow uses any port (R353). -/
def State.portMask (s : State) (k : FlowKey) (n : Nat) : Bool := k.tray || (s.part k.part).ports.contains n

def State.eligible (s : State) (k : FlowKey) (n : Nat) : Bool :=
  (s.port n).st == .up && s.portMask k n && s.replayRoom n && !(s.avoided k.addr n)

/-- The next eligible port after `last` and the narrow ports skipped so far: a narrow port is passed over every second
turn (R343). -/
def State.nextPort (s : State) (k : FlowKey) (tried : List Nat) : Nat → Nat → List Nat → Option (Nat × List Nat)
  | 0, _, _ => none
  | f + 1, n, skip =>
    let m := (n + 1) % 8
    if s.eligible k m && !tried.contains m then
      if (s.port m).narrow && !skip.contains m then s.nextPort k tried f m (m :: skip)
      else some (m, skip.filter (· != m))
    else s.nextPort k tried f m skip

/-- Each spine cycle in which a replay store is full counts (R347, R364). -/
def State.replayTick (s : State) (n : Nat) : State := if s.replayRoom n then s else s.count .lmdReplayFullCnt n 1

/-- The lowest sleeping port of a flow's partition (R343). -/
def State.sleeper (s : State) (k : FlowKey) : Option Nat :=
  (List.range 8).find? fun n => (s.port n).st == .sleeping && s.portMask k n

/-- Has every eligible port of a flow more than 64 frames queued (R343)? -/
def State.crowded (s : State) (k : FlowKey) : Bool :=
  (List.range 8).all fun n => !(s.eligible k n) || decide (64 < (s.port n).txq.length)

def State.sflow (s : State) (k : FlowKey) : SFlow := (aget s.sflows k).getD {}
def State.setSflow (s : State) (k : FlowKey) (f : SFlow) : State := { s with sflows := aset s.sflows k f }

/-- A flow at extended sequence 2^51 moves to the next key (R338, R511). -/
def State.seqSwitch (s : State) (k : FlowKey) (seq : Nat) : State :=
  if seq = 2 ^ 51 then s.switchKey (if k.tray then 8 else k.part) else s

/-- Send a new frame on the next eligible port: stored for replay and emitted; `none` when no port is eligible. -/
def State.sendFrame (s : State) (k : FlowKey) (epoch : BitVec 8) (payload : List Byte) : Option State :=
  let f := s.sflow k
  (s.nextPort k [] 16 f.last f.skip).bind fun (n, skip) =>
    let s1 := s.seqSwitch k f.seq
    (s1.seal k false f.seq 0 epoch payload).map fun fr =>
      let s2 := s1.setSflow k { f with seq := f.seq + 1, last := n, skip := skip }
      let r : Replay := { key := k, seq := f.seq, rty := 0, payload := payload, port := n, tried := [n], epoch := epoch, sent := s.plumb
                          peg := !k.tray && f.marks.any fun m => decide (m.1 < payload.length) }
      { s2 with replay := s2.replay ++ [r] }.emitFrame n fr

def Replay.same (a b : Replay) : Bool := a.key == b.key && a.seq == b.seq && a.epoch == b.epoch

/-- Resend a frame with its next attempt (R346, R348, R417); `nak`: on a port that did not carry it yet. -/
def State.resendFrame (s : State) (nak : Bool) (r : Replay) : State :=
  if 3 ≤ r.rty then s
  else
    match s.nextPort r.key (if nak then r.tried else []) 16 r.port [] with
    | none => s
    | some (n, _) =>
      match s.seal r.key false r.seq (r.rty + 1) r.epoch r.payload with
      | none => s
      | some fr =>
        let r' : Replay := { r with rty := r.rty + 1, port := n, tried := n :: r.tried, sent := s.plumb }
        let s1 := s.count .lmdResendCnt r.port 1
        { s1 with replay := s1.replay.map fun (x : Replay) => if x.same r then r' else x }.emitFrame n fr

/-- A port that leaves Up resends its replay store on other ports (R348). -/
def State.resendPort (s : State) (n : Nat) : State :=
  (s.replay.filter fun r => r.port == n).foldl (fun s r => s.resendFrame false r) s

/-- A port leaves the state it is in: the event, cause 10 when it enters or leaves Up, and what the line held is gone
(R356, R394, R558). -/
def State.portStep (s : State) (n : Nat) (q : Port) (st : PortSt) : State :=
  let old := (s.port n).st
  if old = st then s.setPort n { q with st := st }
  else
    let s1 := s.setPort n { q with st := st, txq := [], block := [], slotT := 0, rxSlot := 0, rxBad := false }
    let s2 := s1.portEvent n 0x0204 ((s.partOfPort n).getD 255) st.code (s.reg ⟨.lmdTimeDiff, n, 0⟩).toNat
    if (old == .up) == (st == .up) then s2
    else match s.partOfPort n with
      | some p => s2.cause p 10
      | none => s2

/-- Ports change state together by `f`; those that leave Up for any reason other than sleep have their frames resent on the
ports that are left (R348). -/
def State.portsStep (s : State) (ports : List Nat) (f : State → Nat → State) : State :=
  let s1 := ports.foldl f s
  (ports.filter fun n => (s.port n).st == .up && (s1.port n).st != .up && (s1.port n).st != .sleeping).foldl State.resendPort s1

/-- A port changes state. -/
def State.portTo (s : State) (n : Nat) (q : Port) (st : PortSt) : State := s.portsStep [n] fun s n => s.portStep n q st

/-- Wake the lowest sleeping port of the flow's partition (R343, R356). -/
def State.wakeFor (s : State) (k : FlowKey) : State :=
  match s.sleeper k with
  | some n => s.portTo n { s.port n with wakeT := s.plumb, sleepAt := none } .waking
  | none => s

/-! ### Training (R332, R356, R357, R360, R418) -/

/-- What a lane swap of a port had at the arbiter ends. -/
def State.swapsEnd (s : State) (n : Nat) : State :=
  if (s.port n).swapAsked.isEmpty then s else (s.maintCancel ⟨9, n⟩).maintEnd ⟨9, n⟩

def State.trainStep (s0 : State) (n : Nat) : State :=
  let s := s0.swapsEnd n
  let q := s.port n
  let s1 := if q.trained then s.count .lmdRetrainCnt n 1 else s
  s1.portStep n { q with narrow := false, tries := 0, held := false, sleepAt := none, sleepAcked := false, swap := none
                         swapWait := none, swapAsked := [], reask := [], laneErr := [], sent := 0, trained := true
                         lanes := [], spares := [], tone := none } .training

/-- Full training starts (R356). -/
def State.startTrain (s : State) (n : Nat) : State := s.portsStep [n] State.trainStep

/-- A port goes Off (R386): nothing of its training is left. -/
def State.offStep (s0 : State) (n : Nat) : State :=
  let s := s0.swapsEnd n
  let q := s.port n
  (s.setFld ⟨.lmdCtl, n, 0⟩ 2 2 0).portStep n { trained := q.trained, fence := q.fence, unaligned := q.unaligned } .off

/-- Training for a new owner is held back until 2^32 pt after the fence of the last package reset and of the last
dissolve of a partition that held the port (R418). -/
def State.trainHeld (s : State) (n : Nat) : Bool :=
  (match s.pkgFence with | some t => decide (s.since t < 2 ^ 32) | none => false) ||
  (match (s.port n).fence with | some t => decide (s.since t < 2 ^ 32) | none => false)

/-- A port that is Off is given to a partition, or boot step 5 trains it (R32, R356): with no fabric address it stays Off
(R340). -/
def State.assignTrain (s : State) (n : Nat) : State :=
  if !(s.rbit ⟨.pkgFabricAddr, 0, 0⟩ 31) || (s.port n).st != .off then s
  else if s.trainHeld n then s.setPort n { s.port n with held := true } else s.startTrain n

/-- PORT_TRAINING_DELAY_EXPIRE (R418). -/
def execPortTrainingDelayExpire (port : BitVec 3) (s : State) : Host.Outcome State Fault Refusal :=
  let n := port.toNat
  .next (if (s.port n).held && !(s.trainHeld n) then s.startTrain n else s)

/-- The active lanes from the error counts of 18 lanes, `none` for a lane that is not good (R330): the `k` lowest counts
in ascending physical order. -/
def laneSelect (errs : List (Option Nat)) (k : Nat) : List Nat × List Nat :=
  let good := (List.range 18).filter fun i => ((errs[i]?).bind id).isSome
  let cnt (i : Nat) : Nat := ((errs[i]?).bind id).getD 0
  let rank (i : Nat) : Nat := (good.filter fun j => decide (cnt j < cnt i ∨ (cnt j = cnt i ∧ j < i))).length
  (good.filter fun i => decide (rank i < k), good.filter fun i => !(decide (rank i < k)))

/-- LMD_TIME_DIFF: the partner's plumb time minus the port's own, corrected by half the round trip, saturating (R359). -/
def timeDiff (own partner : Time) (rtt : Nat) : Int :=
  clampInt (-2 ^ 31) (2 ^ 31 - 1) ((partner.toNat : Int) + (rtt / 2 : Nat) - own.toNat)

/-- The port's own time in a time exchange; the exchange carries the unaligned mark (R360). -/
def State.sendTime (s : State) (n rtt : Nat) : State :=
  s.sendCtl n (.time (s.timeOf (domOfSpine (n / 2))) rtt (s.port n).unaligned)

/-- A training ends Up on `k` lanes: lane map, partner exchange of address and time, credits (R330, R357, R575). -/
def State.trainUp (s : State) (n : Nat) (errs : List (Option Nat)) (p : Partner) (k : Nat) : State :=
  let q := s.port n
  let (a, b) := laneSelect errs k
  let q1 := { q with lanes := a, spares := if k = 16 then b else [], narrow := k == 8, tries := 0, dead := false
                     addr := some p.addr, lastCtl := s.plumb, idleSince := s.plumb }
  let d := timeDiff (s.timeOf (domOfSpine (n / 2))) p.time p.rtt
  let s1 := ((s.startRecord 2 n (laneMasks 18 a b)).setFld ⟨.lmdCtl, n, 0⟩ 2 2 0).setReg ⟨.lmdTimeDiff, n, 0⟩ (BitVec.ofInt 32 d)
  ((s1.portTo n q1 .up).sendTime n p.rtt).sendCtl n .credit

/-- PORT_TRAIN_DONE (R330, R332, R356, R357, R575): an attempt ends with the error counts of the lanes and what the partner
answered, if one did; a partner on another plane is none. (DESIGN CHOICE, log 5; DEDUCED, log 28). -/
def execPortTrainDone (port : BitVec 3) (errs : List (Option Nat)) (partner : Option Machine.Partner) (s : State) :
    Host.Outcome State Fault Refusal :=
  let n := port.toNat
  let q := s.port n
  let errs := (List.range 18).map fun i => if s.assemblyBad 2 n i then none else (errs[i]?).bind id
  let good := ((List.range 18).filter fun i => ((errs[i]?).bind id).isSome).length
  let fail : State :=
    if q.tries < 2 then s.setPort n { q with tries := q.tries + 1 }
    else ((s.setFld ⟨.lmdCtl, n, 0⟩ 2 2 0).portTo n { q with tries := 0, dead := good == 0 } .down).pldmEvent 0x0009 n
  .next (if q.st ≠ .training then s
    else match partner.filter fun p => p.plane == n with
      | none => fail
      | some p =>
        if 16 ≤ good then s.trainUp n errs p 16
        else if 8 ≤ good ∧ s.rbit ⟨.lmdCtl, n, 0⟩ 1 then s.trainUp n errs p 8
        else fail)

/-- PORT_RETRAIN (R356, R361, R363). -/
def execPortRetrain (port : BitVec 3) (src : Src) (s : State) : Host.Outcome State Fault Refusal :=
  let n := port.toNat
  let k : RKey := ⟨.lmdCtl, n, 0⟩
  .next (s.accessW src k fun s =>
    if (s.port n).st = .off then s else (s.startTrain n).setFld k 2 2 1)

/-- PARTNER_SILENT (R356). -/
def execPartnerSilent (port : BitVec 3) (s : State) : Host.Outcome State Fault Refusal :=
  let n := port.toNat
  .next (if (s.port n).st = .up ∧ 2 ^ 20 ≤ s.since (s.port n).lastCtl then s.startTrain n else s)

/-! ### Lanes (R331, R332, R515, R517) -/

/-- The corrected symbols of a logical lane in the last 2^30 pt (R331). -/
def State.laneCount (s : State) (n lane : Nat) : Nat :=
  ((s.port n).laneErr.filter fun e => e.2 == lane && decide (s.since e.1 ≤ 2 ^ 30)).length

/-- Ask the arbiter for the swap of a lane (R331): refused, it is not asked. -/
def State.askSwap (s : State) (n lane : Nat) : State :=
  let (s1, r) := s.maintAsk ⟨9, n⟩
  if r = 1 then s1 else s1.setPort n { s1.port n with swapAsked := (s1.port n).swapAsked ++ [lane] }

/-- LUMDER_LANE_SWAP_REQUEST (R331): a logical lane whose corrected symbols of the last 2^30 pt pass `swap_th`, with a
spare left, asks the arbiter. -/
def execLumderLaneSwapRequest (port : BitVec 3) (lane : Nat) (s : State) : Host.Outcome State Fault Refusal :=
  let n := port.toNat
  let q := s.port n
  .next (if q.st ≠ .up ∨ q.lanes.length ≤ lane ∨ q.spares.isEmpty ∨ s.laneCount n lane ≤ (s.reg ⟨.lmdSwapTh, n, 0⟩).toNat ∨
      q.swapAsked.contains lane then s
    else s.askSwap n lane)

/-- Move a logical lane to the first spare; what was asked or named for it ends, and its count begins anew. (DESIGN
CHOICE, log 19). -/
def Port.swapLane (q : Port) (lane : Nat) : Port :=
  match q.spares with
  | sp :: r => { q with lanes := q.lanes.set lane sp, spares := r, swap := q.swap.filter (·.1 != lane)
                        swapWait := q.swapWait.filter (·.1 != lane), swapAsked := q.swapAsked.filter (· != lane)
                        laneErr := q.laneErr.filter (·.2 != lane) }
  | [] => q

/-- The lane record of a port's swap or failure (R575). -/
def State.portRecord (s : State) (n src : Nat) : State :=
  s.addRecord 2 src n (laneMasks 18 (s.port n).lanes (s.port n).spares)

/-- A lane moves to a spare: counted and recorded. -/
def State.laneSwapped (s : State) (n lane : Nat) : State :=
  ((s.setPort n ((s.port n).swapLane lane)).count .lmdLaneSwapCnt n 1).portRecord n 2

/-- LUMDER_LANE_SWAP (R331, R361): the port of a granted swap names in a link-control frame the superblock `boundary`, at
least 1,024 ahead; when a named boundary is reached, both ends move the lane to the spare. -/
def execLumderLaneSwap (port : BitVec 3) (lane boundary : Nat) (s : State) : Host.Outcome State Fault Refusal :=
  let n := port.toNat
  let q := s.port n
  let due (w : Option (Nat × Nat)) : Bool := w.any fun e => e.1 == lane && decide (e.2 ≤ q.sent)
  .next (if q.st ≠ .up ∨ q.spares.isEmpty then s
    else if due q.swap then s.laneSwapped n lane
    else if due q.swapWait then (s.laneSwapped n lane).maintEnd ⟨9, n⟩
    else if q.swapWait.isNone ∧ q.swapAsked.contains lane ∧ s.maintRun.contains ⟨9, n⟩ ∧ q.sent + 1024 ≤ boundary then
      (s.setPort n { q with swapWait := some (lane, boundary) }).sendCtl n (.swap lane boundary)
    else s)

/-- LUMDER_LANE_FAIL (R332, R517): a failed lane takes a spare at once, and a swap of it that was asked ends; without a
spare the port retrains. -/
def execLumderLaneFail (port : BitVec 3) (lane : Nat) (s : State) : Host.Outcome State Fault Refusal :=
  let n := port.toNat
  let q := s.port n
  .next (if q.st ≠ .up ∨ q.lanes.length ≤ lane then s
    else if q.spares.isEmpty then s.startTrain n
    else (if q.swapAsked.contains lane then (s.maintCancel ⟨9, n⟩).maintEnd ⟨9, n⟩ else s).laneSwapped n lane)

/-! ### Sleep and wake (R356, R358-R361) -/

/-- Do the sleep conditions hold (R358)? -/
def State.sleepOk (s : State) (n : Nat) : Bool :=
  let q := s.port n
  q.st == .up && s.rbit ⟨.lmdCtl, n, 0⟩ 0 && decide ((s.reg ⟨.lmdIdleTo, n, 0⟩).toNat ≤ s.since q.idleSince) &&
  !(s.replay.any fun r => r.port == n) && !(s.rflows.any fun e => e.2.kept.any fun k => k.2.port == n)

/-- SLEEP_REQUEST (R358): the port sends a sleep request that names a superblock boundary ahead. -/
def execSleepRequest (port : BitVec 3) (boundary : Nat) (s : State) : Host.Outcome State Fault Refusal :=
  let n := port.toNat
  let q := s.port n
  .next (if s.sleepOk n ∧ q.sent < boundary ∧ q.sleepAt.isNone then
      (s.setPort n { q with sleepAt := some boundary }).sendCtl n (.sleepReq boundary)
    else s)

/-- Sleep begins: a lane swap named beyond the boundary is cancelled and asked again after the wake (R361). -/
def State.goSleep (s : State) (n : Nat) : State :=
  let q := s.port n
  let again := (q.swapWait.map (·.1)).toList
  let q1 := { q with sleepAt := none, sleepAcked := false, swap := none, swapWait := none, stopT := s.plumb
                     swapAsked := q.swapAsked.filter (!again.contains ·), reask := again }
  let s1 := (s.portTo n q1 .sleeping).count .lmdSleepCnt n 1
  if again.isEmpty then s1 else s1.maintEnd ⟨9, n⟩

/-- SLEEP_ENTER (R358, R361): at the boundary that both ends agreed, both stop; the stop's plumb time is recorded. -/
def execSleepEnter (port : BitVec 3) (s : State) : Host.Outcome State Fault Refusal :=
  let n := port.toNat
  let q := s.port n
  .next (match q.sleepAt with
    | none => s
    | some b => if s.sleepOk n && q.sleepAcked && decide (b ≤ q.sent) then s.goSleep n else s)

/-- A sleep handshake is aborted (R361). -/
def State.sleepAbort (s : State) (n : Nat) : State :=
  if (s.port n).sleepAt.isSome then (s.setPort n { s.port n with sleepAt := none, sleepAcked := false }).sendCtl n .sleepAbort else s

/-- WAKE_TRIGGER (R356, R361): a frame needs the port, or (`tone`) the partner sends a wake tone; a tone during the sleep
handshake aborts it. -/
def execWakeTrigger (port : BitVec 3) (tone : Bool) (s : State) : Host.Outcome State Fault Refusal :=
  let n := port.toNat
  let q := s.port n
  .next (if q.st = .sleeping then s.portTo n { q with wakeT := s.plumb, tone := if tone then some s.plumb else none } .waking
    else if q.st = .up ∧ tone then s.sleepAbort n else s)

/-- A port goes to Training with `unaligned` set, with an event (R360). -/
def State.unalign (s : State) (n : Nat) : State :=
  let s1 := s.setPort n { s.port n with unaligned := true }
  (s1.startTrain n).portEvent n 0x0204 ((s.partOfPort n).getD 255) 1 (s1.reg ⟨.lmdTimeDiff, n, 0⟩).toNat

/-- The superblock count that own plumb time implies since the stop (R359): 6.25 ns each, 12.5 ns in narrow mode. -/
def State.realigned (s : State) (n : Nat) : Nat :=
  let q := s.port n
  q.sent + s.since q.stopT * (if q.narrow then 80000000 else 160000000) / 2 ^ 30

/-- A fast wake ends Up: its time is kept, and a swap that the sleep cancelled is asked again (R359, R361). -/
def State.wakeUp (s : State) (n rtt : Nat) : State :=
  let q := s.port n
  let s1 := (s.setReg ⟨.lmdWakeTime, n, 0⟩ (BitVec.ofNat 32 (s.since q.wakeT))).portTo n
    { q with tone := none, lastCtl := s.plumb, idleSince := s.plumb, sent := s.realigned n, reask := [] } .up
  q.reask.foldl (fun s l => s.askSwap n l) (s1.sendTime n rtt)

/-- FAST_WAKE_DONE (R356, R359, R360, R579): `lock` says whether FEC lock came within 2,147 pt of realignment; the time exchange
gives the partner's time and the round trip. -/
def execFastWakeDone (port : BitVec 3) (lock : Bool) (partner : Time) (rtt : Nat) (s : State) : Host.Outcome State Fault Refusal :=
  let n := port.toNat
  let q := s.port n
  let woff := match s.partOfPort n with | some p => (s.reg ⟨.tstPertWake, p, 0⟩).toInt | none => 0
  let d := max (-2147483648) (min 2147483647 (timeDiff (s.timeOf (domOfSpine (n / 2))) partner rtt + woff))
  .next (if q.st ≠ .waking then s
    else
      let s1 := if lock then s.setReg ⟨.lmdTimeDiff, n, 0⟩ (BitVec.ofInt 32 d) else s
      if lock ∧ d.natAbs ≤ 65536 then s1.wakeUp n rtt
      else s1.unalign n)

/-- WAKE_TONE_TIMEOUT (R361): a partner silent for 2^16 pt after a wake tone forces a full retrain. -/
def execWakeToneTimeout (port : BitVec 3) (s : State) : Host.Outcome State Fault Refusal :=
  let n := port.toNat
  let q := s.port n
  .next (if q.st = .waking ∧ 65536 ≤ s.since q.wakeT then s.startTrain n else s)

/-! ### Messages (R266, R350, R351) -/

/-- A record of a collective as a message body (R266, R350). Behind the head of a kind-6 message 8 bytes name its first
element within the block and its poison, before the elements: the spec gives no layout for them. (DESIGN CHOICE, log 24). -/
def ColRec.body (r : ColRec) : List Byte :=
  let mark := b2n r.ovf + b2n r.nf * 2 + b2n r.poison * 4 + b2n r.fb * 8 + b2n r.rt * 16 + b2n r.err * 32
  let head := leBytes 2 r.entry ++ leBytes 1 r.step.toNat ++ leBytes 1 r.kind ++ leBytes 4 r.cnt ++ leBytes 8 r.b
  head ++
  (if r.kind ≤ 1 then
    leBytes 1 r.e ++ leBytes 1 mark ++ leBytes 1 r.st ++ List.replicate 5 0#8 ++ leBytes 8 r.dig ++
      (List.range 64).flatMap fun i => leBytes 4 (r.q.getD i 0#32).toNat
   else if r.kind = 2 ∨ r.kind = 4 then leBytes 1 r.st
   else if r.kind = 3 then leBytes 1 r.e
   else if r.kind = 5 then leBytes 1 0
   else leBytes 8 (r.x0 % 64 + b2n (anyPoison r.bytes) * 64) ++ dataOf r.bytes)

/-- Block `i` of a message. (DESIGN CHOICE, log 24). -/
def blockRec (p kind : Nat) (d : List Byte) (entry step cnt b0 i : Nat) : ColRec :=
  let o := 16 + i * 272
  let m := dfield d (o + 1) 1
  let base : ColRec := { part := p, entry := entry, kind := kind, step := BitVec.ofNat 8 step, cnt := cnt, b := b0 + i }
  if kind ≤ 1 then
    { base with
      e := dfield d o 1, ovf := m.testBit 0, nf := m.testBit 1, poison := m.testBit 2, fb := m.testBit 3, rt := m.testBit 4
      err := m.testBit 5, st := dfield d (o + 2) 1, dig := dfield d (o + 8) 8 % 2 ^ 61
      q := (List.range 64).map fun k => BitVec.ofNat 32 (dfield d (o + 16 + 4 * k) 4) }
  else
    let v := dfield d (16 + i) 1
    { base with st := if kind = 3 then 0 else v, e := if kind = 3 then v else 0 }

/-- The records of a collective message body for own partition `p`. -/
def colRecsOf (p : Nat) (d : List Byte) : List ColRec :=
  let entry := bitsOf (dfield d 0 2) 11 0
  let kind := dfield d 3 1
  let w := dfield d 8 8
  if kind = 6 then
    let u := dfield d 16 8
    let x0 := bitsOf w 25 0 * 64 + bitsOf u 5 0
    [{ part := p, entry := entry, kind := 6, step := BitVec.ofNat 8 (dfield d 2 1), cnt := bitsOf (dfield d 4 4) 17 0
       b := bitsOf w 25 0, x0 := x0, bytes := (d.drop 24).map fun b => (b, u.testBit 6) }]
  else (List.range (bitsOf w 29 26 + 1)).map fun i =>
    blockRec p kind d entry (dfield d 2 1) (bitsOf (dfield d 4 4) 17 0) (bitsOf w 25 0) i

/-- A message word and its body (R350). -/
def message (cls : Nat) (body : List Byte) : List Byte := leBytes 4 (cls + body.length * 16) ++ body

/-- The body of a tray-window message (R354). -/
def TwMsg.body (m : TwMsg) : List Byte :=
  leBytes 16 (m.op + b2n m.poison * 16 + (m.len / 4 - 1) * 32 + m.reason * 2 ^ 12 + m.tag * 2 ^ 16 + m.addr * 2 ^ 32) ++ m.data

def TwMsg.ofBody (peer : Nat) (d : List Byte) : TwMsg :=
  let v := leNat (d.take 16)
  { peer := peer, op := bitsOf v 3 0, poison := v.testBit 4, len := (bitsOf v 11 5 + 1) * 4, reason := bitsOf v 15 12
    tag := bitsOf v 31 16, addr := bitsOf v 75 32, data := d.drop 16 }

/-- Put a message into the open frame of a flow. -/
def State.putMsg (s : State) (k : FlowKey) (cls : Nat) (body : List Byte) : State :=
  let f := s.sflow k
  let m := message cls body
  s.setSflow k { f with buf := f.buf ++ m, t0 := some (f.t0.getD s.plumb)
                        marks := if cls = 1 then f.marks else f.marks ++ [(f.buf.length, f.buf.length + m.length)]
                        epoch := if f.buf.isEmpty then s.flowEpoch k else f.epoch }

/-- Is the signal one of the flow's? -/
def Signal.flowTo (g : Signal) (k : FlowKey) : Option (PegHome) :=
  match g.home with
  | .remote a q d i => if g.part = k.part ∧ a = k.addr ∧ q = k.ppart then some (.spine d i) else none
  | _ => none

/-- The records and peg messages that wait for a data flow enter its stream, in the order they were sent. -/
def State.pump (s : State) (k : FlowKey) : State :=
  if k.tray then s
  else
    let mine (r : ColRec) : Bool := r.part == k.part && s.recPeer r == some (k.addr, k.ppart)
    let s1 := (s.colrecs.filter mine).foldl (fun s r => s.putMsg k 1 r.body) { s with colrecs := s.colrecs.filter fun r => !(mine r) }
    let s2 := (s1.signals.filter fun g => (g.flowTo k).isSome).foldl (fun s g =>
      match g.flowTo k with
      | some (.spine d i) => s.putMsg k 2 (leBytes 8 (i + d * 2 ^ 14 + g.amount.toNat * 2 ^ 32))
      | _ => s) s1
    { s2 with signals := s2.signals.filter fun g => (g.flowTo k).isNone }

/-- The bytes that a closed frame took leave a flow's stream. -/
def SFlow.taken (f : SFlow) (n : Nat) (now : Time) : SFlow :=
  let rest := f.buf.drop n
  { f with buf := rest, t0 := if rest.isEmpty then none else some now
           marks := (f.marks.filter fun m => decide (n < m.2)).map fun m => (m.1 - n, m.2 - n) }

/-- A frame of the first `n` waiting bytes of a flow leaves; `none` when no port is eligible. -/
def State.closeFrame (s : State) (k : FlowKey) (n : Nat) : Option State :=
  let f := s.sflow k
  (s.sendFrame k f.epoch (f.buf.take n)).map fun s1 => s1.setSflow k ((s1.sflow k).taken n s.plumb)

/-- The frames of a flow close and leave at once, as far as a port takes them: its partition's epoch is about to change
(R351). -/
def State.flushFlow (k : FlowKey) : Nat → State → State
  | 0, s => s
  | i + 1, s =>
    if (s.sflow k).buf.isEmpty then s
    else match s.closeFrame k (min 1024 (s.sflow k).buf.length) with
      | some s1 => State.flushFlow k i s1
      | none => s

/-- Every open data frame of a partition closes and leaves (R351). -/
def State.flushFlows (s : State) (p : Nat) : State :=
  (s.sflows.filter fun e => !e.1.tray && e.1.part == p).foldl (fun s e =>
    let s1 := s.pump e.1
    State.flushFlow e.1 ((s1.sflow e.1).buf.length / 1024 + 1) s1) s

/-- FRAME_CLOSE (R342, R343, R347, R351): waiting messages enter the flow's open frame; a frame that is full, holds a peg
or tray-window message, is `coalesce` pt old or is of an ended epoch closes and leaves on the next eligible port. With
none eligible, or each of them with more than 64 frames queued, the flow waits and wakes a sleeping port. -/
def execFrameClose (key : Machine.FlowKey) (s0 : State) : Host.Outcome State Fault Refusal :=
  .next (
    let s := s0.pump key
    let f := s.sflow key
    let n := min 1024 f.buf.length
    let old := match f.t0 with
      | some t => decide (s.rfld ⟨.lmdTimers, key.part, 0⟩ 15 0 ≤ s.since t)
      | none => false
    if n = 0 || (!key.tray && ((s.part key.part).fenced || (s.part key.part).parked)) || s.phase != 0 then s
    else if !(n == 1024 || !f.marks.isEmpty || old || f.epoch != s.flowEpoch key) then s
    else if s.crowded key && (s.sleeper key).isSome then s.wakeFor key
    else (s.closeFrame key n).getD s)

/-! ### Receiving (R344, R352, R417) -/

/-- An epoch is newer than a recorded one (R415). -/
def newer (e f : Nat) : Bool := decide (1 ≤ (e + 256 - f % 256) % 256 ∧ (e + 256 - f % 256) % 256 ≤ 127)

/-- The full sequence of a 32-bit one near a position (R337). -/
def extSeq (next oseq : Nat) : Nat :=
  let base := next / 2 ^ 32 * 2 ^ 32 + oseq
  if base + 2 ^ 31 < next then base + 2 ^ 32
  else if next + 2 ^ 31 < base ∧ 2 ^ 32 ≤ base then base - 2 ^ 32 else base

/-- The position of a flow for a frame's epoch. -/
def State.flowPos (s : State) (k : FlowKey) (epoch : Nat) : Nat :=
  match aget s.rflows k with
  | some f => if f.epoch = epoch then f.next else 0
  | none => 0

/-- Check 7 (R417): the flow record that takes the frame, or none. -/
def State.flowAdmit (s : State) (k : FlowKey) (epoch seq : Nat) : Option RFlow :=
  match aget s.rflows k with
  | none => if seq = 0 then some { epoch := epoch, last := s.plumb } else none
  | some f =>
    if f.epoch = epoch then some { f with dormant := false }
    else if f.dormant || newer epoch f.epoch then some { epoch := epoch, last := s.plumb, ackSeq := f.ackSeq }
    else none

/-- A flow breaks (R346, R394, R558): of two breaks in one cycle the lower `src` stands (R365). -/
def State.flowBreak (s : State) (k : FlowKey) (n : Nat) : State :=
  match aget s.rflows k with
  | none => s
  | some f =>
    let s1 := { s with rflows := aset s.rflows k { f with kept := [], broken := true, naks := [], stream := [] } }
    let p := k.part
    let s2 := (s1.latchBy true ⟨.lmdBreak, p, 0⟩ k.addr (BitVec.ofNat 32 (k.ppart * 4 + p * 32 + k.addr * 256 + b2n k.tray * 2 ^ 25)) []).count
      .lmdFlowBreakCnt p 1
    (s2.portEvent n 0x010C (if k.tray then 255 else p) k.addr (k.ppart + b2n k.tray * 256)).cause p 8

/-- One message of a flow: `none` when its class breaks the flow. -/
def State.takeMsg (s : State) (k : FlowKey) (n epoch cls : Nat) (body : List Byte) : Option State :=
  match cls with
  | 1 =>
    if k.tray then none
    else
      let t := s.trussAt k.part (bitsOf (dfield body 0 2) 11 0)
      let me := match t with | some t => s.ownRank k.part t | none => 0
      let from_ := match t with | some t => t.rankOf (k.addr, k.ppart) | none => 0
      some ((colRecsOf k.part body).foldl (fun s r =>
        { s with colrecs := s.colrecs ++ [{ r with id := s.nextId, dst := me, epoch := (s.part k.part).epoch
                                                   x0 := if r.kind = 5 then from_ else r.x0 }]
                 nextId := s.nextId + 1 }) s)
  | 2 =>
    if k.tray then none
    else
      let v := leNat (body.take 8)
      some { s with nextId := s.nextId + 1
                    pegMsgs := s.pegMsgs ++ [{ id := s.nextId, src := k.addr, part := k.part
                                               peg := .spine (bitsOf v 15 14) (bitsOf v 13 0), amount := BitVec.ofNat 32 (v / 2 ^ 32), port := n, epoch := BitVec.ofNat 8 epoch }] }
  | 3 => if k.tray then some { s with twIn := s.twIn ++ [TwMsg.ofBody k.addr body] } else none
  | _ => none

/-- Take the complete messages of a stream: the state, the bytes left, whether the flow breaks. -/
def State.takeMsgs (k : FlowKey) (n epoch : Nat) : Nat → State → List Byte → State × List Byte × Bool
  | 0, s, l => (s, l, false)
  | f + 1, s, l =>
    let w := leNat (l.take 4)
    let len := w / 16 % 2 ^ 28
    if l.length < 4 ∨ l.length < 4 + len then (s, l, false)
    else
      match s.takeMsg k n epoch (w % 16) ((l.drop 4).take len) with
      | none => (s, [], true)
      | some s1 => State.takeMsgs k n epoch f s1 (l.drop (4 + len))

/-- Frames in order: the kept frames that follow, the next sequence, the bytes. -/
def closeGap : Nat → List (Nat × Kept) → Nat → List Byte → List (Nat × Kept) × Nat × List Byte
  | 0, kept, next, acc => (kept, next, acc)
  | f + 1, kept, next, acc =>
    match aget kept next with
    | some b => closeGap f (adel kept next) (next + 1) (acc ++ b.data)
    | none => (kept, next, acc)

/-- An ack frame with one record for a flow leaves on an eligible port (R345); `none` when no port takes it. -/
def State.sendAck (s : State) (k : FlowKey) (nak : Bool) (seq cnt : Nat) : Option State :=
  (aget s.rflows k).bind fun f =>
    ((List.range 8).find? fun n => (s.port n).st == .up && s.portMask k n && !(s.avoided k.addr n)).bind fun n =>
      let rec_ := leBytes 8 (k.ppart + k.part * 8 + b2n nak * 64) ++ leBytes 4 seq ++ leBytes 4 cnt
      (s.seal k true f.ackSeq 0 (s.flowEpoch k) rec_).map fun fr =>
        { s with rflows := aset s.rflows k { f with ackSeq := f.ackSeq + 1, unacked := if nak then f.unacked else 0 } }.emitFrame n fr

def State.ackRecord (s : State) (k : FlowKey) (seq : Nat) : State := (s.sendAck k false seq 0).getD s

/-- Reorder and delivery (R344): a frame that passed every check, arriving at port `n`. -/
def State.reorder (s : State) (k : FlowKey) (n : Nat) (f : RFlow) (seq : Nat) (payload : List Byte) : State :=
  let f := { f with last := s.plumb }
  let put (s : State) (f : RFlow) : State := { s with rflows := aset s.rflows k f }
  if f.broken then put s f
  else if seq < f.next || (aget f.kept seq).isSome then ((put s f).count .lmdDupCnt n 1).ackRecord k (f.next % 2 ^ 32)
  else if seq ≠ f.next then
    if 15887 ≤ (s.rflows.flatMap fun e => e.2.kept.filter fun q => q.2.port == n).length then (put s f).count .lmdReorderDropCnt n 1
    else put s { f with kept := f.kept ++ [(seq, ⟨n, payload, s.plumb⟩)] }
  else
    let (kept, next, bytes) := closeGap f.kept.length f.kept (f.next + 1) payload
    let f1 := { f with
      kept := kept, next := next, naks := f.naks.filter fun e => decide (next ≤ e.1)
      unacked := f.unacked + (next - f.next), ackT := if f.unacked = 0 then s.plumb else f.ackT }
    let (s1, rest, bad) := State.takeMsgs k n f.epoch (f.stream.length + bytes.length) (put s f1) (f.stream ++ bytes)
    let s2 := put s1 { f1 with stream := rest }
    if bad then s2.flowBreak k n else s2

/-- Traffic on a port: it is not idle (R358). -/
def State.touchPort (s : State) (n : Nat) : State := s.setPort n { s.port n with idleSince := s.plumb }

/-- A frame arrives in the next slot of its superblock; `cws`: the symbols in error of the codewords that begin in it
(R331, R333-R335). Corrected symbols count, each for its lane; an uncorrectable codeword counts and drops this frame, and the
next one when it reaches into that. The state, and whether the frame is good. -/
def State.receive (s : State) (n : Nat) (cws : List (List Nat)) : State × Bool :=
  let q := s.port n
  let slot := q.rxSlot % 5
  let cs := (List.range (slotCodewords slot)).map fun i => cws.getD i []
  let ok := cs.filter corrected
  let syms := ok.flatMap List.eraseDups
  let lanes := syms.map fun i => (s.plumb, i % (if q.narrow then 8 else 16))
  let recent := q.laneErr.filter fun e => decide (s.since e.1 ≤ 2 ^ 30)
  let spans := slot != 4 && !(corrected (cs.getLastD []))
  let s1 := s.setPort n { q with rxSlot := q.rxSlot + 1, rxBad := spans, laneErr := recent ++ lanes }
  ((s1.count .lmdFecCeCnt n syms.length).count .lmdFecUeCnt n (cs.length - ok.length), !q.rxBad && cs.all corrected)

/-- The plaintext of a frame when its tag verifies under the key its slot gives (R337, R339, R352). -/
def State.openFrame (s : State) (k : FlowKey) (h : Head) (f : Frame) (cls seq : Nat) : Option (List Byte) :=
  (s.slotKey (if k.tray then 8 else k.part) (h.kidx % 2)).bind fun key =>
    gcmOpen (frameKey key k.tray h.src h.spart h.epoch h.slice)
      (frameIv h.src h.spart h.dst h.dpart h.rty cls seq) f.head f.body f.tag

/-- The sender used the next key: this end switches too (R511). -/
def State.followKey (s : State) (k : FlowKey) (kidx : Nat) : State :=
  let o := if k.tray then 8 else k.part
  if s.keyIdx o = kidx % 2 then s else s.switchKey o

/-- Check 5 of R352: `kidx`, the owner of the port, the slice key. -/
def State.sliceOk (s : State) (n : Nat) (h : Head) : Bool :=
  decide (h.kidx < 2) && s.partOfPort n == some h.dpart && (s.part h.dpart).slice != 0#24 &&
  (s.part h.dpart).slice.toNat == h.slice

/-- The rules of R353 but for the tag. -/
def State.trayOk (s : State) (h : Head) : Bool :=
  decide (h.src / 4 = s.fabricAddr / 4 ∧ h.src ≠ s.fabricAddr ∧ h.spart = 0 ∧ h.dpart = 0 ∧ 2 ≤ h.kidx)

/-- May a port receive? -/
def State.rxUp (s : State) (n : Nat) : Bool := (s.port n).st == .up

/-- The peg messages of a payload that begins with a message. -/
def pegCount : Nat → List Byte → Nat
  | 0, _ => 0
  | f + 1, l =>
    let w := leNat (l.take 4)
    let len := w / 16 % 2 ^ 28
    if l.length < 4 ∨ l.length < 4 + len then 0 else (if w % 16 = 2 then 1 else 0) + pegCount f (l.drop (4 + len))

/-- A frame that fails check 5 (R352): the peg messages it holds are rejected with it (R199, R202), as far as the port's key
opens it. (DEDUCED, log 82). -/
def State.sliceReject (s : State) (n : Nat) (h : Head) (frame : Frame) : State :=
  let s1 := s.count .lmdSliceRejectCnt n 1
  if 2 ≤ h.kidx then s1
  else match (s.partOfPort n).bind fun p =>
      let k : FlowKey := ⟨false, p, h.src, h.spart⟩
      s.openFrame k h frame 0 (extSeq (s.flowPos k h.epoch) h.oseq) with
    | some pl => s1.count .lmdPegRejectCnt n (pegCount (pl.take h.plen).length (pl.take h.plen))
    | none => s1

/-- DATA_FRAME (R335, R344, R352, R415-R417): a frame of type 1, or of a reserved type, arrives at a port; `cws`: the symbols
in error of the codewords that begin in its slot. -/
def execDataFrame (port : BitVec 3) (cws : List (List Nat)) (frame : Machine.Frame) (s0 : State) :
    Host.Outcome State Fault Refusal :=
  let n := port.toNat
  let h := Head.ofBytes frame.head
  let r := s0.receive n cws
  .next (if !(s0.rxUp n) || (r.2 && h.ftype != 1 && h.ftype < 5) then s0
    else if !r.2 then r.1
    else
      let s := r.1.touchPort n
      if s.phase ≠ 0 then s
      else if h.ftype ≠ 1 ∨ h.dst ≠ s.fabricAddr then s.count .lmdMisrouteCnt n 1
      else if !(s.sliceOk n h) then s.sliceReject n h frame
      else if (s.part h.dpart).parked then s
      else
        let k : FlowKey := ⟨false, h.dpart, h.src, h.spart⟩
        let seq := extSeq (s.flowPos k h.epoch) h.oseq
        match s.openFrame k h frame 0 seq with
        | none => s.count .lmdAuthFailCnt n 1
        | some pl =>
          let s1 := s.followKey k h.kidx
          match s1.flowAdmit k h.epoch seq with
          | none => s1.count .prtEpochDropCnt k.part 1
          | some f => s1.reorder k n f seq (pl.take h.plen))

/-- TRAY_WINDOW_FRAME (R335, R344, R352, R353, R417). -/
def execTrayWindowFrame (port : BitVec 3) (cws : List (List Nat)) (frame : Machine.Frame) (s0 : State) :
    Host.Outcome State Fault Refusal :=
  let n := port.toNat
  let h := Head.ofBytes frame.head
  let r := s0.receive n cws
  .next (if !(s0.rxUp n) || (r.2 && h.ftype != 2) then s0
    else if !r.2 then r.1
    else
      let s := r.1.touchPort n
      if s.phase ≠ 0 then s
      else if h.dst ≠ s.fabricAddr then s.count .lmdMisrouteCnt n 1
      else if !(s.trayOk h) then s.count .lmdTwRejectCnt n 1
      else
        let k : FlowKey := ⟨true, 0, h.src, 0⟩
        let seq := extSeq (s.flowPos k h.epoch) h.oseq
        match s.openFrame k h frame 1 seq with
        | none => s.count .lmdTwRejectCnt n 1
        | some pl =>
          let s1 := s.followKey k h.kidx
          match s1.flowAdmit k h.epoch seq with
          | none => s1.count .lmdTwRejectCnt n 1
          | some f => s1.reorder k n f seq (pl.take h.plen))

/-! ### Acknowledgement (R345, R346, R417) -/

/-- Count a nak against a (destination, port) pair (R346). -/
def State.countNak (s : State) (addr n : Nat) : State :=
  let c := match aget s.avoid (addr, n) with | some (c, _) => c | none => 0
  { s with avoid := aset s.avoid (addr, n) (c + 1, s.plumb) }

/-- One record of an ack frame from `peer`. -/
def State.ackOne (s : State) (tray : Bool) (peer : Nat) (d : List Byte) : State :=
  let w := leNat (d.take 8)
  let k : FlowKey := ⟨tray, bitsOf w 2 0, peer, bitsOf w 5 3⟩
  let seq := extSeq (s.sflow k).seq (dfield d 8 4)
  match bitsOf w 7 6 with
  | 0 => { s with replay := s.replay.filter fun r => !(r.key == k && r.epoch == s.flowEpoch k && decide (r.seq < seq)) }
  | 1 =>
    (s.replay.filter fun r => r.key == k && r.epoch == s.flowEpoch k && decide (seq ≤ r.seq ∧ r.seq < seq + dfield d 12 4)).foldl
      (fun s r => (s.countNak peer r.port).resendFrame true r) s
  | _ => s

/-- The records of an ack payload. -/
def ackList : Nat → List Byte → List (List Byte)
  | 0, _ => []
  | f + 1, l => if l.length < 16 then [] else l.take 16 :: ackList f (l.drop 16)

/-- The position of a flow's ack frames for an epoch of their sender (R337, R342). -/
def State.ackAt (s : State) (k : FlowKey) (epoch : Nat) : Nat :=
  if (s.sflow k).ackEp = epoch then (s.sflow k).ackPos else 0

/-- ACK_FRAME (R335, R337, R345, R346, R352, R353). -/
def execAckFrame (port : BitVec 3) (cws : List (List Nat)) (frame : Machine.Frame) (s0 : State) :
    Host.Outcome State Fault Refusal :=
  let n := port.toNat
  let h := Head.ofBytes frame.head
  let tray := decide (2 ≤ h.kidx)
  let r := s0.receive n cws
  .next (if !(s0.rxUp n) || (r.2 && h.ftype != 4) then s0
    else if !r.2 then r.1
    else
      let s := r.1.touchPort n
      if h.dst ≠ s.fabricAddr then s.count .lmdMisrouteCnt n 1
      else if tray && !(s.trayOk h) then s.count .lmdTwRejectCnt n 1
      else if !tray && !(s.sliceOk n h) then s.count .lmdSliceRejectCnt n 1
      else
        let k : FlowKey := ⟨tray, h.dpart, h.src, h.spart⟩
        let seq := extSeq (s.ackAt k h.epoch) h.oseq
        match s.openFrame k h frame 2 seq with
        | none => if tray then s.count .lmdTwRejectCnt n 1 else s.count .lmdAuthFailCnt n 1
        | some pl =>
          let s1 := s.followKey k h.kidx
          let s2 := s1.setSflow k { s1.sflow k with ackEp := h.epoch, ackPos := max (s1.ackAt k h.epoch) (seq + 1) }
          let stale := match aget s1.rflows k with | some f => f.epoch != h.epoch && !(f.dormant || newer h.epoch f.epoch) | none => false
          if stale then (if tray then s1.count .lmdTwRejectCnt n 1 else s1.count .prtEpochDropCnt k.part 1)
          else (ackList 64 (pl.take h.plen)).foldl (fun s d => s.ackOne tray h.src d) s2)

/-- ACK_SEND (R345): after 128 delivered frames, or 4,096 pt after the first not yet acknowledged. -/
def execAckSend (key : Machine.FlowKey) (s : State) : Host.Outcome State Fault Refusal :=
  .next (match aget s.rflows key with
    | none => s
    | some f =>
      if f.broken || f.unacked = 0 || !(decide (128 ≤ f.unacked ∨ 4096 ≤ s.since f.ackT)) then s
      else s.ackRecord key (f.next % 2 ^ 32))

/-- `gap_to` of a flow (R346, R365); a tray-window flow, which no partition owns, takes the reset value. (DEDUCED, log 27). -/
def State.gapTo (s : State) (k : FlowKey) : Nat := if k.tray then 0x2000 else s.rfld ⟨.lmdTimers, k.part, 0⟩ 31 16

/-- Since when the lowest missing frame of a flow is missing while a later one is kept: the first arrival of a kept frame,
or the last nak for it. -/
def RFlow.gapSince (f : RFlow) (now : Time) : Time :=
  match aget f.naks f.next with
  | some (_, t) => t
  | none => (f.kept.map (·.2.at_)).foldl (fun a t => if t.toNat < a.toNat then t else a) now

/-- NAK_TIMEOUT (R346): the lowest missing frame has been missing for `gap_to` pt while a later one is kept; after three
resends of it the flow breaks. A nak that no port takes is no nak. -/
def execNakTimeout (key : Machine.FlowKey) (s : State) : Host.Outcome State Fault Refusal :=
  .next (match aget s.rflows key with
    | none => s
    | some f =>
      match f.kept with
      | [] => s
      | (q0, k0) :: r =>
        if f.broken || s.since (f.gapSince s.plumb) < s.gapTo key then s
        else if 3 ≤ ((aget f.naks f.next).map (·.1)).getD 0 then s.flowBreak key k0.port
        else
          let lo := (r.map (·.1)).foldl min q0
          match s.sendAck key true (f.next % 2 ^ 32) (lo - f.next) with
          | none => s
          | some s1 =>
            match aget s1.rflows key with
            | none => s1
            | some f1 =>
              let asked := (upto f.next (lo - f.next)).foldl (fun l q =>
                aset l q (((aget l q).map (·.1)).getD 0 + 1, s.plumb)) f1.naks
              { s1 with rflows := aset s1.rflows key { f1 with naks := asked } })

/-- FRAME_RESEND_TIMEOUT (R417): a frame unacknowledged for 2^20 pt is sent again. -/
def execFrameResendTimeout (key : Machine.FlowKey) (seq : Nat) (s : State) : Host.Outcome State Fault Refusal :=
  .next (match s.replay.find? (fun r => r.key == key && r.seq == seq && r.epoch == s.flowEpoch key) with
    | some r => if 2 ^ 20 ≤ s.since r.sent then s.resendFrame false r else s
    | none => s)

/-- FLOW_DORMANT (R417). -/
def execFlowDormant (key : Machine.FlowKey) (s : State) : Host.Outcome State Fault Refusal :=
  .next (match aget s.rflows key with
    | some f => if 2 ^ 32 ≤ s.since f.last ∧ f.kept.isEmpty then { s with rflows := aset s.rflows key { f with dormant := true } } else s
    | none => s)

/-- PORT_AVOID_EXPIRE (R346). -/
def execPortAvoidExpire (addr : Nat) (port : BitVec 3) (s : State) : Host.Outcome State Fault Refusal :=
  .next (match aget s.avoid (addr, port.toNat) with
    | some (c, t) => if 2 ≤ c ∧ 2 ^ 30 ≤ s.since t then { s with avoid := adel s.avoid (addr, port.toNat) } else s
    | none => s)

/-! ### Frames between port and partner (R334, R337, R352) -/

/-- The CRC of a frame of type 0 or 3 holds: over head and payload, in tag bytes 0-3, then 12 zero bytes. -/
def Frame.crcOk (f : Frame) : Bool :=
  leNat (f.tag.take 4) == crc32 (f.head ++ f.body) && (f.tag.drop 4).all (· == 0#8)

/-- IDLE_FRAME (R334, R335, R337, R352). -/
def execIdleFrame (port : BitVec 3) (cws : List (List Nat)) (frame : Machine.Frame) (s0 : State) :
    Host.Outcome State Fault Refusal :=
  let n := port.toNat
  let r := s0.receive n cws
  .next (if !(s0.rxUp n) || (r.2 && (Head.ofBytes frame.head).ftype != 0) then s0
    else if !r.2 || frame.crcOk then r.1 else r.1.count .lmdAuthFailCnt n 1)

/-- What a link-control frame does (R331, R358, R359, R361): a sleep request is acknowledged while the conditions hold,
the later of two named boundaries stands; a named lane swap waits for its boundary. -/
def State.linkCtl (s : State) (n : Nat) (m : LinkCtl) : State :=
  let q := s.port n
  match m with
  | .credit => s
  | .sleepReq b =>
    if s.sleepOk n then
      (s.setPort n { q with sleepAt := some (max b (q.sleepAt.getD 0)), sleepAcked := true }).sendCtl n .sleepAck
    else s.sendCtl n .sleepAbort
  | .sleepAck => if q.sleepAt.isSome then s.setPort n { q with sleepAcked := true } else s
  | .sleepAbort => s.setPort n { q with sleepAt := none, sleepAcked := false }
  | .swap lane b => if q.spares.isEmpty || q.sleepAt.any (fun x => x < b) then s else s.setPort n { q with swap := some (lane, b) }
  | .time partner rtt _ =>
    s.setReg ⟨.lmdTimeDiff, n, 0⟩ (BitVec.ofInt 32 (timeDiff (s.timeOf (domOfSpine (n / 2))) partner rtt))

/-- LINK_CONTROL_FRAME (R329, R335, R337, R352, R356): a good frame is consumed by the port. (DESIGN CHOICE, log 26). -/
def execLinkControlFrame (port : BitVec 3) (cws : List (List Nat)) (frame : Machine.Frame) (msg : Machine.LinkCtl) (s0 : State) :
    Host.Outcome State Fault Refusal :=
  let n := port.toNat
  let r := s0.receive n cws
  .next (if !(s0.rxUp n) || (r.2 && (Head.ofBytes frame.head).ftype != 3) then s0
    else if !r.2 then r.1
    else
      let s := r.1
      if !frame.crcOk then s.count .lmdAuthFailCnt n 1
      else (s.setPort n { s.port n with lastCtl := s.plumb }).linkCtl n msg)

/-! ### Peg messages (R199) -/

/-- PEG_MESSAGE (R199, R417): the oldest delivered peg message is applied when its peg is assigned to the partition;
else it is dropped and counted. -/
def execPegMessage (s : State) : Host.Outcome State Fault Refusal :=
  .next (match s.pegMsgs with
    | [] => s
    | m :: r =>
      let s1 := { s with pegMsgs := r }
      if s1.partOfPeg m.peg == some m.part then (s1.addPeg m.peg m.amount).walkPeg m.peg
      else s1.count .lmdPegRejectCnt m.port 1)

end Sys2Proof.Machine
end

