-- ==== Sys2Proof/Machine/Scalar.lean ====
section
/-! DEFINITION. The scalar instructions (05, R150-R158). A command names the core; the core runs the word at the pc of
its running context. -/
namespace Sys2Proof.Machine

/-- What the instruction fetch of a core finds (R150, R158, R253). -/
inductive Fetched
  | nothing
  | outside (x pc : Nat)
  | poison (x : Nat)
  | word (x pc : Nat) (w : Word)
  deriving DecidableEq, Repr

/-- The fetch at the pc of the running context of a core whose bent is clocked and whose partition is not fenced. (DEDUCED,
log 11). -/
def State.fetch (s : State) (c : Nat) : Fetched :=
  if !(s.clocked c) || s.fencedCore c then .nothing
  else
    match s.running c with
    | none => .nothing
    | some x =>
      let v := s.ctx c x
      let pc := v.pc.toNat
      if !(v.inRegion pc) then .outside x pc
      else if (s.core c).imPoison.contains (pc / 4) then .poison x
      else .word x pc (wget (s.core c).imem (pc / 4))

/-- Issue of one instruction: the fetch, the checks of R158 that come before the operands, then the effect `f` of the
instruction with op `op`. A command that is not the one the word at pc spells changes nothing. (DEDUCED, log 2; DEDUCED,
log 11). -/
def State.issue (s : State) (c op : Nat) (f : State → Nat → Word → State) : State :=
  match s.fetch c with
  | .nothing => s
  | .outside x pc => s.illegal c x pc 2
  | .poison x => s.faultCtx c x 0x03#8
  | .word x pc w =>
    if !(opDefined (opOf w)) then s.illegal c x pc 0
    else if opOf w ≠ op then s
    else f s x w

/-- Issue of a scalar instruction: a must-be-zero field or reserved item faults with reason 1 (R155, R157, R158). (DEDUCED,
log 11). -/
def State.issueScalar (s : State) (c op : Nat) (f : State → Nat → Word → State) : State :=
  s.issue c op fun s x w =>
    if scalarLegal w then f s x w else s.illegal c x (s.ctx c x).pc.toNat 1

/-- The context after an instruction that retires and goes on at the next word. (DEDUCED, log 12). -/
def Ctx.next (v : Ctx) (t : Time) : Ctx := { v with pc := v.pc + 4#13, progress := t }

/-- Retire with a changed context. -/
def State.retire (s : State) (c x : Nat) (v : Ctx) : State := s.setCtx c x (v.next s.plumb)

/-- Two's complement results of the RR and RI instructions (R155), by op. -/
def aluOp (op : Nat) (a b : Word) : Word :=
  match op with
  | 0x00 => a + b
  | 0x01 => a - b
  | 0x02 => a &&& b
  | 0x03 => a ||| b
  | 0x04 => a ^^^ b
  | 0x05 => a <<< (b.toNat % 32)
  | 0x06 => a >>> (b.toNat % 32)
  | 0x07 => a.sshiftRight (b.toNat % 32)
  | 0x08 => a * b
  | 0x09 => if a.slt b then 1#32 else 0#32
  | _ => if a.ult b then 1#32 else 0#32

/-- An RR instruction: rd := ra op rb. -/
def State.rr (s : State) (c op : Nat) : State :=
  s.issueScalar c op fun s x w =>
    let v := s.ctx c x
    s.retire c x (v.setSreg (fA w) (aluOp op (v.sreg (fB w)) (v.sreg (fC w))))

/-- An RI instruction: rd := f ra imm. -/
def State.ri (s : State) (c op : Nat) (f : Word → Word → Word) : State :=
  s.issueScalar c op fun s x w =>
    let v := s.ctx c x
    s.retire c x (v.setSreg (fA w) (f (v.sreg (fB w)) w))

/-- A jump of a context to an instruction memory address: outside the stream region or unaligned it is illegal with
reason 2 and nothing is written (R158). (DEDUCED, log 12). -/
def State.jump (s : State) (c x : Nat) (v : Ctx) (target : Word) : State :=
  if v.inRegion target.toNat then
    s.setCtx c x { v with pc := target.truncate 13, progress := s.plumb }
  else s.illegal c x (s.ctx c x).pc.toNat 2

/-- A branch: to its own address plus 4 × off when `cond ra rb` (R155). (DEDUCED, log 12). -/
def State.branch (s : State) (c op : Nat) (cond : Word → Word → Bool) : State :=
  s.issueScalar c op fun s x w =>
    let v := s.ctx c x
    if cond (v.sreg (fA w)) (v.sreg (fB w)) then s.jump c x v (v.pc.zeroExtend 32 + simm w <<< 2)
    else s.retire c x v

def execOpAdd (core : CoreAddr) (s : State) : Host.Outcome State Fault Refusal := .next (s.rr core.toNat 0x00)
def execOpSub (core : CoreAddr) (s : State) : Host.Outcome State Fault Refusal := .next (s.rr core.toNat 0x01)
def execOpAnd (core : CoreAddr) (s : State) : Host.Outcome State Fault Refusal := .next (s.rr core.toNat 0x02)
def execOpOr (core : CoreAddr) (s : State) : Host.Outcome State Fault Refusal := .next (s.rr core.toNat 0x03)
def execOpXor (core : CoreAddr) (s : State) : Host.Outcome State Fault Refusal := .next (s.rr core.toNat 0x04)
def execOpSll (core : CoreAddr) (s : State) : Host.Outcome State Fault Refusal := .next (s.rr core.toNat 0x05)
def execOpSrl (core : CoreAddr) (s : State) : Host.Outcome State Fault Refusal := .next (s.rr core.toNat 0x06)
def execOpSra (core : CoreAddr) (s : State) : Host.Outcome State Fault Refusal := .next (s.rr core.toNat 0x07)
def execOpMul (core : CoreAddr) (s : State) : Host.Outcome State Fault Refusal := .next (s.rr core.toNat 0x08)
def execOpSlt (core : CoreAddr) (s : State) : Host.Outcome State Fault Refusal := .next (s.rr core.toNat 0x09)
def execOpSltu (core : CoreAddr) (s : State) : Host.Outcome State Fault Refusal := .next (s.rr core.toNat 0x0A)

/-- ADDI: rd := ra + simm. -/
def execOpAddi (core : CoreAddr) (s : State) : Host.Outcome State Fault Refusal :=
  .next (s.ri core.toNat 0x10 fun a w => a + simm w)
/-- ANDI: rd := ra and zimm. -/
def execOpAndi (core : CoreAddr) (s : State) : Host.Outcome State Fault Refusal :=
  .next (s.ri core.toNat 0x11 fun a w => a &&& zimm w)
/-- ORI: rd := ra or zimm. -/
def execOpOri (core : CoreAddr) (s : State) : Host.Outcome State Fault Refusal :=
  .next (s.ri core.toNat 0x12 fun a w => a ||| zimm w)
/-- XORI: rd := ra xor zimm. -/
def execOpXori (core : CoreAddr) (s : State) : Host.Outcome State Fault Refusal :=
  .next (s.ri core.toNat 0x13 fun a w => a ^^^ zimm w)
/-- LUI: rd := imm << 16. -/
def execOpLui (core : CoreAddr) (s : State) : Host.Outcome State Fault Refusal :=
  .next (s.ri core.toNat 0x14 fun _ w => zimm w <<< 16)
/-- SLLI, SRLI, SRAI: as SLL, SRL, SRA by imm[4:0]. -/
def execOpSlli (core : CoreAddr) (s : State) : Host.Outcome State Fault Refusal :=
  .next (s.ri core.toNat 0x15 fun a w => aluOp 0x05 a (zimm w))
def execOpSrli (core : CoreAddr) (s : State) : Host.Outcome State Fault Refusal :=
  .next (s.ri core.toNat 0x16 fun a w => aluOp 0x06 a (zimm w))
def execOpSrai (core : CoreAddr) (s : State) : Host.Outcome State Fault Refusal :=
  .next (s.ri core.toNat 0x17 fun a w => aluOp 0x07 a (zimm w))

/-- Is a data memory address word-aligned within 0x000–0x3FC (R151, R158)? -/
def dmLegal (a : Word) : Bool := decide (a.toNat % 4 = 0 ∧ a.toNat ≤ 0x3FC)

/-- LW (R155, R253): a poisoned word faults the context with cause 0x03. -/
def execOpLw (core : CoreAddr) (s : State) : Host.Outcome State Fault Refusal :=
  .next (s.issueScalar core.toNat 0x18 fun s x w =>
    let v := s.ctx core.toNat x
    let a := v.sreg (fB w) + simm w
    if !(dmLegal a) then s.illegal core.toNat x v.pc.toNat 3
    else if v.dmPoison.contains (a.toNat / 4) then s.faultCtx core.toNat x 0x03#8
    else s.retire core.toNat x (v.setSreg (fA w) (wget v.dmem (a.toNat / 4))))

/-- SW (R155, R252): the word is written whole, so its poison mark is cleared. -/
def execOpSw (core : CoreAddr) (s : State) : Host.Outcome State Fault Refusal :=
  .next (s.issueScalar core.toNat 0x19 fun s x w =>
    let v := s.ctx core.toNat x
    let a := v.sreg (fB w) + simm w
    if !(dmLegal a) then s.illegal core.toNat x v.pc.toNat 3
    else s.retire core.toNat x { v with dmem := wput v.dmem (a.toNat / 4) (v.sreg (fA w))
                                        dmPoison := sdel v.dmPoison (a.toNat / 4) })

/-- GETP: rd := p[imm[5:0]]. -/
def execOpGetp (core : CoreAddr) (s : State) : Host.Outcome State Fault Refusal :=
  .next (s.issueScalar core.toNat 0x1A fun s x w =>
    let v := s.ctx core.toNat x
    s.retire core.toNat x (v.setSreg (fA w) (v.p.getD (wbits w 5 0) 0#32)))

/-- The state item of GETS (R157). (DESIGN CHOICE, log 13). -/
def State.getsItem (s : State) (c x : Nat) (v : Ctx) : Nat → Word
  | 0 => BitVec.ofNat 32 x
  | 1 => match s.lcoreOf c with | some l => BitVec.ofNat 32 l | none => Config.noLcore c
  | 2 => v.index
  | 3 => v.flags.zeroExtend 32
  | 4 => v.mode.zeroExtend 32
  | 5 => (s.timeOf (domOfBent (bentOf c))).truncate 32
  | _ => v.plbHi

/-- GETS (R157): item 5 latches the upper half of plumb time for item 6. -/
def execOpGets (core : CoreAddr) (s : State) : Host.Outcome State Fault Refusal :=
  .next (s.issueScalar core.toNat 0x1B fun s x w =>
    let c := core.toNat
    let v := s.ctx c x
    let i := wbits w 3 0
    let v1 := v.setSreg (fA w) (s.getsItem c x v i)
    s.retire c x (if i = 5 then { v1 with plbHi := (s.timeOf (domOfBent (bentOf c)) >>> 32).truncate 32 } else v1))

/-- CLRF (R155): clears each own flag whose bit is set in imm[4:0]. -/
def execOpClrf (core : CoreAddr) (s : State) : Host.Outcome State Fault Refusal :=
  .next (s.issueScalar core.toNat 0x1C fun s x w =>
    let v := s.ctx core.toNat x
    s.retire core.toNat x { v with flags := v.flags &&& ~~~ (w.truncate 5) })

/-- SETM (R155, R156): own arithmetic mode := imm[1:0]. -/
def execOpSetm (core : CoreAddr) (s : State) : Host.Outcome State Fault Refusal :=
  .next (s.issueScalar core.toNat 0x1D fun s x w =>
    let v := s.ctx core.toNat x
    s.retire core.toNat x { v with mode := w.truncate 2 })

def execOpBeq (core : CoreAddr) (s : State) : Host.Outcome State Fault Refusal :=
  .next (s.branch core.toNat 0x20 fun a b => a == b)
def execOpBne (core : CoreAddr) (s : State) : Host.Outcome State Fault Refusal :=
  .next (s.branch core.toNat 0x21 fun a b => a != b)
def execOpBlt (core : CoreAddr) (s : State) : Host.Outcome State Fault Refusal :=
  .next (s.branch core.toNat 0x22 fun a b => a.slt b)
def execOpBge (core : CoreAddr) (s : State) : Host.Outcome State Fault Refusal :=
  .next (s.branch core.toNat 0x23 fun a b => !(a.slt b))
def execOpBltu (core : CoreAddr) (s : State) : Host.Outcome State Fault Refusal :=
  .next (s.branch core.toNat 0x24 fun a b => a.ult b)
def execOpBgeu (core : CoreAddr) (s : State) : Host.Outcome State Fault Refusal :=
  .next (s.branch core.toNat 0x25 fun a b => !(a.ult b))

/-- JAL (R155): rd := address of the next instruction; jump to this address + 4 × simm. -/
def execOpJal (core : CoreAddr) (s : State) : Host.Outcome State Fault Refusal :=
  .next (s.issueScalar core.toNat 0x26 fun s x w =>
    let v := s.ctx core.toNat x
    let here : Word := v.pc.zeroExtend 32
    s.jump core.toNat x (v.setSreg (fA w) (here + 4#32)) (here + simm w <<< 2))

/-- JR (R155): jump to ra. -/
def execOpJr (core : CoreAddr) (s : State) : Host.Outcome State Fault Refusal :=
  .next (s.issueScalar core.toNat 0x27 fun s x w =>
    let v := s.ctx core.toNat x
    s.jump core.toNat x v (v.sreg (fB w)))

/-- PWAIT (R155, R191, R193): the check at the peg's home; a context that goes on retires, one that does not keeps its
pc on the PWAIT. -/
def execOpPwait (core : CoreAddr) (s : State) : Host.Outcome State Fault Refusal :=
  .next (s.issueScalar core.toNat 0x28 fun s x w =>
    let c := core.toNat
    let v := s.ctx c x
    let id := wbits w 9 0
    match s.pegOf c x id with
    | none => s.faultCtx c x 0x02#8
    | some h =>
      if h.isRemote then s.faultCtx c x 0x02#8
      else if s.badPegs.contains h then s.faultCtx c x 0x03#8
      else
        match s.waitCheck c x id h (v.sreg (fB w)) (wbit w 10) with
        | (s1, true) => s1.retire c x (s1.ctx c x)
        | (s1, false) => s1)

/-- PSIG (R155, R192): the signal leaves in the cycle after ra is read. -/
def execOpPsig (core : CoreAddr) (s : State) : Host.Outcome State Fault Refusal :=
  .next (s.issueScalar core.toNat 0x29 fun s x w =>
    let c := core.toNat
    let v := s.ctx c x
    match s.pegOf c x (wbits w 9 0) with
    | none => s.faultCtx c x 0x02#8
    | some h =>
      (s.sendSignal { id := 0, home := h, amount := v.sreg (fB w), engine := false, die := coreDie c, core := c,
                      ctx := x, part := (s.partOfCore c).getD 255 }).retire c x v)

/-- PREAD (R155, R191): rd := value of the peg. -/
def execOpPread (core : CoreAddr) (s : State) : Host.Outcome State Fault Refusal :=
  .next (s.issueScalar core.toNat 0x2A fun s x w =>
    let c := core.toNat
    let v := s.ctx c x
    match s.pegOf c x (wbits w 9 0) with
    | none => s.faultCtx c x 0x02#8
    | some h =>
      if h.isRemote then s.faultCtx c x 0x02#8
      else if s.badPegs.contains h then s.faultCtx c x 0x03#8
      else s.retire c x (v.setSreg (fA w) (s.peg h)))

/-- END (R170): the context leaves the scalar processor and is Empty. (DEDUCED, log 12; DEDUCED, log 95). -/
def execOpEnd (core : CoreAddr) (s : State) : Host.Outcome State Fault Refusal :=
  .next (s.issueScalar core.toNat 0x2F fun s x _ =>
    let c := core.toNat
    (s.depart c x).retire c x { s.ctx c x with st := .empty })

/-- CONTEXT_SWITCH (R71): an idle scalar processor takes the next Ready context: in the order current + 1,
current + 2, … when one was Ready as the last context left, else the lowest-numbered. (DEDUCED, log 2; DEDUCED, log 14). -/
def execContextSwitch (core : CoreAddr) (s : State) : Host.Outcome State Fault Refusal :=
  let c := core.toNat
  let k := s.core c
  let order := if k.rotate then (upto (k.cur + 1) 4).map (· % 4) else upto 0 4
  .next (if !(s.clocked c) || (s.running c).isSome then s
    else match order.find? (fun x => (s.ctx c x).st == .ready) with
      | none => s.setCore c { k with rotate := false }
      | some x =>
        s.setCore c ({ k with cur := x, rotate := false }.setCtx x
          { s.ctx c x with st := .running, progress := s.plumb }))

end Sys2Proof.Machine
end

