-- ==== Sys2Proof/Machine/Tile.lean ====
section
/-! DEFINITION. Tile instructions: their issue, the array, the square, the sum buffer and the drain (02, 03, 04, 05:
R39-R70, R82-R107, R128-R133, R159-R168, R176, R226-R231). -/
namespace Sys2Proof.Machine

/-! ### Issue of the long instructions (R158-R165) -/

/-- Words 1 to 3 of a long instruction. -/
abbrev Words3 := Word × Word × Word

/-- Issue of a long instruction: its words that lie in the region carry no poison, `legal` are their must-be-zero fields and
reserved values (reason 1), then every word must lie in the region (reason 2). (DEDUCED, log 11). -/
def State.issueLong (s : State) (c op : Nat) (legal0 : Word → Bool) (legal : Word → Words3 → Bool)
    (f : State → Nat → Word → Words3 → State) : State :=
  s.issue c op fun s x w0 =>
    let v := s.ctx c x
    let k := s.core c
    let pc := v.pc.toNat
    let inside := [4, 8, 12].all fun d => v.inRegion (pc + d)
    let at_ (d : Nat) : Word := if v.inRegion (pc + 4 * d) then wget k.imem (pc / 4 + d) else 0#32
    if !(legal0 w0) then s.illegal c x pc 1
    else if [1, 2, 3].any fun d => v.inRegion (pc + 4 * d) && k.imPoison.contains (pc / 4 + d) then s.faultCtx c x 0x03#8
    else
      let ws : Words3 := (at_ 1, at_ 2, at_ 3)
      if !(legal w0 ws) then s.illegal c x pc 1
      else if !inside then s.illegal c x pc 2
      else f s x w0 ws

/-- The context after a long instruction: pc advances by 16 (R159). -/
def Ctx.next16 (v : Ctx) (t : Time) : Ctx := { v with pc := v.pc + 16#13, progress := t }

/-- The completion peg of a long instruction: `none` when its id fails (cause 0x02), else the peg, if any (R166, R191). -/
def State.sigPeg (s : State) (c x : Nat) (w0 : Word) : Option (Option PegHome) :=
  if wbit w0 18 then (s.pegOf c x (wbits w0 17 8)).map some else some none

/-- Is a register value a scratchpad base (R161)? -/
def spadBaseOk (w : Word) : Bool := decide (w.toNat < 65536 ∧ w.toNat % 64 = 0)

/-- Must-be-zero fields of word 0 of a tile instruction (R160). -/
def tileLegal0 (w : Word) : Bool :=
  wbits w 25 24 != 3 && (wbits w 25 24 == 2 || wbits w 23 22 == 0) && wbits w 20 19 != 3 &&
  (wbit w 18 || wbits w 17 8 == 0)

/-- Must-be-zero fields of words 1 to 3 of a tile instruction (R160). -/
def tileLegal (op : TileOp) (w0 : Word) (ws : Words3) : Bool :=
  wbits ws.1 31 24 == 0 && (wbit w0 21 || wbits ws.2.1 31 27 == 0) && wbits ws.2.2 31 11 == 0 &&
  (op != .mmul || wbits ws.2.2 9 0 == 0) && (op == .rs || op == .ar || !(wbit ws.2.2 10))

/-- The numeric fields of a tile instruction and the registers it names, read in its issue cycle (R160, R161). -/
structure TileArgs where
  fmt : Nat
  cls : Nat
  acc : Bool
  ofmt : Nat
  mc : Nat
  m : Nat
  k : Nat
  n : Nat
  sa : Word
  sw : Word
  sc : Word
  sx : Word
  rt : Word
  rk : Word
  keep : Bool
  deriving DecidableEq, Repr

def tileArgs (v : Ctx) (w0 : Word) (ws : Words3) : TileArgs :=
  let (w1, w2, w3) := ws
  let r (w : Word) (lo : Nat) : Word := v.sreg (BitVec.ofNat 5 (wbits w (lo + 4) lo))
  { fmt := wbits w0 25 24, cls := wbits w0 23 22, acc := wbit w0 21, ofmt := wbits w0 20 19, mc := wbits w0 7 0 + 1
    m := wbits w1 11 0 + 1, k := wbits w1 23 12 + 1, n := wbits w2 11 0 + 1
    sa := r w2 12, sw := r w2 17, sc := r w2 22, sx := r w2 27, rt := r w3 0, rk := r w3 5, keep := wbit w3 10 }

/-- Does the instruction write an output tile in the scratchpad (R161, R163)? -/
def TileArgs.writes (a : TileArgs) (op : TileOp) : Bool := op == .mmul || op == .ag || a.keep

/-- The range checks of the registers (R161): reason 4 when one fails. -/
def State.tileRanges (s : State) (c : Nat) (op : TileOp) (a : TileArgs) : Bool :=
  let k := s.core c
  spadBaseOk a.sa && spadBaseOk a.sw && (k.ringAt a.sa.toNat).isSome && (k.ringAt a.sw.toNat).isSome &&
  (!(a.writes op) || (spadBaseOk a.sc && decide (a.sc.toNat + a.m * a.n * esize a.ofmt ≤ 65536))) &&
  (!a.acc || (spadBaseOk a.sx && decide (a.sx.toNat + a.m * a.n * 4 ≤ 65536))) &&
  (op == .mmul || decide (a.rt.toNat < 4096))

/-- Can the format of a truss entry hold an output format (R161, R262)? Sill-32 and FP32 hold each, BF16 and FP16 only
themselves; bytes hold none. (DEDUCED, log 97). -/
def trussHolds : Nat → Nat → Bool
  | 0, _ => true
  | 1, _ => true
  | 2, o => o == 1
  | 3, o => o == 2
  | _, _ => false

/-- The truss checks (R161, R163, R262, R265): reason 5 when one fails. -/
def State.tileTruss (s : State) (c : Nat) (op : TileOp) (a : TileArgs) : Bool :=
  match op with
  | .mmul => true
  | _ =>
    match s.partOfCore c with
    | none => false
    | some p =>
      match s.trussAt p a.rt.toNat with
      | none => false
      | some t =>
        (s.memberOf p c t).isSome && trussHolds t.fmt a.ofmt &&
        (match op with
          | .rs => t.op != 3
          | .ar => t.op != 3
          | _ => t.op == 3 && ((a.fmt == 0 && t.fmt == 2) || (a.fmt == 1 && t.fmt == 3)))

/-- The lines that an MMUL.AG asks of the collective engine (R163, R288). -/
def State.addAg (s : State) (c : Nat) (a : TileArgs) (ring : Nat) : State :=
  match s.partOfCore c with
  | none => s
  | some p =>
    match s.trussAt p a.rt.toNat with
    | none => s
    | some t =>
      let step := (t.own.map (·.step)).foldl min ((t.own.map (·.step)).headD 0)
      let g : AgProd := { id := s.nextId, core := c, part := p, truss := a.rt.toNat, step := step, key := a.rk, mc := a.mc
                          m := a.m, k := a.k, n := a.n, ring := ring }
      { s with ags := s.ags ++ [g], nextId := s.nextId + 1 }

/-- The context after it issued a tile instruction: the index rises; at the stop index it is held (R159, R176). -/
def State.tileIssued (s : State) (c x : Nat) : State :=
  let v := s.ctx c x
  let v1 := { v.next16 s.plumb with index := v.index + 1#32 }
  if v.stopAt ≠ 0xFFFFFFFF#32 ∧ v.index = v.stopAt then
    (s.depart c x).setCtx c x { v1 with st := .waiting, wait := .held v.index }
  else s.setCtx c x v1

/-- Issue of a tile instruction (R70, R104, R158-R163). A full queue stalls the issue. -/
def State.tile (s : State) (c opc : Nat) (op : TileOp) : State :=
  s.issueLong c opc tileLegal0 (tileLegal op) fun s x w0 ws =>
    let v := s.ctx c x
    let a := tileArgs v w0 ws
    let pc := v.pc.toNat
    if !(s.tileRanges c op a) then s.illegal c x pc 4
    else if (op == .ag && a.fmt == 2) || !(s.tileTruss c op a) then s.illegal c x pc 5
    else
      match s.sigPeg c x w0 with
      | none => s.faultCtx c x 0x02#8
      | some sig =>
        let k := s.core c
        if 4 ≤ k.queue.length then s
        else
          let ra := (k.ringAt a.sa.toNat).getD 0
          let lc := s.lcoreOf c
          let p := (s.partOfCore c).getD 255
          let t : Tile :=
            { op := op, ctx := x, fmt := a.fmt, cls := a.cls, acc := a.acc, ofmt := a.ofmt, sig := sig, mc := a.mc
              m := a.m, k := a.k, n := a.n, ra := ra, rw := (k.ringAt a.sw.toNat).getD 0, sc := a.sc.toNat
              sx := a.sx.toNat, truss := a.rt.toNat, key := a.rk, keep := a.writes op, mode := v.mode, index := v.index
              off := pc - v.base.toNat, lcore := lc, epoch := match lc with | some l => s.cepoch p l | none => 0#8 }
          let s1 := s.setCore c { k with queue := k.queue ++ [t] }
          (if op == .ag then s1.addAg c a ra else s1).tileIssued c x

/-- MMUL (R160-R163). -/
def execMmul (core : CoreAddr) (s : State) : Host.Outcome State Fault Refusal := .next (s.tile core.toNat 0x30 .mmul)
/-- MMUL.RS: rows leave for reduce-scatter (R163). -/
def execMmulRs (core : CoreAddr) (s : State) : Host.Outcome State Fault Refusal := .next (s.tile core.toNat 0x31 .rs)
/-- MMUL.AG: activations are gathered (R163). -/
def execMmulAg (core : CoreAddr) (s : State) : Host.Outcome State Fault Refusal := .next (s.tile core.toNat 0x32 .ag)
/-- MMUL.AR: rows leave for all-reduce (R163). -/
def execMmulAr (core : CoreAddr) (s : State) : Host.Outcome State Fault Refusal := .next (s.tile core.toNat 0x33 .ar)

/-- Word 0 of an XFER or a CSEND (R164, R165). `sig_peg` needs no `sig_en` here. -/
def xferLegal0 (w : Word) : Bool := wbits w 25 19 == 0 && wbits w 7 0 == 0

/-- CSEND (R161, R165, R167). -/
def execCsend (core : CoreAddr) (s : State) : Host.Outcome State Fault Refusal :=
  .next (
    let c := core.toNat
    s.issueLong c 0x39 xferLegal0
      (fun _ ws => wbits ws.1 31 20 == 0 && ws.2.1 == 0#32 && ws.2.2 == 0#32) fun s x w0 ws =>
      let v := s.ctx c x
      let pc := v.pc.toNat
      let r (lo : Nat) : Word := v.sreg (BitVec.ofNat 5 (wbits ws.1 (lo + 4) lo))
      let rt := r 0
      let rs := r 5
      let rl := r 10
      if !(decide (rt.toNat < 4096) && spadBaseOk rs && rl.toNat % 64 == 0 && decide (64 ≤ rl.toNat) &&
          decide (rs.toNat + rl.toNat ≤ 65536)) then s.illegal c x pc 4
      else
        match s.partOfCore c with
        | none => s.illegal c x pc 5
        | some p =>
          match s.trussAt p rt.toNat with
          | none => s.illegal c x pc 5
          | some t =>
            if (s.memberOf p c t).isNone then s.illegal c x pc 5
            else
              match s.sigPeg c x w0 with
              | none => s.faultCtx c x 0x02#8
              | some sig =>
                if 8 ≤ (s.sendsOf c x).length then s
                else
                  let lc := s.lcoreOf c
                  let g : Csend :=
                    { id := s.nextId, core := c, ctx := x, part := p, lcore := lc
                      epoch := match lc with | some l => s.cepoch p l | none => 0#8
                      truss := rt.toNat, base := rs.toNat, len := rl.toNat, key := r 15, sig := sig }
                  { s with sends := s.sends ++ [g], nextId := s.nextId + 1 }.setCtx c x (v.next16 s.plumb))

/-! ### Reading lines (R45, R227) -/

def Tile.lfmt (t : Tile) : Nat := if t.fmt = 2 then 2 + t.cls else t.fmt
def Tile.ffmt (t : Tile) : FFmt := if t.fmt = 0 then .bf16 else .fp16
def Tile.denorm (t : Tile) : Bool := t.mode.getLsbD 0
def Tile.nanTrap (t : Tile) : Bool := t.mode.getLsbD 1
/-- Bent cycles per array step (R40). -/
def Tile.cycles (t : Tile) : Nat := if t.fmt = 1 then 2 else 1
def Tile.fused (t : Tile) : Bool := t.op == .rs || t.op == .ar

/-- The shape of a tile instruction on its core. -/
def State.shapeOf (s : State) (c : Nat) (t : Tile) : Shape := ⟨t.mc, t.m, t.k, t.n, kdepth t.fmt t.cls, s.nwidth c⟩

/-- The array reads the next line of a ring, under the line format of its instruction; `none` while it is not yet
written (R45, R227). -/
def State.ringRead (s : State) (c ring lf : Nat) : Option (State × Line) :=
  let k := s.core c
  let g := k.rings.getD ring {}
  if g.prod = g.cons then none
  else
    let o := g.base + g.rslot * lineBytes g.lfmt
    let l : Line :=
      { data := (List.range (lineBytes lf)).map fun i => s.byte (spadAddr c ((o + i) % 65536))
        side := (aget k.side (o / 16)).getD 0#8
        poison := k.slotPoison.contains (o / 16) }
    let g' := { g with cons := g.cons + 1#32, rslot := (g.rslot + 1) % g.lines }
    some (s.setCore c { k with rings := k.rings.setIfInBounds ring g' }, l)

/-! ### One row of one pass -/

/-- What the columns of the array give for a row: the outputs of the active columns, flags, and the three values of the
square: pass, fail, or skip. -/
inductive Sq
  | pass | fail | skip
  deriving DecidableEq, Repr

structure RowOut where
  outs : List Word
  flags : FpFlags
  sq : Sq
  deriving DecidableEq, Repr

/-- The physical column of logical column j (R66). -/
def State.physCol (s : State) (c j : Nat) : Nat :=
  let (cls, bad) := s.coreClass c
  if cls = 2 then
    (if s.fullUnchecked c then (if j = bad then 16 else j) else if j < bad then j else j + 1)
  else j

/-- Bits that a physical error inverts in the output of a physical column. -/
def flipOf (errs : List ArrayFault) (col : Nat) : Word :=
  errs.foldl (fun w e => match e with | .output k f => if k = col then w ^^^ f else w | .adder _ => w) 0#32

/-- A column of cells (R41, R82): the sum over the rows, from −0.0. -/
def columnSum (as ws : List FV) : Word × FpFlags :=
  (as.zip ws).foldl (fun r e => let (w, f) := cell e.1 e.2 r.1; (w, r.2 ||| f)) (negZero32, fNone)

/-- The FP32 sum of values in order, from −0.0 (R47, R60). -/
def sumWords (l : List Word) : Word := l.foldl (fun a w => (addFp32 a w).1) negZero32

def FV.abs : FV → FV
  | .nan => .nan
  | .inf _ => .inf false
  | .fin _ m e => .fin false m e

/-- A floating-point value that a format holds, as an FP32 word (exact). -/
def FFmt.widen (f : FFmt) (w : Nat) : Word := BitVec.ofNat 32 (convertEnc f .fp32 w).1

/-- Row of a pass on the BF16 and FP16 paths (R41, R47, R60, R82-R95). `al`: the sixteen lines that carry the row's
lanes; `wl`: the weight lines of the pass. -/
def rowFloat (f : FFmt) (dn : Bool) (depth cols : Nat) (al wl : List Line) (phys : Nat → Nat) (checked : Bool)
    (errs : List ArrayFault) : RowOut :=
  let en (l : Line) (k : Nat) : Nat × FpFlags := f.entry dn (l.lane 2 k)
  let ks := List.range depth
  let a := ks.map fun k => en (al.getD k ⟨[], 0#8, false⟩) k
  let w (j : Nat) : List (Nat × FpFlags) := ks.map fun k => en (wl.getD k ⟨[], 0#8, false⟩) j
  let av := a.map fun x => f.decode x.1
  let js := List.range cols
  let res := js.map fun j => columnSum av ((w j).map fun x => f.decode x.1)
  let outs := (js.zip res).map fun x => x.2.1 ^^^ flipOf errs (phys x.1)
  let fl := (a ++ js.flatMap w).foldl (fun r x => r ||| x.2) (res.foldl (fun r x => r ||| x.2) fNone)
  let wk (k : Nat) : List Word := js.map fun j => f.widen (en (wl.getD k ⟨[], 0#8, false⟩) j).1
  let ck := ks.map fun k => fv32 (sumWords (wk k))
  let gk := ks.map fun k => fv32 (sumWords ((wk k).map fun w => w &&& 0x7FFFFFFF#32))
  let C := (columnSum av ck).1 ^^^ flipOf errs 16
  let A := (columnSum (av.map FV.abs) gk).1
  let D := sumWords outs
  let sq :=
    if !checked then Sq.pass
    else if (C :: A :: D :: outs).any notFinite32 then .skip
    else if squarePass C D A then .pass else .fail
  { outs := outs, flags := fl, sq := sq }

/-- The integers of a lane (R58, R59); elements at or beyond K are masked. -/
def laneInts (cls K p k : Nat) (v : Nat) : List Int :=
  let g := clsG cls
  let b := clsB cls
  (List.range g).map fun i => if p * (16 * g) + k * g + i < K then qOf b (v / 2 ^ (i * b) % 2 ^ b) else 0

def dotInt (a b : List Int) : Int := (a.zip b).foldl (fun t e => t + e.1 * e.2) 0

/-- Row of a pass on the Lath path (R58, R59, R61, R130-R133): integer column sums, the 40-bit check, the scales. -/
def rowLath (cls K p cols : Nat) (al wl : List Line) (phys : Nat → Nat) (checked : Bool)
    (errs : List ArrayFault) : RowOut :=
  let nil : Line := ⟨[], 0#8, false⟩
  let lb := laneBytes (2 + cls)
  let ks := List.range 16
  let js := List.range cols
  let a := ks.map fun k => laneInts cls K p k ((al.getD k nil).lane lb k)
  let w (j : Nat) : List (List Int) := ks.map fun k => laneInts cls K p k ((wl.getD k nil).lane lb j)
  let sums := js.map fun j =>
    (BitVec.ofInt 32 ((a.zip (w j)).foldl (fun t e => t + dotInt e.1 e.2) 0) ^^^ flipOf errs (phys j)).toInt
  let c := ks.map fun k => js.foldl (fun t j =>
    (t.zip ((w j).getD k [])).map fun e => e.1 + e.2) (List.replicate (clsG cls) (0 : Int))
  let chk := (a.zip c).foldl (fun t e => t + dotInt e.1 e.2) 0 + (flipOf errs 16).toInt
  let ua := (al.getD 0 nil).side.toNat
  let res := (js.zip sums).map fun x =>
    if x.2 = 0 then (0#32, fNone)
    else rneFp32 (decide (x.2 < 0)) x.2.natAbs ((ua : Int) + ((wl.getD x.1 nil).side.toNat : Int) - 254)
  { outs := res.map (·.1)
    flags := res.foldl (fun r x => r ||| x.2) fNone
    sq := if !checked || BitVec.ofInt 40 chk == BitVec.ofInt 40 (sums.foldl (· + ·) 0) then .pass else .fail }

/-! ### The square's records (R63, R77, R78) -/

/-- A square mismatch is recorded, counted and reported; of two in one cycle the lower context's is recorded; the core
becomes suspect (R63, R64, R394, R443, R558). -/
def State.sqMismatch (s : State) (c : Nat) (t : Tile) (src row npass kpass : Nat) : State :=
  let s1 := s.count .coreSqMismatchCnt c 1
  let where_ : Word := BitVec.ofNat 32 (row + npass * 2 ^ 12 + kpass * 2 ^ 21)
  let s2 := s1.latchBy false ⟨.coreSqStatus, c, 0⟩ t.ctx (BitVec.ofNat 32 (src * 2 + t.ctx * 4)) [(⟨.coreSqWhere, c, 0⟩, where_)]
  let p := (s2.partOfCore c).getD 255
  ((s2.event (coreDie c) (domOfBent (bentOf c)) 0x0104 p (srcCore c t.ctx) where_.toNat src).cause p 3).suspect 1 c

/-! ### The fold (R49, R53, R54, R57, R62-R64, R91) -/

/-- The entries of a bank with a row replaced. -/
def Bank.setRow (b : Bank) (r : Nat) (l : List (Word × Bool)) : Bank := { b with ent := b.ent.set r l }

/-- A line of which nothing was read. -/
def Line.nil : Line := ⟨[], 0#8, false⟩

/-- The sixteen lines that carry stream row `i`: lane k stands in line i + k of the N pass, past its end in line
i + k − S of the lines that follow (R43). -/
def rowLines (cur next : List Line) (S i : Nat) : List Line :=
  (List.range 16).map fun k => if i + k < S then cur.getD (i + k) .nil else next.getD (i + k - S) .nil

/-- Is the bank that of an N pass of the current chunk, still filling? -/
def Run.fills (r : Run) (q : Nat) (b : Bank) : Bool := b.chunk == r.chunk && b.npass == q && !b.full

/-- Fold stream row `i` of N pass `q` into its bank; `al` are the lines of its lanes, `wl0` the weight lines of the N pass.
Poison suppresses no flag and does not stop a compare of clean lines. (DESIGN CHOICE, log 98). -/
def State.foldRow (s : State) (c : Nat) (r : Run) (q i : Nat) (al wl0 : List Line) (errs : List ArrayFault) :
    State × Run :=
  let t := r.tile
  let h := s.shapeOf c t
  let p := i / h.padded r.chunk
  let rr := i % h.padded r.chunk
  let checked := !(s.fullUnchecked c)
  let cols := h.cols q
  if h.rows r.chunk ≤ rr then ((if checked then s.count .coreSqSkipCnt c 1 else s), r)
  else
    let wl := (List.range 16).map fun k => wl0.getD (p * 16 + k) .nil
    let bad := (al ++ wl).any (·.poison)
    let depth := min 16 (t.k - p * 16)
    let o :=
      if t.fmt = 2 then rowLath t.cls t.k p cols al wl (s.physCol c) checked errs
      else rowFloat t.ffmt t.denorm depth cols al wl (s.physCol c) checked errs
    match r.banks.find? (r.fills q) with
    | none => (s, r)
    | some b =>
      let old := b.ent.getD rr []
      let adder (j : Nat) : Bool := errs.any fun e => e == .adder j
      let fail := !bad && o.sq == .fail
      let res := (List.range cols).map fun j =>
        let e := old.getD j (negZero32, false)
        let (w, f) := addFp32 e.1 (o.outs.getD j 0#32)
        ((w, e.2 || bad || fail || adder j), f)
      let fl := res.foldl (fun x y => x ||| y.2) o.flags
      let s1 := if checked && (bad || o.sq == .skip) then s.count .coreSqSkipCnt c 1 else s
      let row := r.chunk * t.mc + rr
      let s2 := if fail then s1.sqMismatch c t 0 row q p else s1
      let s3 := (List.range cols).foldl (fun s j => if adder j then s.sqMismatch c t 1 row q p else s) s2
      (s3, { r with banks := r.banks.map fun x => if r.fills q x then x.setRow rr (res.map (·.1)) else x
                    flags := r.flags ||| fl })

/-- Stream row `i` of N pass `q` leaves the array and is folded; with the last row of the N pass its bank is full. -/
def State.rowLeaves (s : State) (c : Nat) (r : Run) (q i : Nat) (al wl : List Line) (errs : List ArrayFault) :
    State × Run :=
  let (s1, r1) := s.foldRow c r q i al wl errs
  if i + 1 = (s.shapeOf c r.tile).streamRows r.chunk
  then (s1, { r1 with banks := r1.banks.map fun b => if r1.fills q b then { b with full := true } else b })
  else (s1, r1)

/-! ### Banks (R49, R53, R55) -/

/-- The initial value of an element: −0.0, or the accumulator element under the entry rule (R49, R94). -/
def State.initElem (s : State) (c : Nat) (t : Tile) (m n : Nat) : (Word × Bool) × FpFlags :=
  if !t.acc then ((negZero32, false), fNone)
  else
    let l := s.pbytes (spadAddr c (t.sx + (m * t.n + n) * 4)) 4
    let (w, f) := FFmt.fp32.entry t.denorm (leNat (dataOf l))
    ((BitVec.ofNat 32 w, anyPoison l), f)

/-- A new bank for a chunk and an N pass, preloaded, and the flags of the preload. -/
def State.newBank (s : State) (c : Nat) (t : Tile) (chunk npass : Nat) : Bank × FpFlags :=
  let h := s.shapeOf c t
  let es := (List.range (h.rows chunk)).map fun r => (List.range (h.cols npass)).map fun j =>
    s.initElem c t (chunk * t.mc + r) (npass * h.w + j)
  ({ chunk := chunk, npass := npass, rows := h.rows chunk, cols := h.cols npass, ent := es.map fun l => l.map (·.1)
     full := false, drained := 0 },
   es.foldl (fun f l => l.foldl (fun f e => f ||| e.2) f) fNone)

/-- Banks in use on a core. -/
def Core.banksUsed (k : Core) : Nat :=
  (k.tail.map fun r => r.banks.length).foldl (· + ·) (match k.run with | some r => r.banks.length | none => 0)

/-- The output range of an instruction that writes a tile, and its accumulator range (R162). -/
def Tile.outRange (t : Tile) : Nat × Nat := (t.sc, t.sc + t.m * t.n * esize t.ofmt)
def Tile.accRange (t : Tile) : Nat × Nat := (t.sx, t.sx + t.m * t.n * 4)

/-- Does the accumulator range of an instruction overlap the output of an earlier incomplete instruction of its context
(R168)? -/
def Core.accBusy (k : Core) (t : Tile) : Bool :=
  t.acc && k.tail.any fun r => r.tile.ctx == t.ctx && r.tile.keep &&
    decide (r.tile.outRange.1 < t.accRange.2 ∧ t.accRange.1 < r.tile.outRange.2)

/-! ### The array -/

/-- The cause that holds the drain (R53): that of the instruction whose rows are next to drain, collective for a fused
send, memory for the scratchpad. -/
def Core.drainCause (k : Core) : Nat :=
  match k.tail ++ k.run.toList with
  | r :: _ => if r.tile.fused then 1 else 2
  | [] => 2

/-- TILE_START (R70, R168): the array takes the oldest queued tile instruction once it is free. (DEDUCED, log 2). -/
def execTileStart (core : CoreAddr) (s : State) : Host.Outcome State Fault Refusal :=
  let c := core.toNat
  let k := s.core c
  .next (if !(s.clocked c) || k.run.isSome then s
    else
      match k.queue with
      | [] => s
      | t :: q =>
        if k.accBusy t then s.idle c 2 1
        else s.setCore c { k with queue := q, run := some { tile := t, lastLine := s.plumb } })

/-- Weight rows that the step at line `t` of an N pass takes: the row one step ahead of its pass (R46). -/
def Shape.weightDue (h : Shape) (chunk npass t : Nat) : Bool :=
  let M := h.padded chunk
  let j := t % M
  if j + 1 = M then decide (t + 1 < h.streamRows chunk ∨ npass + 1 < h.npasses) || decide (j + 1 < 16)
  else decide (j + 1 < 16)

/-- The first step of a chunk: weight row 0 of its first pass enters (R42, R46). -/
def State.arrayFirst (s : State) (c : Nat) (r : Run) : State :=
  match s.ringRead c r.tile.rw r.tile.lfmt with
  | none => s.idle c 2 r.tile.cycles
  | some (s1, w) =>
    s1.setCore c { s1.core c with run := some { r with pre := true, wl := [w], lastLine := s.plumb } }

/-- A tile instruction of a reset context ends (R426): banks whose drain began finish it, the others are dropped. -/
def Run.cut (r : Run) : Run :=
  { r with stopped := true, banks := r.banks.filter fun b => b.full && decide (0 < b.drained) }

/-- The instruction leaves the array; one that a reset stopped is cut. -/
def Core.offArray (k : Core) (r : Run) : Core :=
  { k with run := none, tail := k.tail ++ [if r.stopped then r.cut else r] }

/-- After the last line of an N pass: the next N pass, whose first lines still carry the last rows of this one (R43), or the
steps that close the chunk (R44). `w`: the weight row of the next N pass that came with the line (R46). -/
def State.passEnd (s : State) (c : Nat) (r : Run) (w : Option Line) : State :=
  let h := s.shapeOf c r.tile
  let k := s.core c
  if r.stopped then s.setCore c (k.offArray r)
  else if r.npass + 1 < h.npasses then
    s.setCore c { k with run := some { r with npass := r.npass + 1, t := 0, pal := r.al, pwl := r.wl, al := [], wl := w.toList } }
  else s.setCore c { k with run := some { r with t := 0, close := true } }

/-- Does line `j` of an N pass carry an element of an active row: its own lanes up to j, and the lanes above of the N pass
before it, masked in the first (R43, R44, R79)? (DEDUCED, log 99). -/
def Shape.lineActive (h : Shape) (chunk j : Nat) (own before : Bool) : Bool :=
  (List.range 16).any fun k =>
    if k ≤ j then own && decide ((j - k) % h.padded chunk < h.rows chunk)
    else before && decide ((h.streamRows chunk + j - k) % h.padded chunk < h.rows chunk)

/-- The array counts the bent cycles of a step as busy (R40, R79). -/
def State.busy (s : State) (c : Nat) (t : Tile) : State := s.count64 .coreArrayBusyLo .coreArrayBusyHi c t.cycles

/-- The step at activation line `r.t` (R42, R43, R45, R46): the row whose last lane it carries leaves the array. (DESIGN
CHOICE, log 4; DEDUCED, log 18). -/
def State.arrayLine (s : State) (c : Nat) (r : Run) (errs : List ArrayFault) : State :=
  let t := r.tile
  let h := s.shapeOf c t
  let S := h.streamRows r.chunk
  if r.t = 0 ∧ 2 ≤ (s.core c).banksUsed then s.idle c (s.core c).drainCause t.cycles
  else
    match s.ringRead c t.ra t.lfmt with
    | none => s.idle c 2 t.cycles
    | some (s1, a) =>
      let due := h.weightDue r.chunk r.npass r.t
      let wr := if due then s1.ringRead c t.rw t.lfmt else some (s1, a)
      match wr with
      | none => s.idle c 2 t.cycles
      | some (s2, w) =>
        let (bk, fl) := if r.t = 0 then (let (b, f) := s.newBank c t r.chunk r.npass; ([b], f)) else ([], fNone)
        let last := decide (r.t + 1 = S)
        let r1 : Run := { r with al := r.al ++ [a], wl := if due && !last then r.wl ++ [w] else r.wl
                                 banks := r.banks ++ bk, flags := r.flags ||| fl, lastLine := s.plumb }
        let s3 := if h.lineActive r.chunk r.t true (r.npass != 0) then s2.busy c t else s2
        let (s4, r2) :=
          if 15 ≤ r.t then s3.rowLeaves c r1 r.npass (r.t - 15) (rowLines r1.al [] S (r.t - 15)) r1.wl errs
          else if r.npass ≠ 0 then
            s3.rowLeaves c r1 (r.npass - 1) (S + r.t - 15) (rowLines r1.pal r1.al S (S + r.t - 15)) r1.pwl errs
          else (s3, r1)
        if last then s4.passEnd c r2 (if due then some w else none)
        else if r.stopped && (r.t + 1) % h.padded r.chunk == 0 then s4.setCore c ((s4.core c).offArray r2)
        else s4.setCore c { s4.core c with run := some { r2 with t := r.t + 1 } }

/-- A step that closes a chunk (R44): no line is read; the last rows take their last lanes from the lines of the chunk's last
N pass. (DESIGN CHOICE, log 99). -/
def State.arrayClose (s : State) (c : Nat) (r : Run) (errs : List ArrayFault) : State :=
  let t := r.tile
  let h := s.shapeOf c t
  let S := h.streamRows r.chunk
  let i := S + r.t - 15
  let s1 := if h.lineActive r.chunk r.t false true then s.busy c t else s
  let (s2, r1) := s1.rowLeaves c { r with lastLine := s.plumb } r.npass i (rowLines r.al r.al S i) r.wl errs
  let k := s2.core c
  if r.stopped then s2.setCore c (k.offArray r1)
  else if r.t < 14 then s2.setCore c { k with run := some { r1 with t := r.t + 1 } }
  else
    let r2 := { r1 with t := 0, al := [], wl := [], pal := [], pwl := [], close := false }
    if r.chunk + 1 < h.chunks then
      s2.setCore c { k with run := some { r2 with npass := 0, chunk := r.chunk + 1, pre := false } }
    else s2.setCore c (k.offArray r2)

/-- ARRAY_LINE_READ (R41-R46, R53-R64, R227): one array step. A line or a bank that is missing stalls the step, counted
as idle; a physical error strikes the row that leaves the array in the step. -/
def execArrayLineRead (core : CoreAddr) (errs : List ArrayFault) (s : State) : Host.Outcome State Fault Refusal :=
  let c := core.toNat
  .next (if !(s.clocked c) then s
    else
      match (s.core c).run with
      | none => s
      | some r => if r.close then s.arrayClose c r errs else if r.pre then s.arrayLine c r errs else s.arrayFirst c r)

/-! ### The drain (R53, R55, R56, R94, R96, R105-R107) -/

/-- The instruction whose rows are next to drain, the oldest that is not complete, and its oldest bank, when that is full.
No row of a later instruction leaves before it is complete (R106). -/
def Core.oldestFull (k : Core) : Option (Run × Bank) :=
  match k.tail ++ k.run.toList with
  | r :: _ => match r.banks with
    | b :: _ => if b.full && decide (b.drained < b.rows) then some (r, b) else none
    | [] => none
  | [] => none

/-- Put the oldest instruction back. -/
def Core.putOldest (k : Core) (r : Run) : Core :=
  match k.tail with
  | _ :: l => { k with tail := r :: l }
  | [] => { k with run := some r }

/-- A drained element: the encoding in the output format, its poison, its flags, those of a poisoned one too. (DESIGN
CHOICE, log 98). -/
def drainElem (t : Tile) (e : Word × Bool) : (Nat × Bool) × FpFlags :=
  let (w, f) := drainConvert (fmtOf t.ofmt) t.denorm e.1
  ((w, e.2), f)

/-- The trap record of the first NaN an instruction writes; of two in one cycle the lower context's (R105-R108, R111, R112). -/
def State.nanLatch (s : State) (c : Nat) (t : Tile) (b : Bank) (row col : Nat) : State :=
  s.latchBy true ⟨.coreNanStatus, c, 0⟩ t.ctx (BitVec.ofNat 32 (t.ctx * 4))
    [(⟨.coreNanOffset, c, 0⟩, BitVec.ofNat 32 t.off), (⟨.coreNanIndex, c, 0⟩, t.index),
     (⟨.coreNanTile, c, 0⟩, BitVec.ofNat 32 (b.chunk + b.npass * 2 ^ 12)),
     (⟨.coreNanElem, c, 0⟩, BitVec.ofNat 32 (row + col * 2 ^ 12))]

/-- The supply of a drained row: element key + m × ld + n (R272), widened exactly. -/
def State.rowSupply (s : State) (c : Nat) (t : Tile) (m n0 : Nat) (enc : List (Nat × Bool)) : State :=
  let p := (s.partOfCore c).getD 255
  let ld := match s.trussAt p t.truss with | some u => u.rowLen | none => 0
  let u : Supply :=
    { ctx := t.ctx, part := p, truss := t.truss, lcore := t.lcore, epoch := t.epoch
      elems := (List.range enc.length).map fun j =>
        let e := enc.getD j (0, false)
        (t.key.toNat + m * ld + n0 + j, ((fmtOf t.ofmt).widen e.1, e.2)) }
  { s with supplies := aset s.supplies c u }

/-- ROW_DRAIN (R53-R56, R94, R96, R101, R105, R106): one row of the oldest full bank leaves; a row of a fused send
waits while the row before it has not been accepted. -/
def execRowDrain (core : CoreAddr) (s : State) : Host.Outcome State Fault Refusal :=
  let c := core.toNat
  let k := s.core c
  .next (if !(s.clocked c) then s
    else
      match k.oldestFull with
      | none => s
      | some (r, b) =>
        let t := r.tile
        if t.fused && (aget s.supplies c).isSome then s
        else
          let row := b.chunk * t.mc + b.drained
          let n0 := b.npass * s.nwidth c
          let es := b.ent.getD b.drained []
          let out := es.map (drainElem t)
          let nanAt := es.findIdx? fun e => e.1 == nan32 && !e.2
          let trap := t.nanTrap && nanAt.isSome && !r.trapped
          let s1 := if trap then s.nanLatch c t b row (n0 + nanAt.getD 0) else s
          let sz := esize t.ofmt
          let bytes : List PByte := out.flatMap fun e => (leBytes sz e.1.1).map fun x => (x, e.1.2)
          let s2 := if t.keep then s1.pokeP (spadAddr c (t.sc + (row * t.n + n0) * sz)) bytes else s1
          let s3 := if t.fused then s2.rowSupply c t row n0 (out.map (·.1)) else s2
          let b' := { b with drained := b.drained + 1 }
          let banks := if b'.drained = b'.rows then r.banks.tail else b' :: r.banks.tail
          s3.setCore c ((s3.core c).putOldest
            { r with banks := banks, flags := out.foldl (fun f e => f ||| e.2) r.flags, trapped := r.trapped || trap }))

/-! ### Completion (R98, R106, R108, R166, R176) -/

/-- Later instructions of a context leave the array and the sum buffer with no result (R106). -/
def Core.dropRuns (k : Core) (x : Nat) : Core :=
  { k with run := k.run.filter (fun r => r.tile.ctx != x), tail := k.tail.filter fun r => r.tile.ctx != x }

/-- What a context does when its instruction is complete: the NaN trap, else the stop-after marker (R106, R108, R176). -/
def State.tileEnd (s : State) (c : Nat) (r : Run) : State :=
  let t := r.tile
  let p := (s.partOfCore c).getD 255
  let v := s.ctx c t.ctx
  if r.trapped then
    ((s.setCore c ((s.core c).dropRuns t.ctx)).event (coreDie c) (domOfBent (bentOf c)) 0x0103 p (srcCore c t.ctx)
      t.off t.index.toNat).faultCtx c t.ctx 0x01#8
  else if v.st == .waiting && v.wait == .held t.index then
    ((s.setCtx c t.ctx { v with st := .stopped, cause := 0x06#8, wait := .none }).event (coreDie c)
      (domOfBent (bentOf c)) 0x0101 p (srcCore c t.ctx) 0x06 t.index.toNat).cause p 2
  else s

/-- TILE_COMPLETE (R98, R106, R166, R176, R426): the oldest instruction whose rows are all drained and accepted
completes; one that a reset ended leaves without flags or signal. -/
def execTileComplete (core : CoreAddr) (s : State) : Host.Outcome State Fault Refusal :=
  let c := core.toNat
  let k := s.core c
  .next (if !(s.clocked c) then s
    else
      match k.tail with
      | [] => s
      | r :: rest =>
        let t := r.tile
        if !r.banks.isEmpty || (t.fused && (aget s.supplies c).isSome) then s
        else if r.stopped then s.setCore c { k with tail := rest }
        else
          let v := s.ctx c t.ctx
          let s1 := (s.setCore c { k with tail := rest }).setCtx c t.ctx { v with flags := v.flags ||| r.flags }
          (s1.signalDone c t.ctx t.lcore t.epoch t.sig).tileEnd c r)

end Sys2Proof.Machine
end

