-- ==== Sys2Proof/Machine/Loader.lean ====
section
/-! DEFINITION. The loader: transfers, stream rings, the table engine's GATHER, pool requests (04, 06, 07: R119-R144,
R164, R166, R167, R207-R215, R220-R232, R242-R245, R251, R252). -/
namespace Sys2Proof.Machine

/-! ### Rows -/

/-- One row of a transfer as the loader holds it: encodings of a floating-point format with poison, Lath blocks, or block
slots that move unchanged. -/
inductive RowData
  | enc (l : List (Nat × Bool))
  | blks (l : List Blk)
  | raw (l : List PByte)
  deriving DecidableEq, Repr

/-- Cut bytes into elements of a size. -/
def chop : Nat → Nat → List PByte → List (Nat × Bool)
  | 0, _, _ => []
  | n + 1, sz, l => (leNat (dataOf (l.take sz)), anyPoison (l.take sz)) :: chop n sz (l.drop sz)

/-- A slot as a block; bytes of the slot beyond the block are ignored, their marks too; bytes of a block beyond its slot are
free (R117, R127). (DESIGN CHOICE, log 17). -/
def slotBlk (nmax va : Nat) (l : List PByte) : Blk :=
  let beyond := (upto (slotBytes nmax) 34).map fun i => Config.lathBeyond va i
  let b := Blk.ofBytes (dataOf l ++ beyond) false
  { b with poison := anyPoison (l.take (2 + 4 * b.w)) }

def chopBlks (nmax : Nat) : Nat → Nat → List PByte → List Blk
  | 0, _, _ => []
  | n + 1, va, l => slotBlk nmax va (l.take (slotBytes nmax)) :: chopBlks nmax n (va + slotBytes nmax) (l.drop (slotBytes nmax))

/-- Read row `v` of a side (R224). `none`: a translation failed. -/
def State.readRow (s : State) (p base stride fmt : Nat) (kcol : Bool) (nmax len v hint : Nat) : Option (State × RowData) :=
  let r := (sideRanges base stride fmt kcol nmax len v).foldl (fun (r : Option (State × List PByte)) q =>
    match r with
    | none => none
    | some (s, acc) =>
      match s.vload p q.1 q.2 hint with
      | some (s', l) => some (s', acc ++ l)
      | none => none) (some (s, []))
  r.map fun e =>
    (e.1, if fmt = 3 then .blks (chopBlks nmax ((len + 31) / 32) (base + v * stride) e.2)
          else .enc (chop len (esize fmt) e.2))

/-- Encodings as bytes with their poison. -/
def encBytes (sz : Nat) (l : List (Nat × Bool)) : List PByte :=
  l.flatMap fun e => (leBytes sz e.1).map fun b => (b, e.2)

def blkBytes (nmax : Nat) (l : List Blk) : List PByte :=
  l.flatMap fun b => (b.bytes nmax).map fun x => (x, b.poison)

/-! ### Conversion of a row (R101, R103, R121-R127, R134-R137, R223, R230) -/

/-- The values of a floating-point row after the entry rule. -/
def entryRow (f : FFmt) (dn : Bool) (l : List (Nat × Bool)) : List FV × FpFlags :=
  let r := l.map fun e => f.entry dn e.1
  (r.map fun e => f.decode e.1, ((l.zip r).filter fun e => !e.1.2).foldl (fun a e => a ||| e.2.2) fNone)

/-- Exact values rounded once to a format, with the exit rule where R103 gives it: a dequantised BF16 or FP16 value is
flushed at exit, an FP32 one is not. (DESIGN CHOICE, log 101). -/
def roundRow (src dst : FFmt) (dn : Bool) (xs : List FV) (pz : List Bool) : List (Nat × Bool) × FpFlags :=
  let r := (xs.zip pz).map fun e =>
    let (w, f) := dst.roundFV e.1
    let (w2, f2) := if src ≠ FFmt.fp32 ∧ dst = FFmt.fp32 then (w, fNone) else dst.exit dn w
    ((w2, e.2), if e.2 then fNone else f ||| f2)
  (r.map (·.1), r.foldl (fun a e => a ||| e.2) fNone)

/-- Flags of an entry rule without the NaN's invalid, which the planer or the quantiser raises itself. -/
def noInvalid (f : FpFlags) : FpFlags := f &&& ~~~fInvalid

/-- What a row becomes: the new row, its flags, its clamps. `len`: elements of the row. -/
def convertRow (d : Desc) (dn : Bool) (len : Nat) (x : RowData) : RowData × FpFlags × Nat :=
  match x with
  | .raw l => (.raw l, fNone, 0)
  | .blks bs =>
    if d.dfmt = 3 then (.blks bs, fNone, 0)
    else
      let xs := (bs.flatMap Blk.vals).take len
      let pz := (bs.flatMap fun b => List.replicate 32 b.poison).take len
      let s := rotSize d.lf.rot
      let ys := if s = 0 then xs else byGroups s d.lf.kbase (fun g0 v => unrotateGroup s g0 d.lf.seed d.lf.role v) xs
      let qs := if s = 0 then pz else spreadPoison s pz
      let (r, f) := roundRow .bf16 (fmtOf d.dfmt) dn ys qs
      (.enc r, f, 0)
  | .enc l =>
    let src := fmtOf d.sfmt
    if d.dfmt = 3 then
      let (xs, f0) := entryRow src dn l
      let (ys, pz, _) := planer d.lf xs (l.map (·.2))
      let (bs, f, n) := quantVec d.lf ys pz
      let nan := (xs.zip l).any fun e => e.1.isNan && !e.2.2
      (.blks bs, noInvalid f0 ||| f ||| (if nan then fInvalid else fNone), n)
    else if d.lf.rot = 0 then
      if d.sfmt = d.dfmt then (.enc l, fNone, 0)
      else
        let r := l.map fun e => (loaderConvert src (fmtOf d.dfmt) dn e.1, e.2)
        (.enc (r.map fun e => (e.1.1, e.2)), (r.filter fun e => !e.2).foldl (fun a e => a ||| e.1.2) fNone, 0)
    else
      let (xs, f0) := if d.sfmt = 0 then (l.map fun e => src.decode e.1, fNone) else entryRow src dn l
      let (ys, pz, fp) := planer d.lf xs (l.map (·.2))
      let (r, f) := roundRow src (fmtOf d.dfmt) dn ys pz
      (.enc r, f0 ||| fp ||| f, 0)

/-! ### The begin of a transfer (R220, R222, R223, R225) -/

/-- A transfer in work: the state, its flags, whether a translation failed. -/
structure Work where
  s : State
  flags : FpFlags := 0#5
  bad : Bool := false

/-- The loader's counters: bytes written, clamps. -/
def State.ldrCount (s : State) (c bytes clamps : Nat) : State :=
  (s.count64 .ldrBytesLo .ldrBytesHi (bayOf c) bytes).count .ldrLathClampCnt (bayOf c) clamps

/-- The loader of a core's bay writes a virtual range and counts the bytes that it wrote; a failed translation ends the work
(R225, R255). -/
def Work.put (w : Work) (x : Xfer) (va hint : Nat) (l : List PByte) : Work :=
  if w.bad then w
  else
    let (s1, ok) := w.s.vstore x.part va hint l
    { w with s := s1.ldrCount x.core (if ok then l.length else w.s.vdone x.part va l.length) 0, bad := !ok }

/-- Write row `v` of a side (R224). -/
def Work.putRow (w : Work) (x : Xfer) (base stride fmt : Nat) (kcol : Bool) (nmax v hint : Nat) : RowData → Work
  | .raw l => w.put x (base + v * stride) hint l
  | .blks l => w.put x (base + v * stride) hint (blkBytes nmax l)
  | .enc l =>
    if kcol then ((List.range l.length).zip l).foldl (fun w e =>
      w.put x (base + e.1 * stride + v * esize fmt) hint (encBytes (esize fmt) [e.2])) w
    else w.put x (base + v * stride) hint (encBytes (esize fmt) l)

/-- The reads of row `v` of a side are latency class where the transfer says so (R246, R258). -/
def State.latRow (s : State) (lat : Bool) (p base stride fmt : Nat) (kcol : Bool) (nmax len v : Nat) : State :=
  if lat then (sideRanges base stride fmt kcol nmax len v).foldl (fun s q => s.latRange p q.1 q.2) s else s

/-- The bytes of the slots of vector `v` of a Lath side. -/
def State.slotRow (s : State) (p base stride nmax len v hint : Nat) : Option (State × List PByte) :=
  s.vload p (base + v * stride) ((len + 31) / 32 * slotBytes nmax) hint

/-- Row `v` of the source of a transfer: between two Lath sides the slots move unchanged (R223). -/
def State.srcRow (s : State) (x : Xfer) (d : Desc) (kcol : Bool) (v : Nat) : Option (State × RowData) :=
  let s0 := s.latRow d.lat x.part d.src d.sstride d.sfmt kcol d.lf.nmax d.cols v
  if d.kind = 1 ∧ d.sfmt = 3 ∧ d.dfmt = 3
  then (s0.slotRow x.part d.src d.sstride d.lf.nmax d.cols v d.shint).map fun e => (e.1, .raw e.2)
  else s0.readRow x.part d.src d.sstride d.sfmt kcol d.lf.nmax d.cols v d.shint

/-- One row of a COPY. (DEDUCED, log 16). -/
def Work.copyRow (w : Work) (x : Xfer) (d : Desc) (v : Nat) : Work :=
  if w.bad then w
  else
    match w.s.srcRow x d d.kcol v with
    | none => { w with bad := true }
    | some (s1, row) =>
      let (r, f, n) := convertRow d (x.mode.getLsbD 0) d.cols row
      Work.putRow { s := s1.ldrCount x.core 0 n, flags := w.flags ||| f } x d.dst d.dstride d.dfmt d.kcol d.lf.nmax v d.dhint r

/-- One row of a FILL (R222): `cols` bytes of the pattern. -/
def Work.fillRow (w : Work) (x : Xfer) (d : Desc) (v : Nat) : Work :=
  let pat := leBytes 4 (d.seed % 2 ^ 32)
  w.put x (d.dst + v * d.dstride) d.dhint (clean ((List.range (d.cols / 4)).flatMap fun _ => pat))

/-- One vector of a REQUANT (R141): targets from the new weights, the old headers and the old kerf, quantised, the new
kerf, where the transfer names a plane. -/
def Work.requantRow (w : Work) (x : Xfer) (d : Desc) (v : Nat) : Work :=
  if w.bad then w
  else
    let nb := (d.cols + 31) / 32
    match w.s.srcRow x d d.kcol v with
    | some (s1, .enc l) =>
      match s1.slotRow x.part d.dst d.dstride d.lf.nmax d.cols v d.dhint with
      | none => { w with bad := true }
      | some (s2, ob) =>
        let kr := if d.aux = 0 then some (s2, clean (List.replicate (nb * 32) 0#8))
          else s2.vload x.part (d.aux + v * nb * 32) (nb * 32) d.dhint
        match kr with
        | none => { w with bad := true }
        | some (s3, kb) =>
          let (xs, f0) := entryRow (fmtOf d.sfmt) (x.mode.getLsbD 0) l
          let (ys, pz, _) := planer d.lf xs (l.map (·.2))
          let hd (i : Nat) : List PByte := (ob.drop (i / 32 * slotBytes d.lf.nmax)).take 2
          let uo (i : Nat) : Nat := leNat (dataOf ((hd i).take 1))
          let ts := ((List.range ys.length).zip ys).map fun e => kerfTarget e.2 (kerfOf (kb.getD e.1 (0#8, false)).1) (uo e.1)
          let tz := ((List.range pz.length).zip pz).map fun e => e.2 || anyPoison (hd e.1) || (kb.getD e.1 (0#8, false)).2
          let (bs, f, n) := quantVec d.lf ts tz
          let nk := (List.range (nb * 32)).map fun i =>
            match bs[i / 32]? with
            | some b =>
              if i < d.cols && !b.poison then
                ((kerfNew (ts.getD i (.fin false 0 0)) (b.q.getD (i % 32) 0) b.u), b.poison)
              else ((0#8, false), b.poison)
            | none => ((0#8, false), false)
          let sat := if d.aux = 0 then 0 else (nk.filter fun e => e.1.2).length
          let nan := (xs.zip l).any fun e => e.1.isNan && !e.2.2
          let w1 := Work.putRow { s := (s3.ldrCount x.core 0 n).count .ldrKerfSatCnt (bayOf x.core) sat
                                  flags := w.flags ||| noInvalid f0 ||| f ||| (if nan then fInvalid else fNone) }
            x d.dst d.dstride 3 false d.lf.nmax v d.dhint (.blks bs)
          if d.aux = 0 then w1
          else w1.put x (d.aux + v * nb * 32) d.dhint (nk.map fun e => (e.1.1, e.2))
    | _ => { w with bad := true }

/-- A work item carried with the vectors of a stream's source. -/
structure Prep where
  w : Work
  vecs : List Vec := []

/-- One vector of a stream's source: rows of A, or columns of W (R228, R229). -/
def Prep.vec (q : Prep) (x : Xfer) (d : Desc) (kcol : Bool) (v : Nat) : Prep :=
  if q.w.bad then q
  else
    match q.w.s.srcRow x d kcol v with
    | none => { q with w := { q.w with bad := true } }
    | some (s1, row) =>
      let (r, f, n) := convertRow d (x.mode.getLsbD 0) d.cols row
      let vec : Vec := match r with
        | .enc l => { enc := l }
        | .raw _ => {}
        | .blks l => { blks := l, va := d.src + v * d.sstride }
      { w := { q.w with s := s1.ldrCount x.core 0 n, flags := q.w.flags ||| f }, vecs := q.vecs ++ [vec] }

/-- A transfer that a failed translation ended faults its context: cause 0x03 where the walk met a poisoned page-table entry,
else 0x02 (R225, R253). -/
def State.endXfer (s : State) (x : Xfer) : State :=
  (s.dropXfer x.id).faultCtx x.core x.ctx (match s.checkDesc x.core x.part x.desc with | .poison => 0x03#8 | _ => 0x02#8)

/-- A transfer begins: the bytes of COPY, FILL and REQUANT move; a stream's source is read. A translation that fails
ends the transfer with no signal (R225). (DEDUCED, log 15). -/
def State.beginXfer (s : State) (x : Xfer) : State :=
  let d := Desc.ofBytes x.desc
  let done (w : Work) : State :=
    if w.bad then w.s.endXfer x
    else w.s.putXfer { x with begun := true, ready := true, flags := x.flags ||| w.flags }
  let stream (q : Prep) : State :=
    if q.w.bad then q.w.s.endXfer x
    else q.w.s.putXfer { x with begun := true, prep := q.vecs, flags := x.flags ||| q.w.flags }
  match d.kind with
  | 0x01 => done ((List.range d.rows).foldl (fun w v => w.copyRow x d v) { s := s })
  | 0x04 => done ((List.range d.rows).foldl (fun w v => w.requantRow x d v) { s := s })
  | 0x05 => done ((List.range d.rows).foldl (fun w v => w.fillRow x d v) { s := s })
  | 0x02 => stream ((List.range d.rows).foldl (fun q v => q.vec x d d.kcol v) { w := { s := s } })
  | 0x03 => stream ((List.range d.n).foldl (fun q v => q.vec x d (!d.tr) v) { w := { s := s } })
  | _ => s

/-- Does the transfer take one of the loader's 16 places (R220)? -/
def Xfer.moves (x : Xfer) : Bool := decide (1 ≤ dfield x.desc 0 1 ∧ dfield x.desc 0 1 ≤ 5)

/-- The loader of a bay begins waiting transfers while it runs fewer than 16 (R220). (DEDUCED, log 15). -/
def State.beginAll (bay : Nat) : Nat → State → State
  | 0, s => s
  | n + 1, s =>
    let mine := s.xfers.filter fun x => bayOf x.core == bay && x.moves
    if (mine.filter (·.begun)).length < 16 then
      match mine.find? (fun x => !x.begun) with
      | some x => State.beginAll bay n (s.beginXfer { x with t0 := s.plumb })
      | none => s
    else s

/-! ### XFER issue (R164, R167, R225) -/

/-- The 64 descriptor bytes at a data memory address of a context. -/
def Ctx.descAt (v : Ctx) (a : Nat) : List Byte := (List.range 16).flatMap fun i => leBytes 4 (wget v.dmem (a / 4 + i)).toNat

/-- Is a value of `kind` defined (R209, R222)? -/
def kindDefined (k : Nat) : Bool := decide ((1 ≤ k ∧ k ≤ 5) ∨ k = 8 ∨ k = 9 ∨ k = 0x10 ∨ (0xC0 ≤ k ∧ k ≤ 0xC2))

/-- Issue of an XFER whose descriptor has `kind`; `f` is its effect, given the transfer and its ring. A command whose
descriptor has another defined kind changes nothing. (DEDUCED, log 2; DEDUCED, log 89). -/
def State.xfer (s : State) (c kind : Nat) (f : State → Xfer → Nat → State) : State :=
  s.issueLong c 0x38 xferLegal0
    (fun _ ws => wbits ws.1 31 5 == 0 && ws.2.1 == 0#32 && ws.2.2 == 0#32) fun s x w0 ws =>
    let v := s.ctx c x
    let pc := v.pc.toNat
    let a := v.sreg (BitVec.ofNat 5 (wbits ws.1 4 0))
    if !(a.toNat % 64 == 0 && decide (a.toNat ≤ 0x3C0)) then s.illegal c x pc 4
    else if (upto (a.toNat / 4) 16).any fun i => v.dmPoison.contains i then s.faultCtx c x 0x03#8
    else
      let d := v.descAt a.toNat
      let k := dfield d 0 1
      if kindDefined k && k != kind then s
      else
        let p := (s.partOfCore c).getD 255
        match s.sigPeg c x w0 with
        | none => s.faultCtx c x 0x02#8
        | some sig =>
          match s.checkDesc c p d with
          | .reason5 => s.illegal c x pc 5
          | .trans => s.faultCtx c x 0x02#8
          | .poison => s.faultCtx c x 0x03#8
          | .ok ring =>
            if 8 ≤ (s.xfersOf c x).length then s
            else
              let lc := s.lcoreOf c
              let t : Xfer :=
                { id := s.nextId, core := c, ctx := x, part := p, lcore := lc
                  epoch := match lc with | some l => s.cepoch p l | none => 0#8
                  pepoch := (s.part p).epoch, desc := d, mode := v.mode, sig := sig, ring := ring, t0 := s.plumb }
              f ({ s with nextId := s.nextId + 1 }.setCtx c x (v.next16 s.plumb)) t ring

/-- A transfer that the bay's loader runs: it joins, and begins if the loader has a place. -/
def State.queueXfer (s : State) (t : Xfer) (_ : Nat) : State :=
  State.beginAll (bayOf t.core) 16 { s with xfers := s.xfers ++ [t] }

/-- COPY (R222-R225). -/
def execCopy (core : CoreAddr) (s : State) : Host.Outcome State Fault Refusal :=
  .next (s.xfer core.toNat 0x01 State.queueXfer)
/-- ASTREAM (R228, R230). -/
def execAstream (core : CoreAddr) (s : State) : Host.Outcome State Fault Refusal :=
  .next (s.xfer core.toNat 0x02 State.queueXfer)
/-- WSTREAM (R229, R230). -/
def execWstream (core : CoreAddr) (s : State) : Host.Outcome State Fault Refusal :=
  .next (s.xfer core.toNat 0x03 State.queueXfer)
/-- REQUANT (R141). -/
def execRequant (core : CoreAddr) (s : State) : Host.Outcome State Fault Refusal :=
  .next (s.xfer core.toNat 0x04 State.queueXfer)
/-- FILL (R222). -/
def execFill (core : CoreAddr) (s : State) : Host.Outcome State Fault Refusal :=
  .next (s.xfer core.toNat 0x05 State.queueXfer)

/-! ### Stream rings (R226, R227, R232, R251) -/

/-- RING_OPEN (R226): the lowest free tracker takes the range, its counts 0. The slot marks start as the marks of the
granules under them. (DESIGN CHOICE, log 19). -/
def execRingOpen (core : CoreAddr) (s : State) : Host.Outcome State Fault Refusal :=
  .next (s.xfer core.toNat 0x08 fun s t ring =>
    let d := Desc.ofBytes t.desc
    let c := core.toNat
    let lf := (lfmtOf d.dfmt d.lf.cls).getD 0
    let sz := lineBytes lf
    let k := s.core c
    let g : Ring := { opened := true, base := d.dst, lines := d.rows, lfmt := lf }
    let marks := (List.range d.rows).foldl (fun l i =>
      let o := d.dst + i * sz
      let m := (upto (spadAddr c o / 32) ((sz + 31) / 32)).any fun q => s.poison.contains q
      if m then sput l (o / 16) else sdel l (o / 16)) k.slotPoison
    { s.setCore c { k with rings := k.rings.setIfInBounds ring g, slotPoison := marks } with
        xfers := s.xfers ++ [{ t with ready := true }] })

/-- RING_CLOSE (R226): the request waits for the ring. -/
def execRingClose (core : CoreAddr) (s : State) : Host.Outcome State Fault Refusal :=
  .next (s.xfer core.toNat 0x09 fun s t ring =>
    let k := s.core core.toNat
    let g := k.rings.getD ring {}
    { s.setCore core.toNat { k with rings := k.rings.setIfInBounds ring { g with closing := some (g.closing.getD t.id) } } with
        xfers := s.xfers ++ [t] })

/-- Does an issued transfer or tile instruction name a ring (R226)? -/
def State.ringNamed (s : State) (c r : Nat) : Bool :=
  let k := s.core c
  (s.xfers.any fun x => x.core == c && x.ring == r && !x.ready && (dfield x.desc 0 1 == 2 || dfield x.desc 0 1 == 3)) ||
  k.queue.any (fun t => t.ra == r || t.rw == r) ||
  (match k.run with | some u => u.tile.ra == r || u.tile.rw == r | none => false) ||
  k.tail.any (fun u => u.tile.ra == r || u.tile.rw == r)

/-- The granules that a closing ring covered take the marks of its slots; the last one, which it may have covered in part,
keeps a mark of its own (R251). -/
def State.ringMarks (s : State) (c : Nat) (g : Ring) (slots : List Nat) : State :=
  let sz := lineBytes g.lfmt
  let lo := spadAddr c g.base / 32
  let n := (g.lines * sz + 31) / 32
  (upto lo n).foldl (fun s q =>
    let m := (List.range g.lines).any fun i =>
      slots.contains ((g.base + i * sz) / 16) &&
        decide (spadAddr c (g.base + i * sz) < 32 * q + 32 ∧ 32 * q < spadAddr c (g.base + i * sz) + sz)
    s.markGranule q (m || (s.poison.contains q && decide (spadAddr c (g.base + g.lines * sz) < 32 * q + 32)))) s

/-- RING_CLOSE_COMPLETE (R226, R232, R251): the ring closes once its counts are equal and nothing names it; the requests
to close it complete. -/
def execRingCloseComplete (core : CoreAddr) (ring : BitVec 3) (s : State) : Host.Outcome State Fault Refusal :=
  let c := core.toNat
  let r := ring.toNat
  let k := s.core c
  let g := k.rings.getD r {}
  .next (if !g.opened || g.closing.isNone || g.prod != g.cons || s.ringNamed c r || !(s.clocked c) then s
    else
      let keep := k.slotPoison.filter fun o => decide (o * 16 < g.base ∨ g.base + g.lines * lineBytes g.lfmt ≤ o * 16)
      let s1 := (s.setCore c { k with rings := k.rings.setIfInBounds r {}, slotPoison := keep }).ringMarks c g k.slotPoison
      { s1 with xfers := s1.xfers.map fun (x : Xfer) =>
          if x.core = c ∧ x.ring = r ∧ dfield x.desc 0 1 = 9 then { x with ready := true } else x })

/-- A format error of a laid block (R128, R147, R558). -/
def State.fmtError (s : State) (x : Xfer) (e : Nat × Nat × Nat) : State :=
  let b := bayOf x.core
  let (va, r, w) := e
  let s1 := (s.count .ldrLathFmtCnt b 1).latch ⟨.ldrLathFmtStatus, b, 0⟩
    (BitVec.ofNat 32 (x.ctx * 4 + r * 16 + (w - 1) * 64 + coreNum x.core * 2 ^ 16))
    [(⟨.ldrLathFmtVaLo, b, 0⟩, BitVec.ofNat 32 va), (⟨.ldrLathFmtVaHi, b, 0⟩, BitVec.ofNat 32 (va / 2 ^ 32))]
  s1.event (coreDie x.core) (domOfBent (bentOf x.core)) 0x010B x.part (srcBay b) (r + (w - 1) * 2 ^ 8) va

/-- The counts of laying a vector's blocks for a pass (R128, R130); a format error counts at each laying. (DESIGN CHOICE, log
101). -/
def State.layVec (s : State) (x : Xfer) (lf nmax : Nat) (v : Vec) (p : Nat) : State :=
  let (n, es) := layCounts lf nmax v p
  es.foldl (fun s e => s.fmtError x e) (s.count .ldrLathAlignCnt (bayOf x.core) n)

/-- The lines a stream transfer produces, and line `i` with the vectors whose blocks it lays first (R228, R229). -/
def Desc.streamLines (d : Desc) (h : Shape) : Nat := if d.kind = 2 then h.actLines else h.wLines

def Desc.streamLine (d : Desc) (h : Shape) (lf : Nat) (vecs : List Vec) (i : Nat) : Line × List (Vec × Nat) :=
  if d.kind = 2 then
    match h.actAt i with
    | some (c, _, j) =>
      let r := j % h.padded c
      (actLine h lf d.lf.nmax vecs c j,
       if r < h.rows c then [(vecs.getD (c * h.mc + r) {}, j / h.padded c)] else [])
    | none => (⟨[], 0#8, false⟩, [])
  else
    let (q, p, k) := h.wAt i
    (weightLine h lf d.lf.nmax vecs q p k,
     if k = 0 then (List.range (h.cols q)).map fun j => (vecs.getD (q * h.w + j) {}, p) else [])

/-- LINE_PRODUCE (R227-R232): the loader writes the next line of a stream once its ring has room and the transfers
issued before it to the ring have written their last. For an MMUL.AG the collective engine writes it (R288). -/
def execLineProduce (xfer : Nat) (s : State) : Host.Outcome State Fault Refusal :=
  .next (
    match s.xfers.find? (fun x => x.id == xfer) with
    | none => (s.agLine xfer).getD s
    | some x =>
      let d := Desc.ofBytes x.desc
      let c := x.core
      let k := s.core c
      let g := k.rings.getD x.ring {}
      let mine := s.xfers.filter fun y =>
        y.core == c && y.ring == x.ring && !y.ready && (dfield y.desc 0 1 == 2 || dfield y.desc 0 1 == 3)
      if !x.begun || x.ready || (mine.head?.map (·.id)) != some xfer || !(s.clocked c) || s.backPressed x.part 6 then s
      else if g.lines ≤ (g.prod - g.cons).toNat then s.idle c 2 1
      else
        let h : Shape := ⟨d.mc, d.rows, d.cols, d.n, kdepth (if d.dfmt = 3 then 2 else 0) d.lf.cls, s.nwidth c⟩
        let (l, lay) := d.streamLine h g.lfmt x.prep x.lines
        let o := g.base + g.wslot * lineBytes g.lfmt
        let s1 := (s.pokeBytes (spadAddr c o) l.data).markSlot c (o / 16) l.poison
        let k1 := s1.core c
        let g' := { g with prod := g.prod + 1#32, wslot := (g.wslot + 1) % g.lines }
        let s2 := s1.setCore c { k1 with rings := k1.rings.setIfInBounds x.ring g', side := aset k1.side (o / 16) l.side }
        let s3 := lay.foldl (fun s e => s.layVec x g.lfmt d.lf.nmax e.1 e.2) (s2.ldrCount c (lineBytes g.lfmt) 0)
        s3.putXfer { x with lines := x.lines + 1, ready := decide (x.lines + 1 = d.streamLines h), t0 := s.plumb })

/-! ### The table engine (R242-R245) -/

/-- A GATHER descriptor. -/
structure Gather where
  die : Nat
  pool : Nat
  tfmt : Nat
  ofmt : Nat
  lat : Bool
  shint : Nat
  dim : Nat
  table : Nat
  out : Nat
  tstride : Nat
  nout : Nat
  offs : Nat
  idx : Nat
  wts : Nat
  trows : Nat
  deriving DecidableEq, Repr

def Gather.ofBytes (d : List Byte) : Gather :=
  let m := dfield d 2 1
  { die := dfield d 1 1, pool := bitsOf m 1 0, tfmt := bitsOf m 3 2, ofmt := bitsOf m 5 4, lat := m.testBit 6, shint := bitsOf (dfield d 3 1) 1 0
    dim := dfield d 4 2, table := dfield d 8 8, out := dfield d 0x10 8, tstride := dfield d 0x18 4, nout := dfield d 0x1C 4
    offs := dfield d 0x20 8, idx := dfield d 0x28 8, wts := dfield d 0x30 8, trows := dfield d 0x38 4 }

/-- Mean of a running sum (R243): s / c rounded once. The quotient keeps 64 bits and a sticky bit. -/
def meanWord (s : Word) (c : Nat) : Word × FpFlags :=
  match fv32 s with
  | .nan => (nan32, fNone)
  | .inf n => (inf32 n, fNone)
  | .fin n m e =>
    let q := m * 2 ^ 64 / c
    rneFp32 n (2 * q + (if m * 2 ^ 64 % c = 0 then 0 else 1)) (e - 65)

/-- One output element of a bag: running sum beyond the table elements and weights (R243). -/
def poolElem (pool : Nat) (xs : List (Word × Word)) : Word × FpFlags :=
  let r := xs.foldl (fun a e =>
    let (w, f) := if pool = 2 then cell (fv32 e.1) (fv32 e.2) a.1 else addFp32 a.1 e.1
    (w, a.2 ||| f)) (negZero32, fNone)
  if xs.isEmpty then (0#32, fNone)
  else if pool = 1 then let (w, f) := meanWord r.1 xs.length; (w, r.2 ||| f)
  else r

/-- A 32-bit number of a list in memory, with its poison. -/
def State.vword (s : State) (p a hint : Nat) : Option (State × Nat × Bool) :=
  (s.vload p a 4 hint).map fun r => (r.1, leNat (dataOf r.2), anyPoison r.2)

/-- The entries of a bag: index, weight and whether the index is clean, of each; whether an index or a weight is poisoned. -/
def State.bagEntries (s : State) (p : Nat) (g : Gather) (b c : Nat) : Option (State × List (Nat × Word × Bool) × Bool) :=
  (List.range c).foldl (fun r i => match r with
    | none => none
    | some (s, l, bad) =>
      match s.vword p (g.idx + (b + i) * 4) 0 with
      | none => none
      | some (s1, ix, z) =>
        if g.pool = 2 then
          match s1.vword p (g.wts + (b + i) * 4) 0 with
          | none => none
          | some (s2, w, z2) => some (s2, l ++ [(ix, BitVec.ofNat 32 w, !z)], bad || z || z2)
        else some (s1, l ++ [(ix, 0#32, !z)], bad || z)) (some (s, [], false))

/-- The rows of a bag. -/
def State.bagRows (s : State) (p : Nat) (g : Gather) (es : List (Nat × Word × Bool)) :
    Option (State × List (List (Nat × Bool) × Word)) :=
  es.foldl (fun r e => match r with
    | none => none
    | some (s, l) =>
      let a := g.table + e.1 * g.tstride
      let n := g.dim * esize g.tfmt
      match (if g.lat then s.latRange p a n else s).vload p a n g.shint with
      | none => none
      | some (s1, by_) => some (s1, l ++ [(chop g.dim (esize g.tfmt) by_, e.2.1)])) (some (s, []))

/-- A bad bag is counted, latched and reported on VF cause 6 (R244, R259, R394, R558). -/
def State.badBag (s : State) (x : Xfer) (d reason o : Nat) : State :=
  let s1 := (s.count .spnTblBadCnt d 1).latch ⟨.spnTblStatus, d, 0⟩ (BitVec.ofNat 32 (reason * 4 + x.part * 16))
    [(⟨.spnTblOut, d, 0⟩, BitVec.ofNat 32 o), (⟨.spnTblCore, d, 0⟩, BitVec.ofNat 32 (x.core + x.ctx * 2 ^ 19))]
  (s1.spineEvent d 0x010A x.part (srcEngine d 1) (reason + o * 2 ^ 32) x.core).cause x.part 6

/-- One output row of a GATHER (R243, R244, R259). -/
def Work.gatherRow (w : Work) (x : Xfer) (g : Gather) (d o : Nat) : Work :=
  if w.bad then w
  else
    let dn := x.mode.getLsbD 0
    let osz := esize g.ofmt
    let put (s : State) (f : FpFlags) (l : List PByte) : Work :=
      let (s', ok) := s.vstore x.part (g.out + o * g.dim * osz) 0 l
      { s := s', flags := w.flags ||| f, bad := !ok }
    let poison (s : State) : Work := put s fNone ((List.range (g.dim * osz)).map fun _ => (0#8, true))
    match w.s.vword x.part (g.offs + o * 4) 0 with
    | none => { w with bad := true }
    | some (s1, b, z1) =>
      match s1.vword x.part (g.offs + (o + 1) * 4) 0 with
      | none => { w with bad := true }
      | some (s2, e, z2) =>
        if z1 || z2 then poison s2
        else if e < b then poison (s2.badBag x d 2 o)
        else if 256 < e - b then poison (s2.badBag x d 1 o)
        else
          match s2.bagEntries x.part g b (e - b) with
          | none => { w with bad := true }
          | some (s3, es, z3) =>
            if es.any (fun e => e.2.2 && decide (g.trows ≤ e.1)) then poison (s3.badBag x d 3 o)
            else if z3 then poison s3
            else
              match s3.bagRows x.part g es with
              | none => { w with bad := true }
              | some (s4, rows) =>
                if rows.any (fun r => r.1.any (·.2)) then poison s4
                else
                  let tf := fmtOf g.tfmt
                  let wts := rows.map fun r => FFmt.fp32.entry dn r.2.toNat
                  let el (j : Nat) : (Word × FpFlags) × FpFlags :=
                    let xs := rows.map fun r => tf.entry dn (r.1.getD j (0, false)).1
                    (poolElem g.pool ((xs.map fun v => tf.widen v.1).zip (wts.map fun v => BitVec.ofNat 32 v.1)),
                     xs.foldl (fun f v => f ||| v.2) fNone)
                  let outs := (List.range g.dim).map fun j =>
                    let r := el j
                    let (v, f) := drainConvert (fmtOf g.ofmt) dn r.1.1
                    (v, r.1.2 ||| r.2 ||| f)
                  let fw := if g.pool = 2 then wts.foldl (fun f v => f ||| v.2) fNone else fNone
                  put s4 (outs.foldl (fun f v => f ||| v.2) fw) (outs.flatMap fun v => clean (leBytes osz v.1))

/-- The die whose table engine serves a request: the named one, or the next in ring order that is not retired (R443). -/
def State.tblDie (s : State) (d : Nat) : Nat :=
  ((upto (ringPos d) 4).map fun i => ringDie (i % 4)).find? (fun e => !(s.retired.contains (3, e))) |>.getD d

/-- The index and weight ranges of the bags that are read translate (R225, R244). -/
def State.gatherBags (s : State) (p : Nat) (g : Gather) : Tr :=
  (List.range g.nout).foldl (fun r o => match r, s.vload p (g.offs + o * 4) 8 0 with
    | .ok _, some (_, l) =>
      let b := leNat (dataOf (l.take 4))
      let e := leNat (dataOf (l.drop 4))
      if anyPoison l ∨ e < b ∨ 256 < e - b then r
      else match s.checkRange p (g.idx + b * 4) ((e - b) * 4) false with
        | .ok a => if g.pool = 2 then s.checkRange p (g.wts + b * 4) ((e - b) * 4) false else .ok a
        | t => t
    | _, _ => r) (.ok 0)

/-- GATHER (R225, R242-R245): a request of which an index or a weight does not translate does not start. `ring` keeps the
engine's die until the request completes. -/
def execGather (core : CoreAddr) (s : State) : Host.Outcome State Fault Refusal :=
  .next (s.xfer core.toNat 0x10 fun s t _ =>
    let g := Gather.ofBytes t.desc
    let d := s.tblDie g.die
    let fault (e : BitVec 8) : State :=
      (s.setCtx t.core t.ctx { s.ctx t.core t.ctx with pc := (s.ctx t.core t.ctx).pc - 16#13 }).faultCtx t.core t.ctx e
    match s.gatherBags t.part g with
    | .fault => fault 0x02#8
    | .poison => fault 0x03#8
    | .ok _ =>
      let w := (List.range g.nout).foldl (fun w o => w.gatherRow t g d o) ({ s := s } : Work)
      if w.bad then fault 0x02#8
      else { w.s with xfers := w.s.xfers ++ [{ t with ready := true, flags := w.flags, ring := d }] })

/-! ### Pools (R207-R212) -/

/-- A pool record: first kept, with the event and cause 7 (R211, R214, R394, R558). -/
def State.poolRecord (s : State) (d q : Nat) (x : Xfer) (kind buf : Nat) : State :=
  let k : RKey := ⟨.spnPoolRec, d * 64 + q, 0⟩
  let s1 := if s.rbit k 0 then s else s.setReg k (BitVec.ofNat 32 (1 + kind * 2 + buf % 2 ^ 16 * 8 + x.ctx * 2 ^ 19))
  (s1.event (coreDie x.core) (domOfBent (bentOf x.core)) 0x0106 x.part (srcCore x.core x.ctx)
    (kind + q * 2 ^ 8 + buf % 2 ^ 16 * 2 ^ 16) d).cause x.part 7

/-- Issue of a pool request: it joins the requests that the pool serves at the end of the cycle (R212); to a pool that is
disabled or not the partition's it faults with cause 0x04 (R209). -/
def State.poolReq (s : State) (c kind : Nat) : State :=
  s.xfer c kind fun s t _ =>
    let d := dfield t.desc 1 1
    let q := dfield t.desc 2 1
    if s.poolOn d q t.part then
      let s1 := { s with xfers := s.xfers ++ [t] }
      s1.setPool d q { s1.pool d q with reqs := (s1.pool d q).reqs ++ [t.id] }
    else (s.setCtx t.core t.ctx { s.ctx t.core t.ctx with pc := (s.ctx t.core t.ctx).pc - 16#13 }).faultCtx t.core t.ctx 0x04#8

/-- POOL_ALLOC (R210, R212): the request reaches its pool, which serves it in this cycle. -/
def execPoolAlloc (core : CoreAddr) (s : State) : Host.Outcome State Fault Refusal := .next (s.poolReq core.toNat 0xC0)
/-- POOL_FREE (R211, R212). -/
def execPoolFree (core : CoreAddr) (s : State) : Host.Outcome State Fault Refusal := .next (s.poolReq core.toNat 0xC1)
/-- POOL_GIVE (R211, R212). -/
def execPoolGive (core : CoreAddr) (s : State) : Host.Outcome State Fault Refusal := .next (s.poolReq core.toNat 0xC2)

/-- An alloc is served (R210, R213): the lowest free buffer; with `nowait`, or after a reset of its context, 0 where there is
none; else it joins the queue, and beyond 1,024 it stays at the loader for the next cycle, counted as memory idle. -/
def State.poolAlloc (s : State) (d q : Nat) (t : Xfer) : State :=
  match s.poolFree d q with
  | some b => (s.poolTake d q b t.tag).allocResult t (s.poolBase d q + b * s.poolBytes d q)
  | none =>
    let p := s.pool d q
    if (dfield t.desc 3 1).testBit 0 || (s.ctx t.core t.ctx).reclaim then s.allocResult t 0
    else if p.queue.length < 1024 then s.setPool d q { p with queue := p.queue ++ [t.id] }
    else (s.setPool d q { p with reqs := p.reqs ++ [t.id] }).idle t.core 2 1

/-- Free or give a buffer (R211): `new` is the tag it takes, `none` to free it. -/
def State.poolPut (s : State) (d q : Nat) (t : Xfer) (new : Option Word) : State :=
  let va := dfield t.desc 8 8
  let sz := s.poolBytes d q
  let base := s.poolBase d q
  let i := (va - base) / sz
  let reject (s : State) (kind : Nat) : State := ((s.poolRecord d q t kind i).dropXfer t.id).faultCtx t.core t.ctx 0x04#8
  if va < base ∨ (va - base) % sz ≠ 0 ∨ s.poolCount d q ≤ i then reject s 3
  else
    match aget (s.pool d q).tags i with
    | none =>
      match new with
      | none => ((s.count .spnPoolDfreeCnt (d * 64 + q) 1).poolRecord d q t 1 i).putXfer { t with ready := true }
      | some _ => reject s 2
    | some tag =>
      if tag ≠ t.tag then reject s 2
      else
        let s1 := s.putXfer { t with ready := true }
        match new with
        | none => s1.poolRelease d q i
        | some w => if w = 0xFFFFFFFF#32 then s1.poolRelease d q i else s1.poolTake d q i w

/-- The order of two requests of a cycle (R212): frees, gives, allocs; in a class by die, core and context. -/
def Xfer.poolKey (x : Xfer) : Nat :=
  (match dfield x.desc 0 1 with | 0xC1 => 0 | 0xC2 => 1 | _ => 2) * 2 ^ 32 + x.core * 4 + x.ctx

def insertReq (x : Xfer) : List Xfer → List Xfer
  | [] => [x]
  | y :: r => if x.poolKey ≤ y.poolKey then x :: y :: r else y :: insertReq x r

/-- One request is served. -/
def State.poolOne (s : State) (d q : Nat) (t : Xfer) : State :=
  match dfield t.desc 0 1 with
  | 0xC0 => s.poolAlloc d q t
  | 0xC1 => s.poolPut d q t none
  | _ => s.poolPut d q t (some (BitVec.ofNat 32 (dfield t.desc 0x10 4)))

/-- Does the owner of the buffer that a free names free it too? -/
def State.ownerFrees (s : State) (d q : Nat) (t y : Xfer) : Bool :=
  dfield t.desc 0 1 == 0xC1 && dfield y.desc 0 1 == 0xC1 && dfield y.desc 8 8 == dfield t.desc 8 8 &&
  aget (s.pool d q).tags ((dfield t.desc 8 8 - s.poolBase d q) / s.poolBytes d q) == some y.tag

/-- The requests of a cycle in order (R212): of two frees of one buffer the owner's comes first (R215). (DEDUCED, log 102). -/
def State.poolServeAll (d q : Nat) : Nat → List Xfer → State → State
  | 0, _, s => s
  | _, [], s => s
  | n + 1, x :: r, s =>
    match r.find? (s.ownerFrees d q x) with
    | some y => if aget (s.pool d q).tags ((dfield x.desc 8 8 - s.poolBase d q) / s.poolBytes d q) == some x.tag
      then State.poolServeAll d q n r (s.poolOne d q x)
      else State.poolServeAll d q n (x :: r.filter fun z => z.id != y.id) (s.poolOne d q y)
    | none => State.poolServeAll d q n r (s.poolOne d q x)

/-- A pool serves every request that reached it in a cycle (R212): those of cores, then those of engines, then a reclaim
(R213). -/
def State.poolCycle (s : State) (d q : Nat) : State :=
  let v := s.pool d q
  let xs := (v.reqs.filterMap fun i => s.xfers.find? fun x => x.id == i).foldr insertReq []
  let s1 := State.poolServeAll d q xs.length xs (s.setPool d q { v with reqs := [], eng := [] })
  let s2 := v.eng.foldl (fun s e => s.engGrant d q e) s1
  let k : RKey := ⟨.spnPoolCmd, d * 64 + q, 0⟩
  if s2.rbit k 0 then (s2.setFld k 0 0 0).poolReclaim d q (s2.reg ⟨.spnPoolTag, d * 64 + q, 0⟩) else s2

/-! ### Completion (R98, R166, R167, R255) -/

/-- Free every buffer of the pools of a partition that carries an owner tag (R213, R426, R427). -/
def State.reclaimTag (s : State) (p : Nat) (tag : Word) : State :=
  (List.range 256).foldl (fun s i =>
    let d := i / 64
    let q := i % 64
    if s.poolOn d q p then s.poolReclaim d q tag else s) s

/-- Reclaim the buffers of a reset context once its transfers and sends are done (R426). -/
def State.ctxReclaim (s : State) (c x : Nat) : State :=
  if (s.ctx c x).reclaim && (s.xfersOf c x).isEmpty && (s.sendsOf c x).isEmpty then
    let s1 := s.setCtx c x { s.ctx c x with reclaim := false }
    match s.partOfCore c, s.lcoreOf c with
    | some p, some l => s1.reclaimTag p (ctxTag l x)
    | _, _ => s1
  else s

/-- TRANSFER_COMPLETE (R98, R166, R167): a transfer whose last byte is written, or a send whose last byte was accepted,
ORs its flags in, signals its peg and frees its place. (DEDUCED, log 15). -/
def execTransferComplete (send : Bool) (xfer : Nat) (s : State) : Host.Outcome State Fault Refusal :=
  .next (
    if send then
      match s.sends.find? (fun g => g.id == xfer) with
      | none => s
      | some g =>
        if g.pos < g.len then s
        else ({ s with sends := s.sends.filter fun y => y.id != xfer }.signalDone g.core g.ctx g.lcore g.epoch g.sig).ctxReclaim
          g.core g.ctx
    else
      match s.xfers.find? (fun x => x.id == xfer) with
      | none => s
      | some x =>
        if !x.ready || (x.moves && !(s.clocked x.core)) || s.backPressed x.part (if x.moves then 6 else 7) then s
        else
          let v := s.ctx x.core x.ctx
          let s1 := ((s.dropXfer xfer).setCtx x.core x.ctx { v with flags := v.flags ||| x.flags }).count
            .ldrXferCnt (bayOf x.core) 1
          let s1 := if dfield x.desc 0 1 = 0x10 then s1.count .spnTblReqCnt x.ring 1 else s1
          State.beginAll (bayOf x.core) 16 ((s1.signalDone x.core x.ctx x.lcore x.epoch x.sig).ctxReclaim x.core x.ctx))

end Sys2Proof.Machine
end

