-- ==== Sys2Proof/Machine/Bay.lean ====
section
/-! DEFINITION. The bay controller: command streams, patches, starts, the context window; stops and resets of contexts
(05, 06, 14: R104, R152, R169-R178, R185, R186, R191, R426, R444). -/
namespace Sys2Proof.Machine

/-! ### The named cores and contexts (R171) -/

/-- The enabled cores of a bay numbered lo to hi. -/
def State.bayCores (s : State) (bay lo hi : Nat) : List Nat :=
  (((List.range 200).filter fun n => decide (lo ≤ n ∧ n ≤ hi)).map (coreOfBay bay)).filter s.enabled

/-- The cores that BAY_CS_CORES names. -/
def State.bayNamed (s : State) (bay : Nat) : List Nat :=
  s.bayCores bay (s.rfld ⟨.bayCsCores, bay, 0⟩ 7 0) (s.rfld ⟨.bayCsCores, bay, 0⟩ 15 8)

def ctxsOf (m : BitVec 4) : List Nat := (List.range 4).filter fun x => m.getLsbD x

/-- The pairs (core, context) a command names. -/
def State.bayPairs (s : State) (bay : Nat) (m : BitVec 4) : List (Nat × Nat) :=
  (s.bayNamed bay).flatMap fun c => (ctxsOf m).map fun x => (c, x)

/-- The partition of a bay. -/
def State.partOfBay (s : State) (bay : Nat) : Option Nat := s.partOfBent (bay / 16)

/-- The address of the image or patch list. -/
def State.bayAddr (s : State) (bay : Nat) : Nat :=
  (s.reg ⟨.bayCsAddrLo, bay, 0⟩).toNat + 2 ^ 32 * s.rfld ⟨.bayCsAddrHi, bay, 0⟩ 15 0

/-- Is the bay's partition fenced (R419), or its bent under probe (R451)? -/
def State.bayFenced (s : State) (bay : Nat) : Bool :=
  match s.partOfBay bay with
  | some p => s.shut p
  | none => false

def State.bayProbed (s : State) (bay : Nat) : Bool :=
  (List.range 8).any fun p => match (s.part p).window with | some w => w.bents.head? == some (bay / 16) | none => false

/-- A write of `go` with a command and a context mask (R171, R185): ignored and counted while a command is in progress;
else `f` serves it and gives its result, refused while the bent is probed or the partition fenced (R419, R451). (DEDUCED,
log 90). -/
def State.bayGo (s : State) (bay : Nat) (src : Src) (cmd : Nat) (ctxs : BitVec 4) (f : State → State × Nat) : State :=
  s.accessW src ⟨.bayCsCmd, bay, 0⟩ fun s =>
    if (aget s.bays bay).isSome then s.count .bayCsRejectCnt bay 1
    else
      let s1 := s.setReg ⟨.bayCsCmd, bay, 0⟩ (BitVec.ofNat 32 (cmd + ctxs.toNat * 16 + 256))
      let (s2, r) := if s.bayProbed bay then (s1, 1) else if s.bayFenced bay then (s1, 2) else f s1
      { s2 with bays := aset s2.bays bay { cmd := cmd, result := r } }

/-! ### Load (R169, R171, R172) -/

/-- The fields of a command stream image. -/
structure Image where
  codeLen : Nat
  entry : Nat
  stopAt : Nat
  pCount : Nat
  mode : Nat
  code : List Word
  pInit : List Word
  deriving DecidableEq, Repr

/-- Little-endian words of bytes. -/
def wordsOf : Nat → List Byte → List Word
  | 0, _ => []
  | n + 1, l => BitVec.ofNat 32 (leNat (l.take 4)) :: wordsOf n (l.drop 4)

/-- The header checks of an image that need its first 32 bytes (R169, R172). -/
def imageHead (h : List Byte) : Bool :=
  let cl := dfield h 4 4
  dfield h 0 2 == 0x7E24 && dfield h 2 2 == 1 && cl % 4 == 0 && decide (4 ≤ cl ∧ cl ≤ 8192) &&
  dfield h 8 4 % 4 == 0 && decide (dfield h 8 4 < cl) && decide (dfield h 0x10 1 ≤ 64) && decide (dfield h 0x11 1 < 4) &&
  dfield h 0x12 2 == 0 && dfield h 0x18 8 == 0

def imageOf (h body : List Byte) : Image :=
  let cl := dfield h 4 4
  let pc := dfield h 0x10 1
  { codeLen := cl, entry := dfield h 8 4, stopAt := dfield h 0xC 4, pCount := pc, mode := dfield h 0x11 1
    code := wordsOf (cl / 4) body, pInit := wordsOf pc (body.drop cl) }

/-- Write words into instruction memory from a byte offset; each word written clears its mark. -/
def Core.writeCode (k : Core) (base : Nat) (l : List Word) : Core :=
  ((List.range l.length).zip l).foldl (fun (k : Core) e =>
    { k with imem := wput k.imem (base / 4 + e.1) e.2, imPoison := sdel k.imPoison (base / 4 + e.1) }) k

/-- A context after a load (R171). -/
def Ctx.load (v : Ctx) (i : Image) (base : Nat) : Ctx :=
  { v with st := .empty, cause := 0#8, base := BitVec.ofNat 13 base, len := BitVec.ofNat 14 i.codeLen
           entry := BitVec.ofNat 13 i.entry, stopAt := BitVec.ofNat 32 i.stopAt, mode := BitVec.ofNat 2 i.mode
           p := Vector.ofFn fun j => i.pInit.getD j.val 0#32 }

/-- Does [a, b) overlap the region of a context in a run of a core? -/
def State.regionBusy (s : State) (c a b : Nat) : Bool :=
  (List.range 4).any fun x =>
    let v := s.ctx c x
    v.inRun && decide (a < v.base.toNat + v.len.toNat ∧ v.base.toNat < b)

/-- The load of a stream into the named cores and contexts: the new state and the result. The whole image is read, with the
lengths of its header up to their limits, before any other check (R172). (DEDUCED, log 106). -/
def State.bayLoad (s : State) (bay : Nat) (m : BitVec 4) : State × Nat :=
  match s.partOfBay bay with
  | none => (s, 3)
  | some p =>
    let va := s.bayAddr bay
    let base := s.rfld ⟨.bayCsArg, bay, 0⟩ 12 0
    match s.vload p va 32 0 with
    | none => (s, 3)
    | some (s1, h) =>
        let hd := dataOf h
        match s1.vload p (va + 32) (min (dfield hd 4 4) 8192 + 4 * min (dfield hd 0x10 1) 64) 0 with
        | none => (s1, 3)
        | some (s2, b) =>
          let i := imageOf hd (dataOf b)
          if anyPoison h || anyPoison b || !(imageHead hd) || crc32 (dataOf b) != dfield hd 0x14 4 || decide (8192 < base + i.codeLen) || base % 4 != 0 ||
              va % 8 != 0 then (s2, 2)
          else
            let cs := s2.bayNamed bay
            let prs := s2.bayPairs bay m
            if prs.any (fun q => (s2.ctx q.1 q.2).inRun) || cs.any (fun c => s2.regionBusy c base (base + i.codeLen)) then (s2, 1)
            else
              let s3 := cs.foldl (fun s c => s.setCore c ((s.core c).writeCode base i.code)) s2
              (prs.foldl (fun s q => s.setCtx q.1 q.2 ((s.ctx q.1 q.2).load i base)) s3, 0)

/-! ### Start and resume (R170-R172, R444) -/

/-- A context as a start leaves it (R152, R171). -/
def Ctx.started (v : Ctx) (t : Time) : Ctx :=
  { v with st := .ready, pc := v.base + v.entry, s := Vector.replicate 32 0#32, index := 0#32, flags := 0#5, wait := .none
           heldStart := false, progress := t }

def Ctx.resumed (v : Ctx) (t : Time) : Ctx := { v with st := .ready, heldStart := false, progress := t }

/-- Must a start or resume of the context wait: for the ended run's work (R170), or for a substitution (R444)? -/
def State.mustHold (s : State) (c x : Nat) : Bool := s.outstanding c x || s.pendingSub.contains c

def State.startCtx (s : State) (c x : Nat) : State :=
  let v := s.ctx c x
  if s.mustHold c x then s.setCtx c x { v with heldStart := true } else s.setCtx c x (v.started s.plumb)

def State.resumeCtx (s : State) (c x : Nat) : State :=
  let v := s.ctx c x
  if s.pendingSub.contains c then s.setCtx c x { v with heldStart := true } else s.setCtx c x (v.resumed s.plumb)

/-- The result of the checks of a start, 0 when it is accepted (R172). -/
def State.startCheck (s : State) (prs : List (Nat × Nat)) : Nat :=
  if prs.any fun q => (s.ctx q.1 q.2).len == 0#14 then 2
  else if prs.any fun q => (s.ctx q.1 q.2).st != .empty then 1 else 0

def State.startAll (s : State) (prs : List (Nat × Nat)) : State := prs.foldl (fun s q => s.startCtx q.1 q.2) s

/-! ### Patch (R172-R174) -/

/-- A patch record. -/
structure Patch where
  lo : Nat
  hi : Nat
  value : Word
  stride : Word
  target : Nat
  ctx : Nat
  op : Nat
  deriving DecidableEq, Repr

def patchesOf : Nat → List Byte → List Patch
  | 0, _ => []
  | n + 1, l =>
    { lo := dfield l 0 4, hi := dfield l 4 4, value := BitVec.ofNat 32 (dfield l 8 4), stride := BitVec.ofNat 32 (dfield l 0xC 4)
      target := dfield l 0x10 1, ctx := dfield l 0x11 1, op := dfield l 0x12 1 } :: patchesOf n (l.drop 24)

/-- The zero bytes of the records of a list. -/
def patchZeros : Nat → List Byte → Bool
  | 0, _ => true
  | n + 1, l => dfield l 0x13 1 == 0 && dfield l 0x14 4 == 0 && patchZeros n (l.drop 24)

def Patch.legal (r : Patch) : Bool :=
  decide (r.target ≤ 65) && decide (r.op ≤ 2) && (r.target != 65 || r.op == 0) && decide (r.ctx < 16)

/-- What a record makes of an old value on logical core L (R173). -/
def Patch.new (r : Patch) (L : Nat) (old : Word) : Word :=
  match r.op with
  | 0 => r.value
  | 1 => old + r.value
  | _ => r.value + BitVec.ofNat 32 (L - r.lo) * r.stride

def Ctx.patch (v : Ctx) (r : Patch) (L : Nat) : Ctx :=
  if r.target < 64 then { v with p := v.p.setIfInBounds r.target (r.new L (v.p.getD r.target 0#32)) }
  else if r.target = 64 then { v with stopAt := r.new L v.stopAt }
  else { v with mode := r.value.truncate 2 }

/-- The (core, logical core, context) triples a record reaches in a bay. -/
def State.patchReach (s : State) (bay : Nat) (r : Patch) : List (Nat × Nat × Nat) :=
  ((s.bayCores bay 0 199).filterMap fun c => (s.lcoreOf c).map fun L => (c, L)).flatMap fun e =>
    if r.lo ≤ e.2 ∧ e.2 ≤ r.hi then (ctxsOf (BitVec.ofNat 4 r.ctx)).map fun x => (e.1, e.2, x) else []

/-- Read and check a patch list: the records, or the result (R172). -/
def State.patchRead (s : State) (bay : Nat) : State × (Nat ⊕ List Patch) :=
  match s.partOfBay bay with
  | none => (s, .inl 3)
  | some p =>
    let va := s.bayAddr bay
    let n := s.rfld ⟨.bayCsArg, bay, 0⟩ 24 16
    match s.vload p va (n * 24) 0 with
    | none => (s, .inl 3)
    | some (s1, l) =>
      let rs := patchesOf n (dataOf l)
      if anyPoison l || n = 0 || decide (256 < n) || va % 8 != 0 || !(patchZeros n (dataOf l)) || !(rs.all Patch.legal)
      then (s1, .inl 2) else (s1, .inr rs)

def State.patchBusy (s : State) (bay : Nat) (rs : List Patch) : Bool :=
  rs.any fun r => (s.patchReach bay r).any fun e => (s.ctx e.1 e.2.2).inRun

def State.patchApply (s : State) (bay : Nat) (rs : List Patch) : State :=
  rs.foldl (fun s r => (s.patchReach bay r).foldl (fun s e =>
    s.setCtx e.1 e.2.2 ((s.ctx e.1 e.2.2).patch r e.2.1)) s) s

/-! ### The commands of the bay controller -/

/-- BAY_LOAD (R169, R171, R172). -/
def execBayLoad (bay : Nat) (src : Src) (ctxs : BitVec 4) (s : State) : Host.Outcome State Fault Refusal :=
  .next (s.bayGo bay src 1 ctxs fun s => s.bayLoad bay ctxs)

/-- BAY_PATCH (R172-R174, R185): the context mask is stored and not used. -/
def execBayPatch (bay : Nat) (src : Src) (ctxs : BitVec 4) (s : State) : Host.Outcome State Fault Refusal :=
  .next (s.bayGo bay src 2 ctxs fun s =>
    match s.patchRead bay with
    | (s1, .inl r) => (s1, r)
    | (s1, .inr rs) => if s1.patchBusy bay rs then (s1, 1) else (s1.patchApply bay rs, 0))

/-- BAY_START (R170-R172). -/
def execBayStart (bay : Nat) (src : Src) (ctxs : BitVec 4) (s : State) : Host.Outcome State Fault Refusal :=
  .next (s.bayGo bay src 3 ctxs fun s =>
    let prs := s.bayPairs bay ctxs
    let r := s.startCheck prs
    if r = 0 then (s.startAll prs, 0) else (s, r))

/-- BAY_PATCH_AND_START (R172, R174): the list is applied, then the named contexts start, as one command. -/
def execBayPatchAndStart (bay : Nat) (src : Src) (ctxs : BitVec 4) (s : State) : Host.Outcome State Fault Refusal :=
  .next (s.bayGo bay src 4 ctxs fun s =>
    match s.patchRead bay with
    | (s1, .inl r) => (s1, r)
    | (s1, .inr rs) =>
      let prs := s1.bayPairs bay ctxs
      let r := s1.startCheck prs
      if r = 2 then (s1, 2)
      else if r = 1 || s1.patchBusy bay rs then (s1, 1)
      else ((s1.patchApply bay rs).startAll prs, 0))

/-- BAY_RESUME (R171, R172, R444). (DEDUCED, log 95). -/
def execBayResume (bay : Nat) (src : Src) (ctxs : BitVec 4) (s : State) : Host.Outcome State Fault Refusal :=
  .next (s.bayGo bay src 5 ctxs fun s =>
    let prs := s.bayPairs bay ctxs
    if prs.any fun q => (s.ctx q.1 q.2).st != .stopped then (s, 1)
    else (prs.foldl (fun s q => s.resumeCtx q.1 q.2) s, 0))

/-- BAY_CMD_UNDEFINED (R185): command codes 0, 6 and 7 end with result 2. -/
def execBayCmdUndefined (bay : Nat) (src : Src) (cmd : BitVec 3) (ctxs : BitVec 4) (s : State) :
    Host.Outcome State Fault Refusal :=
  .next (if 1 ≤ cmd.toNat ∧ cmd.toNat ≤ 5 then s else s.bayGo bay src cmd.toNat ctxs fun s => (s, 2))

/-- BAY_COMMAND_DONE (R171, R185, R394): `go` clears, `done` and the result are set, a rejection is counted. (DEDUCED, log
90). -/
def execBayCommandDone (bay : Nat) (s : State) : Host.Outcome State Fault Refusal :=
  .next (
    match aget s.bays bay with
    | none => s
    | some b =>
      if !(s.bentRuns (bay / 16)) then s
      else
      let s1 := { s with bays := adel s.bays bay }.setFld ⟨.bayCsCmd, bay, 0⟩ 8 8 0
      let s2 := if b.result = 0 then s1 else s1.count .bayCsRejectCnt bay 1
      s2.cmdDone ⟨.bayCsStatus, bay, 0⟩ b.result 0 0 (s2.partOfBay bay))

/-- HELD_START_RELEASE (R170, R444): a held start or resume proceeds once nothing holds it. Its command ended when it was
accepted, and a load, a patch or a stop of the context in between leaves it held. (DESIGN CHOICE, log 106). -/
def execHeldStartRelease (core : CoreAddr) (ctx : BitVec 2) (s : State) : Host.Outcome State Fault Refusal :=
  let c := core.toNat
  let x := ctx.toNat
  let v := s.ctx c x
  .next (if !v.heldStart || s.mustHold c x || !(s.clocked c) then s
    else
      match v.st with
      | .empty => s.setCtx c x (v.started s.plumb)
      | .stopped => s.setCtx c x (v.resumed s.plumb)
      | _ => s)

/-! ### The context window (R175, R186, R191) -/

/-- The core and context that BAY_CTX_SEL selects; `none` for a core number above 199 or a disabled core. -/
def State.baySel (s : State) (bay : Nat) : Option (Nat × Nat) :=
  let n := s.rfld ⟨.bayCtxSel, bay, 0⟩ 7 0
  let c := coreOfBay bay n
  if n < 200 ∧ s.enabled c then some (c, s.rfld ⟨.bayCtxSel, bay, 0⟩ 9 8) else none

/-- A window write of a register: `f` changes the selected context, `none` drops it. -/
def State.window (s : State) (bay : Nat) (src : Src) (k : RKey) (f : State → Nat → Ctx → Option Ctx) : State :=
  s.accessW src k fun s =>
    match s.baySel bay with
    | none => s.count .bayCtxDropCnt bay 1
    | some (c, x) =>
      match f s c (s.ctx c x) with
      | some v => s.setCtx c x v
      | none => s.count .bayCtxDropCnt bay 1

/-- BAY_CTX_P_WRITE (R175). -/
def execBayCtxPWrite (bay : Nat) (src : Src) (i : BitVec 6) (value : Word) (s : State) : Host.Outcome State Fault Refusal :=
  .next (s.window bay src ⟨.bayCtxP, bay, i.toNat⟩ fun _ _ v =>
    if v.st == .empty || v.st == .stopped then some { v with p := v.p.setIfInBounds i.toNat value } else none)

/-- BAY_CTX_STOPAT_WRITE (R175). -/
def execBayCtxStopatWrite (bay : Nat) (src : Src) (value : Word) (s : State) : Host.Outcome State Fault Refusal :=
  .next (s.window bay src ⟨.bayCtxStopat, bay, 0⟩ fun _ _ v =>
    if v.st == .empty || v.st == .stopped then some { v with stopAt := value } else none)

/-- The check of a segment write that sets `valid` (R191). -/
def State.psegOk (s : State) (c : Nat) (lo : Word) : Bool :=
  let n := wbits lo 23 10
  let len := wbits lo 31 24 + 1
  let d := wbits lo 4 3
  if wbits lo 2 1 = 0 then decide (n + len ≤ 16)
  else
  match s.partOfCore c with
  | none => false
  | some p =>
    match wbits lo 2 1 with
    | 1 => decide (wbits lo 9 5 < 24 ∧ d = coreDie c ∧ n + len ≤ 4096) && s.partOfBent (d * 24 + wbits lo 9 5) == some p
    | 2 => decide (n + len ≤ 16384) && (upto n len).all fun i => s.partOfPeg (.spine d i) == some p
    | _ => !(s.part p).ports.isEmpty

/-- BAY_CTX_PSEG_WRITE (R175, R190, R191): a write that sets `valid` is checked; one for a context in a run is dropped. -/
def execBayCtxPsegWrite (bay : Nat) (src : Src) (seg : BitVec 2) (hi : Bool) (value : Word) (s : State) :
    Host.Outcome State Fault Refusal :=
  .next (s.window bay src ⟨if hi then .bayCtxPsegHi else .bayCtxPsegLo, bay, seg.toNat⟩ fun s c v =>
    if v.inRun then none
    else if hi then some { v with psegHi := v.psegHi.setIfInBounds seg.toNat (value &&& 0x00FFFFFF#32) }
    else if wbit value 0 && !(s.psegOk c value) then none
    else some { v with psegLo := v.psegLo.setIfInBounds seg.toNat value })

/-! ### Mode, stop and reset of contexts (R104, R109, R177, R183, R202, R426) -/

/-- CORE_CTX_MODE_WRITE (R104, R109): the mode of each context from its byte. -/
def execCoreCtxModeWrite (core : CoreAddr) (src : Src) (value : Word) (s : State) : Host.Outcome State Fault Refusal :=
  .next (s.accessW src ⟨.coreCtxMode, core.toNat, 0⟩ fun s =>
    (List.range 4).foldl (fun s x =>
      s.setCtx core.toNat x { s.ctx core.toNat x with mode := BitVec.ofNat 2 (wbits value (8 * x + 1) (8 * x)) }) s)

/-- A host stop of a context in a run (R177): it leaves the waiter lists, its unstarted entries are discarded. One that is
held after its marked instruction keeps them, since that instruction completes (R179). -/
def State.stopCtx (s : State) (c x : Nat) : State :=
  if (s.ctx c x).inRun then
    let s1 := (s.depart c x).unwait c x
    s1.setCore c ((if (s.ctx c x).held then s1.core c else (s1.core c).discard x).setCtx x { s1.ctx c x with st := .stopped, cause := 0#8, wait := .none })
  else s

/-- CTX_STOP (R177, R183). -/
def execCtxStop (core : CoreAddr) (src : Src) (stops : BitVec 4) (s : State) : Host.Outcome State Fault Refusal :=
  .next (s.accessW src ⟨.coreCtxCmd, core.toNat, 0⟩ fun s => (ctxsOf stops).foldl (fun s x => s.stopCtx core.toNat x) s)

/-- End the tile instructions of a context: the draining ones at once, the one on the array at its K-pass boundary,
at once when it stands there or `now` is set. -/
def State.cutTiles (s : State) (c x : Nat) (now : Bool) : State :=
  let k := s.core c
  let tail := k.tail.map fun r => if r.tile.ctx = x then r.cut else r
  match k.run with
  | some r =>
    if r.tile.ctx ≠ x then s.setCore c { k with tail := tail }
    else if now || r.t % (s.shapeOf c r.tile).padded r.chunk = 0 then
      s.setCore c { k with run := none, tail := tail ++ [r.cut] }
    else s.setCore c { k with run := some { r with stopped := true }, tail := tail }
  | none => s.setCore c { k with tail := tail }

/-- The waiting allocs of a reset context complete as if `nowait` were set (R213); one of the present cycle is served so. -/
def State.endAllocs (s : State) (c x : Nat) : State :=
  (s.xfersOf c x).foldl (fun s t =>
    let d := dfield t.desc 1 1
    let q := dfield t.desc 2 1
    if dfield t.desc 0 1 = 0xC0 ∧ !t.ready ∧ (s.pool d q).queue.contains t.id then
      (s.setPool d q { s.pool d q with queue := (s.pool d q).queue.filter (· != t.id) }).allocResult t 0
    else s) s

/-- A context as a context reset leaves it (R152, R202, R426). -/
def Ctx.reset (v : Ctx) : Ctx :=
  { v with st := .empty, cause := 0#8, pc := v.base + v.entry, s := Vector.replicate 32 0#32, index := 0#32, mode := 0#2
           flags := 0#5, cpeg := Vector.replicate 16 0#32, wait := .none, heldStart := false, reclaim := true }

/-- A context reset (R426). (DEDUCED, log 33). -/
def State.resetCtx (s : State) (c x : Nat) : State :=
  let s1 := (((s.depart c x).unwait c x).cutTiles c x false).endAllocs c x
  let s2 := s1.setCore c (((s1.core c).discard x).setCtx x (s1.ctx c x).reset)
  s2.ctxReclaim c x

end Sys2Proof.Machine
end

