-- ==== Sys2Proof/Machine/Pegs.lean ====
section
/-! DEFINITION. Pegs, the deadlock detector and the pool registers (06: R187, R192-R195, R200-R206, R213, R214). -/
namespace Sys2Proof.Machine

/-! ### Signals and host writes in one cycle of a home (R194, R195, R201, R402) -/

/-- The order of two operations in a cycle (R20, R195): the lower die; on it the engines after the cores; the lower core,
context. -/
def Signal.before (a b : Signal) : Bool :=
  if a.die ≠ b.die then decide (a.die < b.die)
  else if a.engine != b.engine then !a.engine
  else if a.core ≠ b.core then decide (a.core < b.core) else decide (a.ctx ≤ b.ctx)

def insertSig (g : Signal) : List Signal → List Signal
  | [] => [g]
  | h :: r => if g.before h then g :: h :: r else h :: insertSig g r

def sortSigs (l : List Signal) : List Signal := l.foldr insertSig []

/-- A delivered peg message as a signal of a remote source. -/
def PegMsg.signal (m : PegMsg) : Signal :=
  { id := m.id, home := m.peg, amount := m.amount, engine := true, die := 4, core := 0, ctx := 0, part := m.part }

/-- The signals in flight to a home with given ids, in service order, then the peg messages among them in their order, and
the state without them; a message whose peg is not the partition's is dropped and counted (R199). (DEDUCED, log 82). -/
def State.takeSigs (s : State) (home : PegHome) (ids : List Nat) : State × List Signal :=
  let mine (g : Signal) : Bool := g.home == home && ids.contains g.id
  let msg (m : PegMsg) : Bool := m.peg == home && ids.contains m.id
  let ms := s.pegMsgs.filter msg
  let good (m : PegMsg) : Bool := s.partOfPeg m.peg == some m.part
  let s1 := { s with signals := s.signals.filter (fun g => !(mine g)), pegMsgs := s.pegMsgs.filter fun m => !(msg m) }
  ((ms.filter fun m => !(good m)).foldl (fun s m => s.count .lmdPegRejectCnt m.port 1) s1,
    sortSigs (s.signals.filter mine) ++ (ms.filter good).map PegMsg.signal)

/-- Is the signal of a stale core epoch (R402)? -/
def State.staleSig (s : State) (g : Signal) : Bool :=
  match g.carries with
  | some (l, e) => !(s.fresh g.part (some l) e)
  | none => false

/-- One signal is applied, or dropped as stale. -/
def State.applySig (s : State) (g : Signal) : State :=
  if s.staleSig g then s.count .prtStaleCnt g.part 1 else s.addPeg g.home g.amount

/-- Is the home in this package, and its island clocked (R475)? -/
def State.homeRuns (s : State) (h : PegHome) : Bool :=
  match h with
  | .ctx c _ _ => s.clocked c
  | .bent b _ => !(s.rbit ⟨.bentClk, b, 0⟩ 18)
  | .spine _ _ => true
  | .remote .. => false

/-- PEG_SIGNAL_ARRIVE (R192, R194, R195, R402): the signals and peg messages `ids` that reach a home in one cycle are applied
in order, then one walk on a value that rose. (DEDUCED, log 82). -/
def execPegSignalArrive (home : PegHome) (ids : List Nat) (s : State) : Host.Outcome State Fault Refusal :=
  .next (if !(s.homeRuns home) then s
    else
      let (s1, gs) := s.takeSigs home ids
      let s2 := gs.foldl State.applySig s1
      if s1.peg home < s2.peg home then s2.walkPeg home else s2)

/-- The register of a peg value that a source names. -/
def State.pegKey (_ : State) : PegHome → Option RKey
  | .ctx c _ i => some ⟨.bayCtxPeg, bayOf c, i⟩
  | .bent b i => some ⟨.pegBentVal, b, i⟩
  | .spine d i => some ⟨.pegSpnVal, d, i⟩
  | .remote .. => none

/-- A host write of a peg: the signals of its cycle are lost, each with a record of kind 2, the value is loaded, a
poisoned peg is good again, and one walk runs (R195, R201, R439). (DEDUCED, log 82). -/
def State.pegLoad (s : State) (home : PegHome) (value : Word) (lost : List Nat) : State :=
  let (s1, gs) := s.takeSigs home lost
  let s2 := gs.foldl (fun s g => if s.staleSig g then s.count .prtStaleCnt g.part 1 else s.pegError home 2 g.amount) s1
  ({ s2.setPeg home value with badPegs := s2.badPegs.filter (· != home) }).walkPeg home

/-- The order of the writes of a cycle (R544). -/
def Src.rank : Src → Nat
  | .i3c => 0
  | .vf v => 1 + v
  | .pf => 100
  | .welyar => 101

def insertWrite (a : Src × Word) : List (Src × Word) → List (Src × Word)
  | [] => [a]
  | b :: r => if Src.rank a.1 ≤ Src.rank b.1 then a :: b :: r else b :: insertWrite a r

/-- Does a host write of a peg reach it: for a context peg through the context window, which must select its context; a
selection of no enabled core drops the write (R186)? -/
def State.pegReach (s : State) (home : PegHome) : State × Bool :=
  match home with
  | .ctx c x _ =>
    match s.baySel (bayOf c) with
    | none => (s.count .bayCtxDropCnt (bayOf c) 1, false)
    | some q => (s, decide (q = (c, x)))
  | _ => (s, true)

/-- One of the host writes of a cycle: the value that stands after it. -/
def State.pegWrite (home : PegHome) (k : RKey) (a : State × Option Word) (w : Src × Word) : State × Option Word :=
  if a.1.srcLive w.1 && a.1.reaches w.1 k true then
    let (s1, ok) := a.1.pegReach home
    (s1, if ok then some w.2 else a.2)
  else (a.1.accessW w.1 k id, a.2)

/-- PEG_HOST_WRITE (R195, R201, R216): the host writes of one cycle, the first with those of `more`, are served in the order of
R544; the last one served stands, and one walk runs. -/
def execPegHostWrite (home : PegHome) (src : Src) (value : Word) (more : List (Src × Word)) (lost : List Nat) (s : State) :
    Host.Outcome State Fault Refusal :=
  .next (
    match s.pegKey home with
    | none => s
    | some k =>
      match (((src, value) :: more).foldr insertWrite []).foldl (State.pegWrite home k) (s, none) with
      | (s1, some v) => s1.pegLoad home v lost
      | (s1, none) => s1)

/-- PEG_POLL (R193, R200): the core of a polling waiter checks the peg; with the condition unmet and a free entry the
context becomes an ordinary waiter at the tail of the list. -/
def execPegPoll (core : CoreAddr) (ctx : BitVec 2) (s : State) : Host.Outcome State Fault Refusal :=
  let c := core.toNat
  let x := ctx.toNat
  let v := s.ctx c x
  .next (if !(s.clocked c) then s
    else
      match v.st, v.wait with
      | .waiting, .peg id h thr sub true =>
        let s1 := s.count .pegPollCnt h.dom 1
        if s.badPegs.contains h then s1.faultCtx c x 0x03#8
        else if thr ≤ s1.peg h then (if sub then s1.setPeg h (s1.peg h - thr) else s1).wake c x
        else if s1.storeFree h ((s.partOfCore c).getD 255) then
          { s1.setCtx c x { v with wait := .peg id h thr sub false } with
              waiters := s1.waiters ++ [{ home := h, core := c, ctx := x, thr := thr, sub := sub }] }
        else s1
      | _, _ => s)

/-! ### The deadlock detector (R203-R206) -/

/-- The contexts of a partition that have left the state after reset, as (core, context), cores ascending. -/
def State.ctxsOfPart (s : State) (p : Nat) : List (Nat × Nat) :=
  let cs := (s.cores.map (·.1)).filter fun c => s.partOfCore c == some p
  (cs.foldl sput []).flatMap fun c => (List.range 4).map fun x => (c, x)

/-- Is a context blocked on a peg outside the partition's reach (R202, R203)? -/
def State.waitsExt (s : State) (c x : Nat) : Bool :=
  match (s.ctx c x).wait with
  | .peg id _ _ _ _ => (s.ctx c x).ext id
  | _ => false

/-- Has the partition work in its array, loader or engines, or a peg message that is not acknowledged (R203)? -/
def State.partBusy (s : State) (p : Nat) : Bool :=
  (s.ctxsOfPart p).any (fun q => s.tilePending q.1 q.2) || s.xfers.any (fun x => x.part == p) ||
  s.sends.any (fun g => g.part == p) || s.supplies.any (fun u => u.2.part == p) ||
  s.trusses.any (fun t => t.1.1 == p && t.2.active) || s.colrecs.any (fun r => r.part == p) ||
  s.jctxs.any (fun j => j.1.1 == p && !j.2.queue.isEmpty) ||
  s.signals.any (fun g => g.part == p && g.home.isRemote) ||
  s.sflows.any (fun f => f.1.part == p && !f.1.tray && !f.2.marks.isEmpty) || s.replay.any (fun r => r.key.part == p && r.peg)

/-- The condition of the detector of a partition. -/
def State.deadlocked (s : State) (p : Nat) : Bool :=
  let cs := s.ctxsOfPart p
  s.rbit ⟨.pegDldCtl, p, 0⟩ 0 && (s.part p).built && cs.any (fun q => (s.ctx q.1 q.2).st == .waiting) &&
  !(cs.any fun q => let t := (s.ctx q.1 q.2).st; t == .ready || t == .running || t == .stopped) &&
  !(cs.any fun q => (s.ctx q.1 q.2).st == .waiting && s.waitsExt q.1 q.2) && !(s.partBusy p)

/-- The lowest-numbered spine that serves a partition, and its plumb time (R204). -/
def State.partSpine (s : State) (p : Nat) : Nat := ((s.part p).bents.map dieOfBent).foldl min 3
def State.spineTime (s : State) (p : Nat) : Time := s.timeOf (domOfSpine (s.partSpine p))

/-- The time of that spine since which the condition has held: from `dldSince`, or the last time a context moved. -/
def State.dldStart (s : State) (p : Nat) : Option Time :=
  let now := s.spineTime p
  (s.part p).dldSince.map fun t => (s.ctxsOfPart p).foldl (fun t q =>
    let u := (s.ctx q.1 q.2).progress + (now - s.plumb)
    if (now - u).toNat < (now - t).toNat then u else t) t

/-- The detector's timer at a spine cycle: it starts when the condition becomes true and clears when it is false (R204). -/
def State.dldTick (s : State) (p : Nat) : State :=
  let q := s.part p
  if s.deadlocked p then
    match s.dldStart p with
    | none => s.setPart p { q with dldSince := some (s.spineTime p), dldFired := false }
    | some t => if q.dldSince = some t then s else s.setPart p { q with dldSince := some t, dldFired := false }
  else if q.dldSince.isSome then s.setPart p { q with dldSince := none, dldFired := false } else s

/-- The first waiter: lowest core address, then lowest context (R205). -/
def State.firstWaiter (s : State) (p : Nat) : Nat × Nat × Nat × PegHome × Word :=
  match (s.ctxsOfPart p).find? (fun q => (s.ctx q.1 q.2).st == .waiting) with
  | some (c, x) =>
    match (s.ctx c x).wait with
    | .peg id h thr _ _ => (c, x, id, h, thr)
    | _ => (c, x, 0, .spine 0 0, 0#32)
  | none => (0, 0, 0, .spine 0 0, 0#32)

/-- DEADLOCK_FIRE (R203-R206, R421, R558): the condition has held for 2^16 pt without a break, on the time of the lowest spine
that serves the partition. -/
def execDeadlockFire (p : BitVec 3) (s : State) : Host.Outcome State Fault Refusal :=
  let P := p.toNat
  let q := s.part P
  .next (
    match s.dldStart P with
    | none => s
    | some t =>
      let now := s.spineTime P
      if !(s.deadlocked P) || s.partStopped P || (now - t).toNat < 65536 || (q.dldFired && q.dldSince == some t) then s
      else
        let n := ((s.ctxsOfPart P).filter fun e => (s.ctx e.1 e.2).st == .waiting).length
        let (c, x, id, h, thr) := s.firstWaiter P
        let first := c + x * 2 ^ 19 + id * 2 ^ 21
        let s1 := s.latch ⟨.pegDldStatus, P, 0⟩ 0#32
          [(⟨.pegDldTimeLo, P, 0⟩, now.truncate 32), (⟨.pegDldTimeHi, P, 0⟩, (now >>> 32).truncate 32),
           (⟨.pegDldWaiters, P, 0⟩, BitVec.ofNat 32 n), (⟨.pegDldFirst, P, 0⟩, BitVec.ofNat 32 first),
           (⟨.pegDldThresh, P, 0⟩, thr), (⟨.pegDldValue, P, 0⟩, s.peg h)]
        let s2 := (s1.count .pegDldFireCnt P 1).setPart P { q with dldSince := some t, dldFired := true }
        let d := s.partSpine P
        (((s2.event d (domOfSpine d) 0x0107 P 0#32 n first).cause P 0)).inspect P 0 0x04)

/-! ### Pool registers (R213, R214) -/

/-- POOL_RECLAIM (R212-R214): the pool frees every buffer whose tag equals SPN_POOL_TAG at the end of the cycle, after every
request of it; a write while one runs is ignored. (DESIGN CHOICE, log 102). -/
def execPoolReclaim (die : BitVec 2) (pool : BitVec 6) (src : Src) (s : State) : Host.Outcome State Fault Refusal :=
  let d := die.toNat
  let q := pool.toNat
  let k : RKey := ⟨.spnPoolCmd, d * 64 + q, 0⟩
  .next (s.accessW src k fun s => s.setFld k 0 0 1)

/-- POOL_CFG_WRITE (R214, R393): while the pool is enabled only a write that clears `enable` is taken, and only with no
buffer owned; enabling sets every buffer free. Through a VF window `part` keeps the partition's number. -/
def poolCfg (s : State) (d q : Nat) (src : Src) (r : PoolReg) (value : Word) : State :=
  let u := d * 64 + q
  let on := s.rbit ⟨.spnPoolCfg, u, 0⟩ 7
  match r with
  | .baseLo => if on then s else s.setReg ⟨.spnPoolBaseLo, u, 0⟩ value
  | .baseHi => if on then s else s.setReg ⟨.spnPoolBaseHi, u, 0⟩ (value &&& 0xFFFF#32)
  | .cfg =>
    let v := match src with
      | .vf n => match (s.vf n).bound with
        | some p => setField value 6 4 p
        | none => value
      | _ => value
    let w := v &&& 0xFFFF00FF#32
    if on then
      (if wbit v 7 || !(s.pool d q).tags.isEmpty then s else s.setReg ⟨.spnPoolCfg, u, 0⟩ w)
    else
      let s1 := s.setReg ⟨.spnPoolCfg, u, 0⟩ w
      if wbit v 7 then s1.setPool d q {} else s1

def execPoolCfgWrite (die : BitVec 2) (pool : BitVec 6) (src : Src) (reg : PoolReg) (value : Word) (s : State) :
    Host.Outcome State Fault Refusal :=
  let d := die.toNat
  let q := pool.toNat
  let k : RKey := ⟨match reg with | .baseLo => .spnPoolBaseLo | .baseHi => .spnPoolBaseHi | .cfg => .spnPoolCfg, d * 64 + q, 0⟩
  .next (s.accessW src k fun s => poolCfg s d q src reg value)

end Sys2Proof.Machine
end

