-- ==== Sys2Proof/Machine/Memory.lean ====
section
/-! DEFINITION. Memory accesses at a home spine, their replies, errors, scrub, and the deck and channel commands
(07, 14, 15: R20, R24, R218, R235-R241, R246-R248, R257, R258, R402, R414-R416, R420, R441, R443, R455). -/
namespace Sys2Proof.Machine

/-! ### Errors (R239, R241, R443) -/

/-- A corrected error of a channel: the interval of 2^36 pt that R443 counts in. -/
def State.chanCe (s : State) (ch : Nat) : State :=
  let e := (aget s.chanErr ch).getD { t0 := s.plumb, ce := 0, runs := 0, ue := none }
  let span := 2 ^ 36
  let e1 : ChanErr :=
    if s.since e.t0 < span then { e with ce := e.ce + 1 }
    else { e with t0 := s.plumb, ce := 1, runs := if 256 < e.ce ∧ s.since e.t0 < 2 * span then e.runs + 1 else 0 }
  let s1 := { s.count .hbmCeCnt ch 1 with chanErr := aset s.chanErr ch e1 }
  if e1.ce = 257 then
    let s2 := s1.suspect 6 ch
    if 2 ≤ e1.runs then s2.retireUnit 6 ch else s2
  else s1

/-- An uncorrectable error of a channel (R241, R443): counted, its offset latched, the channel suspect, and retired on a
second one in another row within 2^42 pt. (DESIGN CHOICE, log 21). -/
def State.chanUe (s : State) (ch off : Nat) : State :=
  let e := (aget s.chanErr ch).getD { t0 := s.plumb, ce := 0, runs := 0, ue := none }
  let row := Config.hbmRow ch off
  let again : Bool := match e.ue with
    | some (t, r) => decide (s.since t ≤ 2 ^ 42) && r != row
    | none => false
  let s1 := (s.count .hbmUeCnt ch 1).setReg ⟨.hbmUeAddr, ch, 0⟩ (BitVec.ofNat 32 (off + 2 ^ 31))
  let s2 := ({ s1 with chanErr := aset s1.chanErr ch { e with ue := some (s.plumb, row) } }).suspect 6 ch
  if again then s2.retireUnit 6 ch else s2

/-- Poison every granule of a deck line that stays in the deck (R239). -/
def State.deckPoison (s : State) (l : DeckLine) : State :=
  ((upto (l.line * 4) 4).foldl (fun s g => s.markGranule g true) s).count .dckPoisonCnt (deckUnit l.die l.part) 1

/-- One error that an access or a scrub finds; those of a core's own memories come with any access (R251). (DESIGN CHOICE, log
21). -/
def State.memErr (s : State) (e : MemErr) : State :=
  match e with
  | .ce a =>
    match s.place a with
    | .hbm ch _ =>
      match s.deckFind (hbmDie a) (a / 128) with
      | some l => s.count .dckCeCnt (deckUnit l.die l.part) 1
      | none => s.chanCe (s.physChan ch)
    | .spad c _ => s.count .ldrCeCnt (bayOf c) 1
    | .bay b _ => s.count .ldrCeCnt b 1
    | _ => s
  | .ue a =>
    match s.place a with
    | .hbm ch off =>
      match s.deckFind (hbmDie a) (a / 128) with
      | some l => if l.dirty then s.deckPoison l else s.deckDrop l.die l.line
      | none => (s.chanUe (s.physChan ch) off).markGranule (a / 32) true
    | .spad c off =>
      let s1 := s.count .ldrUeCnt (bayOf c) 1
      match (s.core c).slotAt off with
      | some (o, _) => s1.markSlot c (o / 16) true
      | none => s1.markGranule (a / 32) true
    | .bay b _ => (s.count .ldrUeCnt b 1).markGranule (a / 32) true
    | _ => s
  | .imem c w =>
    let k := s.core c
    if w < 2048 then s.setCore c { k with imPoison := sput (sput k.imPoison (w / 2 * 2)) (w / 2 * 2 + 1) } else s
  | .dmem c x w =>
    let v := s.ctx c x
    if x < 4 ∧ w < 256 then s.setCtx c x { v with dmPoison := sput (sput v.dmPoison (w / 2 * 2)) (w / 2 * 2 + 1) } else s

/-! ### Accesses and replies -/

/-- May the access be served: every byte belongs to the partition, which is not fenced (R24, R28, R420)? -/
def State.served (s : State) (p a n : Nat) : Bool :=
  !(s.part p).fenced && (s.part p).built && s.owns p a && (n == 0 || s.owns p (a + n - 1))

/-- A reply leaves (R414). (DESIGN CHOICE, log 9). -/
def State.reply (s : State) (p : Nat) (e : BitVec 8) (by_ : Issuer) (data : List PByte) (err : Bool)
    (latency : Option Nat) (t0 : Time) : State :=
  { s with replies := s.replies ++ [{ id := s.nextId, part := p, pepoch := e, dest := by_, data := data, err := err
                                      latency := latency, t0 := t0 }]
           nextId := s.nextId + 1 }

/-- A read request at its home spine (R20, R24, R235-R239, R416, R420): one of a stale partition epoch is dropped; one that
may not be served gets poison and an error mark. -/
def State.memRead (s : State) (P : Nat) (pepoch : BitVec 8) (by_ : Issuer) (pa len : Nat) (hint : BitVec 2) (lat : Bool)
    (issued : Time) (errs : List MemErr) : State :=
  if (s.part P).epoch ≠ pepoch then s.count .prtEpochDropCnt P 1
    else if !(s.served P pa len) then s.reply P pepoch by_ ((List.range len).map fun _ => (0#8, true)) true none issued
    else
      let s1 := errs.foldl State.memErr s
      let (s2, l) := s1.loadP P pa len hint.toNat
      let ch := match s.place pa with | .hbm c _ => if lat then some (s.physChan c) else none | _ => none
      s2.reply P pepoch by_ l false ch issued

/-- Does a write reach a core with a core epoch that is not current (R402)? -/
def State.staleWrite (s : State) (p pa : Nat) (by_ : Issuer) : Bool :=
  match by_, s.place pa with
  | .core c l e _, .spad c' _ => c == c' && !(s.fresh p (some l) e)
  | _, _ => false

/-- The place of a writer among those of one spine cycle (R20): the lower die, on it the cores by address, then the loaders,
the table engine, the collective engine, the joiners, the export engine, each by number; Welyar after every partition. -/
def Issuer.rank : Issuer → Nat
  | .core c _ _ _ => coreDie c * 2 ^ 40 + c
  | .engine n _ =>
    let u := n / 8
    let kind := match n % 8 with | 4 => 1 | 5 => 1 | 1 => 2 | 0 => 3 | 2 => 4 | _ => 5
    (if n % 8 = 4 ∨ n % 8 = 5 then u / 384 else u) * 2 ^ 40 + kind * 2 ^ 32 + u
  | .welyar => 2 ^ 50 + 1

/-- The ranks of writes of package control traffic beside Welyar's (R20). -/
def rankHost : Nat := 2 ^ 50
def rankTray : Nat := 2 ^ 50 + 2

/-- A write that reaches its home spine: of the bytes that another writer wrote in this spine cycle those of a later place
stand (R20). -/
def State.storeBy (s : State) (rank p a hint : Nat) (l : List PByte) : State :=
  let later (i : Nat) : Bool := match aget s.cyc.writes (a + i) with | some r => decide (rank < r) | none => false
  let now := s.pbytes a l.length
  let l' := (List.range l.length).map fun i => if later i then now.getD i (0#8, false) else l.getD i (0#8, false)
  let s1 := s.storeP p a hint l'
  { s1 with cyc := { s1.cyc with writes := (List.range l.length).foldl (fun w i =>
      if later i then w else aset w (a + i) rank) s1.cyc.writes } }

/-- The bytes that the bay's loader writes for a write of a scratchpad through its window are counted (R218, R255). -/
def State.windowBytes (s : State) (a n : Nat) : State :=
  match s.place a with
  | .spad c _ => s.count64 .ldrBytesLo .ldrBytesHi (bayOf c) n
  | _ => s

/-- A write request at its home spine (R20, R24, R235, R236, R252, R402, R416, R420). -/
def State.memWrite (s : State) (P : Nat) (pepoch : BitVec 8) (by_ : Issuer) (pa : Nat) (hint : BitVec 2)
    (data : List (Byte × Bool)) (errs : List MemErr) : State :=
  if (s.part P).epoch ≠ pepoch then s.count .prtEpochDropCnt P 1
    else if !(s.served P pa data.length) then s.reply P pepoch by_ [] true none s.plumb
    else if s.staleWrite P pa by_ then s.count .prtStaleCnt P 1
    else
      let s1 := errs.foldl State.memErr s
      ((s1.storeBy by_.rank P pa hint.toNat data).windowBytes pa data.length).reply P pepoch by_ [] false none s.plumb

/-- The epoch of an engine (R414). -/
def State.eepoch (s : State) (n : Nat) : BitVec 8 := (aget s.engEpoch n).getD 0#8

/-- The requester takes the reply; a latency-class read raises HBM_LAT_MAX to its latency (R258). -/
def State.takeReply (s : State) (r : Reply) : State :=
  let s1 := { s with taken := s.taken ++ [r] }
  match r.latency with
  | none => s1
  | some ch => s1.latMax ch (s.since r.t0)

/-- MEM_REPLY_ARRIVE (R258, R402, R416): dropped when its partition epoch, or its engine's, or its core's is not current;
else taken, and a latency-class read raises HBM_LAT_MAX to its latency. -/
def execMemReplyArrive (reply : Nat) (s : State) : Host.Outcome State Fault Refusal :=
  .next (
    match s.replies.find? (fun r => r.id == reply) with
    | none => s
    | some r =>
      let s1 := { s with replies := s.replies.filter fun x => x.id != reply }
      let old := (s.part r.part).epoch != r.pepoch
      match r.dest with
      | .engine n e =>
        if old || s.eepoch n != e then s1.count .prtEpochDropCnt r.part 1 else s1.takeReply r
      | .welyar => s1.takeReply r
      | .core _ l e _ =>
        if old then s1.count .prtEpochDropCnt r.part 1
        else if !(s.fresh r.part (some l) e) then s1.count .prtStaleCnt r.part 1 else s1.takeReply r)

/-! ### Channel scheduling, scrub, latency -/

/-- BULK_PROMOTE (R247): in priority mode a bulk request that has waited `guard` pt is promoted and counted. -/
def execBulkPromote (chan waited : Nat) (s : State) : Host.Outcome State Fault Refusal :=
  .next (
    match s.partOfChan chan with
    | none => s
    | some p =>
      if (s.part p).prio && decide (s.rfld ⟨.hbmArb, s.physChan chan, 0⟩ 15 0 ≤ waited)
      then s.count .hbmPromoteCnt (s.physChan chan) 1 else s)

/-- The package address of an error. -/
def MemErr.addr : MemErr → Option Nat
  | .ce a => some a
  | .ue a => some a
  | _ => none

/-- HBM_SCRUB_PASS (R441): with `scrub_en` set the granules of a channel are read; the errors found are corrected and
counted, or poison their granule. (DESIGN CHOICE, log 45). -/
def execHbmScrubPass (chan : Nat) (errs : List MemErr) (s : State) : Host.Outcome State Fault Refusal :=
  let mine (e : MemErr) : Bool :=
    match e.addr.map s.place with
    | some (.hbm c _) => c == chan
    | _ => false
  let one (s : State) (e : MemErr) : State :=
    match e with
    | .ce _ => s.chanCe (s.physChan chan)
    | .ue a => (s.chanUe (s.physChan chan) (bitsOf a 30 0)).markGranule (a / 32) true
    | _ => s
  .next (if s.rbit ⟨.mgtScrubCtl, 0, 0⟩ 0 then (errs.filter mine).foldl one s else s)

/-- DECK_SCRUB_PASS (R239, R441): with `scrub_en` set the lines of a die's deck are read. -/
def execDeckScrubPass (die : BitVec 2) (errs : List MemErr) (s : State) : Host.Outcome State Fault Refusal :=
  let mine (s : State) (e : MemErr) : Bool :=
    match e.addr with
    | some a => hbmDie a == die.toNat && (s.deckFind die.toNat (a / 128)).isSome
    | none => false
  .next (if s.rbit ⟨.mgtScrubCtl, 0, 0⟩ 0 then errs.foldl (fun s e => if mine s e then s.memErr e else s) s else s)

/-- HBM_LAT_MAX_READ (R258): the read returns the maximum and clears it. -/
def execHbmLatMaxRead (chan : Nat) (src : Src) (s : State) : Host.Outcome State Fault Refusal :=
  let k : RKey := ⟨.hbmLatMax, chan, 0⟩
  .next (if s.reaches src k false then { s.setReg k 0#32 with lastRead := some (s.reg k) }
    else { s with lastRead := some 0#32 })

/-! ### Deck commands (R238, R257) -/

/-- Write back and invalidate every line of a partition on a die (R238). -/
def State.deckFlush (s : State) (d p : Nat) : State :=
  (s.deck.filter fun l => l.die == d && l.part == p).foldl (fun s l => s.deckEvict l) s

/-- DECK_FLUSH (R238, R239): ignored while a flush runs. -/
def execDeckFlush (die : BitVec 2) (p : BitVec 3) (src : Src) (s : State) : Host.Outcome State Fault Refusal :=
  let d := die.toNat
  let k : RKey := ⟨.dckCmd, deckUnit d p.toNat, 0⟩
  .next (s.accessW src k fun s => if s.rbit k 0 then s else (s.deckFlush d p.toNat).setFld k 0 0 1)

/-- DECK_FLUSH_COMPLETE (R238, R257). -/
def execDeckFlushComplete (die : BitVec 2) (p : BitVec 3) (s : State) : Host.Outcome State Fault Refusal :=
  let k : RKey := ⟨.dckCmd, deckUnit die.toNat p.toNat, 0⟩
  .next (if s.rbit k 0 then (s.setFld k 0 0 0).setFld k 2 2 1 else s)

/-- DECK_UNKEEP (R236, R257). -/
def execDeckUnkeep (die : BitVec 2) (p : BitVec 3) (src : Src) (s : State) : Host.Outcome State Fault Refusal :=
  let d := die.toNat
  .next (s.accessW src ⟨.dckCmd, deckUnit d p.toNat, 0⟩ fun s =>
    { s with deck := s.deck.map fun (l : DeckLine) => if l.die = d ∧ l.part = p.toNat then { l with keep := false } else l })

end Sys2Proof.Machine
end

