-- ==== Sys2Proof/Machine/Partition.lean ====
section
/-! DEFINITION. Partitions, page tables and virtual functions (13: R380-R407; R22, R23, R28, R247, R250, R372, R419, R428). -/
namespace Sys2Proof.Machine

/-! ### Routes over the ring (R22, R23) -/

def State.link (s : State) (l : Nat) : Link := s.links.getD l {}
def State.setLink (s : State) (l : Nat) (v : Link) : State := { s with links := s.links.setIfInBounds l v }

/-- The links clockwise from ring position a to b, and the rest of the ring. -/
def ringArc (a b : Nat) : List Nat := (List.range ((b + 4 - a) % 4)).map fun i => (a + i) % 4

/-- The links of the route between two dies; a route over a retired link goes the other way around. -/
def State.route (s : State) (a b : Nat) : List Nat :=
  let x := ringPos a
  let y := ringPos b
  let cw := ringArc x y
  let ccw := ringArc y x
  let pref := if cw.length = 1 then (cw, ccw) else if ccw.length = 1 then (ccw, cw)
    else if a = 0 ∨ a = 3 then (cw, ccw) else (ccw, cw)
  if a = b then [] else if pref.1.any (fun l => (s.link l).st == 3) then pref.2 else pref.1

/-- The links that the routes between some dies cross. -/
def State.routeLinks (s : State) (dies : List Nat) : List Nat :=
  (List.range 4).filter fun l => dies.any fun a => dies.any fun b => (s.route a b).contains l

/-- The dies a partition uses (R383). -/
def Part.dies (q : Part) : List Nat :=
  (List.range 4).filter fun d => q.bents.any (fun b => b / 24 == d) || q.chans.any (fun c => c / 192 == d) ||
    q.ports.any (fun n => n / 2 == d)

/-! ### Bundles of a link (R372) -/

/-- The bundles of a link in a state, ascending. -/
def Link.inState (l : Link) (st : Nat) : List Nat :=
  (List.range l.bundles.length).filter fun i => match l.bundles[i]? with | some b => b.st == st | none => false

def Link.setBundle (l : Link) (i : Nat) (f : Bundle → Bundle) : Link :=
  { l with bundles := match l.bundles[i]? with | some b => l.bundles.set i (f b) | none => l.bundles }

/-- Give `n` standby bundles of a link to a partition. -/
def State.giveBundles (s : State) (l p n : Nat) : State :=
  s.setLink l (((s.link l).inState 3).take n |>.foldl (fun k i => k.setBundle i fun b => { b with st := 4, part := p }) (s.link l))

/-- Nothing of a direction is under way any more; its link sequence goes on. -/
def D2dDir.drained (d : D2dDir) : D2dDir :=
  { d with acked := d.next, expect := d.next, asked := false, replays := 0, buf := [], held := [], wire := [] }

/-- The fence drains a partition's flits from its bundles (R374, R428). -/
def State.drainFlits (s : State) (p : Nat) : State :=
  (List.range 4).foldl (fun s l =>
    let k := s.link l
    s.setLink l { k with bundles := k.bundles.map fun (b : Bundle) =>
      if b.st = 4 ∧ b.part = p then { b with fwd := b.fwd.drained, bwd := b.bwd.drained } else b }) s

/-- The bundles of a partition return to standby. -/
def State.freeBundles (s : State) (p : Nat) : State :=
  (List.range 4).foldl (fun s l =>
    let k := s.link l
    s.setLink l { k with bundles := k.bundles.map fun (b : Bundle) =>
      if b.st = 4 ∧ b.part = p then { b with st := 3, part := 0, fwd := b.fwd.drained, bwd := b.bwd.drained } else b }) s

/-! ### Ending the work of a partition and zeroing its units (R384, R419, R428) -/

/-- Is a package address in the scratchpads or bay buffers of some bents? -/
def inBents (bents : List Nat) (a : Nat) : Bool :=
  (decide (spadBase ≤ a ∧ a < bayBase) && bents.contains (bentOf ((a - spadBase) / 2 ^ 16))) ||
  (decide (bayBase ≤ a ∧ a < bayBase + 1536 * 2 ^ 20) && bents.contains ((a - bayBase) / 2 ^ 20 / 16))

/-- Is a package address in some channels? -/
def inChans (chans : List Nat) (a : Nat) : Bool :=
  decide (a < 2 ^ 41) && chans.contains ((bitsOf a 40 39 * 6 + bitsOf a 38 36) * 32 + bitsOf a 35 31)

/-- Forget the bytes and marks of the addresses that satisfy a test: they read as unlisted. -/
def State.forget (s : State) (f : Nat → Bool) : State :=
  { s with mem := s.mem.filter fun e => !(f e.1), poison := s.poison.filter fun g => !(f (g * 32)) }

/-- The work of a partition ends (R419): tile instructions, transfers, sends, engine items, frames not yet sent. The
flows it sends, ack flows too, start again at sequence 0 under its next epoch (R342). -/
def State.endWork (s : State) (p : Nat) : State :=
  let bents := (s.part p).bents
  let mine (c : Nat) : Bool := bents.contains (bentOf c)
  let s1 := { s with
    cores := s.cores.map fun (e : Nat × Core) => if mine e.1 then (e.1, { e.2 with queue := [], run := none, tail := [] }) else e
    xfers := s.xfers.filter fun x => x.part != p
    sends := s.sends.filter fun x => x.part != p
    supplies := s.supplies.filter fun x => x.2.part != p
    ags := s.ags.filter fun x => x.part != p
    signals := s.signals.filter fun g => g.part != p
    colrecs := s.colrecs.filter fun r => r.part != p
    pegMsgs := s.pegMsgs.filter fun m => m.part != p
    sflows := s.sflows.filter fun e => e.1.tray || e.1.part != p
    rflows := s.rflows.map fun (e : FlowKey × RFlow) => if !e.1.tray && e.1.part == p then (e.1, { e.2 with ackSeq := 0 }) else e
    replay := s.replay.filter fun r => r.key.tray || r.key.part != p
    bays := s.bays.map fun (e : Nat × BayCmd) => if bents.contains (e.1 / 16) then (e.1, { e.2 with result := 2 }) else e }
  (List.range 256).foldl (fun s i =>
    if s.poolOn (i / 64) (i % 64) p then
      s.setPool (i / 64) (i % 64) { s.pool (i / 64) (i % 64) with queue := [], reqs := [], eng := [] }
    else s) s1

/-- The pegs of a partition become 0 and its waiters are gone. -/
def State.zeroPegs (s : State) (p : Nat) : State :=
  let q := s.part p
  let spn (k : RKey) : Bool := k.reg == .pegSpnVal && (q.pegblk.getD k.unit 0).testBit (k.idx / 256)
  let bnt (k : RKey) : Bool := k.reg == .pegBentVal && q.bents.contains k.unit
  let home (h : PegHome) : Bool :=
    match h with
    | .ctx c _ _ => q.bents.contains (bentOf c)
    | .bent b _ => q.bents.contains b
    | .spine d i => (q.pegblk.getD d 0).testBit (i / 256)
    | .remote .. => false
  { s with regs := s.regs.filter fun e => !(spn e.1 || bnt e.1), waiters := s.waiters.filter fun w => !(home w.home)
           badPegs := s.badPegs.filter fun h => !(home h) }

/-- The pools of a partition are disabled and freed (R213). -/
def State.zeroPools (s : State) (p : Nat) : State :=
  (List.range 256).foldl (fun s i =>
    if ((s.part p).pools.getD (i / 64) 0).testBit (i % 64) then
      (s.setFld ⟨.spnPoolCfg, i, 0⟩ 7 7 0).setPool (i / 64) (i % 64) {}
    else s) s

/-- Truss entries and joiner contexts are retired; a waiting export or import ends. -/
def State.retireTables (s : State) (p : Nat) : State :=
  let s1 := if s.rbit ⟨.jnrXpCmd, p, 0⟩ 0 then (s.setFld ⟨.jnrXpCmd, p, 0⟩ 0 0 0).cmdDone ⟨.jnrXpStatus, p, 0⟩ 2 0 0 (some p) else s
  { s1 with trusses := s1.trusses.filter fun e => e.1.1 != p, jctxs := s1.jctxs.filter fun e => e.1.1 != p }

/-- Step 1 of R384: memories, contexts, ring trackers, pegs and segments of the bents are zeroed. -/
def State.zeroUnits (s : State) (p : Nat) : State :=
  let bents := (s.part p).bents
  let s1 := (s.zeroPegs p).forget (inBents bents)
  { s1 with cores := s1.cores.filter fun e => !(bents.contains (bentOf e.1)) }

/-- The deck ways of a partition are invalidated without writeback (R384). -/
def State.dropDeck (s : State) (p : Nat) : State := { s with deck := s.deck.filter fun l => l.part != p }

/-! ### Resetting a VF (R397) -/

/-- Clears the cause, mask, vector map, MSI-X table and host queues of a VF, and abandons its dump with PRT_TEL_CTL cleared
(R562), then sets cause 17 on it. A descriptor in progress writes no status (R539). -/
def State.vfReset (s : State) (v : Nat) : State :=
  let mine (k : RKey) : Bool :=
    (k.reg == .prtVfCause || k.reg == .prtVfMask || k.reg == .prtVfVmap || k.reg == .prtTelCtl) && k.unit == v ||
      k.blk == .vfHq && k.unit / 8 == v
  let f := s.vf v
  let s1 := { s with regs := s.regs.filter fun e => !(mine e.1) }
  (s1.setVf v { f with msix := [], msixMask := BitVec.allOnes 64, msixPend := 0#64, jobs := [], dump := none }).vfCause v 17

/-! ### Build descriptors (R382, R383) -/

/-- The bits of a mask of `n` bytes. -/
def maskBits (d : List Byte) (off n : Nat) : List Nat := (List.range (8 * n)).filter (dfield d off n).testBit

/-- The partition a descriptor describes. -/
def Part.ofDesc (d : List Byte) : Part :=
  { desc := d, unchecked := (dfield d 1 1).testBit 0, bents := maskBits d 8 12, ports := maskBits d 0x14 1
    slice := BitVec.ofNat 24 (dfield d 0x15 3), pegblk := (List.range 4).map fun i => dfield d (0x20 + 8 * i) 8
    pools := (List.range 4).map fun i => dfield d (0x40 + 8 * i) 8, ways := (List.range 4).map fun i => dfield d (0x60 + 2 * i) 2
    share := (List.range 4).map fun i => dfield d (0x68 + i) 1, bundles := (List.range 4).map fun i => dfield d (0x6C + i) 1
    ptbase := dfield d 0x70 8, ptpages := dfield d 0x78 4, chans := maskBits d 0x80 96 }

/-- Zero fields and ranges (reason 1). -/
def descFields (d : List Byte) : Bool :=
  let q := Part.ofDesc d
  decide (dfield d 0 1 < 8) && decide (dfield d 1 1 < 2) && dfield d 2 2 == 0 && decide (dfield d 4 4 ≤ 4095) &&
  dfield d 0x18 8 == 0 && q.ways.all (fun w => decide (w < 2 ^ 14)) && q.share.all (fun x => decide (x ≤ 60)) &&
  q.bundles.all (fun x => decide (x ≤ 46)) && q.ptbase % 2 ^ 21 == 0 && decide (q.ptbase < 2 ^ 44) &&
  decide (1 ≤ q.ptpages ∧ q.ptpages ≤ 64) && dfield d 0x7C 4 == 0 && ((d.drop 0xE0).all (· == 0#8))

/-- The built partitions other than `p`. -/
def State.others (s : State) (p : Nat) : List Part := ((List.range 8).filter fun x => x != p && (s.part x).built).map s.part

/-- Two lists of masks share a bit. -/
def maskClash (a b : List Nat) : Bool := (a.zip b).any fun e => Nat.land e.1 e.2 != 0

/-- Units held, retired, or without an enabled core or good lane (reason 2). -/
def State.unitsBad (s : State) (p : Nat) (q : Part) : Bool :=
  (s.others p).any (fun o => o.bents.any q.bents.contains || o.chans.any q.chans.contains || o.ports.any q.ports.contains ||
    maskClash o.ways q.ways || maskClash o.pegblk q.pegblk || maskClash o.pools q.pools) ||
  q.chans.any (fun c => s.retired.contains (6, s.physChan c) || s.slotHole c) || q.bents.any (fun b => !((coresOfBent b).any s.enabled)) ||
  q.ports.any (fun n => (s.port n).dead)

/-- The shares of a partition on its dies (reason 5). -/
def State.sharesBad (s : State) (p : Nat) (q : Part) (share : List Nat) : Bool :=
  q.dies.any (fun d => share.getD d 0 == 0) ||
  (List.range 4).any fun d => decide (60 < share.getD d 0 + ((s.others p).map fun o => o.share.getD d 0).foldl (· + ·) 0)

/-- The bundle counts of a partition (reason 4). -/
def State.bundlesBad (s : State) (q : Part) : Bool :=
  let need := s.routeLinks q.dies
  (List.range 4).any fun l =>
    let n := q.bundles.getD l 0
    if need.contains l then n == 0 || decide (((s.link l).inState 3).length < n) else n != 0

/-- The enabled cores of a partition's bents, ascending. -/
def State.bentCores (s : State) (bents : List Nat) : List Nat :=
  (((List.range 96).filter bents.contains).flatMap coresOfBent).filter s.enabled

/-- The checks of R383 in order: 0, or the first reason. (DEDUCED, log 30). -/
def State.buildCheck (s : State) (p : Nat) (l : List PByte) : Nat :=
  let d := dataOf l
  let q := Part.ofDesc d
  if (s.part p).built || anyPoison l || !(descFields d) || dfield d 0 1 != p then 1
  else if s.unitsBad p q then 2
  else if q.bents.isEmpty || q.chans.isEmpty || (q.ports.isEmpty != (q.slice == 0#24)) then 3
  else if s.bundlesBad q then 4
  else if s.sharesBad p q q.share then 5
  else if !((List.range q.ptpages).all fun i => inChans q.chans (q.ptbase + i * 2 ^ 21) &&
      (match s.place (q.ptbase + i * 2 ^ 21) with | .hbm .. => true | _ => false)) then 6
  else if (s.bentCores q.bents).length ≤ dfield d 4 4 then 7
  else 0

/-- Core classes (R36, R65, R446): a change that takes a die below 75,000 enabled cores, or the package below 300,000, is
reported. -/
def State.coreCount (s : State) (d : Nat) : Nat :=
  if s.configured then 76800 - (s.classes.filter fun e => coreDie e.1 == d && e.2.1 == 0).length else 0

def State.coreSum (s : State) : Nat := s.coreCount 0 + s.coreCount 1 + s.coreCount 2 + s.coreCount 3

def State.setClass (s : State) (c : Nat) (cls : Nat × Nat) : State :=
  let s1 := { s with classes := aset s.classes c cls }
  let d := coreDie c
  let s2 := if 75000 ≤ s.coreCount d ∧ s1.coreCount d < 75000 then s1.pldmEvent 0x000A d else s1
  if 300000 ≤ s.coreSum ∧ s1.coreSum < 300000 then s2.pldmEvent 0x000A 0xFF else s2

/-- The classes that the retirement list gives the cores of some bents take effect when they are configured (R444, R445,
R504): kind 1 retired, kind 2 one bad column. (DEDUCED, log 46). -/
def State.applyClasses (s : State) (bents : List Nat) : State :=
  s.flash.retire.foldl (fun s e =>
    let (k, aux, id, _) := e
    if !(bents.contains (bentOf id)) || !(validCore id) then s
    else if k = 1 then s.setClass id (0, 0)
    else if k = 2 && (s.coreClass id).1 != 0 then s.setClass id (2, aux)
    else s) s

/-- Is a register one of the units that a build assigns (R543)? -/
def Part.unit (q : Part) (p : Nat) (k : RKey) : Bool :=
  match k.blk with
  | .core => q.bents.contains (bentOf k.unit)
  | .idle => q.bents.contains (bentOf k.unit)
  | .bay => q.bents.contains (k.unit / 16)
  | .bent => q.bents.contains k.unit
  | .pegErr => k.unit % 25 != 24 && q.bents.contains (k.unit / 25 * 24 + k.unit % 25)
  | .deck => k.unit % 8 == p
  | .chan => q.chans.contains k.unit
  | .port => q.ports.contains k.unit
  | .pool => (q.pools.getD (k.unit / 64) 0).testBit (k.unit % 64)
  | .dld => k.unit == p
  | .trs => k.unit == p
  | .jnr => k.unit == p
  | .fabric => k.unit == p
  | .prtState => k.unit == p
  | .recovery => k.unit == p
  | .pwrPart => k.unit == p
  | .pert => k.unit == p
  | _ => false

/-- The word with every CNT field zero. -/
def clearCnt (r : Reg) (w : Word) : Word :=
  (r.fields.filter fun f => f.acc == .cnt).foldl (fun w f => setField w (f.lo + f.width - 1) f.lo 0) w

def State.clearCounters (s : State) (mine : RKey → Bool) : State :=
  { s with regs := s.regs.map fun (e : RKey × Word) => if mine e.1 then (e.1, clearCnt e.1.reg e.2) else e }

/-- The partition of a descriptor once it is built: its reserve cores are the highest whose bay's loader is not retired
(R385, R443). -/
def State.built (s : State) (d : List Byte) : Part :=
  let q0 := Part.ofDesc d
  let cs := s.bentCores q0.bents
  let able := cs.filter fun c => !(s.retired.contains (4, bayOf c))
  let res := able.drop (able.length - dfield d 4 4)
  let one : Bool := match q0.bents.head? with
    | some b => q0.bents.all (fun x => x / 24 == b / 24) && q0.chans.all (fun c => c / 192 == b / 24)
    | none => false
  { q0 with
    built := true, prio := one, epoch := 0#8, tables := [⟨0, 1, 0⟩], leaves := []
    coreMap := cs.filter fun c => !(res.contains c), coreEpoch := List.replicate (cs.length - res.length) 0#8
    migTime := List.replicate (cs.length - res.length) none, reserve := res }

/-- The units of a new partition are zeroed, its counters start from zero (R543), its channels get a new key. -/
def State.buildUnits (s : State) (p : Nat) (q : Part) : State :=
  let s1 := (((s.setPart p q).clearCounters (q.unit p)).zeroUnits p).dropDeck p
  let k : RKey := ⟨.secHbmKeygen, p, 0⟩
  ({ s1 with zeroed := s1.zeroed.filter fun c => !(q.chans.contains c) }.forget (inChans q.chans)).setFld k 15 0 (s.rfld k 15 0 + 1)

/-! ### Mesh links (R17, R387) -/

/-- The mesh links of the package: a bent and its right or lower neighbour on its die, 4 rows of 6. -/
def meshAll : List (Nat × Nat) :=
  (List.range 96).flatMap fun b =>
    (if b % 6 < 5 then [(b, b + 1)] else []) ++ (if b % 24 / 6 < 3 then [(b, b + 6)] else [])

/-- The mesh links whose two bents one built partition holds; every other is disabled. -/
def State.meshEnabled (s : State) : List (Nat × Nat) :=
  meshAll.filter fun m => (List.range 8).any fun p => (s.part p).built && (s.part p).bents.contains m.1 && (s.part p).bents.contains m.2

/-- Welyar sets the mesh links at a build and a dissolve. -/
def State.setMesh (s : State) : State := { s with mesh := s.meshEnabled }

/-- The bents of a walk from `a` in `n` steps of `d`. -/
def meshWalk (a d n : Nat) (up : Bool) : List Nat := (List.range n).map fun i => if up then a + (i + 1) * d else a - (i + 1) * d

/-- The route between two bents of a die, along the row first and then along the column, as its mesh links. -/
def meshRoute (a b : Nat) : List (Nat × Nat) :=
  let row := meshWalk a 1 ((b % 6 - a % 6) + (a % 6 - b % 6)) (a % 6 < b % 6)
  let c := a - a % 6 + b % 6
  let col := meshWalk c 6 ((b / 6 - a / 6) + (a / 6 - b / 6)) (a / 6 < b / 6)
  let stops := a :: (row ++ col)
  (stops.zip stops.tail).map fun e => (min e.1 e.2, max e.1 e.2)

/-- How a flit goes between two bents: over the mesh links of that route when each of them is enabled; `none`: through the
trunk. -/
def State.flitMesh (s : State) (a b : Nat) : Option (List (Nat × Nat)) :=
  if a / 24 = b / 24 ∧ (meshRoute a b).all s.mesh.contains then some (meshRoute a b) else none

/-- Its decks keep one way, its links get their bundles. -/
def State.buildLinks (s : State) (p : Nat) (q : Part) : State :=
  (List.range 4).foldl (fun s l => s.giveBundles l p (q.bundles.getD l 0))
    ((List.range 4).foldl (fun s d => s.setFld ⟨.dckKeep, deckUnit d p, 0⟩ 4 0 1) s)

/-- A partition has no flows. -/
def State.dropFlows (s : State) (p : Nat) : State :=
  { s with
    sflows := s.sflows.filter fun e => e.1.tray || e.1.part != p
    rflows := s.rflows.filter fun e => e.1.tray || e.1.part != p
    replay := s.replay.filter fun r => r.key.tray || r.key.part != p }

/-- Its ports train. -/
def State.buildPorts (s : State) (p : Nat) (q : Part) : State :=
  q.ports.foldl State.assignTrain
    (s.setReg ⟨.lmdSlice, p, 0⟩ (BitVec.ofNat 32 (q.slice.toNat + (q.ports.map fun n => 2 ^ (24 + n)).foldl (· + ·) 0)))

/-- Steps 1 to 7 of R384. A build while the cap is infeasible leaves the bents parked (R476). -/
def State.build (s : State) (p : Nat) (d : List Byte) : State :=
  let q := s.built d
  let s1 := (((((s.buildUnits p q).buildLinks p q).zeroPools p).retireTables p).dropFlows p).setMesh.buildPorts p q
  if s1.rbit ⟨.pwrStatus, 0, 0⟩ 0 then s1.parkPart p else s1

/-! ### The commands of PRT_CMD (R405) -/

def kPrtCmd : RKey := ⟨.prtCmd, 0, 0⟩
def kPrtStatus : RKey := ⟨.prtStatus, 0, 0⟩

/-- A write of `go` to PRT_CMD with its fields: ignored while a command runs. -/
def State.prtGo (s : State) (src : Src) (p op vf : Nat) (f : State → State) : State :=
  s.accessW src kPrtCmd fun s =>
    if s.rbit kPrtCmd 12 then s else f (s.setReg kPrtCmd (BitVec.ofNat 32 (p + op * 8 + vf * 64)))

/-- End of a command: result and reason, the PF's command-done cause. -/
def State.prtDone (s : State) (result reason : Nat) : State := (s.cmdDone kPrtStatus result reason 8 none).pfCause 9

/-- PARTITION_BUILD (R382-R385, R405). -/
def execPartitionBuild (src : Src) (p : BitVec 3) (s : State) : Host.Outcome State Fault Refusal :=
  let P := p.toNat
  .next (s.prtGo src P 1 0 fun s =>
    let pa := (s.reg ⟨.prtDescLo, 0, 0⟩).toNat + 2 ^ 32 * s.rfld ⟨.prtDescHi, 0, 0⟩ 11 0
    match s.place pa with
    | .hbm ch _ =>
      if (s.partOfChan ch).isSome || pa % 256 != 0 then s.prtDone 3 0
      else
        let l := s.pbytes pa 256
        let s1 := s.applyClasses (Part.ofDesc (dataOf l)).bents
        let r := s1.buildCheck P l
        if r = 0 then
          let s2 := (s1.build P (dataOf l)).noteWork
          { s2 with cyc := { s2.cyc with builds := P :: s2.cyc.builds } }.prtDone 0 0
        else s.prtDone 2 r
    | _ => s.prtDone 3 0)

/-- The VFs of a partition are reset and unbound (R397). -/
def State.dissolveVfs (s : State) (p : Nat) : State :=
  (s.vfsOf p).foldl (fun s v => let s' := s.vfReset v; s'.setVf v { s'.vf v with bound := none, hshare := 0 }) s

/-- The units of a partition are zeroed and free again. -/
def State.dissolveUnits (s : State) (p : Nat) (chans : List Nat) : State :=
  (((((s.zeroUnits p).dropDeck p).zeroPools p).retireTables p).freeBundles p).forget (inChans chans)

/-- Its keys, programs, flows and registers are gone; partition debug and its perturbations end with it (R568, R579). -/
def State.dissolveKeys (s : State) (p : Nat) (bents : List Nat) : State :=
  { s with
    keys := s.keys.filter fun e => e.1.1 != p, keySwitch := adel s.keySwitch p
    jprogs := s.jprogs.filter fun e => e.2.part != p
    rflows := s.rflows.filter fun e => e.1.tray || e.1.part != p
    pendingSub := s.pendingSub.filter fun c => !(bents.contains (bentOf c))
    regs := s.regs.filter fun e => !((e.1.reg == Reg.secPartRoot || e.1.reg == Reg.lmdSlice || e.1.reg == Reg.lmdKey ||
      e.1.blk == RegBlk.pert && e.1.reg != Reg.tstPertCnt) && e.1.unit == p) }.setFld ⟨.tstDbgState, 0, 0⟩ (8 + p) (8 + p) 0

/-- Its ports go off. -/
def State.dissolvePorts (s : State) (ports : List Nat) : State :=
  s.portsStep ports fun s n => let s1 := s.offStep n; s1.setPort n { s1.port n with fence := some s.plumb }

/-- The root registers of a partition as bytes. -/
def State.rootOf (s : State) (p : Nat) : List Byte := (List.range 12).flatMap fun w => leBytes 4 (s.reg ⟨.secPartRoot, p, w⟩).toNat

/-- A partition is dissolved (R386): its fence advances the epoch as that of a partition reset does (R414, R419). (DEDUCED,
log 96). -/
def State.dissolve (s : State) (p : Nat) : State :=
  let q := s.part p
  let s0 := if q.fenced then s else s.flushFlows p
  let s1 := ((s0.cause p 14).setPart p { s0.part p with fenced := true }).endWork p
  let s2 := (((s1.dissolveVfs p).dissolveUnits p q.chans).dissolveKeys p q.bents).dissolvePorts q.ports
  { (s2.setPart p { epoch := if q.fenced then q.epoch else q.epoch + 1#8, inspEnd := q.inspEnd }).setMesh with
    cyc := { s.cyc with roots := aset s.cyc.roots p (s.rootOf p), fences := p :: s.cyc.fences } }

/-- PARTITION_DISSOLVE (R386, R405). -/
def execPartitionDissolve (src : Src) (p : BitVec 3) (s : State) : Host.Outcome State Fault Refusal :=
  .next (s.prtGo src p.toNat 2 0 fun s =>
    if (s.part p.toNat).built then (s.dissolve p.toNat).prtDone 0 0 else s.prtDone 2 0)

/-- SHARES_SET (R398). -/
def execSharesSet (src : Src) (p : BitVec 3) (s : State) : Host.Outcome State Fault Refusal :=
  let P := p.toNat
  .next (s.prtGo src P 4 0 fun s =>
    let q := s.part P
    let share := (List.range 4).map fun i => wbits (s.reg ⟨.prtArg0, 0, 0⟩) (8 * i + 7) (8 * i)
    if !q.built then s.prtDone 2 0
    else if share.any (fun x => decide (60 < x)) || s.sharesBad P q share then s.prtDone 2 5
    else (s.setPart P { q with share := share }).prtDone 0 0)

/-- May VF `v` be bound to partition `p` with host share `h` (R391)? -/
def State.bindOk (s : State) (p v h : Nat) : Bool :=
  let sum := ((upto 1 63).map fun w => if (s.vf w).bound.isSome then (s.vf w).hshare else 0).foldl (· + ·) 0
  !(v == 0 || !(s.part p).built || (s.vf v).bound.isSome || decide (16 ≤ (s.vfsOf p).length) || h == 0 || decide (60 < h + sum))

/-- A VF is bound; its counters start from zero (R543). -/
def State.bindVf (s : State) (p v h : Nat) : State :=
  let mine (k : RKey) : Bool :=
    k.reg == .prtVfDropCnt && k.unit == v || k.blk == .vfTel && k.unit == v || k.blk == .vfHq && k.unit / 8 == v
  (s.clearCounters mine).setVf v { s.vf v with bound := some p, hshare := h }

/-- VF_BIND (R391, R405, R543). -/
def execVfBind (src : Src) (p : BitVec 3) (vf : BitVec 6) (s : State) : Host.Outcome State Fault Refusal :=
  .next (s.prtGo src p.toNat 5 vf.toNat fun s =>
    let h := s.rfld ⟨.prtArg0, 0, 0⟩ 5 0
    if s.bindOk p.toNat vf.toNat h then (s.bindVf p.toNat vf.toNat h).prtDone 0 0 else s.prtDone 2 0)

/-- VF_UNBIND (R397, R405). -/
def execVfUnbind (src : Src) (vf : BitVec 6) (s : State) : Host.Outcome State Fault Refusal :=
  let v := vf.toNat
  .next (s.prtGo src 0 6 v fun s =>
    if (s.vf v).bound.isNone then s.prtDone 2 0
    else
      let s1 := s.vfReset v
      (s1.setVf v { s1.vf v with bound := none, hshare := 0 }).prtDone 0 0)

/-! ### Migration (R402-R404) -/

/-- Clean (R403): Stopped by a marker, with no transfer or send outstanding. -/
def State.cleanCtx (s : State) (c x : Nat) : Bool :=
  (s.ctx c x).st == .stopped && (s.ctx c x).cause == 6#8 && (s.xfersOf c x).isEmpty && (s.sendsOf c x).isEmpty

/-- A context as it arrives at the new core: clean ones stay Stopped, every other is Empty and its run ended. -/
def State.moveCtx (s : State) (c x : Nat) : Ctx :=
  let v := s.ctx c x
  if s.cleanCtx c x then v else { v with st := .empty, cause := 0#8, wait := .none, heldStart := v.heldStart }

/-- Copy the scratchpad bytes and marks of a core to another. -/
def State.copySpad (s : State) (a b : Nat) : State :=
  let ra := spadAddr a 0
  let rb := spadAddr b 0
  let inR (r x : Nat) : Bool := decide (r ≤ x ∧ x < r + 2 ^ 16)
  let s1 := s.forget (inR rb)
  let s2 := (s.mem.filter fun e => inR ra e.1).foldl (fun s e => s.pokeByte (rb + (e.1 - ra)) e.2) s1
  (s.poison.filter fun g => inR ra (g * 32)).foldl (fun s g => s.markGranule (g + rb / 32 - ra / 32) true) s2

/-- Steps 3 to 6 of R403. -/
def State.moveCore (s : State) (p l a b : Nat) : State :=
  let k := s.core a
  let kb : Core := { ctxs := Vector.ofFn fun (x : Fin 4) => s.moveCtx a x.val, imem := k.imem, imPoison := k.imPoison
                     side := k.side, slotPoison := [] }
  let ka : Core := { k with ctxs := Vector.replicate 4 {}, queue := [] }
  let s1 := ((s.copySpad a b).setCore b kb).setCore a ka
  let s2 := { s1 with waiters := s1.waiters.filter fun w => !(w.core == a && w.jnr.isNone)
                      signals := s1.signals.map fun (g : Signal) => match g.home with
                        | .ctx c x i => if c = a then { g with home := .ctx b x i } else g
                        | _ => g }
  let q := s2.part p
  let q1 : Part := { q with
    coreMap := q.coreMap.set l b, coreEpoch := q.coreEpoch.set l (s.cepoch p l + 1#8), migTime := q.migTime.set l (some s.plumb)
    reserve := sput (sdel q.reserve b) a }
  ((s2.setPart p q1).count .prtMigCnt p 1).event (coreDie b) (domOfBent (bentOf b)) 0x0203 p (srcCore b 0) l a

/-- Step 1 of R403. -/
def State.stopAll (s : State) (a : Nat) : State := (List.range 4).foldl (fun s x => s.stopCtx a x) s

/-- Has the core a tile instruction in flight (step 2 of R403)? -/
def State.inFlight (s : State) (a : Nat) : Bool := (s.core a).run.isSome || !(s.core a).tail.isEmpty

/-- CORE_MIGRATE (R402-R405): while a tile instruction of the old core is in flight the command waits with `go` set, and
goes on when it is given again. (DEDUCED, log 31). -/
def execCoreMigrate (src : Src) (p : BitVec 3) (s0 : State) : Host.Outcome State Fault Refusal :=
  let P := p.toNat
  let l := (s0.reg ⟨.prtArg0, 0, 0⟩).toNat
  let b := s0.rfld ⟨.prtArg1, 0, 0⟩ 18 0
  let finish (s : State) : State :=
    match (s.part P).coreMap[l]? with
    | none => (s.setFld kPrtCmd 12 12 0).prtDone 2 0
    | some a => if s.inFlight a then s else ((s.moveCore P l a b).setFld kPrtCmd 12 12 0).prtDone 0 0
  .next (
    if s0.rbit kPrtCmd 12 && s0.rfld kPrtCmd 5 3 == 3 && s0.rfld kPrtCmd 2 0 == P && s0.reaches src kPrtCmd true then finish s0
    else s0.prtGo src P 3 0 fun s =>
      let q := s.part P
      match q.coreMap[l]? with
      | none => s.prtDone 2 0
      | some a =>
        if !(q.reserve.contains b) then s.prtDone 2 0
        else if (match q.migTime.getD l none with | some t => decide (s.since t < 2 ^ 25) | none => false) then s.prtDone 1 0
        else finish ((s.stopAll a).setFld kPrtCmd 12 12 1))

/-! ### Mapping (R388-R390) -/

/-- May a page be named by a leaf (R28, R390)? A page of the scratchpad window may hold holes among its slots. -/
def State.pageOk (s : State) (p pa : Nat) (lg : Bool) : Bool :=
  let q := s.part p
  if lg then decide (spadBase ≤ pa ∧ pa < bayBase ∧ (pa - spadBase) / 2 ^ 16 < q.coreMap.length)
  else
    let slots := (List.range 32).map fun i => pa + i * 2 ^ 16
    let live := slots.filter fun a => s.place a != .hole
    !live.isEmpty && live.all (s.owns p) && !(decide (q.ptbase ≤ pa ∧ pa < q.ptbase + q.ptpages * 2 ^ 21))

/-- The lowest free slot of the region. (DESIGN CHOICE, log 19). -/
def Part.freeSlot (q : Part) : Option Nat :=
  (List.range (512 * q.ptpages)).find? fun i => !(q.tables.any fun t => t.slot == i)

/-- Add the table of a level over some VA bits when it is missing; `none` without a free slot. (DEDUCED, log 20). -/
def Part.addTable (q : Part) (level pre : Nat) : Option Part :=
  if q.tables.any (fun t => t.level == level && t.pre == pre) then some q
  else q.freeSlot.map fun i => { q with tables := q.tables ++ [⟨i, level, pre⟩] }

/-- Write one leaf. (DEDUCED, log 20). -/
def Part.addLeaf (q : Part) (vpage : Nat) (lf : Leaf) : Option Part :=
  (q.addTable 2 (vpage / 2 ^ 18)).bind fun q1 => (q1.addTable 3 (vpage / 2 ^ 9)).map fun q2 =>
    { q2 with leaves := mput q2.leaves vpage lf }

/-- Free the tables without an entry (R388). -/
def Part.freeTables (q : Part) : Part :=
  let t3 := q.tables.filter fun t => t.level != 3 || q.leaves.any fun e => e.1 / 2 ^ 9 == t.pre
  { q with tables := t3.filter fun t => t.level != 2 || t3.any fun u => u.level == 3 && u.pre / 2 ^ 9 == t.pre }

def State.mapVa (s : State) (v : Nat) : Nat := (s.reg ⟨.prtMapVaLo, v, 0⟩).toNat + 2 ^ 32 * s.rfld ⟨.prtMapVaHi, v, 0⟩ 15 0
def State.mapPa (s : State) (v : Nat) : Nat := (s.reg ⟨.prtMapPaLo, v, 0⟩).toNat + 2 ^ 32 * s.rfld ⟨.prtMapPaHi, v, 0⟩ 11 0

def mapKey (v : Nat) : RKey := ⟨.prtMapCmd, v, 0⟩

/-- End of a map command: result and reason, cause 9 (R394). -/
def State.mapDone (s : State) (v result reason : Nat) : State :=
  (s.setFld (mapKey v) 13 13 0).cmdDone ⟨.prtMapStatus, v, 0⟩ result reason 3 (s.vf v).bound

/-- The checks of a map: 0, or the reason; with the new partition. -/
def State.mapCheck (s : State) (p va pa n : Nat) (w lg : Bool) : Nat ⊕ Part :=
  let q := s.part p
  let ps := List.range n
  if va % 2 ^ 21 ≠ 0 ∨ pa % 2 ^ 21 ≠ 0 ∨ 2 ^ 48 < va + n * 2 ^ 21 ∨ 2 ^ 44 < pa + n * 2 ^ 21 ∨
      !(ps.all fun i => s.pageOk p (pa + i * 2 ^ 21) lg) then .inl 1
  else if ps.any fun i => (aget q.leaves (va / 2 ^ 21 + i)).isSome then .inl 2
  else
    match ps.foldl (fun (r : Option Part) i => r.bind fun q => q.addLeaf (va / 2 ^ 21 + i) ⟨pa / 2 ^ 21 + i, w, lg⟩) (some q) with
    | none => .inl 3
    | some q' => .inr q'

/-- Operation 1 of PRT_MAP_CMD of VF `v`, unless a command runs. -/
def State.mapPages (s : State) (v : Nat) (w lg : Bool) (count : Nat) : State :=
  match (s.vf v).bound with
  | none => s
  | some p =>
    if s.rbit (mapKey v) 13 then s
    else
      let s1 := s.setReg (mapKey v) (BitVec.ofNat 32 (1 + b2n w * 4 + b2n lg * 8 + count * 16))
      match s1.mapCheck p (s1.mapVa v) (s1.mapPa v) (count + 1) w lg with
      | .inl r => s1.mapDone v 2 r
      | .inr q => (s1.setPart p q).mapDone v 0 0

/-- Operation 2: the pages are removed; the command runs until their uses have ended. -/
def State.unmapPages (s : State) (v count : Nat) : State :=
  match (s.vf v).bound with
  | none => s
  | some p =>
    if s.rbit (mapKey v) 13 then s
    else
      let n := count + 1
      let s1 := s.setReg (mapKey v) (BitVec.ofNat 32 (2 + count * 16))
      let va := s1.mapVa v
      let q := s1.part p
      let ps := (List.range n).map fun i => va / 2 ^ 21 + i
      if va % 2 ^ 21 ≠ 0 ∨ 2 ^ 48 < va + n * 2 ^ 21 then s1.mapDone v 2 1
      else if ps.any fun i => (aget q.leaves i).isNone then s1.mapDone v 2 2
      else
        let q1 := { q with leaves := q.leaves.filter fun e => !(ps.contains e.1) }
        (s1.setPart p q1.freeTables).setFld (mapKey v) 13 13 1

/-- PAGE_MAP (R28, R388, R390, R407). -/
def execPageMap (vf : BitVec 6) (w lg : Bool) (count : BitVec 9) (s : State) : Host.Outcome State Fault Refusal :=
  .next (s.accessW (.vf vf.toNat) (mapKey vf.toNat) fun s => s.mapPages vf.toNat w lg count.toNat)

/-- PAGE_UNMAP (R390). -/
def execPageUnmap (vf : BitVec 6) (count : BitVec 9) (s : State) : Host.Outcome State Fault Refusal :=
  .next (s.accessW (.vf vf.toNat) (mapKey vf.toNat) fun s => s.unmapPages vf.toNat count.toNat)

/-- PAGE_UNMAP_COMPLETE (R390): every cache has dropped the pages and every access has ended. -/
def execPageUnmapComplete (vf : BitVec 6) (s : State) : Host.Outcome State Fault Refusal :=
  let v := vf.toNat
  .next (if s.rbit (mapKey v) 13 then s.mapDone v 0 0 else s)

/-- PRT_VF_MASK of VF `v` is written: a set cause whose mask bit goes from 1 to 0 sends one message. -/
def State.maskVf (s : State) (v : Nat) (value : Word) : State :=
  let k : RKey := ⟨.prtVfMask, v, 0⟩
  (List.range 18).foldl (fun s1 c =>
    if s.rbit k c && !(wbit value c) && s1.rbit ⟨.prtVfCause, v, 0⟩ c then s1.msix v (s1.vfVec v c) else s1)
    (s.setReg k (value &&& 0x3FFFF#32))

/-- VF_MASK_WRITE (R395). -/
def execVfMaskWrite (vf : BitVec 6) (value : Word) (s : State) : Host.Outcome State Fault Refusal :=
  .next (s.accessW (.vf vf.toNat) ⟨.prtVfMask, vf.toNat, 0⟩ fun s => s.maskVf vf.toNat value)

end Sys2Proof.Machine
end

