-- ==== Sys2Proof/Machine/Recovery.lean ====
section
/-! DEFINITION. Resets and watchdogs (14: R408-R435; R202, R330, R511, R526, R543, R579): context, engine, partition and
package reset, the power-cycle request, escalation. -/
namespace Sys2Proof.Machine

/-! ### Orders (R413) -/

/-- A reset of a level of a unit that Welyar orders: `true` at the third within 2^36 pt. (DEDUCED, log 86). -/
def State.ordered (s : State) (level unit : Nat) : State × Bool :=
  let ts := ((aget s.orders (level, unit)).getD []).filter (fun t => decide (s.since t ≤ 2 ^ 36)) ++ [s.plumb]
  ({ s with orders := aset s.orders (level, unit) (if 3 ≤ ts.length then [] else ts) }, decide (3 ≤ ts.length))

/-- Events 0x0401 and 0x0402: a reset begins or is done. -/
def State.rstBegin (s : State) (d part : Nat) (src : Word) (level trigger : Nat) : State :=
  s.spineEvent d 0x0401 part src level trigger

def State.rstDone (s : State) (d part : Nat) (src : Word) (level dur : Nat) : State := s.spineEvent d 0x0402 part src level dur

/-! ### Power cycle (R412, R425) -/

/-- Welyar asks the tray controller for a power cycle (R413, R533): record of level 5, PLDM event. -/
def State.askCycle (s : State) (trigger arg : Nat) : State := (s.inspectPkg 5 trigger).pldmEvent 0x0004 arg

/-- POWER_CYCLE_REQUEST (R412, R435): `cycle` of MGT_RST_CMD. The spec gives the argument of the event only for an
escalation. (DESIGN CHOICE, log 34). -/
def execPowerCycleRequest (src : Src) (s : State) : Host.Outcome State Fault Refusal :=
  .next (if s.pkg ≠ .on then s else s.accessW src ⟨.mgtRstCmd, 0, 0⟩ fun s => s.askCycle 0x05 (Config.cycleArg s.draws).toNat)

/-! ### Package reset (R418, R428, R430, R432, R435, R488, R543) -/

/-- The package as the die reset leaves it: what R435, the flash and the rails keep stays; HBM reads as unwritten.
(DEDUCED, log 35). -/
def State.dieReset (s : State) : State :=
  { pending := s.pending, regs := s.regs.filter fun e => e.1.blk == .mgtRst, plumb := s.plumb, draws := s.draws
    mem := s.mem.filter fun e => decide (2 ^ 41 ≤ e.1), poison := s.poison.filter fun g => decide (2 ^ 41 ≤ g * 32)
    starts := s.starts, nextId := s.nextId, retired := s.retired, inspects := s.inspects, pkgRecord := s.pkgRecord
    orders := s.orders, msgs := s.msgs, keys := s.keys.filter fun e => e.1.1 == 8, keySwitch := s.keySwitch.filter fun e => e.1 == 8
    trayIdx := s.trayIdx, trayGen := s.trayGen, pkgFence := some s.plumb, pldmQueue := s.pldmQueue, pkg := .held
    flash := s.flash, boot := { site := s.boot.site }, tap := s.tap.cut, repairs := s.repairs
    pwrOk := s.pwrOk }

/-- A package reset: cause 16, the record, the fence of every partition, the die reset; the start follows (R430). During
a shutdown sequence it only forbids a resume (R488). (DEDUCED, log 35; DEDUCED, log 80). -/
def State.packageReset (s : State) (trigger : Nat) : State :=
  let ph := s.rfld ⟨.pwrPfStatus, 0, 0⟩ 2 0
  if s.pkg ≠ .on then s
  else if 1 ≤ ph ∧ ph ≤ 3 then s.setFld ⟨.pwrPfStatus, 0, 0⟩ 3 3 1
  else
    let s1 := ((upto 1 63).foldl (fun s v => s.vfCause v 16) s).pfCause 16
    let s2 := ((s1.rstBegin 0 255 0#32 4 trigger).inspectPkg 4 trigger).rstLast 4 trigger 0
    (s2.count .mgtPkgRstCnt 0 1).dieReset

/-- A package reset that Welyar orders; the third within 2^36 pt becomes a request for a power cycle (R413). -/
def State.orderPackage (s : State) (trigger : Nat) : State :=
  let (s1, third) := s.ordered 4 0
  if third then s1.askCycle 0x06 4 else s1.packageReset trigger

/-- PACKAGE_RESET (R412, R430, R435): `pkg` of MGT_RST_CMD, or Welyar's order. -/
def execPackageReset (src : Src) (s : State) : Host.Outcome State Fault Refusal :=
  .next (match src with
    | .welyar => s.orderPackage 0x06
    | _ => s.accessW src ⟨.mgtRstCmd, 0, 0⟩ fun s => s.packageReset 0x05)

/-- PKG_RESET_ASSERT (R32, R412, R432, R571): PKG_RESET_N falls. -/
def execPkgResetAssert (s : State) : Host.Outcome State Fault Refusal :=
  let s1 := match s.pkg with
    | .on => s.packageReset 0x08
    | .failed => s.dieReset
    | .halted => s.dieReset
    | _ => s
  .next { s1 with resetPin := false }

/-! ### Partition reset (R419, R428, R429, R432, R451, R476, R511, R555, R579) -/

/-- A probe window ends (R451): the bent in progress is restored, the status is set and cause 13 with it. -/
def State.endWindow (s : State) (p : Nat) (ended : Bool) : State :=
  match (s.part p).window with
  | none => s
  | some w =>
    let k : RKey := ⟨.prtProbeStatus, p, 0⟩
    let s1 := s.setPart p { s.part p with window := none }
    let s2 := s1.setReg k (setField (s1.reg k) 15 0 (1 + b2n ended * 2 + w.probed % 128 * 4 + w.skipped % 128 * 2 ^ 9))
    ((s2.setFld ⟨.prtProbeGrant, p, 0⟩ 14 14 0).cause p 13)

/-- The perturbations of a partition end (R579). -/
def State.endPert (s : State) (p : Nat) : State :=
  { s with regs := s.regs.filter fun e => !(e.1.blk == .pert && e.1.unit == p && e.1.reg != Reg.tstPertCnt) }

/-- The notice, the record and the fence of a partition reset; its open frames close and leave (R351). (DEDUCED, log 32). -/
def State.fencePart (s : State) (p trigger : Nat) : State :=
  let s1 := (((((s.cause p 14).count .prtRstCnt p 1).rstBegin 0 p 0#32 3 trigger).endWindow p true).inspect p 3 trigger).flushFlows p
  let q := s1.part p
  let s2 := if q.epoch = 255#8 ∧ (s1.slotKey p (s1.keyIdx p)).isSome then s1.switchKey p else s1
  let s3 := s2.setPart p { s2.part p with epoch := q.epoch + 1#8, fenced := true, reset := some (trigger, s.plumb), resetWait := none }
  let s4 := (s3.vfsOf p).foldl (fun s v => s.setVf v { s.vf v with dump := none }) (s3.endPert p)
  { (s4.rstLast 3 trigger p).setFld ⟨.prtRst, p, 0⟩ 0 0 1 with cyc := { s4.cyc with fences := p :: s4.cyc.fences } }

/-- Is firmware of a bent of the partition, or of an engine of its dies, being swapped (R515)? -/
def State.swapping (s : State) (p : Nat) : Bool :=
  s.maintRun.any fun a => (a.code == 1 || a.code == 2) && (s.maintPart a).contains p

/-- A partition reset is ordered (R428, R434): ignored while one runs; it waits while the partition is parked (R476) and
while a swap runs on one of its units (R517). -/
def State.partitionReset (s : State) (p trigger : Nat) : State :=
  let q := s.part p
  if !q.built || q.reset.isSome || q.resetWait.isSome then s
  else if q.parked || s.swapping p then (s.setPart p { q with resetWait := some trigger }).setFld ⟨.prtRst, p, 0⟩ 0 0 1
  else s.fencePart p trigger

/-- The reset that a partition waits for, once it is neither parked (R476) nor has a swap running on its units (R517). -/
def State.waitingReset (s : State) (p : Nat) : State :=
  match (s.part p).resetWait with
  | some t => if (s.part p).parked || s.swapping p then s else s.fencePart p t
  | none => s

/-- MAINT_ACTIVITY_END (R516, R517): the resets that waited for it follow. -/
def execMaintActivityEnd (code : Nat) (unit : Nat) (s : State) : Host.Outcome State Fault Refusal :=
  .next ((List.range 8).foldl State.waitingReset (s.maintEnd ⟨code, unit⟩))

/-- A partition reset that Welyar orders; the third within 2^36 pt becomes a package reset (R413). -/
def State.orderPart (s : State) (p trigger : Nat) : State :=
  if (s.part p).reset.isSome then s
  else
    let (s1, third) := s.ordered 3 p
    if third then s1.orderPackage 0x06 else s1.partitionReset p trigger

/-- PARTITION_RESET (R412, R428, R434). -/
def execPartitionReset (p : BitVec 3) (src : Src) (s : State) : Host.Outcome State Fault Refusal :=
  .next (match src with
    | .welyar => s.orderPart p.toNat 0x06
    | _ => s.accessW src ⟨.prtRst, p.toNat, 0⟩ fun s => s.partitionReset p.toNat 0x05)

/-- The state of a partition as the reset leaves it (R428): contexts Empty with their p registers, pegs zero, tables
retired, pools disabled, decks written back and invalidated, ports in training. -/
def State.resetUnits (s : State) (p : Nat) : State :=
  let q := s.part p
  let mine (c : Nat) : Bool := q.bents.contains (bentOf c)
  let s1 := s.endWork p
  let clear (k : Core) : Core :=
    { k with ctxs := Vector.ofFn fun (x : Fin 4) => { (k.ctxs[x]).reset with reclaim := false }, cur := 0, rotate := false }
  let s2 := { s1 with cores := s1.cores.map fun (e : Nat × Core) => if mine e.1 then (e.1, clear e.2) else e }
  let s3 := ((s2.zeroPegs p).retireTables p).zeroPools p
  let s4 := (([0, 1, 2, 3] : List Nat).foldl (fun s d => s.deckFlush d p) s3).dropDeck p
  let s5 := (s4.vfsOf p).foldl (fun s v =>
    s.setVf v { s.vf v with jobs := (s.vf v).jobs.map fun (e : Nat × HqJob) => (e.1, { e.2 with status := 6 }) }) s4
  (s5.drainFlits p).portsStep (q.ports.filter fun n => (s5.port n).st != .off) State.trainStep

/-- FENCE_DEADLINE (R419, R420, R428): `fence_dl` after the snapshot instant the work that is left ends, the units are
reset and the partition accepts work again. A shutdown sequence pauses the reset (R488). (DEDUCED, log 2; DEDUCED, log 32;
DEDUCED, log 80). -/
def execFenceDeadline (p : BitVec 3) (s : State) : Host.Outcome State Fault Refusal :=
  let P := p.toNat
  .next (
    match (s.part P).reset with
    | none => s
    | some (_, t0) =>
      if s.since t0 < 2 ^ 16 + s.rfld ⟨.prtFence, P, 0⟩ 26 0 ∨ s.rfld ⟨.pwrPfStatus, 0, 0⟩ 2 0 ≠ 0 then s
      else
        let s1 := s.resetUnits P
        let s2 := s1.setPart P { s1.part P with fenced := false, reset := none, dldSince := none, dldFired := false }
        ((s2.setFld ⟨.prtRst, P, 0⟩ 0 0 0).rstDone 0 P 0#32 3 (s.since t0)).cause P 15)

/-! ### Engine reset (R414, R427) -/

/-- The number of an engine among those that hold an epoch. -/
def engNum (k : EngKind) (unit : Nat) : Nat :=
  unit * 8 + (match k with | .collective => 0 | .table => 1 | .joiner => 2 | .exporter => 3 | .loader => 4 | .bayCtl => 5)

def EngKind.inBay : EngKind → Bool
  | .loader => true
  | .bayCtl => true
  | _ => false

/-- The event source of an engine (R557). -/
def engSrc (k : EngKind) (unit : Nat) : Word :=
  match k with
  | .collective => srcEngine unit 0
  | .table => srcEngine unit 1
  | .joiner => srcEngine unit 2
  | .exporter => srcEngine unit 3
  | .loader => srcOf 4 (unit / 384 + 4 * 16 + unit * 256)
  | .bayCtl => srcBay unit

def engDie (k : EngKind) (unit : Nat) : Nat := if k.inBay then unit / 384 else unit % 4

/-- The transfers that an engine runs, of a partition or of all. -/
def State.engXfers (s : State) (k : EngKind) (unit : Nat) (p : Option Nat) : List Xfer :=
  s.xfers.filter fun x => (p.isNone || p == some x.part) &&
    (match k with
     | .loader => bayOf x.core == unit && x.moves
     | .table => dfield x.desc 0 1 == 0x10 && s.tblDie (Gather.ofBytes x.desc).die == unit
     | _ => false)

/-- The elements of a block that a joiner had not written become poison (R427): element by element in the element form,
row by row, for the rows that have not run, in the row form. -/
def State.poisonBlock (s : State) (jb : JJob) (t : JExt) (b : Nat) : State :=
  let lane : JIn := { g := 0#32, w := 0#32, m1 := 0#32, m2 := 0#32, bad := true, fail := false }
  let n := min 64 (t.nelem - 64 * b)
  if jb.j.dim = 0 then
    ([0, 1].foldl (fun s h =>
      let k := min 32 (n - 32 * h)
      if k = 0 then s else s.writeGroup jb (jb.j.at (64 * b + 32 * h)) (64 * b + 32 * h) (List.replicate k lane) [] true []) s).count
      .jnrSpoisonCnt jb.d n
  else
    (List.range n).foldl (fun s e =>
      let x := 64 * b + e
      let row := x / jb.j.dim
      if jb.j.rows.contains row then s
      else match s.vload jb.p (jb.j.rowmap + row * 8) 8 jb.j.shint with
        | none => s
        | some (s1, l) =>
          if anyPoison l || decide (jb.j.trows ≤ leNat (dataOf l)) then s1
          else (s1.writeGroup jb (jb.j.atRow (leNat (dataOf l)) (x % jb.j.dim)) x [lane] [] true []).count .jnrSpoisonCnt jb.d 1) s

/-- The joiner's items of a die end. -/
def State.endJoiner (s : State) (d : Nat) (p : Option Nat) : State :=
  s.jctxs.foldl (fun s e =>
    match s.jnrExt e.1.1 e.2 with
    | none => s
    | some t =>
      if t.die ≠ d ∨ !(p.isNone || p == some e.1.1) then s
      else (e.2.queue.map (·.crec.b)).foldl (fun s b =>
        match s.jnrJob e.1.1 e.1.2 b with
        | none => s
        | some (jb, t', _) => (s.poisonBlock jb t' b).jnrBlockDone e.1.1 e.1.2 b false) s) s

/-- The items of an engine end (R427). -/
def State.endItems (s : State) (k : EngKind) (unit : Nat) (p : Option Nat) : State :=
  match k with
  | .bayCtl =>
    { s with bays := s.bays.map fun (e : Nat × BayCmd) => if e.1 = unit then (e.1, { e.2 with result := 2 }) else e }
  | .collective =>
    (s.trusses.filter fun e => p.isNone || p == some e.1.1).foldl (fun s e =>
      (e.2.own.filter fun m => m.die == unit && e.2.stalled m).foldl (fun s m => (s.endStep e.1.1 e.1.2 m.pos).inspect e.1.1 0 0x03) s) s
  | .joiner => s.endJoiner unit p
  | .exporter =>
    (s.jctxs.filter fun e => (p.isNone || p == some e.1.1) && e.2.xp.isSome && ((s.jnrExt e.1.1 e.2).getD {}).die == unit).foldl
      (fun s e => (s.setJctx e.1.1 e.1.2 { e.2 with xp := none }).xpDone e.1.1 2) s
  | _ =>
    (s.engXfers k unit p).foldl (fun s x => (s.dropXfer x.id).faultCtx x.core x.ctx 0x07#8) s

/-- An engine reset of the items of a partition or of all (R427): record, epoch, the items end, its buffers are
reclaimed. (DEDUCED, log 33). -/
def State.engineReset (s : State) (k : EngKind) (unit : Nat) (p : Option Nat) (trigger : Nat) : State :=
  let ps := match p with | some q => [q] | none => (List.range 8).filter fun q => (s.part q).built
  let d := engDie k unit
  let s1 := ps.foldl (fun s q => s.inspect q 2 trigger) (s.rstBegin d (p.getD 255) (engSrc k unit) 2 trigger)
  let n := engNum k unit
  let s2 := { s1 with engEpoch := aset s1.engEpoch n (s1.eepoch n + 1#8) }.endItems k unit p
  let s3 := if k = .collective then ps.foldl (fun s q => s.reclaimTag q (engineTag unit)) s2 else s2
  ((s3.count .mgtEngRstCnt 0 1).rstLast 2 trigger (p.getD 0)).rstDone d (p.getD 255) (engSrc k unit) 2 0

/-- An engine reset that Welyar orders; the third within 2^36 pt goes to the next level (R413). -/
def State.orderEngine (s : State) (k : EngKind) (unit : Nat) (p : Option Nat) (trigger : Nat) : State :=
  let (s1, third) := s.ordered 2 (engNum k unit)
  if !third then s1.engineReset k unit p trigger
  else if k.inBay then
    match s1.partOfBay unit with
    | some q => s1.orderPart q 0x06
    | none => s1
  else s1.orderPackage 0x06

/-- ENGINE_RESET (R412, R427): Welyar alone orders it; an engine reports an error with trigger 0x07. -/
def execEngineReset (kind : Machine.EngKind) (unit : Nat) (p : Option Nat) (s : State) : Host.Outcome State Fault Refusal :=
  .next (s.orderEngine kind unit p 0x07)

/-! ### Watchdogs (R408-R410) -/

/-- The watchdogs of a partition are held while one of its bents is stopped (R475), and while it is fenced. -/
def State.watched (s : State) (p : Nat) : Bool :=
  (s.part p).built && !(s.part p).fenced && !((s.part p).bents.any fun b => s.rbit ⟨.bentClk, b, 0⟩ 18)

/-- CTX_WATCHDOG (R408, R409): a context that is Ready or Running without progress, or whose tile instruction streams no
line, for `ctx_wd` pt is faulted; the tile instruction ends. (DEDUCED, log 92). -/
def execCtxWatchdog (core : CoreAddr) (ctx : BitVec 2) (s : State) : Host.Outcome State Fault Refusal :=
  let c := core.toNat
  let x := ctx.toNat
  .next (
    match s.partOfCore c with
    | none => s
    | some p =>
      let lim := (s.reg ⟨.prtWdCtx, p, 0⟩).toNat
      let v := s.ctx c x
      let tile : Bool := match (s.core c).run with | some r => r.tile.ctx == x && decide (lim ≤ s.since r.lastLine) | none => false
      if lim = 0 || !(s.watched p) then s
      else if tile then ((s.cutTiles c x false).count .prtWdCnt p 1).faultCtx c x 0x07#8
      else if (v.st == .ready || v.st == .running) && decide (lim ≤ s.since v.progress) then
        (s.count .prtWdCnt p 1).faultCtx c x 0x07#8
      else s)

/-- ENGINE_WATCHDOG (R408, R410, R427): the engine held ready items of the partition for `waited` pt and advanced none;
`others`: items of other partitions advanced, so the reset covers this partition alone. (DEDUCED, log 92). -/
def execEngineWatchdog (kind : Machine.EngKind) (unit : Nat) (p : BitVec 3) (waited : Nat) (others : Bool) (s : State) :
    Host.Outcome State Fault Refusal :=
  let P := p.toNat
  .next (if !(s.watched P) || decide (waited < (s.reg ⟨.prtWdEng, P, 0⟩).toNat) then s
    else (s.count .prtWdCnt P 1).orderEngine kind unit (if others then some P else none) 0x02)

/-! ### Context reset (R412, R426, R432) -/

/-- One context of a core is reset, with its record; a running partition reset covers it. -/
def State.ctxResetOne (s : State) (c x trigger : Nat) : State :=
  match s.partOfCore c with
  | none => s.resetCtx c x
  | some p =>
    if (s.part p).fenced then s
    else
      let s1 := (s.rstBegin (coreDie c) p (srcCore c x) 1 trigger).inspect p 1 trigger
      (s1.resetCtx c x).rstDone (coreDie c) p (srcCore c x) 1 0

/-- CTX_RESET (R183, R412, R413, R426). -/
def execCtxReset (core : CoreAddr) (src : Src) (resets : BitVec 4) (s : State) : Host.Outcome State Fault Refusal :=
  let c := core.toNat
  .next (s.accessW src ⟨.coreCtxCmd, c, 0⟩ fun s =>
    (ctxsOf resets).foldl (fun s x =>
      if src = .welyar then
        let (s1, third) := s.ordered 1 (c * 4 + x)
        if third then (match s1.partOfCore c with | some p => s1.orderPart p 0x06 | none => s1)
        else s1.ctxResetOne c x 0x06
      else s.ctxResetOne c x 0x05) s)

/-! ### Escalation (R412, R413, R475) -/

/-- RESET_BUDGET_EXPIRE (R412, R413): a partition reset past 3 s, or a package reset past 9 s, goes to the next level. A
context reset and an engine reset are done at once in this model and never run late. (DEDUCED, log 33). -/
def execResetBudgetExpire (unit : Machine.RstUnit) (s : State) : Host.Outcome State Fault Refusal :=
  .next (
    match unit with
    | .ctx .. => s
    | .engine .. => s
    | .part p =>
      match (s.part p).reset with
      | some (_, t0) =>
        if s.since t0 < 3221225472 ∨ s.rfld ⟨.pwrPfStatus, 0, 0⟩ 2 0 ≠ 0 then s else s.orderPackage 0x06
      | none => s
    | .pkg =>
      match s.pkgFence with
      | some t0 => if s.pkg ≠ .held ∨ s.since t0 < 9663676416 then s else s.askCycle 0x06 4
      | none => s)

end Sys2Proof.Machine
end

