-- ==== Sys2Proof/Machine/D2d.lean ====
section
/-! DEFINITION. Die-to-die links (12: R366-R379; R575): flits, replays, lane swaps, bundle and link failures. -/
namespace Sys2Proof.Machine

/-- The link of an endpoint (R367): endpoint 0 faces the next die of the ring, endpoint 1 the previous. -/
def d2dLink (die e : Nat) : Nat := if e = 0 then ringPos die else (ringPos die + 3) % 4

/-- The register units of the two endpoints of a link: the one of its endpoint 0, the other. -/
def d2dUnit0 (l : Nat) : Nat := ringDie l * 2
def d2dUnit1 (l : Nat) : Nat := ringDie ((l + 1) % 4) * 2 + 1

def Link.bundle (k : Link) (i : Nat) : Bundle := k.bundles.getD i {}

/-- Is the bundle in service? -/
def Bundle.good (b : Bundle) : Bool := b.st == 1 || b.st == 2 || b.st == 3 || b.st == 4

def State.setBundle (s : State) (l i : Nat) (f : Bundle → Bundle) : State := s.setLink l ((s.link l).setBundle i f)

/-- The direction of a bundle that endpoint `e` of a die sends on. -/
def Bundle.sent (b : Bundle) (e : Nat) : D2dDir := if e = 0 then b.fwd else b.bwd
def Bundle.setSent (b : Bundle) (e : Nat) (d : D2dDir) : Bundle := if e = 0 then { b with fwd := d } else { b with bwd := d }

/-- Difference of link sequences (R368: 12 bits). -/
def seqDist (a b : Nat) : Nat := (b + 4096 - a % 4096) % 4096

/-- Is a sequence on its way: sent and not yet accepted? -/
def D2dDir.open_ (d : D2dDir) (seq : Nat) : Bool := decide (seqDist d.expect seq < seqDist d.expect d.next)

/-- Flits that wait at the sending endpoint leave while the replay buffer has room for them (R374: 256). -/
def D2dDir.load (d : D2dDir) : D2dDir :=
  let fs := d.held.take (256 - d.buf.length)
  let seqs := (List.range fs.length).map fun i => (d.next + i) % 4096
  { d with held := d.held.drop fs.length, buf := d.buf ++ seqs.zip fs, wire := d.wire ++ seqs, next := (d.next + fs.length) % 4096 }

/-- Flits are given to a direction, in order. -/
def D2dDir.send (d : D2dDir) (fs : List Flit) : D2dDir := { d with held := d.held ++ fs }.load

/-- The flits of a direction that its receiver has not accepted, in their order: sent ones, then those that wait. -/
def D2dDir.sentLeft (d : D2dDir) : List Flit := (d.buf.filter fun e => d.open_ e.1).map (·.2)
def D2dDir.left (d : D2dDir) : List Flit := d.sentLeft ++ d.held

/-- May a bundle carry a flit (R372, R373): package traffic on the control bundle, a partition's on its own bundles? -/
def Bundle.carries (b : Bundle) (f : Flit) : Bool :=
  match f.part with
  | none => b.st == 1
  | some p => b.st == 4 && b.part == p

/-- A flit enters the next trunk in the same form (R368). -/
def Link.deliver (k : Link) (e : Nat) (f : Flit) : Link :=
  if e = 0 then { k with outFwd := k.outFwd ++ [f] } else { k with outBwd := k.outBwd ++ [f] }

/-- The next flit on the line of direction `o` of a bundle arrives at register unit `u`; `errs`: the lanes of its wrong bits.
Accepted, it is delivered; corrected, it is counted and its lane remembered; else it is dropped and asked for again. -/
def State.flitArrive (s : State) (l bundle o u : Nat) (errs : List Nat) : State :=
  let d := ((s.link l).bundle bundle).sent o
  match d.wire with
  | [] => s
  | seq :: rest =>
    let d1 := { d with wire := rest }
    match aget d.buf seq with
    | none => s.setBundle l bundle fun b => b.setSent o d1
    | some f =>
      if 2 ≤ errs.length ∨ seq ≠ d.expect then
        (s.setBundle l bundle fun b => b.setSent o { d1 with asked := true }).count .d2dReplayCnt u 1
      else
        let recent := d.laneErr.filter fun e => decide (s.since e.1 ≤ 2 ^ 30)
        let d2 := { d1 with expect := (d.expect + 1) % 4096, asked := false, replays := 0, laneErr := recent ++ errs.map fun i => (s.plumb, i) }
        let s1 := s.setBundle l bundle fun b => b.setSent o d2
        let s2 := s1.setLink l ((s1.link l).deliver o f)
        if errs.isEmpty then s2 else s2.count .d2dCeCnt u 1

/-- D2D_FLIT_RECEIVE (R366, R368, R372-R374): a flit `new`, if there is one, is sent to endpoint `e` of a die, behind those that wait, and
the next flit on the line arrives there. A bundle carries the flits of its user alone. (DEDUCED, log 87). -/
def execD2dFlitReceive (die : BitVec 2) (e : Bool) (bundle : Nat) (new : Option Machine.Flit) (errs : List Nat) (s : State) :
    Host.Outcome State Fault Refusal :=
  let l := d2dLink die.toNat (b2n e)
  let b := (s.link l).bundle bundle
  let o := 1 - b2n e
  .next (if !b.good then s
    else
      let fs := (new.filter b.carries).toList
      (s.setBundle l bundle fun b => b.setSent o ((b.sent o).send fs)).flitArrive l bundle o (die.toNat * 2 + b2n e) errs)

/-- D2D_ACKNOWLEDGEMENT (R368, R374): the sender at endpoint `e` of a die drops the flits up to `seq` from its buffer. -/
def execD2dAcknowledgement (die : BitVec 2) (e : Bool) (bundle seq : Nat) (s : State) : Host.Outcome State Fault Refusal :=
  let l := d2dLink die.toNat (b2n e)
  let d := ((s.link l).bundle bundle).sent (b2n e)
  .next (if 4096 ≤ seq ∨ seqDist d.acked d.expect ≤ seqDist d.acked seq then s
    else s.setBundle l bundle fun b => b.setSent (b2n e)
      { d with acked := (seq + 1) % 4096, buf := d.buf.filter fun x => decide (seqDist d.acked seq < seqDist d.acked x.1) }.load)

/-! ### Failures (R376-R378) -/

/-- The flits of a bundle that the receivers have not accepted are resent elsewhere: counted at the sending endpoints. -/
def State.reroute (s : State) (l : Nat) (b : Bundle) : State :=
  (s.count .d2dRerouteCnt (d2dUnit0 l) b.fwd.sentLeft.length).count .d2dRerouteCnt (d2dUnit1 l) b.bwd.sentLeft.length

/-- The flits of a bundle's directions move to directions of other bundles: link, bundle, endpoint for each. -/
def State.giveFlits (s : State) (t : Option (Nat × Nat × Nat)) (fs : List Flit) : State :=
  match t with
  | some (l, i, e) => s.setBundle l i fun b => b.setSent e ((b.sent e).send fs)
  | none => s

/-- The first bundle of a link in a state. (DESIGN CHOICE, log 19). -/
def State.firstIn (s : State) (l st : Nat) : Option Nat := ((s.link l).inState st).head?

/-- A standby bundle becomes reserve. -/
def State.refillReserve (s : State) (l : Nat) : State :=
  match s.firstIn l 2, s.firstIn l 3 with
  | none, some i => s.setBundle l i fun b => { b with st := 2 }
  | _, _ => s

/-- The bundles of a partition on a link. -/
def State.bundlesOf (s : State) (l p : Nat) : List Nat :=
  ((s.link l).inState 4).filter fun i => ((s.link l).bundle i).part == p

/-- A bundle of a link that carries what `b` carried: the control bundle, or the first of its partition. (DESIGN CHOICE, log
19). -/
def State.bundleFor (s : State) (l : Nat) (b : Bundle) : Option Nat :=
  if b.st = 1 then s.firstIn l 1 else if b.st = 4 then (s.bundlesOf l b.part).head? else none

/-- The flits that a bundle's receivers have not accepted are resent on the bundle of the same link that carries them now, in
their order (R376). -/
def State.moveFlits (s : State) (l : Nat) (b : Bundle) : State :=
  [0, 1].foldl (fun s e => s.giveFlits ((s.bundleFor l b).map fun i => (l, i, e)) (b.sent e).left) s

/-- The flits of a retired link take the other way around the ring (R23, R378): from endpoint 0's die over the link before it,
from the other die over the link after it. -/
def State.detour (s : State) (l : Nat) (b : Bundle) : State :=
  let back := (l + 3) % 4
  let on := (l + 1) % 4
  (s.giveFlits ((s.bundleFor back b).map fun i => (back, i, 1)) b.fwd.left).giveFlits
    ((s.bundleFor on b).map fun i => (on, i, 0)) b.bwd.left

/-- A partition that holds no bundle on a link of its routes receives one (R377): a standby bundle, else the reserve, else
one of the partition that holds the most, which keeps at least one. `false` when there is none. -/
def State.findBundle (s : State) (l p : Nat) : State × Bool :=
  if !(s.bundlesOf l p).isEmpty then (s, true)
  else
    let give (i : Nat) : State := s.setBundle l i fun b => { b with st := 4, part := p }
    match s.firstIn l 3, s.firstIn l 2 with
    | some i, _ => (give i, true)
    | none, some i => (give i, true)
    | none, none =>
      let rich := (List.range 8).foldl (fun (r : Option Nat) q =>
        let n := (s.bundlesOf l q).length
        match r with
        | some x => if (s.bundlesOf l x).length < n then some q else r
        | none => if 2 ≤ n then some q else none) none
      match rich.bind fun q => (s.bundlesOf l q).getLast? with
      | some i =>
        let b := (s.link l).bundle i
        (((s.reroute l b).setBundle l i fun b => { b with st := 4, part := p, fwd := {}, bwd := {} }).moveFlits l b, true)
      | none => (s, false)

/-- A link is retired while the package runs (R376-R378): its flows take the other way around; a second retired link, or a
partition without a bundle, orders a package reset. -/
def State.retireLink (s : State) (l : Nat) : State :=
  let second := (List.range 4).any fun m => m != l && (s.link m).st == 3
  let old := (s.link l).bundles
  let s1 := old.foldl (fun s b => s.reroute l b) s
  let s2 := s1.setLink l { st := 3, bundles := (s1.link l).bundles.map fun (_ : Bundle) => ({} : Bundle) }
  if second then s2.orderPackage 0x09
  else
    let r := ((List.range 8).filter fun p => (s2.part p).built).foldl (fun (r : State × Bool) p =>
      (r.1.routeLinks (r.1.part p).dies).foldl (fun (r : State × Bool) m => let (s', k) := r.1.findBundle m p; (s', r.2 && k)) r)
      (s2, true)
    if r.2 then old.foldl (fun s b => s.detour l b) r.1 else r.1.orderPackage 0x09

/-- A bundle fails (R376): its user and its flits move to another bundle, and it retrains; package flits wait at the sending
endpoint while the link has no control bundle. (DEDUCED, log 87). -/
def State.bundleFail (s : State) (l i : Nat) : State :=
  let b := (s.link l).bundle i
  if !b.good then s
  else
    let act : Activity := ⟨8, l * 48 + i⟩
    let s0 := if b.swap.isSome then (s.maintCancel act).maintEnd act else s
    let s1 := (s0.count .d2dBundleFailCnt (d2dUnit0 l) 1).count .d2dBundleFailCnt (d2dUnit1 l) 1
    let s2 := (s1.addRecord 1 2 (l * 48 + i) (laneMasks 68 b.lanes b.spares)).setBundle l i fun b =>
      { b with st := 5, part := 0, swap := none, fwd := {}, bwd := {} }
    let s3 : State :=
      match b.st with
      | 1 =>
        match s2.firstIn l 2 with
        | some r => (s2.setBundle l r fun b => { b with st := 1 }).refillReserve l
        | none => match s2.firstIn l 3 with
          | some r => s2.setBundle l r fun b => { b with st := 1 }
          | none => s2
      | 2 => s2.refillReserve l
      | 4 =>
        if !(s2.bundlesOf l b.part).isEmpty then s2
        else match s2.firstIn l 2 with
          | some r => (s2.setBundle l r fun x => { x with st := 4, part := b.part }).refillReserve l
          | none => match s2.firstIn l 3 with
            | some r => s2.setBundle l r fun x => { x with st := 4, part := b.part }
            | none => s2.orderPart b.part 0x09
      | _ => s2
    if ((s3.link l).bundles.filter Bundle.good).length < 2 ∧ (s3.link l).st = 2 then
      (s3.setBundle l i fun x => { x with st := b.st, part := b.part, fwd := b.fwd, bwd := b.bwd }).retireLink l
    else if b.st = 1 ∧ (s3.firstIn l 1).isNone then
      s3.setBundle l i fun x => { x with fwd := { held := b.fwd.left }, bwd := { held := b.bwd.left } }
    else (s3.reroute l b).moveFlits l b

/-- D2D_REPLAY_REQUEST (R374, R376): the receiver's request reaches endpoint `e` of a die, which sends every flit from `seq` on
again, in the original order; the sixteenth replay in a row of one flit fails the bundle. (DEDUCED, log 87). -/
def execD2dReplayRequest (die : BitVec 2) (e : Bool) (bundle seq : Nat) (s : State) : Host.Outcome State Fault Refusal :=
  let l := d2dLink die.toNat (b2n e)
  let b := (s.link l).bundle bundle
  let d := b.sent (b2n e)
  .next (if !b.good || !d.asked || seq ≠ d.expect then s
    else if 15 ≤ d.replays then s.bundleFail l bundle
    else s.setBundle l bundle fun b => b.setSent (b2n e)
      { d with asked := false, replays := d.replays + 1, wire := (d.buf.filter fun x => d.open_ x.1).map (·.1) })

/-- A data lane moves to the first spare; its counts begin anew. -/
def Bundle.swapLane (b : Bundle) (lane : Nat) : Bundle :=
  let fresh (d : D2dDir) : D2dDir := { d with laneErr := d.laneErr.filter fun e => e.2 != lane }
  match b.spares with
  | sp :: r => { b with lanes := b.lanes.set lane sp, spares := r, swap := none, fwd := fresh b.fwd, bwd := fresh b.bwd }
  | [] => b

def State.bundleSwap (s : State) (l i lane : Nat) : State :=
  let s1 := s.setBundle l i fun b => b.swapLane lane
  let b := (s1.link l).bundle i
  ((s1.addRecord 1 2 (l * 48 + i) (laneMasks 68 b.lanes b.spares)).count .d2dLaneSwapCnt (d2dUnit0 l) 1).count .d2dLaneSwapCnt
    (d2dUnit1 l) 1

/-- The corrected bits of a data lane that a receiver has seen in the last 2^30 pt (R375). -/
def State.laneBits (s : State) (d : D2dDir) (lane : Nat) : Nat :=
  (d.laneErr.filter fun e => e.2 == lane && decide (s.since e.1 ≤ 2 ^ 30)).length

/-- D2D_LANE_SWAP_REQUEST (R375): the corrected bits of a lane that endpoint `e` of a die receives pass `swap_th`; with a spare
left it asks the arbiter. -/
def execD2dLaneSwapRequest (die : BitVec 2) (e : Bool) (bundle lane : Nat) (s : State) : Host.Outcome State Fault Refusal :=
  let l := d2dLink die.toNat (b2n e)
  let b := (s.link l).bundle bundle
  .next (if !b.good || decide (64 ≤ lane) || b.spares.isEmpty || b.swap.isSome ||
      decide (s.laneBits (b.sent (1 - b2n e)) lane ≤ (s.reg ⟨.d2dSwapTh, die.toNat * 2 + b2n e, 0⟩).toNat) then s
    else
      let (s1, r) := s.maintAsk ⟨8, l * 48 + bundle⟩
      if r = 1 then s1 else s1.setBundle l bundle fun b => { b with swap := some (lane, none) })

/-- The time that flits take on a line, one in 250 ps (R366), in pt, rounded up. -/
def flitTime (n : Nat) : Nat := (n * 2 ^ 30 + 3999999999) / 4000000000

/-- D2D_LANE_SWAP (R375): both ends of a granted swap name a flit boundary, `ahead` flits from now and at least 1,024; when it
is reached, they move the lane to the spare. -/
def execD2dLaneSwap (link : BitVec 2) (bundle ahead : Nat) (s : State) : Host.Outcome State Fault Refusal :=
  let l := link.toNat
  let b := (s.link l).bundle bundle
  .next (
    match b.swap with
    | none => s
    | some (lane, due) =>
      if !b.good || b.spares.isEmpty || !(s.maintRun.contains ⟨8, l * 48 + bundle⟩) then s
      else match due with
        | none =>
          if ahead < 1024 then s
          else s.setBundle l bundle fun b => { b with swap := some (lane, some (s.plumb + BitVec.ofNat 64 (flitTime ahead))) }
        | some t => if s.plumb.toNat < t.toNat then s else (s.bundleSwap l bundle lane).maintEnd ⟨8, l * 48 + bundle⟩)

/-- D2D_BUNDLE_FAIL (R376, R517): a data lane loses lock; it takes a spare at once, and a queued swap is cancelled; with no
spare left the bundle fails. -/
def execD2dBundleFail (link : BitVec 2) (bundle lane : Nat) (s : State) : Host.Outcome State Fault Refusal :=
  let l := link.toNat
  let b := (s.link l).bundle bundle
  .next (if !b.good || decide (64 ≤ lane) then s
    else if b.spares.isEmpty then s.bundleFail l bundle
    else
      let act : Activity := ⟨8, l * 48 + bundle⟩
      let s1 := if b.swap.isSome then (s.maintCancel act).maintEnd act else s
      s1.bundleSwap l bundle lane)

/-- The lanes of a bundle from the error counts of training (R369): the 64 lowest among those that assembly did not find
bad, in ascending order; the good rest are spares. -/
def State.bundleLanes (s : State) (unit : Nat) (errs : List (Option Nat)) : List Nat × List Nat :=
  let cnt (i : Nat) : Option Nat := if s.assemblyBad 1 unit i then none else (errs[i]?).bind id
  let good := (List.range 68).filter fun i => (cnt i).isSome
  let low (j i : Nat) : Bool := decide ((cnt j).getD 0 < (cnt i).getD 0 ∨ ((cnt j).getD 0 = (cnt i).getD 0 ∧ j < i))
  let pick (i : Nat) : Bool := decide ((good.filter fun j => low j i).length < 64)
  (good.filter pick, good.filter fun i => !(pick i))

/-- D2D_BUNDLE_RETRAIN_DONE (R369, R376): a failed bundle returns as standby with 64 good lanes, else it is retired; a link
without a control bundle takes it for that (R372). (DEDUCED, log 87). -/
def execD2dBundleRetrainDone (link : BitVec 2) (bundle : Nat) (errs : List (Option Nat)) (s : State) :
    Host.Outcome State Fault Refusal :=
  let l := link.toNat
  let u := l * 48 + bundle
  let (a, f) := s.bundleLanes u errs
  .next (if ((s.link l).bundle bundle).st ≠ 5 then s
    else if a.length < 64 then (s.setBundle l bundle fun _ => {}).addRecord 1 2 u (laneMasks 68 a f)
    else if (s.firstIn l 1).isNone then
      s.setBundle l bundle fun b => { b with st := 1, part := 0, lanes := a, spares := f, fwd := b.fwd.load, bwd := b.bwd.load }
    else s.setBundle l bundle fun b => { b with st := 3, part := 0, lanes := a, spares := f })

end Sys2Proof.Machine
end

