-- ==== Sys2Proof/Machine/Reliability.lean ====
section
/-! DEFINITION. Checks, probes and substitution (15: R439, R440, R443-R455, R504). -/
namespace Sys2Proof.Machine

/-! ### Probe packs (R448, R449, R453) -/

def kProbeCmd : RKey := ⟨.mgtProbeCmd, 0, 0⟩
def kProbeStatus : RKey := ⟨.mgtProbeStatus, 0, 0⟩

/-- One item of a pack: its fields in range, its payload inside the pack. -/
def probeItem (d : List Byte) (len : Nat) : Bool :=
  decide (1 ≤ dfield d 0 1 ∧ dfield d 0 1 ≤ 5) && dfield d 1 3 == 0 && decide (dfield d 4 4 + dfield d 8 4 ≤ len - 4723) &&
  decide (dfield d 0x10 8 < 2 ^ 61)

/-- The header and items of a pack (reason 1). -/
def packFields (d : List Byte) : Bool :=
  let n := dfield d 0xC 2
  dfield d 0 2 == 0x5B0E && dfield d 2 2 == 1 && decide (1 ≤ n ∧ n ≤ 1024) && ((d.drop 0xE).take 18).all (· == 0#8)

def packItems (d : List Byte) : Bool :=
  (List.range (dfield d 0xC 2)).all fun i => probeItem (d.drop (0x20 + 32 * i)) (dfield d 8 4)

/-- A package address in HBM that no partition holds, for `n` bytes. -/
def State.freeHbm (s : State) (pa n : Nat) : Bool :=
  (List.range (n / 2 ^ 20 + 2)).all fun i =>
    match s.place (min (pa + i * 2 ^ 20) (pa + n - 1)) with
    | .hbm ch _ => (s.partOfChan ch).isNone
    | _ => false

/-- End of a probe command. -/
def State.probeDone (s : State) (result reason : Nat) : State := s.cmdDone kProbeStatus result reason 3 none

/-- A pack is checked and loaded: 0 or the result and reason. Bytes that are not in HBM free of partitions are a read fault, poison a
failure of the field check (R253). (DEDUCED, log 39). -/
def State.packLoad (s : State) (src : Src) (op : Nat) (f : State → List Byte → State) : State :=
  s.accessW src kProbeCmd fun s =>
    let s := s.setReg kProbeCmd (BitVec.ofNat 32 op)
    let pa := (s.reg ⟨.mgtProbeAddrLo, 0, 0⟩).toNat + 2 ^ 32 * s.rfld ⟨.mgtProbeAddrHi, 0, 0⟩ 11 0
    if (List.range 8).any fun p => (s.part p).window.isSome then s.probeDone 1 0
    else if !(s.freeHbm pa 0x20) then s.probeDone 3 0
    else if anyPoison (s.pbytes pa 0x20) then s.probeDone 2 1
    else
      let h := s.bytes pa 0x20
      let len := dfield h 8 4
      if !(packFields h) || pa % 4096 != 0 then s.probeDone 2 1
      else if decide (2 ^ 26 < len) || decide (len < 0x20 + 32 * dfield h 0xC 2 + 4723) then s.probeDone 2 3
      else if !(s.freeHbm pa len) then s.probeDone 3 0
      else if anyPoison (s.pbytes pa len) then s.probeDone 2 1
      else
        let d := s.bytes pa len
        if !(packItems d) then s.probeDone 2 1
        else if (Config.authentic s.flash.revoked d).isNone then s.probeDone 2 2
        else (f ({ s with probePack := d }.setReg ⟨.mgtProbeId, 0, 0⟩ (BitVec.ofNat 32 (dfield d 4 4))) d).probeDone 0 0

/-- PROBE_PACK_LOAD (R448, R449). -/
def execProbePackLoad (src : Src) (s : State) : Host.Outcome State Fault Refusal :=
  .next (s.packLoad src 1 fun s _ => s)

/-- PROBE_PACK_LOAD_FORWARD (R449): the pack also leaves for the other packages of the tray; the spec states no messages
for it. (DESIGN CHOICE, log 37). -/
def execProbePackLoadForward (src : Src) (s : State) : Host.Outcome State Fault Refusal :=
  .next (s.packLoad src 2 fun s d => { s with msgs := s.msgs ++ [.probePack d] })

/-! ### Probes (R443-R446, R450, R451) -/

/-- Is a unit held by a partition: a core or loader by its bent, a die's engine by a partition that uses the die? -/
def State.unitHeld (s : State) (kind id : Nat) : Bool :=
  match kind with
  | 1 => (s.partOfCore id).isSome
  | 4 => (s.partOfBay id).isSome
  | 6 => (s.partOfChan id).isSome
  | k => (List.range 8).any fun p => (s.part p).built && (s.part p).dies.contains (if k = 2 then id / 16 else id)

/-- A kind-2 entry of the retirement list: a core with one bad column (R444, R504). -/
def State.columnEntry (s : State) (c col : Nat) : State :=
  { s with flash := { s.flash with retire := s.flash.retire ++ [(2, col, c, s.plumb)] } }

/-- The column of a core that a probe has found before. -/
def State.knownColumn (s : State) (c : Nat) : Option Nat :=
  (s.flash.retire.find? fun (e : Nat × Nat × Nat × Time) => e.1 == 2 && e.2.2.1 == c).map fun e => e.2.1

/-- The outcome of a core's probe: a second bad column is a failure. -/
def State.judge (s : State) (c : Nat) (r : Probed) : Probed :=
  match r with
  | .column n =>
    match s.knownColumn c with
    | some m => if m = n then .column n else .fail
    | none => if (s.coreClass c).1 = 2 ∧ (s.coreClass c).2 ≠ n then .fail else .column n
  | r => r

/-- Count a probe (R453). -/
def State.probeCount (s : State) (r : Probed) : State :=
  if r == .pass then s.count .mgtProbePassCnt 0 1 else s.count .mgtProbeFailCnt 0 1

/-- A core leaves the reserve of its partition. -/
def State.unreserve (s : State) (c : Nat) : State :=
  match s.partOfCore c with
  | some p => s.setPart p { s.part p with reserve := sdel (s.part p).reserve c }
  | none => s

/-- The probe of a core that is idle, a reserve core or of no partition (R443, R444). -/
def State.probedCore (s : State) (c : Nat) (r : Probed) : State :=
  let s1 := { s.probeCount r with unitProbed := aset s.unitProbed (1, c) s.plumb }
  match s1.judge c r with
  | .pass => if s1.retired.contains (1, c) then (s1.unreserve c).setClass c (0, 0) else { s1 with suspects := adel s1.suspects (1, c) }
  | .column n =>
    if s1.retired.contains (1, c) then (s1.unreserve c).setClass c (0, 0)
    else (if s1.knownColumn c = some n then s1 else s1.columnEntry c n).unreserve c
  | .fail => ((s1.retireUnit 1 c).unreserve c).setClass c (0, 0)

/-- UNIT_PROBE (R443, R445, R450): a unit that no partition holds, or a reserve core, is probed once per 2^46 pt, and at
once while it is suspect. -/
def execUnitProbe (kind unit : Nat) (result : Machine.Probed) (s : State) : Host.Outcome State Fault Refusal :=
  let due : Bool := (aget s.suspects (kind, unit)).isSome ||
    (match aget s.unitProbed (kind, unit) with | some t => decide (2 ^ 46 ≤ s.since t) | none => true)
  let free : Bool := !(s.unitHeld kind unit) ||
    (kind == 1 && (match s.partOfCore unit with | some p => (s.part p).reserve.contains unit | none => false))
  .next (if s.probePack.isEmpty || kind = 0 || decide (5 < kind) || !due || !free then s
    else if kind = 1 then (if s.enabled unit then s.probedCore unit result else s)
    else
      let s1 := { s.probeCount result with unitProbed := aset s.unitProbed (kind, unit) s.plumb }
      if result == .pass then { s1 with suspects := adel s1.suspects (kind, unit) } else s1.retireUnit kind unit)

/-- The results of a bent's cores in a window (R443, R445, R451): a core that a partition uses keeps its class until its
bent is next built; one whose partition has a reserve is to be substituted. (DESIGN CHOICE, log 38). -/
def State.windowCore (s : State) (p c : Nat) (r : Probed) : State :=
  let s1 := (s.probeCount r).setPart p { s.part p with probedAt := aset (s.part p).probedAt c s.plumb }
  let s2 := if r == .pass then s1 else s1.count .prtProbeFailCnt p 1
  match s2.judge c r with
  | .pass => { s2 with suspects := adel s2.suspects (1, c) }
  | .column n => if s2.knownColumn c = some n then s2 else s2.columnEntry c n
  | .fail =>
    let s3 := s2.retireUnit 1 c
    if (s3.part p).reserve.contains c then (s3.unreserve c).setClass c (0, 0)
    else if (s3.part p).reserve.isEmpty || s3.pendingSub.contains c then s3
    else (({ s3 with pendingSub := s3.pendingSub ++ [c] }.cause p 13).maintAsk ⟨4, bentOf c⟩).1

/-- PROBE_WINDOW (R451, R454): a grant opens a window over the bents `lo` to `hi`; without one, the open window turns to its
next bent with the results of its cores, when the arbiter grants it. (DEDUCED, log 39). -/
def execProbeWindow (p : BitVec 3) (grant : Option (Src × (Nat × Nat))) (results : List (Nat × Machine.Probed)) (s : State) :
    Host.Outcome State Fault Refusal :=
  let P := p.toNat
  let k : RKey := ⟨.prtProbeGrant, P, 0⟩
  .next (
    match grant with
    | some (src, lo, hi) =>
      s.accessW src k fun s =>
        if (s.part P).window.isSome || !(s.part P).built || (s.part P).fenced then s
        else
          let lo := lo % 128
          let hi := hi % 128
          let s1 := s.setReg k (BitVec.ofNat 32 (lo + hi * 128 + 2 ^ 14))
          let bs := ((upto lo (hi + 1 - lo)).filterMap (s1.bentIndex P))
          let s2 := s1.setPart P { s1.part P with window := some { bents := bs, t0 := s1.plumb } }
          if bs.isEmpty then s2.endWindow P false else s2
    | none =>
      match (s.part P).window with
      | none => s
      | some w =>
        match w.bents with
        | [] => s.endWindow P false
        | b :: r =>
          let act : Activity := ⟨5, b⟩
          let (s1, ok) := if s.maintRun.contains act then (s, true)
            else if s.maintQueue.contains act then (s, false)
            else let (s', x) := s.maintAsk act; (s', x == 0)
          if !ok then s1
          else
            let busy := (coresOfBent b).any fun c => (List.range 4).any fun x => (s1.ctx c x).inRun
            let pos := w.probed + w.skipped
            let va := (s1.reg ⟨.prtProbeSaveLo, P, 0⟩).toNat + 2 ^ 32 * s1.rfld ⟨.prtProbeSaveHi, P, 0⟩ 15 0
            let save (s : State) : State := (List.range 3200).foldl (fun s i =>
              { s.vput P (va + (pos * 3200 + i) * 0x14800) ((Config.saveImage s.draws).take 0x14800) with draws := s.draws + 1 }) s
            let s2 := if busy then s1
              else (results.filter fun e => (coresOfBent b).contains e.1).foldl (fun s e => s.windowCore P e.1 e.2) (save s1)
            let w' : Window := { w with bents := r, probed := w.probed + b2n (!busy), skipped := w.skipped + b2n busy }
            let s3 := (s2.setPart P { s2.part P with window := some w' }).maintEnd act
            if r.isEmpty then s3.endWindow P false else s3)

/-- PROBE_BUDGET_EXPIRE (R451). -/
def execProbeBudgetExpire (p : BitVec 3) (s : State) : Host.Outcome State Fault Refusal :=
  let P := p.toNat
  .next (
    match (s.part P).window with
    | none => s
    | some w =>
      if s.since w.t0 < (s.reg ⟨.prtProbeBudget, P, 0⟩).toNat then s
      else
        let s1 := match w.bents with
          | b :: _ => (s.maintCancel ⟨5, b⟩).maintEnd ⟨5, b⟩
          | [] => s
        s1.endWindow P true)

/-! ### Substitution (R402, R403, R444, R447, R452, R455) -/

/-- CORE_SUBSTITUTE (R443, R444, R452): a pending core whose contexts are all Empty or cleanly Stopped moves to the lowest
reserve core once the arbiter has granted it; the core it leaves is probed with `result`. -/
def execCoreSubstitute (core : CoreAddr) (result : Machine.Probed) (s : State) : Host.Outcome State Fault Refusal :=
  let c := core.toNat
  let act : Activity := ⟨4, bentOf c⟩
  .next (
    match s.partOfCore c, s.lcoreOf c with
    | some p, some l =>
      let q := s.part p
      let lower := (s.pendingSub.filter fun x => q.coreMap.contains x && decide (x < c)).length
      let calm := (List.range 4).all fun x => (s.ctx c x).st == .empty || s.cleanCtx c x
      if !(s.pendingSub.contains c) || q.fenced || decide (q.reserve.length ≤ lower) || !calm || s.inFlight c then s
      else
        let (s1, ok) := if s.maintRun.contains act then (s, true)
          else if s.maintQueue.contains act then (s, false)
          else let (s', x) := s.maintAsk act; (s', x == 0)
        match ok, (s1.part p).reserve.head? with
        | true, some b =>
          let s2 := s1.moveCore p l c b
          let s3 := { s2 with pendingSub := sdel s2.pendingSub c }.count .mgtSubstCnt 0 1
          (s3.probedCore c result).maintEnd act
        | _, _ => s1
    | _, _ => s)

/-- CHANNEL_SUBSTITUTE (R447, R455): a suspect channel is copied to a spare of its stack, once the arbiter has granted it. -/
def execChannelSubstitute (chan spare : Nat) (s : State) : Host.Outcome State Fault Refusal :=
  let act : Activity := ⟨6, chan / 32⟩
  .next (if (aget s.suspects (6, chan)).isNone || chan == spare || chan / 32 != spare / 32 || decide (768 ≤ chan) ||
      (s.partOfChan spare).isSome || s.retired.contains (6, spare) || s.slotHole spare || s.rbit ⟨.hbmChMap, spare, 0⟩ 5 ||
      s.rbit ⟨.hbmChMap, spare, 0⟩ 6 || s.rbit ⟨.hbmChMap, chan, 0⟩ 6 || s.slotHole chan then s
    else
      let (s1, ok) := if s.maintRun.contains act then (s, true)
        else if s.maintQueue.contains act then (s, false)
        else let (s', x) := s.maintAsk act; (s', x == 0)
      if !ok then s1
      else (({ s1 with copies := aset s1.copies chan (spare, s1.plumb) }).setFld ⟨.hbmChMap, chan, 0⟩ 6 6 1).setFld
        ⟨.hbmChMap, spare, 0⟩ 6 6 1)

/-- CHANNEL_COPY_DONE (R447, R455): the spare takes the slot in one cycle and the suspect channel is retired. -/
def execChannelCopyDone (chan : Nat) (s : State) : Host.Outcome State Fault Refusal :=
  .next (
    match aget s.copies chan with
    | none => s
    | some (spare, _) =>
      let slot := s.rfld ⟨.hbmChMap, chan, 0⟩ 4 0
      let s1 := { s with copies := adel s.copies chan, suspects := adel s.suspects (6, chan) }
      let s2 := (s1.setFld ⟨.hbmChMap, chan, 0⟩ 6 6 0).setReg ⟨.hbmChMap, spare, 0⟩ (BitVec.ofNat 32 (slot + 32))
      ((s2.retireUnit 6 chan).count .mgtSubstCnt 0 1).maintEnd ⟨6, chan / 32⟩)

/-! ### Control parity and residues (R439, R440) -/

def State.chkCount (s : State) (d : Nat) : State :=
  let k : RKey := ⟨.mgtChkCnt, 0, d⟩
  s.setReg k (s.reg k + 1#32)

/-- CONTROL_PARITY_ERROR (R439, R443). -/
def execControlParityError (unit : Machine.CtlUnit) (s : State) : Host.Outcome State Fault Refusal :=
  .next (
    match unit with
    | .core c =>
      if !(validCore c) then s
      else
        let s1 := (List.range 4).foldl (fun s x => (s.cutTiles c x false).faultCtx c x 0x03#8) s
        (s1.chkCount (coreDie c)).suspect 1 c
    | .engine k u => (s.chkCount (engDie k u)).orderEngine k u none 0x07
    | .peg h => { s with badPegs := if s.badPegs.contains h then s.badPegs else s.badPegs ++ [h] }.chkCount h.die)

/-- The bytes of an output in partition memory keep their values and become poison. -/
def State.poisonOut (s : State) (p va n : Nat) : State :=
  match s.vload p va n 0 with
  | none => s
  | some (s1, l) => (s1.vstore p va 0 (l.map fun b => (b.1, true))).1

/-- RESIDUE_MISMATCH (R440, R443). A stream's output is named by the scratchpad offset of its slot. -/
def execResidueMismatch (unit : Machine.ResUnit) (s : State) : Host.Outcome State Fault Refusal :=
  .next (
    match unit with
    | .loader i va n =>
      match s.xfers.find? (fun x => x.id == i) with
      | none => s
      | some x =>
        let k := dfield x.desc 0 1
        if !x.begun then s
        else
          let s1 := if k = 2 ∨ k = 3 then s.markSlot x.core (va / 16) true else s.poisonOut x.part va n
          (s1.chkCount (coreDie x.core)).suspect 4 (bayOf x.core)
    | .loaderAddr i =>
      match s.xfers.find? (fun x => x.id == i) with
      | none => s
      | some x =>
        if !x.moves then s
        else (((s.dropXfer i).faultCtx x.core x.ctx 0x03#8).chkCount (coreDie x.core)).suspect 4 (bayOf x.core)
    | .table i va n =>
      match s.xfers.find? (fun x => x.id == i) with
      | none => s
      | some x =>
        if dfield x.desc 0 1 ≠ 0x10 then s
        else
          let d := s.tblDie (Gather.ofBytes x.desc).die
          ((s.poisonOut x.part va n).chkCount d).suspect 3 d
    | .joiner p num va => ((s.poisonOut p (va / 32 * 32) 32).chkCount (num / 16)).suspect 2 num
    | .scalar c x => (if validCore c then ((s.faultCtx c x 0x03#8).chkCount (coreDie c)).suspect 1 c else s))

end Sys2Proof.Machine
end

