-- ==== Sys2Proof/Machine/Clocks.lean ====
section
/-! DEFINITION. Plumb time and the schedule of snapshots (16: R461-R467; 19: R554, R566; 11: R360). -/
namespace Sys2Proof.Machine

/-! ### The master copy (R461-R465) -/

/-- The offset of a time from its nearest whole second (R462). -/
def offsetOf (t : Time) : Int :=
  let f : Nat := t.toNat % 2 ^ 30
  if f < 2 ^ 29 then (f : Int) else (f : Int) - 2 ^ 30

/-- The bounds of PLB_RATE (R461, R462): nominal × (1 ∓ 10^-4) in units of 2^-32, inward. (DEDUCED, log 40). -/
def rateMin : Nat := (2 ^ 62 * 9999 + 16000000000000 - 1) / 16000000000000
def rateMax : Nat := 2 ^ 62 * 10001 / 16000000000000

/-- Round a quotient to the nearest, ties to even. -/
def divRne (a b : Nat) : Nat :=
  let q := a / b
  let r := a % b
  if 2 * r > b ∨ (2 * r = b ∧ q % 2 = 1) then q + 1 else q

/-- correct_rate of R462: `left` is r before the pulse, `dt` the time since the previous accepted one. (DEDUCED, log 40). -/
def correctRate (rate : Nat) (o left : Int) (dt : Nat) : Nat :=
  let n := (dt + 2 ^ 29) / 2 ^ 30
  let d := o - left
  let num := ((n * 2 ^ 30 : Nat) : Int) - d
  let r := divRne (rate * num.toNat) (n * 2 ^ 30)
  max rateMin (min rateMax r)

def kRate : RKey := ⟨.plbRate, 0, 0⟩
def kPlbStatus : RKey := ⟨.plbStatus, 0, 0⟩

/-- PPS_PULSE (R360, R462, R464): a rising edge of PPS_IN. Ports that trained again take the time as aligned. -/
def execPpsPulse (s : State) : Host.Outcome State Fault Refusal :=
  let w := s.power
  let t := s.plumb
  let early : Bool := match w.pps with | some t0 => decide (s.since t0 < 2 ^ 29) | none => false
  .next (if s.pkg ≠ .on then s
    else if early then s.count .plbPpsRejCnt 0 1
    else
      let o := offsetOf t
      let rate := match w.pps with
        | some t0 => if w.ppsHeld then (s.reg kRate).toNat else correctRate (s.reg kRate).toNat o w.left (s.since t0)
        | none => (s.reg kRate).toNat
      let s1 := ((s.count .plbPpsCnt 0 1).setReg ⟨.plbOffset, 0, 0⟩ (BitVec.ofInt 32 o)).setReg kRate (BitVec.ofNat 32 rate)
      let s2 := s1.setReg kPlbStatus (BitVec.ofNat 32 (b2n (decide (o.natAbs ≤ 64))))
      let s3 := { s2 with power := { w with pps := some t, pps1 := some (w.pps1.getD t), ppsHeld := false, left := o } }
      (List.range 8).foldl (fun s n => if (s.port n).st = .up then s.setPort n { s.port n with unaligned := false } else s) s3)

/-- PLUMB_CORRECTION (R463): once in an interval of 2^20 pt up to 64 pt of the remaining offset are removed. -/
def execPlumbCorrection (s : State) : Host.Outcome State Fault Refusal :=
  let w := s.power
  let i := s.plumb.toNat / 2 ^ 20
  .next (if i = w.corr then s
    else if 0 < w.left then
      let n := min w.left 64
      { s with power := { w with corr := i, left := w.left - n, hold := w.hold + n.toNat } }
    else if w.left < 0 then
      let n := min (-w.left) 64
      { s with plumb := s.plumb + BitVec.ofNat 64 n.toNat, power := { w with corr := i, left := w.left + n } }
    else { s with power := { w with corr := i } })

/-- PPS_HOLDOVER (R464): no pulse accepted for 2^32 pt. -/
def execPpsHoldover (s : State) : Host.Outcome State Fault Refusal :=
  let due : Bool := match s.power.pps with | some t => decide (2 ^ 32 ≤ s.since t) | none => true
  .next (if s.pkg ≠ .on ∨ !due then s
    else { s.setFld kPlbStatus 1 1 1 with power := { s.power with ppsHeld := true } })

/-! ### Whole loads (R465, R534) -/

/-- The times that a port keeps, `d` later. -/
def Port.later (q : Port) (d : Time) : Port :=
  { q with fence := q.fence.map (· + d), lastCtl := q.lastCtl + d, idleSince := q.idleSince + d, stopT := q.stopT + d
           wakeT := q.wakeT + d, tone := q.tone.map (· + d), laneErr := q.laneErr.map fun (e : Time × Nat) => (e.1 + d, e.2) }

/-- The times of the governor, `d` later; the remaining offset takes up the part of `d` beyond whole seconds. -/
def Power.later (w : Power) (d : Time) : Power :=
  let all (l : List (Nat × Time)) : List (Nat × Time) := l.map fun (e : Nat × Time) => (e.1, e.2 + d)
  { w with phaseT := w.phaseT + d, xSince := w.xSince + d, boostT := w.boostT + d, infeas := w.infeas.map (· + d)
           parkT := w.parkT.map (· + d), peakT := w.peakT.map (· + d), tripT := all w.tripT, coolT := all w.coolT
           switched := all w.switched, thmSince := all w.thmSince, pfStart := w.pfStart + d
           moves := w.moves.map fun (e : Nat × (Nat × Nat × Time)) => (e.1, (e.2.1, e.2.2.1, e.2.2.2 + d))
           pps := w.pps.map (· + d), pps1 := w.pps1.map (· + d), left := w.left + offsetOf d }

/-- Every copy takes a value; what runs while no partition works keeps the time it has run. -/
def State.loadPlumb (s : State) (t : Time) : State :=
  let d := t - s.plumb
  { s with plumb := t, isle := [], isleHold := [], power := s.power.later d, ports := s.ports.map fun (q : Port) => q.later d
           pkgFence := s.pkgFence.map (· + d), keySwitch := s.keySwitch.map fun (e : Nat × Time) => (e.1, e.2 + d)
           orders := s.orders.map fun (e : (Nat × Nat) × List Time) => (e.1, e.2.map (· + d))
           copies := s.copies.map fun (e : Nat × (Nat × Time)) => (e.1, (e.2.1, e.2.2 + d))
           suspects := s.suspects.map fun (e : (Nat × Nat) × Time) => (e.1, e.2 + d)
           suspectT := s.suspectT.map fun (e : (Nat × Nat) × Time) => (e.1, e.2 + d)
           sessions := s.sessions.map fun (x : Session) => { x with last := x.last + d }
           boot := { s.boot with released := s.boot.released.map (· + d) } }

/-- PLUMB_LOAD (R465): every copy takes the value, before any partition has accepted work since the start. (DEDUCED, log
41). -/
def execPlumbLoad (src : Src) (s : State) : Host.Outcome State Fault Refusal :=
  .next (s.accessW src ⟨.plbCmd, 0, 0⟩ fun s =>
    if s.worked then s.count .plbErrCnt 0 1
    else s.loadPlumb ((s.reg ⟨.plbLoadHi, 0, 0⟩) ++ (s.reg ⟨.plbLoadLo, 0, 0⟩)))

/-- ISLAND_TIME_SYNC (R33, R466, R579): an island's copy is found `dev` pt from where it belongs: its spine's, with the
skew of a perturbation, or die 0's spine for a spine, which the hardware keeps within 4 pt. A bent's copy outside its 8 pt steps
forward by at most 8 pt, or holds until its spine has caught up; a stopped bent keeps no copy. (DEDUCED, log 42). -/
def execIslandTimeSync (dom : Nat) (dev : Int) (s : State) : Host.Outcome State Fault Refusal :=
  let put (s : State) (d : Int) : State :=
    { s with isle := aset s.isle dom (BitVec.ofInt 64 d), isleHold := s.isleHold.filter (· != dom) }
  .next (if 100 ≤ dom ∨ dom = domOfSpine 0 then s
    else if dom % 25 = 24 then (if dev.natAbs ≤ 4 then put s dev else s)
    else if s.rbit ⟨.bentClk, dom / 25 * 24 + dom % 25, 0⟩ 18 then s
    else if dev.natAbs ≤ 8 then put s dev
    else if dev < 0 then (put s (dev + min 8 (-dev))).count .plbErrCnt 0 1
    else { put s dev with isleHold := s.isleHold.filter (· != dom) ++ [dom] }.count .plbErrCnt 0 1)

/-! ### Snapshots of slot 1 (R467, R554, R566) -/

def kSnapStatus : RKey := ⟨.plbSnapStatus, 0, 0⟩
def kSnapPer : RKey := ⟨.plbSnapPer, 0, 0⟩

/-- Schedule slot 1 at an instant. -/
def State.snapSet (s : State) (t : Time) : State :=
  { (s.setFld kSnapStatus 0 0 1).setFld ⟨.plbSnapCmd, 0, 0⟩ 0 0 1 with snapAt := some t }

/-- SNAP_SCHEDULE (R467, R554): `go` of PLB_SNAP_CMD. -/
def execSnapSchedule (src : Src) (s : State) : Host.Outcome State Fault Refusal :=
  .next (s.accessW src ⟨.plbSnapCmd, 0, 0⟩ fun s =>
    if s.snapAt.isSome then s
    else
      let t : Time := (s.reg ⟨.plbSnapTHi, 0, 0⟩) ++ (s.reg ⟨.plbSnapTLo, 0, 0⟩)
      if t.toNat < s.plumb.toNat + 2 ^ 14 then
        (s.setFld kSnapStatus 2 2 1).spineEvent 0 0x0205 255 0#32 t.toNat 0xFFFFFFFF
      else s.snapSet t)

/-- SNAP_PERIOD_WRITE (R554, R566). -/
def execSnapPeriodWrite (src : Src) (value : Word) (s : State) : Host.Outcome State Fault Refusal :=
  .next (s.accessW src kSnapPer fun s =>
    if value ≠ 0#32 ∧ value.toNat < 0x10000 then s
    else
      let s1 := s.setReg kSnapPer value
      if value = 0#32 then s1 else s1.snapSet (s1.plumb + BitVec.ofNat 64 (value.toNat * 2 ^ 10)))

/-! ### The tick of the spine clock (R204, R461, R463, R475, R490) -/

/-- The cause under which an idle core counts a cycle (R176, R197, R327): none while a context is Ready, Running or held or the
array has work; the one of the segment on which the lowest Waiting context waits; else host. -/
def Core.idleUnder (k : Core) : Option Nat :=
  if k.run.isSome || !k.queue.isEmpty || k.ctxs.toList.any (fun v => v.st == .ready || v.st == .running || v.held) then none
  else some ((k.ctxs.toList.findSome? fun v => match v.wait with
    | .peg id _ _ _ _ => if v.st == .waiting then some (v.idleCause id) else none
    | _ => none).getD 3)

/-- The part of a spine cycle in a bent whose clock runs: (24 + point) / 64 of a bent cycle (R456). At its end a cycle of a
clock switch counts as idle under the cause of the change (R460), a shim as thermal or shim (R470), and in every other each
enabled core that is idle counts (R327, R549). (DESIGN CHOICE, log 3). -/
def State.bentTick (s : State) (b : Nat) : State :=
  if s.rbit ⟨.bentClk, b, 0⟩ 18 then s
  else
    let v := s.bentCycle b
    let n := v.frac + 24 + (if v.halt = 0 then s.rfld ⟨.bentClk, b, 0⟩ 4 0 else v.point)
    let put (v : BentCyc) : State := { s with bentCyc := aset s.bentCyc b v }
    if n < 64 then put { v with frac := n }
    else
      let k : RKey := ⟨.bentShim, b, 0⟩
      let why : Option Nat := if 0 < v.halt then some v.cause
        else if s.shimNow b then some (if s.rfld k 5 0 ≤ s.rfld k 13 8 then 6 else 5) else none
      ((coresOfBent b).filter s.enabled).foldl (fun s c => match why.orElse fun _ => (s.core c).idleUnder with
        | some i => s.idle c i 1
        | none => s) (put { v with frac := n - 64, pos := (v.pos + 1) % 64, halt := v.halt - 1 })

/-- Copies that hold lose `n` pt of their lead, and follow their spines again once it is gone (R466). -/
def State.holdTick (s : State) (n : Nat) : State :=
  s.isleHold.foldl (fun s dom =>
    let lead := ((aget s.isle dom).getD 0#64).toNat
    if lead ≤ n then { s with isle := adel s.isle dom, isleHold := s.isleHold.filter (· != dom) }
    else { s with isle := aset s.isle dom (BitVec.ofNat 64 (lead - n)) }) s

/-- What the spine ends its cycle with: the pools serve the requests of the cycle, a reclaim last (R212), the collective
engines the blocks that have become ready (R273); the ports send on (R334) and a full replay store counts (R347). -/
def State.spineEnd (s : State) : State :=
  let s1 := (List.range 256).foldl (fun s i =>
    let v := s.pool (i / 64) (i % 64)
    if v.reqs.isEmpty && v.eng.isEmpty && !(s.rbit ⟨.spnPoolCmd, i, 0⟩ 0) then s else s.poolCycle (i / 64) (i % 64)) s
  (List.range 8).foldl (fun s n => (s.replayTick n).lineTick n) s1.colReady

/-- A spine cycle in which a perturbation of a partition acts is counted (R581): back-pressure in one of its cycles, or skew.
(DESIGN CHOICE, log 109). -/
def State.pertTick (s : State) (p : Nat) : State :=
  if s.backPressed p 6 || s.backPressed p 7 || s.rfld ⟨.tstPertSkew, p, 0⟩ 4 0 != 0 then s.count .tstPertCnt p 1 else s

/-- One spine cycle passes, in a package whose rails are up: the accumulator carries PLB_RATE into plumb time, or into a
hold; a stopped bent counts the time, the others their idle cores; the deadlock timers follow their conditions. (DESIGN
CHOICE, log 3). -/
def State.tick (s0 : State) : State :=
  let s1 := (List.range 8).foldl State.pertTick s0.spineEnd
  let s := { (if s0.pkg = .off then s0 else { s1 with spinePos := (s1.spinePos + 1) % 64 }) with cyc := {} }
  if s.pkg = .off then s
  else
    let w := s.power
    let sum := w.frac + (s.reg kRate).toNat
    let adv := sum / 2 ^ 32
    let held := min w.hold adv
    let s1 := { s with plumb := s.plumb + BitVec.ofNat 64 (adv - held), power := { w with frac := sum % 2 ^ 32, hold := w.hold - held } }
    let s2 := ((List.range 96).filter fun b => s1.rbit ⟨.bentClk, b, 0⟩ 18).foldl
      (fun s b => s.count .bentStopCnt b (adv - held)) (s1.holdTick (adv - held))
    let s3 := (List.range 96).foldl State.bentTick s2
    (List.range 8).foldl (fun s p => if (s.part p).built && !(s.partStopped p) then s.dldTick p else s) s3

end Sys2Proof.Machine
end

