-- ==== Sys2Proof/Machine/Power.lean ====
section
/-! DEFINITION. Bent clocks, the power governor, thermals and the shutdown sequence (16: R456-R460, R469-R494; R31, R32,
R358, R394, R533, R558). -/
namespace Sys2Proof.Machine

/-! ### Points (R456-R460, R473, R475, R489, R494) -/

def kClk (b : Nat) : RKey := ⟨.bentClk, b, 0⟩
def kShim (b : Nat) : RKey := ⟨.bentShim, b, 0⟩
def kPwrStatus : RKey := ⟨.pwrStatus, 0, 0⟩
def kPart (p : Nat) : RKey := ⟨.pwrPart, p, 0⟩

def State.point (s : State) (b : Nat) : Nat := s.rfld (kClk b) 4 0
def State.bentTemp (s : State) (b : Nat) : Nat := s.rfld ⟨.bentTemp, b, 0⟩ 11 0
def State.stopped (s : State) (b : Nat) : Bool := s.rbit (kClk b) 18

/-- The nominal supply of a point with the bent's trim, in mV. (DESIGN CHOICE, log 79). -/
def supplyOf (b k : Nat) : Nat := 580 + 10 * k + (Config.trim b).val

/-- Is the bent's partition fixed-frequency, as of the bent's last point switch (R494)? -/
def State.bentFixed (s : State) (b : Nat) : Bool := s.rbit (kClk b) 21

/-- The bents that share a mesh link with a bent (R17, R387, R457): 4 rows of 6 on a die. -/
def neighbours (b : Nat) : List Nat :=
  let i := b % 24
  (if i % 6 = 0 then [] else [b - 1]) ++ (if i % 6 = 5 then [] else [b + 1]) ++
  (if i < 6 then [] else [b - 6]) ++ (if 18 ≤ i then [] else [b + 6])

/-- The limit that a bent at point `k` would pass with a neighbour: 0 none, 1 clock, 2 supply (R458). -/
def State.overLimit (s : State) (b k n : Nat) : Nat :=
  if s.stopped n then 0
  else if decide (12 < k - s.point n) || decide (12 < s.point n - k) then 1
  else
    let a := supplyOf b k
    let m := supplyOf n (s.point n)
    if decide (120 < a - m) || decide (120 < m - a) then 2 else 0

/-- A point change is decided: a rising bent raises its supply first (R460). -/
def State.startMove (s : State) (b k cause : Nat) : State :=
  if (aget s.power.moves b).isSome || k == s.point b || s.stopped b then s
  else
    let s1 := { s with power := { s.power with moves := aset s.power.moves b (k, cause, s.plumb) } }
    if s.point b < k then s1.setFld (kClk b) 15 6 (supplyOf b k) else s1

/-- The next step of a bent of a fixed-frequency partition toward `fpoint`, within the limits (R473, R475). -/
def State.fixedStep (s : State) (b : Nat) : State :=
  match s.partOfBent b with
  | none => s
  | some p =>
    let f := s.rfld (kPart p) 5 1
    let k := s.point b
    if !(s.rbit (kPart p) 0) || s.stopped b || k == f then s
    else
      let t := if k < f then k + 1 else k - 1
      if (neighbours b).all fun n => s.overLimit b t n == 0 then s.startMove b t 5 else s

/-- POINT_SWITCH (R456, R460, R473-R475, R494): the clock switches: 1,074 pt after the decision for a rise, and at least
2^10 pt after the last switch. The 32 cycles of the stop count as idle under the cause of the change. -/
def execPointSwitch (bent : Nat) (s : State) : Host.Outcome State Fault Refusal :=
  .next (
    match aget s.power.moves bent with
    | none => s
    | some (k, cause, t) =>
      let up := decide (s.point bent < k)
      let soon : Bool := match aget s.power.switched bent with | some t0 => decide (s.since t0 < 2 ^ 10) | none => false
      if soon || (up && decide (s.since t < 1074)) || s.stopped bent then s
      else
        let fixed : Bool := match s.partOfBent bent with | some p => s.rbit (kPart p) 0 | none => false
        let s1 := ((s.setFld (kClk bent) 4 0 k).setFld (kClk bent) 15 6 (supplyOf bent k)).setFld (kClk bent) 21 21 (b2n fixed)
        let s2 := { s1 with power := { s1.power with moves := adel s1.power.moves bent
                                                     switched := aset s1.power.switched bent s1.plumb } }
        let s3 := { s2 with bentCyc := aset s2.bentCyc bent { s2.bentCycle bent with halt := 32, cause := cause, point := s.point bent } }
        if fixed then s3.fixedStep bent
        else if s3.rbit kPwrStatus 0 && decide (0 < k) then s3.startMove bent (k - 1) 5 else s3)

/-! ### Restarting bents (R474, R475) -/

/-- The time a partition's bents were stopped does not count in its timers (R204, R408, R475). -/
def State.resumeTimers (s : State) (p : Nat) : State :=
  let q := s.part p
  match q.stopSince with
  | none => s
  | some t0 =>
    if s.partStopped p then s
    else
      let dt := s.plumb - t0
      let mine (c : Nat) : Bool := q.bents.contains (bentOf c)
      let ctx (v : Ctx) : Ctx := { v with progress := v.progress + dt }
      let core (k : Core) : Core :=
        { k with ctxs := k.ctxs.map ctx, run := k.run.map fun (r : Run) => { r with lastLine := r.lastLine + dt } }
      let trs (t : Truss) : Truss := { t with own := t.own.map fun (m : OwnMem) => { m with last := m.last + dt } }
      let s1 := { s with cores := s.cores.map fun (e : Nat × Core) => if mine e.1 then (e.1, core e.2) else e
                         trusses := s.trusses.map fun (e : (Nat × Nat) × Truss) => if e.1.1 = p then (e.1, trs e.2) else e }
      s1.setPart p { q with stopSince := none, dldSince := q.dldSince.map (· + dt) }

/-- A stopped bent restarts at point 0, its copy of plumb time reloaded (R466, R475); a reason that still holds keeps it
stopped. (DEDUCED, log 91). -/
def State.restartBent (s : State) (b : Nat) : State :=
  let parked : Bool := match s.partOfBent b with | some p => (s.part p).parked | none => false
  let trip := s.rbit ⟨.pwrDieTemp, b / 24, 0⟩ 12
  if !(s.stopped b) then s
  else if s.phase ≠ 0 then s.setFld (kClk b) 20 19 3
  else if trip then s.setFld (kClk b) 20 19 2
  else if parked then s.setFld (kClk b) 20 19 1
  else
    let s1 := ((s.setFld (kClk b) 20 18 0).setFld (kClk b) 4 0 0).setFld (kClk b) 15 6 (supplyOf b 0)
    let s2 := { s1 with power := { s1.power with moves := adel s1.power.moves b } }
    (match s2.partOfBent b with
     | some p => s2.resumeTimers p
     | none => s2).fixedStep b

/-! ### Capping and boost (R469-R474) -/

def State.cap (s : State) : Nat := s.rfld ⟨.pwrCap, 0, 0⟩ 15 0
def State.xPwr (s : State) : Nat := s.rfld kPwrStatus 21 16

/-- Set x_pwr of every running bent. -/
def State.setX (s : State) (x : Nat) : State :=
  let w := s.power
  let since := if (decide (x = 0)) = (decide (s.xPwr = 0)) then w.xSince else s.plumb
  (((List.range 96).filter fun b => !(s.stopped b)).foldl (fun (s : State) (b : Nat) => s.setFld (kShim b) 5 0 x)
    { s with power := { w with xSince := since } }).setFld kPwrStatus 21 16 x

/-- Event 0x0301: F and the parked mask. -/
def State.capEvent (s : State) : State :=
  s.spineEvent 0 0x0301 255 0#32 (s.rfld ⟨.pwrFloor, 0, 0⟩ 15 0) (s.rfld kPwrStatus 15 8)

/-- No partition is parked any more: the cap is feasible again (R476). -/
def State.feasible (s : State) : State :=
  { s.setFld kPwrStatus 0 0 0 with power := { s.power with infeas := none } }

/-- The cap becomes infeasible (R474, step 1). -/
def State.infeasible (s : State) : State :=
  let s1 := (((s.setFld kPwrStatus 0 0 1).count .pwrInfeasCnt 0 1).pldmEvent 0x0003 (s.rfld ⟨.pwrFloor, 0, 0⟩ 15 0 / 8)).capEvent
  let s2 := ((List.range 8).filter fun p => (s1.part p).built).foldl (fun s p => s.cause p 11) s1
  { s2 with power := { s2.power with infeas := some s2.plumb } }

/-- The limits between a running bent and a running neighbour (R458, R459): the faster bent of a pair that passes one is
lowered one step; a fixed one keeps its point, and the other is raised, or its heat is met with shims. -/
def State.clampPair (s : State) (a b : Nat) : State :=
  if s.stopped a || s.stopped b then s
  else
    let lim := s.overLimit a (s.point a) b
    let ta := s.bentTemp a
    let tb := s.bentTemp b
    let hot := decide (240 < ta - tb) || decide (240 < tb - ta)
    let why := if lim ≠ 0 then lim else if hot then 3 else 0
    if why = 0 then s
    else
      let fast := if s.point b < s.point a then a else if s.point a < s.point b then b else if tb < ta then a else b
      let slow := if fast = a then b else a
      let mark (s : State) (x : Nat) : State := (s.setFld (kClk x) 17 16 why).count .pwrClampCnt (x / 24) 1
      if !(s.bentFixed fast) then
        if s.point fast = 0 then s else mark (s.startMove fast (s.point fast - 1) (if why = 3 then 6 else 5)) fast
      else if why = 3 then
        let h := if tb < ta then a else b
        if s.bentFixed h then
          { s.setFld (kShim h) 13 8 (min 60 (s.rfld (kShim h) 13 8 + (Config.clampShim s.draws).val)) with draws := s.draws + 1 }
        else if s.point h = 0 then s else mark (s.startMove h (s.point h - 1) 6) h
      else if s.bentFixed slow || decide (22 ≤ s.point slow) then s
      else s.startMove slow (s.point slow + 1) 5

def State.clampAll (s : State) : State :=
  (List.range 96).foldl (fun s a => ((neighbours a).filter fun b => decide (a < b)).foldl (fun s b => s.clampPair a b) s) s

/-- GOVERNOR_INTERVAL (R458, R471-R474): P and P_b in W over the interval, and the floor F that the governor estimates.
(DESIGN CHOICE, log 5; DEDUCED, log 43; DESIGN CHOICE, log 45). -/
def execGovernorInterval (p pb f : Nat) (s : State) : Host.Outcome State Fault Refusal :=
  .next (if s.pkg ≠ .on ∨ s.phase ≠ 0 then s
    else
      let s1 := (s.setReg ⟨.pwrIn, 0, 0⟩ (BitVec.ofNat 32 (min p 0xFFFF))).setReg ⟨.pwrFloor, 0, 0⟩ (BitVec.ofNat 32 (min f 0xFFFF))
      let c := s1.cap
      let inf := s1.rbit kPwrStatus 0
      let s2 := if c < f ∧ !inf then s1.infeasible
        else if inf ∧ f ≤ c ∧ s1.rfld kPwrStatus 15 8 = 0 then
          { s1.setFld kPwrStatus 0 0 0 with power := { s1.power with infeas := none } }
        else s1
      let s3 : State :=
        if s2.rbit kPwrStatus 0 then
          ((List.range 96).filter fun b => !(s2.stopped b) && !(s2.bentFixed b) && decide (0 < s2.point b)).foldl
            (fun s b => s.startMove b (s.point b - 1) 5) (s2.setX 60)
        else if c < p + 128 then
          (if pb = 0 then s2 else s2.setX (min 60 (s2.xPwr + (64 * (p + 128 - c) + pb - 1) / pb)))
        else if 64 * p + pb + 8192 ≤ 64 * c ∧ !(s2.power.peakT.any fun t => decide (s2.since t < 2 ^ 14)) then s2.setX (s2.xPwr - 1)
        else s2
      ((List.range 96).foldl (fun s b => s.fixedStep b) s3).clampAll)

/-- PEAK_CHECK (R469, R471, R476): P over 2^10 pt, in W. (DESIGN CHOICE, log 45). -/
def execPeakCheck (p : Nat) (s : State) : Host.Outcome State Fault Refusal :=
  .next (if s.pkg ≠ .on ∨ p ≤ 18000 then s
    else ({ s with power := { s.power with peakT := some s.plumb } }.setX 60).count .pwrPeakCnt 0 1)

/-- The first of some bents that is best by a measure; ties go to the earlier. (DEDUCED, log 43). -/
def bestBent (f : Nat → Nat → Bool) (l : List Nat) : Option Nat :=
  l.foldl (fun (r : Option Nat) b => match r with | some x => if f b x then some b else r | none => some b) none

/-- BOOST_STEP (R472, R474): once per 2^20 pt, one boosted bent is lowered while x_pwr has stayed above 0, or raised while it
has been 0. (DEDUCED, log 43). -/
def execBoostStep (s : State) : Host.Outcome State Fault Refusal :=
  let w := s.power
  let boost := (List.range 96).filter fun b =>
    (match s.partOfBent b with | some p => !(s.rbit (kPart p) 0) | none => false) && !(s.stopped b) && (aget w.moves b).isNone
  let ready := decide (2 ^ 20 ≤ s.since w.xSince) && decide (2 ^ 20 ≤ s.since w.boostT)
  let done (s : State) : State := { s with power := { s.power with boostT := s.plumb } }
  .next (if s.pkg ≠ .on || !ready || s.rbit kPwrStatus 0 || s.phase != 0 then s
    else if 0 < s.xPwr then
      match bestBent (fun a b => decide (s.point b < s.point a)) (boost.filter fun b => decide (0 < s.point b)) with
      | some b => done (s.startMove b (s.point b - 1) 5)
      | none => s
    else if s.cap < s.rfld ⟨.pwrIn, 0, 0⟩ 15 0 + 700 then s
    else
      let fmax (b : Nat) : Nat := match s.partOfBent b with | some p => s.rfld (kPart p) 10 6 | none => 0
      let ok (b : Nat) : Bool := decide (s.bentTemp b < 760) && decide (s.point b < fmax b) &&
        (neighbours b).all fun n => s.overLimit b (s.point b + 1) n == 0
      match bestBent (fun a b => decide (s.point a < s.point b)) (boost.filter ok) with
      | some b => done (s.startMove b (s.point b + 1) 5)
      | none => s)

/-- PARTITION_PARK (R474, R488): 200 ms after the report, with C < F, the highest partition that has a running bent is
parked, once per 2^20 pt; `f` is F as estimated now. -/
def execPartitionPark (f : Nat) (s : State) : Host.Outcome State Fault Refusal :=
  let w := s.power
  let late : Bool := match w.infeas with | some t => decide (214748365 ≤ s.since t) | none => false
  let spaced : Bool := match w.parkT with | some t => decide (2 ^ 20 ≤ s.since t) | none => true
  .next (if !(s.rbit kPwrStatus 0) || !late || !spaced || decide (f ≤ s.cap) || s.phase != 0 then s
    else
      let s1 := s.setReg ⟨.pwrFloor, 0, 0⟩ (BitVec.ofNat 32 (min f 0xFFFF))
      match (List.range 8).reverse.find? fun p =>
          (s1.part p).built && !(s1.part p).parked && (s1.part p).bents.any fun b => !(s1.stopped b) with
      | some p => ({ s1.parkPart p with power := { w with parkT := some s1.plumb } }).capEvent
      | none => s1)

/-- PARTITION_UNPARK (R474, R476): with C ≥ F + 256 W the lowest parked partition restarts when F with it, `fw`, stays at or
below C − 256 W. -/
def execPartitionUnpark (f fw : Nat) (s : State) : Host.Outcome State Fault Refusal :=
  let spaced : Bool := match s.power.parkT with | some t => decide (2 ^ 20 ≤ s.since t) | none => true
  .next (if !spaced || decide (s.cap < f + 256) || decide (s.cap < fw + 256) || s.phase != 0 then s
    else
      match (List.range 8).find? fun p => (s.part p).parked with
      | none => s
      | some p =>
        let s1 := s.setReg ⟨.pwrFloor, 0, 0⟩ (BitVec.ofNat 32 (min fw 0xFFFF))
        let s2 := (s1.setPart p { s1.part p with parked := false }).setFld kPwrStatus (8 + p) (8 + p) 0
        let s3 : State := (s2.part p).bents.foldl (fun (s : State) (b : Nat) => s.restartBent b) { s2 with power := { s2.power with parkT := some s2.plumb } }
        let s4 : State := if s3.rfld kPwrStatus 15 8 = 0 then s3.feasible else s3
        (s4.capEvent).waitingReset p)

/-- The cap is written; of the writes of one cycle the lowest stands (R469, R539). -/
def State.writeCap (s : State) (v : Nat) : State :=
  let v := match s.cyc.cap with | some c => min c v | none => v
  { s.setReg ⟨.pwrCap, 0, 0⟩ (BitVec.ofNat 32 v) with cyc := { s.cyc with cap := some v } }

/-- PWR_CAP_WRITE (R469, R493, R539): the writes of PWR_CAP of one cycle; the lowest that is in range stands. -/
def execPwrCapWrite (writes : List (Src × Word)) (s : State) : Host.Outcome State Fault Refusal :=
  let k : RKey := ⟨.pwrCap, 0, 0⟩
  let s1 := writes.foldl (fun s w => if s.reaches w.1 k true then s else s.denied w.1) s
  let ok := writes.filter fun w => s.srcLive w.1 && s.reaches w.1 k true && decide (wbits w.2 15 0 ≤ 15000)
  .next (if s.pkg ≠ .on then s
    else match ok.map fun w => wbits w.2 15 0 with
      | [] => s1
      | v :: r => s1.writeCap (r.foldl min v))

/-- PWR_PART_WRITE (R459, R476, R494): dropped out of range, or when two fixed neighbours would stand more than 8 points
apart. (DEDUCED, log 44). -/
def execPwrPartWrite (src : Src) (p : BitVec 3) (value : Word) (s : State) : Host.Outcome State Fault Refusal :=
  let P := p.toNat
  .next (s.accessW src (kPart P) fun s =>
    let f := wbits value 5 1
    let mine := (s.part P).bents
    let clash := wbit value 0 && mine.any fun b => (neighbours b).any fun n =>
      match s.partOfBent n with
      | some q => q != P && s.rbit (kPart q) 0 && (decide (8 < s.rfld (kPart q) 5 1 - f) || decide (8 < f - s.rfld (kPart q) 5 1))
      | none => false
    if 22 < f ∨ 22 < wbits value 10 6 ∨ clash then s else s.setReg (kPart P) (value &&& 0x7FF#32))

/-! ### Shutdown (R31, R480, R482-R488) -/

/-- Event 0x0303 and the phase. -/
def State.toPhase (s : State) (n : Nat) : State :=
  let s1 := s.setFld ⟨.pwrPfStatus, 0, 0⟩ 2 0 n
  { s1.spineEvent 0 0x0303 255 0#32 n (b2n (s1.rbit ⟨.pwrPfStatus, 0, 0⟩ 3)) with power := { s1.power with phaseT := s1.plumb } }

def State.noResume (s : State) : State := s.setFld ⟨.pwrPfStatus, 0, 0⟩ 3 3 1

/-- The sequence starts: every bent stops (R475, R483). -/
def State.shutdown (s : State) (noResume thermal : Bool) : State :=
  let s1 := (s.setFld ⟨.pwrPfStatus, 0, 0⟩ 3 3 (b2n noResume)).count .pwrPfCnt 0 1
  let s2 := { s1 with power := { s1.power with ride0 := thermal, thermal := thermal, pfStart := s1.plumb, returned := false } }
  ((List.range 96).foldl (fun s b => s.stopBent b 3) s2).toPhase 1

/-- Commit (R483, R486): PWR_OK falls and the outcome is written. -/
def State.commit (s : State) : State :=
  let s1 := s.toPhase 4
  { s1 with pwrOk := false, flash := { s1.flash with outcome := if s1.power.thermal then 2 else 1 } }

/-- The rails are off: what the flash holds stays (R486, R496, R508). The tray key stays, sealed. (DEDUCED, log 36). -/
def State.powerOff (s : State) (outcome : Nat) : State :=
  { pending := s.pending, draws := s.draws, starts := s.starts, nextId := s.nextId, retired := s.retired, inspects := s.inspects
    msgs := s.msgs, keys := s.keys.filter fun e => e.1.1 == 8, trayIdx := s.trayIdx, trayGen := s.trayGen, tap := s.tap.cut
    flash := { s.flash with outcome := outcome }, repairs := s.repairs, resetPin := s.resetPin
    power := { thermal := s.power.thermal } }

/-- PWRFAIL_FALL (R482, R485, R488). -/
def execPwrfailFall (s : State) : Host.Outcome State Fault Refusal :=
  .next (if s.pkg = .off then s
    else if s.phase = 0 then s.shutdown false false
    else { s with power := { s.power with returned := false } })

/-- BLADE_UNDERVOLT (R31, R482, R488): a blade below 40 V while the rails are up. -/
def execBladeUndervolt (s : State) : Host.Outcome State Fault Refusal :=
  .next (if s.pkg = .off then s
    else if s.phase = 0 then s.shutdown true false
    else
      let s1 := { s.noResume with power := { s.power with returned := false } }
      if s.phase = 3 then s1.commit else s1)

/-- BLADE_COLLAPSE (R487): a blade below 36 V while the rails are up. -/
def execBladeCollapse (s : State) : Host.Outcome State Fault Refusal :=
  .next (if s.pkg = .off then s else (s.powerOff 3))

/-- The flush begins (R483): each Up port asks its partner to sleep, whatever its `sleep_en`. -/
def State.toFlush (s : State) : State :=
  ((List.range 8).filter fun n => (s.port n).st == .up).foldl (fun s n =>
    let b := (s.port n).sent + 1024
    (s.setPort n { s.port n with sleepAt := some b, sleepAcked := false }).sendCtl n (.sleepReq b)) (s.toPhase 2)

/-- PF_HOLD_DONE (R483): nothing is outstanding. -/
def execPfHoldDone (s : State) : Host.Outcome State Fault Refusal :=
  .next (if s.phase = 1 ∧ s.replies.isEmpty then s.toFlush else s)

/-- HOLD_BOUND_EXPIRE (R483). -/
def execHoldBoundExpire (s : State) : Host.Outcome State Fault Refusal :=
  .next (if s.phase = 1 ∧ 4194304 ≤ s.since s.power.phaseT then s.noResume.toFlush else s)

/-- The package resumes (R485): the time away does not count for a paused reset (R488). (DEDUCED, log 80). -/
def State.resume (s : State) : State :=
  let dt := s.plumb - s.power.pfStart
  let s1 := (s.setFld ⟨.pwrPfStatus, 0, 0⟩ 2 0 0).setFld ⟨.pwrPfStatus, 0, 0⟩ 4 4 1
  let later (q : Part) : Part := { q with reset := q.reset.map fun (r : Nat × Time) => (r.1, r.2 + dt) }
  let s2 := { s1 with isle := [], isleHold := [], parts := s1.parts.map later }
  let s3 := (List.range 96).foldl (fun s b => if s.rfld (kClk b) 20 19 = 3 then s.restartBent b else s) s2
  let s4 := ((List.range 8).filter fun n => (s3.port n).st == .sleeping).foldl
    (fun s n => s.portTo n { s.port n with wakeT := s.plumb, tone := none } .waking) s3
  let s5 := s4.portsStep ((List.range 8).filter fun n => (s4.port n).st == .down) State.trainStep
  s5.count .pwrResumeCnt 0 1

/-- A port at the end of the flush (R483): one whose partner acknowledged the sleep sleeps, any other turns its lasers off
and goes Down. -/
def State.flushStep (s : State) (n : Nat) : State :=
  let q := s.port n
  if q.sleepAcked then
    ((s.swapsEnd n).portStep n { q with sleepAt := none, sleepAcked := false, swap := none, swapWait := none, swapAsked := []
                                        stopT := s.plumb } .sleeping).count .lmdSleepCnt n 1
  else ((s.swapsEnd n).portStep n { q with sleepAt := none, sleepAcked := false, swap := none, swapWait := none, swapAsked := [] }
    .down).pldmEvent 0x0009 n

/-- PF_FLUSH_DONE (R358, R483, R485): every deck is written back and clean; the Up ports sleep or go Down. -/
def execPfFlushDone (s : State) : Host.Outcome State Fault Refusal :=
  .next (if s.phase ≠ 2 then s
    else
      let s1 := (List.range 32).foldl (fun s i => s.deckFlush (i / 8) (i % 8)) s
      let s2 := s1.portsStep ((List.range 8).filter fun n => (s1.port n).st == .up) State.flushStep
      let s3 := s2.toPhase 3
      if s3.power.returned && !(s3.rbit ⟨.pwrPfStatus, 0, 0⟩ 3) then s3.resume else s3)

/-- RIDE_EXPIRE (R480, R483, R486): `ride` pt after phase 3 began. -/
def execRideExpire (s : State) : Host.Outcome State Fault Refusal :=
  let ride := if s.power.ride0 || s.rbit ⟨.pwrPfStatus, 0, 0⟩ 3 then 0 else (s.reg ⟨.pwrRide, 0, 0⟩).toNat
  .next (if s.phase = 3 ∧ ride ≤ s.since s.power.phaseT then s.commit else s)

/-- RAILS_DOWN_DONE (R483, R486). -/
def execRailsDownDone (s : State) : Host.Outcome State Fault Refusal :=
  .next (if s.phase = 4 then s.powerOff s.flash.outcome else s)

/-- INPUT_RETURN (R485, R486, R488): the input is back, debounced. A hold or flush runs to its end; in self-refresh the
package resumes, unless `ride` ends in the same cycle. -/
def execInputReturn (s : State) : Host.Outcome State Fault Refusal :=
  .next (if s.phase = 0 ∨ s.phase = 4 ∨ s.rbit ⟨.pwrPfStatus, 0, 0⟩ 3 then s
    else if s.phase = 3 then
      (if s.power.ride0 || decide ((s.reg ⟨.pwrRide, 0, 0⟩).toNat ≤ s.since s.power.phaseT) then s else s.resume)
    else { s with power := { s.power with returned := true } })

/-- The rails come up and PWR_OK goes high (R32). (DEDUCED, log 47). -/
def State.railsUp (s : State) : State := { s with pkg := .held, power := {}, pwrOk := true }

/-- COLD_START (R485, R486): the input was back for 2^30 pt after a commit; not after a thermal shutdown. -/
def execColdStart (s : State) : Host.Outcome State Fault Refusal :=
  .next (if s.pkg = .off ∧ !s.power.thermal then s.railsUp else s)

/-- BLADES_IN_RANGE (R31, R32, R480): the tray controller supplies all four blades. -/
def execBladesInRange (s : State) : Host.Outcome State Fault Refusal :=
  .next (if s.pkg = .off then s.railsUp else s)

/-! ### Thermals (R477-R481) -/

def kDieTemp (d : Nat) : RKey := ⟨.pwrDieTemp, d, 0⟩

/-- Die d trips (R479). -/
def State.trip (s : State) (d temp : Nat) : State :=
  if s.rbit (kDieTemp d) 12 then s
  else
    let s1 := (upto (d * 24) 24).foldl (fun s b => s.stopBent b 2) (s.setReg (kDieTemp d) (BitVec.ofNat 32 (min temp 0xFFF + 2 ^ 12)))
    let s2 := ((s1.count .pwrTripCnt d 1).spineEvent d 0x0302 255 (srcOf 8 d) 1 temp).pldmEvent 0x0007 d
    let s3 := ((List.range 8).filter fun p => (s2.part p).built && (s2.part p).dies.contains d).foldl (fun s p => s.cause p 12) s2
    { s3 with thermtripN := false, power := { s3.power with tripT := aset s3.power.tripT d s3.plumb, coolT := adel s3.power.coolT d } }

/-- DIE_TRIP (R479): a sensor of die d reads `temp`, in 1/8 °C, at or above 110 °C. (DESIGN CHOICE, log 5). -/
def execDieTrip (die : BitVec 2) (temp : Nat) (s : State) : Host.Outcome State Fault Refusal :=
  .next (if s.pkg ≠ .on ∨ temp < 880 then s else s.trip die.toNat temp)

/-- DIE_TRIP_RESTART (R479): every sensor of the die stayed below 95 °C for 2^30 pt. -/
def execDieTripRestart (die : BitVec 2) (s : State) : Host.Outcome State Fault Refusal :=
  let d := die.toNat
  .next (
    match aget s.power.coolT d with
    | none => s
    | some t =>
      if !(s.rbit (kDieTemp d) 12) || decide (s.since t < 2 ^ 30) then s
      else
        let s1 := { s.setFld (kDieTemp d) 12 12 0 with
          power := { s.power with tripT := adel s.power.tripT d }, thermtripN := (adel s.power.tripT d).isEmpty }
        let s2 := s1.spineEvent d 0x0302 255 (srcOf 8 d) 0 (s1.rfld (kDieTemp d) 11 0)
        (upto (d * 24) 24).foldl (fun s b => if s.rfld (kClk b) 20 19 = 2 then s.restartBent b else s) s2)

/-- THERMAL_INTERVAL (R472, R477-R479): the temperatures of bents and dies in 1/8 °C over an interval of 2^14 pt. (DESIGN
CHOICE, log 5; DESIGN CHOICE, log 45). -/
def execThermalInterval (bents : List (Nat × Nat)) (dies : List (Nat × Nat)) (s : State) : Host.Outcome State Fault Refusal :=
  let lim := 8 * s.rfld ⟨.pwrTlim, 0, 0⟩ 6 0
  let bent (s : State) (b t : Nat) : State :=
    let x := s.rfld (kShim b) 13 8
    let x1 := if lim < t then min 60 (x + (t - lim)) else if t + 16 < lim then x - 1 else x
    let s1 := (s.setReg ⟨.bentTemp, b, 0⟩ (BitVec.ofNat 32 (min t 0xFFF))).setFld (kShim b) 13 8 x1
    let w := s1.power
    if x1 = 0 then { s1 with power := { w with thmSince := adel w.thmSince b } }
    else match aget w.thmSince b with
      | none => { s1 with power := { w with thmSince := aset w.thmSince b s1.plumb } }
      | some t0 =>
        let boost : Bool := match s1.partOfBent b with | some p => !(s1.rbit (kPart p) 0) | none => false
        if s1.since t0 < 2 ^ 20 ∨ !boost ∨ s1.point b = 0 then s1
        else { s1.startMove b (s1.point b - 1) 6 with power :=
          { (s1.startMove b (s1.point b - 1) 6).power with thmSince := aset w.thmSince b s1.plumb } }
  let die (s : State) (d t : Nat) : State :=
    let s1 := s.setFld (kDieTemp d) 11 0 (min t 0xFFF)
    let w := s1.power
    if 760 ≤ t then { s1 with power := { w with coolT := adel w.coolT d } }
    else if (aget w.coolT d).isSome then s1
    else { s1 with power := { w with coolT := aset w.coolT d s1.plumb } }
  .next (if s.pkg ≠ .on then s
    else (dies.filter fun e => decide (e.1 < 4)).foldl (fun s e => die s e.1 e.2)
      ((bents.filter fun e => decide (e.1 < 96)).foldl (fun s e => bent s e.1 e.2) s))

/-- THERMAL_SHUTDOWN (R480): a sensor at 125 °C, or a die tripped for 2^34 pt; `temp` is the hottest sensor in 1/8 °C. -/
def execThermalShutdown (temp : Nat) (s : State) : Host.Outcome State Fault Refusal :=
  .next (if s.pkg ≠ .on ∨ !(decide (1000 ≤ temp) || s.power.tripT.any fun e => decide (2 ^ 34 ≤ s.since e.2)) then s
    else if s.phase = 0 then s.shutdown true true
    else if s.phase = 4 then s
    else { s.noResume with power := { s.power with ride0 := true, thermal := true } })

/-- HBM_TEMP_POLL (R477, R481): the temperatures of the six stacks of a die's tile, in °C. -/
def execHbmTempPoll (die : BitVec 2) (temps : List Nat) (s : State) : Host.Outcome State Fault Refusal :=
  let d := die.toNat
  .next (if s.pkg ≠ .on then s
    else
      let st (t : Nat) : Nat := if t < 85 then 0 else if t < 95 then 1 else if t < 105 then 2 else 3
      let s1 := ((List.range 6).zip temps).foldl (fun s e =>
        s.setReg ⟨.pwrHbmTemp, d, e.1⟩ (BitVec.ofNat 32 (min e.2 255 + st e.2 * 256))) s
      if temps.any fun t => decide (105 ≤ t) then s1.trip d (s1.rfld (kDieTemp d) 11 0) else s1)

end Sys2Proof.Machine
end

