-- ==== Sys2Proof/Machine/Boot.lean ====
section
/-! DEFINITION. Boot, security and live update (17: R495-R514, R517-R519; R32, R34-R36, R369-R372, R447, R448, R465, R534,
R569, R575, R578): the Clasel image, bank selection, the start, updates, key blobs, SPDM. -/
namespace Sys2Proof.Machine

/-! ### The Clasel image (R499-R501) -/

/-- The header fields. -/
def imgLen (d : List Byte) : Nat := dfield d 8 4
def imgSeq (d : List Byte) : Nat := dfield d 0x10 8
def imgSvn (d : List Byte) : Nat := dfield d 0x18 1

/-- Entry `i` of the section table: type, sver, off, slen. -/
def sectAt (d : List Byte) (i : Nat) : Nat × Nat × Nat × Nat :=
  let e := d.drop (0x20 + 16 * i)
  (dfield e 0 2, dfield e 2 2, dfield e 4 4, dfield e 8 4)

def sects (d : List Byte) : List (Nat × Nat × Nat × Nat) := (List.range (dfield d 6 2)).map (sectAt d)

/-- The section of a type: its version and bytes. -/
def sectOf (d : List Byte) (ty : Nat) : Option (Nat × List Byte) :=
  ((sects d).find? fun e => e.1 == ty).map fun e => (e.2.1, (d.drop e.2.2.1).take e.2.2.2)

/-- The field check of R499 and R500. -/
def imageFields (d : List Byte) : Bool :=
  let n := dfield d 6 2
  let l := sects d
  let types := l.map fun (e : Nat × Nat × Nat × Nat) => e.1
  let one (e : Nat × Nat × Nat × Nat) : Bool :=
    [1, 2, 3, 4, 5, 6, 0x10, 0x11, 0x12, 0x13].contains e.1 && e.2.2.1 % 4096 == 0 && decide (e.2.2.1 + e.2.2.2 ≤ imgLen d - 4723)
  dfield d 0 4 == 0x7EC1A5E0 && dfield d 4 2 == 1 && decide (1 ≤ n ∧ n ≤ 64) && decide (imgLen d ≤ 0x7000000) &&
  decide (0x20 + 16 * n + 4723 ≤ imgLen d) && decide (imgLen d ≤ d.length) && decide (imgSvn d ≤ 63) && dfield d 0x19 7 == 0 &&
  l.all one && decide types.Nodup && [1, 2, 3, 4, 5, 6].all types.contains &&
  (List.range n).all fun i => dfield d (0x2C + 16 * i) 4 == 0

/-- The checks of an image (R501): 0, or the reason of SEC_UPD_STATUS: 1 field, 4 `part`, 2 signature, 3 version. (DEDUCED,
log 50). -/
def State.imageCheck (s : State) (d : List Byte) : Nat :=
  if !(imageFields d) then 1
  else if dfield d 0xC 4 ≠ 0x04242000 then 4
  else if (Config.authentic s.flash.revoked (d.take (imgLen d))).isNone then 2
  else if imgSvn d < s.flash.svnMin then 3
  else 0

def State.bankImage (s : State) (b : Nat) : List Byte := s.flash.banks.getD b []
def State.bankOk (s : State) (b : Nat) : Bool := s.imageCheck (s.bankImage b) == 0

/-! ### The boot selector (R503) -/

/-- The copy in use: the valid one with the higher write count, and which it is. -/
def State.selector (s : State) : Selector × Nat :=
  match s.flash.sel.getD 0 none, s.flash.sel.getD 1 none with
  | some a, some b => if a.wseq < b.wseq then (b, 1) else (a, 0)
  | some a, none => (a, 0)
  | none, some b => (b, 1)
  | none, none => ({}, 1)

/-- The other copy is written, one write later. -/
def State.writeSelector (s : State) (v : Selector) : State :=
  let (old, i) := s.selector
  let new : Selector := { v with wseq := old.wseq + 1 }
  { s with flash := { s.flash with sel := s.flash.sel.set (1 - i) (some new) } }

/-- Bank selection: the bank and the mode, `none` with no authentic bank. -/
def State.select (s : State) : State × Option (Nat × Nat) :=
  let a := s.selector.1.active
  let o := 1 - a
  let normal (s : State) : State × Option (Nat × Nat) :=
    if s.bankOk a then (s.writeSelector { s.selector.1 with pending := false }, some (a, 0))
    else if s.bankOk o then (s, some (o, 2))
    else (s, none)
  if s.selector.1.pending ∧ s.selector.1.tries < 2 then
    let s1 := s.writeSelector { s.selector.1 with tries := s.selector.1.tries + 1 }
    if s1.bankOk o then (s1, some (o, 1)) else normal s1
  else normal s

/-! ### The start (R32, R369-R372, R497, R502, R504, R534, R575, R578) -/

/-- Compaction at a start (R504, R575): past half of its region, a list keeps the last entry of each unit, the lane records
also every record of source 0. (DEDUCED, log 55). -/
def State.compact (s : State) : State :=
  let f := s.flash
  let keepR (l : List (Nat × Nat × Nat × Time)) : List (Nat × Nat × Nat × Time) :=
    ((List.range l.length).filter fun i => match l[i]? with
      | some e => !((l.drop (i + 1)).any fun x => x.1 == e.1 && x.2.2.1 == e.2.2.1)
      | none => false).filterMap fun i => l[i]?
  let keepL (l : List (List Byte)) : List (List Byte) :=
    ((List.range l.length).filter fun i => match l[i]? with
      | some e => recField e 1 1 == 0 || !((l.drop (i + 1)).any fun x => recField x 0 1 == recField e 0 1 && recField x 2 2 == recField e 2 2)
      | none => false).filterMap fun i => l[i]?
  { s with flash := { f with
      retire := if 131072 < f.retire.length then keepR f.retire else f.retire
      lanes := if 32768 < f.lanes.length then keepL f.lanes else f.lanes } }

/-- The units the retirement list holds (R504). -/
def Flash.units (f : Flash) : List (Nat × Nat) :=
  f.retire.filterMap fun e =>
    match e.1 with
    | 1 => some (1, e.2.2.1) | 3 => some (6, e.2.2.1) | 4 => some (2, e.2.2.1) | 5 => some (3, e.2.2.1)
    | 6 => some (4, e.2.2.1) | 7 => some (5, e.2.2.1) | _ => none

def State.siteRetired (s : State) (n : Nat) : Bool := s.flash.retire.any fun e => e.1 == 8 && e.2.2.1 == n

/-- The rows of the repair list beyond the spare rows of their bank (R578). -/
def State.applyRepairs (s : State) : State :=
  (List.range s.repairs.length).foldl (fun (s : State) (i : Nat) =>
    match s.repairs[i]? with
    | some r =>
      let before := ((s.repairs.take i).filter fun x => x.1 == r.1 && x.2.1 == r.2.1).length
      if Config.spareRows ≤ before then s.suspect 6 r.1 else s
    | none => s) s

/-- Training of a link (R369, R371, R372): lane selection in each bundle; control, reserve and standby among the good
ones; with fewer than two the link is retired. -/
def State.trainLink (s : State) (l : Nat) (errs : List (List (Option Nat))) : State :=
  let pick (i : Nat) : List Nat × List Nat := s.bundleLanes (l * 48 + i) (errs.getD i [])
  let good := (List.range 48).filter fun i => (pick i).1.length == 64
  let st (i : Nat) : Nat := match good.findIdx? (· == i) with | none => 0 | some 0 => 1 | some 1 => 2 | some _ => 3
  let bundle (i : Nat) : Bundle := { st := st i, lanes := (pick i).1, spares := (pick i).2 }
  let s1 := (List.range 48).foldl (fun (s : State) (i : Nat) =>
    s.startRecord 1 (l * 48 + i) (laneMasks 68 (pick i).1 (pick i).2)) s
  s1.setLink l (if good.length < 2 then { st := 3, bundles := List.replicate 48 {} } else { st := 2, bundles := (List.range 48).map bundle })

/-- The words of a tenant root (R519). -/
def State.setRoot (s : State) (p : Nat) (dig : List Byte) : State :=
  (List.range 12).foldl (fun (s : State) (w : Nat) => s.setReg ⟨.secPartRoot, p, w⟩ (BitVec.ofNat 32 (dfield dig (4 * w) 4))) s

/-- A boot partition (R500, R502): built, with its root and its VFs; one that fails R383 is skipped and reported. (DEDUCED,
log 49). -/
def State.bootPart (s : State) (i : Nat) (e : List Byte) : State :=
  let d := e.take 256
  let p := dfield d 0 1
  if s.buildCheck p (clean d) ≠ 0 then s.pldmEvent 0x0002 i
  else
    let s1 := (s.build p d).setRoot p ((e.drop 0x100).take 48)
    (upto 1 63).foldl (fun (s : State) (v : Nat) =>
      let h := dfield e (0x140 + v) 1
      if (dfield e 0x130 8).testBit v && s.bindOk p v h then s.bindVf p v h else s) s1

/-- A power default that its register drops is reported (R502): the spec gives no event code for it. (DESIGN CHOICE, log 108). -/
def State.dropDefault (s : State) (i : Nat) : State := { s with msgs := s.msgs ++ [.defaultDropped i] }

/-- The power defaults (R500, R502): 11 words written as software writes them; one that a register drops leaves the reset
value and is reported. -/
def State.powerDefaults (s : State) (b : List Byte) : State :=
  let w (i : Nat) : Word := BitVec.ofNat 32 (dfield b (4 * i) 4)
  let s1 := if wbits (w 0) 15 0 ≤ 15000 then s.setReg ⟨.pwrCap, 0, 0⟩ (w 0 &&& 0xFFFF#32) else s.dropDefault 0
  let s2 := if 80 ≤ wbits (w 1) 6 0 ∧ wbits (w 1) 6 0 ≤ 105 then s1.setReg ⟨.pwrTlim, 0, 0⟩ (w 1 &&& 0x7F#32) else s1.dropDefault 1
  let s3 := if 0x100000 ≤ (w 2).toNat ∧ (w 2).toNat ≤ 0x40000000 then s2.setReg ⟨.pwrRide, 0, 0⟩ (w 2) else s2.dropDefault 2
  (List.range 8).foldl (fun (s : State) (p : Nat) =>
    let v := w (3 + p)
    if 22 < wbits v 5 1 ∨ 22 < wbits v 10 6 then s.dropDefault (3 + p) else s.setReg (kPart p) (v &&& 0x7FF#32)) s3

/-- What the image configures (R32, R340, R502): the fabric address, when its slot is the package's own; the ports train; power
defaults; partitions. (DEDUCED, log 46). -/
def State.configure (s : State) (d : List Byte) : State :=
  let body (ty : Nat) : List Byte := match sectOf d ty with | some e => e.2 | none => []
  let tab := body 0x10
  let mine : Option Nat := (List.range (tab.length / 16)).find? fun i => dfield tab (16 * i) 8 == Config.serial.toNat
  let addr : Option Nat := (mine.map fun i => dfield tab (16 * i + 8) 4 % 2 ^ 17).filter fun a => a % 4 == s.rfld ⟨.pkgTopo, 0, 0⟩ 1 0
  let s0 := match addr with
    | some a => s.setReg ⟨.pkgFabricAddr, 0, 0⟩ (BitVec.ofNat 32 (a + 2 ^ 31))
    | none => s
  let s1 := (List.range 8).foldl State.assignTrain s0
  let s2 := if (sectOf d 0x12).isSome then s1.powerDefaults (body 0x12) else s1
  let parts := body 0x11
  (List.range (parts.length / 512)).foldl (fun (s : State) (i : Nat) => s.bootPart i ((parts.drop (512 * i)).take 512)) s2

/-- Welyar starts from mask ROM at a site. With the host link up, the functions report their readiness (R525). (DEDUCED,
log 36; DEDUCED, log 48). -/
def State.start (s : State) (site : Nat) (inp : StartIn) : State :=
  let s0 := s.compact
  let s1 := { s0 with
    starts := s0.starts + 1, retired := s0.flash.units, draws := s0.draws + 2
    boot := { s0.boot with site := site, exchange := Config.random s0.draws } }
  let nonce := (Config.random (s0.draws + 1)).toNat
  let s2 := ((s1.count .mgtBootCnt 0 1).setFld ⟨.pkgTopo, 0, 0⟩ 2 2 site).setReg ⟨.tstNonceLo, 0, 0⟩ (BitVec.ofNat 32 nonce)
  let s3 := (s2.setReg ⟨.tstNonceHi, 0, 0⟩ (BitVec.ofNat 32 (nonce / 2 ^ 32))).setReg ⟨.pwrPfLast, 0, 0⟩ (BitVec.ofNat 32 s.flash.outcome)
  let (s4, bank) := (s3.pldmEvent 0x0008 s.flash.outcome).select
  match bank with
  | none => { s4.pldmEvent 0x0001 2 with pkg := .halted }
  | some (b, mode) =>
    let d := (s4.bankImage b).take (imgLen (s4.bankImage b))
    let s5 := { s4 with configured := true, boot := { s4.boot with bank := b, mode := mode, image := d, applied := d } }
    let s6 := inp.cores.foldl (fun (s : State) (e : Nat × (Nat × Nat)) => if validCore e.1 then s.setClass e.1 e.2 else s) s5
    let s7 := (s6.applyClasses (List.range 96)).applyRepairs
    let s8 := (List.range 96).foldl (fun (s : State) (b : Nat) => s.setFld (kClk b) 15 6 (supplyOf b 0)) s7
    let s9 := (List.range 4).foldl (fun (s : State) (l : Nat) => s.trainLink l (inp.bundles.getD l [])) s8
    if 2 ≤ ((List.range 4).filter fun l => (s9.link l).st == 3).length then { s9.pldmEvent 0x0001 1 with pkg := .halted }
    else
      let s10 := { s9.configure d with pkg := .on, worked := false }
      { s10 with boot := { s10.boot with dateAsked := some s10.plumb }, msgs := s10.msgs ++ [.getDateTime] ++ (if s10.rbit ⟨.mgtHostLink, 0, 0⟩ 0 then [.drs] else []) }

/-- BOOT_SEQUENCE (R32, R34, R497, R498, R571): PKG_RESET_N is high. Both sites test themselves; the one that serves runs
mask ROM. (DEDUCED, log 47). -/
def execBootSequence (inp : Machine.StartIn) (s : State) : Host.Outcome State Fault Refusal :=
  let ir := s.tap.ir
  let tap := if ir = .extest ∨ ir = .clamp ∨ ir = .highz then { s.tap with ir := .bypass } else s.tap
  let s1 := { s with resetPin := true, tap := tap }
  .next (if s.pkg ≠ .held then s
    else
      let ready := inp.site1 && !(s.siteRetired 1)
      let s2 := (s1.setFld ⟨.pkgTopo, 0, 0⟩ 1 0 inp.slot).setFld ⟨.pkgTopo, 0, 0⟩ 3 3 (b2n ready)
      let s3 := { s2 with boot := { s2.boot with released := some s2.plumb } }
      if s.boot.site = 1 then (if ready then s3.start 1 inp else { s3 with pkg := .failed })
      else if inp.site0 && !(s.siteRetired 0) then s3.start 0 inp
      else { s3 with pkg := .failed })

/-- STANDBY_TAKEOVER (R497): no alive mark of site 0 within 2^28 pt of the release, and site 1 can take over. -/
def execStandbyTakeover (inp : Machine.StartIn) (s : State) : Host.Outcome State Fault Refusal :=
  let due : Bool := match s.boot.released with | some t => decide (2 ^ 28 ≤ s.since t) | none => false
  .next (if s.pkg = .failed ∧ due ∧ s.boot.site = 0 ∧ s.rbit ⟨.pkgTopo, 0, 0⟩ 3 then s.start 1 inp else s)

/-- LOCKSTEP_MISMATCH (R423, R497, R504): an entry in the retirement list, the second of a site within 2^42 pt retires
it; a package reset. -/
def execLockstepMismatch (site : BitVec 1) (s : State) : Host.Outcome State Fault Refusal :=
  let n := site.toNat
  let again := s.flash.retire.any fun e => e.1 == 9 && e.2.2.1 == n && decide (s.since e.2.2.2 ≤ 2 ^ 42)
  let new : List (Nat × Nat × Nat × Time) := [(9, 0, n, s.plumb)] ++ (if again then [(8, 0, n, s.plumb)] else [])
  .next (if s.pkg ≠ .on ∨ s.boot.site ≠ n then s
    else { s with flash := { s.flash with retire := s.flash.retire ++ new } }.orderPackage 0x0A)

/-- The seconds field of plumb time is loaded, and the fraction from the first accepted pulse, if there is one (R465, R534);
the package accepts work from here on (R32). (DEDUCED, log 41; DEDUCED, log 56). -/
def State.loadSeconds (s : State) (sec : Nat) : State :=
  let s1 := { s with boot := { s.boot with dateAsked := none } }
  let frac := match s.power.pps1 with | some t => s.since t % 2 ^ 30 | none => s.plumb.toNat % 2 ^ 30
  (if s.worked then s1.count .plbErrCnt 0 1 else s1.loadPlumb (BitVec.ofNat 64 (sec * 2 ^ 30 + frac))).noteWork

/-- DATETIME_REPLY (R534). -/
def execDatetimeReply (seconds : Nat) (s : State) : Host.Outcome State Fault Refusal :=
  .next (if s.boot.dateAsked.isSome then s.loadSeconds seconds else s)

/-- DATETIME_TIMEOUT (R534): no reply within 2^30 pt. (DEDUCED, log 56). -/
def execDatetimeTimeout (s : State) : Host.Outcome State Fault Refusal :=
  let due : Bool := match s.boot.dateAsked with | some t => decide (2 ^ 30 ≤ s.since t) | none => false
  .next (if due then s.loadSeconds 0 else s)

/-! ### Live update (R512-R514, R517, R518) -/

def kUpdCmd : RKey := ⟨.secUpdCmd, 0, 0⟩
def kUpdStatus : RKey := ⟨.secUpdStatus, 0, 0⟩

/-- End of an update command. -/
def State.updDone (s : State) (result reason : Nat) : State := (s.setFld kUpdCmd 3 3 0).cmdDone kUpdStatus result reason 3 none

/-- A `go` of SEC_UPD_CMD: ignored while a command runs; the same command goes on when the arbiter lets it. -/
def State.updGo (s : State) (src : Src) (op : Nat) (f : State → State) : State :=
  s.accessW src kUpdCmd fun s =>
    if s.rbit kUpdCmd 3 then (if s.rfld kUpdCmd 2 0 = op then f s else s)
    else f (s.setReg kUpdCmd (BitVec.ofNat 32 (op + 8)))

/-- The bank that was not booted. -/
def State.otherBank (s : State) : Nat := 1 - s.boot.bank

def State.setPending (s : State) (v : Bool) : State := s.writeSelector { s.selector.1 with pending := v, tries := 0 }

/-- Bank `b` holds these bytes. -/
def State.setBank (s : State) (b : Nat) (d : List Byte) : State := { s with flash := { s.flash with banks := s.flash.banks.set b d } }

/-- An image is written as activity FL (R512): it ends when the arbiter has granted it; a flash error leaves the bank
invalid. (DEDUCED, log 51). -/
def State.writeImage (s : State) (d : List Byte) (flashOk : Bool) : State :=
  let act : Activity := ⟨10, 0⟩
  let r := s.imageCheck d
  if s.maintQueue.contains act then s
  else
    let (s1, w) := if s.maintRun.contains act then (s, 0) else if r = 0 then s.maintAsk act else (s, 0)
    if r ≠ 0 then s.updDone 2 r
    else if w = 1 then s1.updDone 1 0
    else if w = 2 then s1
    else if !flashOk then ((s1.setBank s1.otherBank []).maintEnd act).updDone 2 5
    else (((s1.setBank s1.otherBank (d.take (imgLen d))).setPending false).maintEnd act).updDone 0 0

/-- The staged image (R512): bytes of HBM that no partition holds; `none` is a read fault. Poison fails the field check (R253). -/
def State.staged (s : State) : Option (List Byte × Bool) :=
  let pa := (s.reg ⟨.secUpdAddrLo, 0, 0⟩).toNat + 2 ^ 32 * s.rfld ⟨.secUpdAddrHi, 0, 0⟩ 11 0
  if !(s.freeHbm pa 0x20) then none
  else
    let len := min (imgLen (s.bytes pa 0x20)) 0x7000000
    let n := if anyPoison (s.pbytes pa 0x20) then 0x20 else max len 0x20
    if !(s.freeHbm pa n) then none else some (s.bytes pa n, anyPoison (s.pbytes pa n))

/-- IMAGE_WRITE (R512): `op` 1 of SEC_UPD_CMD. (DEDUCED, log 51). -/
def execImageWrite (src : Src) (flashOk : Bool) (s : State) : Host.Outcome State Fault Refusal :=
  .next (s.updGo src 1 fun s =>
    match s.staged with
    | none => s.updDone 3 0
    | some (d, bad) => if bad then s.updDone 2 1 else s.writeImage d flashOk)

/-- The activities a live apply needs (R513, R515): one per bent for type 2, one per die for types 3 to 6, one for the
runtime. -/
def State.applyActs (s : State) (d : List Byte) : List Activity :=
  let differs (ty : Nat) : Bool := sectOf d ty != sectOf s.boot.applied ty
  (if differs 2 then (List.range 96).map (fun b => (⟨1, b⟩ : Activity)) else []) ++
  ([3, 4, 5, 6].filter differs).flatMap (fun _ => (List.range 4).map fun d => (⟨2, d⟩ : Activity)) ++
  (if differs 1 then [⟨3, 0⟩] else [])

/-- An activity is asked for and, once granted, applied and ended; one that waits stays. A refused one is asked for again
later (R516, rule 7). (DEDUCED, log 52). -/
def State.applyOne (s : State) (a : Activity) : State :=
  let (s1, w) := if s.maintRun.contains a then (s, 0) else if s.maintQueue.contains a then (s, 2) else s.maintAsk a
  if w = 0 then s1.maintEnd a else { s1 with boot := { s1.boot with applyLeft := s1.boot.applyLeft ++ [a] } }

/-- One activity after the other. (DEDUCED, log 52). -/
def State.applyOn (s : State) (l : List Activity) : State := l.foldl State.applyOne s

/-- The end of a live apply: the next package reset boots the bank as a trial. -/
def State.applyImage (s : State) : State :=
  let d := s.bankImage s.otherBank
  if s.boot.applyLeft.isEmpty && (s.imageCheck d != 0 || decide (imgSeq d ≤ imgSeq s.boot.image)) then s.updDone 2 1
  else
    let acts := if s.boot.applyLeft.isEmpty then s.applyActs d else s.boot.applyLeft
    let s1 := ({ s with boot := { s.boot with applyLeft := [] } }).applyOn acts
    if s1.boot.applyLeft.isEmpty then ({ s1 with boot := { s1.boot with applied := d } }.setPending true).updDone 0 0 else s1

/-- FIRMWARE_APPLY (R513): `op` 2. (DEDUCED, log 52). -/
def execFirmwareApply (src : Src) (s : State) : Host.Outcome State Fault Refusal := .next (s.updGo src 2 State.applyImage)

/-- TRIAL_CONFIRM (R514): `op` 3, in a trial boot. -/
def execTrialConfirm (src : Src) (s : State) : Host.Outcome State Fault Refusal :=
  .next (s.updGo src 3 fun s =>
    if s.boot.mode ≠ 1 then s.updDone 2 6
    else ({ s.writeSelector { s.selector.1 with active := s.boot.bank, pending := false, tries := 0 } with
            boot := { s.boot with mode := 0 } }).updDone 0 0)

/-- PENDING_CANCEL (R514): `op` 4. -/
def execPendingCancel (src : Src) (s : State) : Host.Outcome State Fault Refusal :=
  .next (s.updGo src 4 fun s => (s.setPending false).updDone 0 0)

/-- SVN_COMMIT (R508, R514): `op` 5, in a normal boot. The tray key is sealed again under the new key. -/
def execSvnCommit (src : Src) (s : State) : Host.Outcome State Fault Refusal :=
  .next (s.updGo src 5 fun s =>
    if s.boot.mode ≠ 0 then s.updDone 2 6
    else
      let v := imgSvn (s.bankImage s.selector.1.active)
      { s with flash := { s.flash with svnMin := max s.flash.svnMin v } }.updDone 0 0)

/-! ### Key blobs and roots (R509, R510, R518, R519) -/

def kKeyCmd : RKey := ⟨.secKeyCmd, 0, 0⟩
def kKeyStatus : RKey := ⟨.secKeyStatus, 0, 0⟩

/-- The provisioning roots of the booted image (R500). -/
def State.provRoots (s : State) : List (List Byte) :=
  match sectOf s.boot.image 0x13 with
  | some (_, b) => (List.range (min (dfield b 0 4) 4)).map fun i => (b.drop (4 + 48 * i)).take 48
  | none => []

/-- The first check of R510 that a blob fails, or its key and the owner it goes to (8 the tray). A partition dissolved in the
same cycle still has its root to compare, and fails as not built (R517). (DEDUCED, log 53). -/
def State.blobCheck (s : State) (d : List Byte) : Nat ⊕ (List Byte × Nat) :=
  let kind := dfield d 2 1
  let p := dfield d 3 1
  let gen := dfield d 4 4
  let slice := dfield d 0x10 4
  let clen := dfield d 0x130 2
  let owner := if kind = 1 then 8 else p
  let fields := dfield d 0 2 == 0x6B1E && (kind == 1 && p == 0 && slice == 0 || kind == 2 && decide (p < 8) && decide (slice < 2 ^ 24)) &&
    dfield d 0x14 12 == 0 && dfield d 0x81 31 == 0 && dfield d 0x132 14 == 0 && decide (clen ≤ 3776) && dfield d 8 8 == Config.serial.toNat
  let chain := (d.drop 0x140).take clen
  let root : Bool := match Config.chainRoot chain with
    | some r => if kind = 1 then s.provRoots.contains r else r == (aget s.cyc.roots p).getD (s.rootOf p)
    | none => false
  if !fields then .inl 1
  else if gen ≤ (aget s.flash.gens owner).getD 0 then .inl 2
  else if !root then .inl 3
  else if !(Config.ecdsaOk chain (d.take 0xD0) ((d.drop 0xD0).take 96)) then .inl 4
  else if kind = 2 && (!(s.part p).built || slice != (s.part p).slice.toNat) then .inl 5
  else match Config.hpkeOpen s.boot.exchange (d.take 0x20) ((d.drop 0x20).take 97) ((d.drop 0xA0).take 48) with
    | some k => .inr (k, owner)
    | none => .inl 6

/-- KEY_BLOB_SUBMIT (R253, R509, R510): nothing changes when a check fails; an accepted key comes into use on the ports
concerned. (DEDUCED, log 53). -/
def execKeyBlobSubmit (src : Src) (s : State) : Host.Outcome State Fault Refusal :=
  .next (s.accessW src kKeyCmd fun s =>
    let pa := (s.reg ⟨.secKeyAddrLo, 0, 0⟩).toNat + 2 ^ 32 * s.rfld ⟨.secKeyAddrHi, 0, 0⟩ 11 0
    let done (s : State) (result reason : Nat) : State := s.cmdDone kKeyStatus result reason 3 none
    if !(s.freeHbm pa 0x140) || pa % 64 != 0 then done s 3 0
    else if anyPoison (s.pbytes pa 0x140) then done s 2 1
    else
      let n := 0x140 + min (dfield (s.bytes pa 0x140) 0x130 2) 3776
      if !(s.freeHbm pa n) then done s 3 0
      else if anyPoison (s.pbytes pa n) then done s 2 1
      else
        let d := s.bytes pa n
        match s.blobCheck d with
        | .inl r => done s 2 r
        | .inr (k, owner) =>
          done (({ s with flash := { s.flash with gens := aset s.flash.gens owner (dfield d 4 4)
                                                  trayAt := if owner = 8 then s.starts else s.flash.trayAt } }).installKey owner k) 0 0)

/-- PART_ROOT_WRITE (R519): dropped unless the partition is built and holds no traffic key. -/
def execPartRootWrite (src : Src) (p : BitVec 3) (word : BitVec 4) (value : Word) (s : State) : Host.Outcome State Fault Refusal :=
  let P := p.toNat
  let k : RKey := ⟨.secPartRoot, P, word.toNat⟩
  .next (if 12 ≤ word.toNat then s
    else s.accessW src k fun s =>
      if !(s.part P).built || (s.slotKey P (s.keyIdx P)).isSome then s else s.setReg k value)

/-! ### SPDM (R505-R507, R569) -/

/-- Does Welyar's runtime answer requests? -/
def State.answers (s : State) : Bool := s.pkg == .on

/-- Does the management path answer (R371, R503)? (DEDUCED, log 48). -/
def State.mgtLive (s : State) : Bool := s.pkg == .on || s.pkg == .halted

def State.sendSpdm (s : State) (m : SpdmMsg) : State := { s with msgs := s.msgs ++ [.spdm m] }

/-- The next signature or random part of a reply. (DESIGN CHOICE, log 8). -/
def State.signed (s : State) : State × List Byte := ({ s with draws := s.draws + 1 }, Config.spdmSigned s.draws)

/-- Measurement `i` (R507, R569); `none` where the index has none. -/
def State.measurement (s : State) (i : Nat) : Option (List Byte) :=
  let fw := [1, 2, 3, 4, 5, 6].flatMap fun ty => match sectOf s.boot.applied ty with | some e => e.2 | none => []
  if i = 1 then some Config.measureRom
  else if i = 2 then some (sha384 s.boot.image)
  else if i = 3 then some (sha384 fw)
  else if i = 4 then some (Config.measureHw s.flash.svnMin s.flash.revoked.toNat Config.serial)
  else if i = 5 then some (sha384 (leBytes 4 (s.reg ⟨.tstDbgState, 0, 0⟩).toNat ++ s.tokens.flatten))
  else if i = 8 then some (Config.exchangePub s.boot.exchange)
  else if 16 ≤ i ∧ i < 24 then
    let q := s.part (i - 16)
    some (if q.built then Config.measurePart q.desc (s.rootOf (i - 16)) (b2n q.unchecked) q.slice.toNat (q.ports.map fun n => 2 ^ n).sum
      else List.replicate 48 0#8)
  else none

/-- SPDM_VERSION (R507): version 1.3, the capabilities and algorithms of the table. -/
def execSpdmVersion (s : State) : Host.Outcome State Fault Refusal := .next (if s.answers then s.sendSpdm .version else s)

/-- SPDM_CERTIFICATE (R506, R507): slot 0 only. -/
def execSpdmCertificate (slot : Nat) (s : State) : Host.Outcome State Fault Refusal :=
  .next (if !s.answers then s
    else s.sendSpdm (if slot = 0 then .certificate (Config.certChain s.boot.exchange s.boot.image) else .error))

/-- SPDM_CHALLENGE (R507). -/
def execSpdmChallenge (slot : Nat) (s : State) : Host.Outcome State Fault Refusal :=
  let (s1, b) := s.signed
  .next (if !s.answers then s else if slot = 0 then s1.sendSpdm (.challenge b) else s.sendSpdm .error)

/-- SPDM_MEASUREMENTS (R507): one index, or 255 for all. -/
def execSpdmMeasurements (index : Nat) (s : State) : Host.Outcome State Fault Refusal :=
  let one (i : Nat) : Option (Nat × List Byte) := (s.measurement i).map fun b => (i, b)
  let blocks := if index = 255 then (List.range 24).filterMap one else (one index).toList
  let (s1, b) := s.signed
  .next (if !s.answers then s else if blocks.isEmpty then s.sendSpdm .error else s1.sendSpdm (.measurements blocks b))

/-- SPDM_KEY_EXCHANGE (R507): a session opens, of at most 16. -/
def execSpdmKeyExchange (id : Nat) (s : State) : Host.Outcome State Fault Refusal :=
  let (s1, b) := s.signed
  .next (if !s.answers then s
    else if decide (16 ≤ s.sessions.length) || s.sessions.any (fun x => x.id == id) then s.sendSpdm .error
    else
      let new : Session := { id := id, last := s.plumb }
      { s1 with sessions := s1.sessions ++ [new] }.sendSpdm (.keyExchange id b))

/-- A request in a session, answered by `m`; without the session it is an error. (DESIGN CHOICE, log 54). -/
def State.inSession (s : State) (id : Nat) (f : Session → Session) (m : SpdmMsg) : State :=
  if !s.answers then s
  else if s.sessions.any fun x => x.id == id then
    { s with sessions := s.sessions.map fun (x : Session) => if x.id = id then f x else x }.sendSpdm m
  else s.sendSpdm .error

/-- SPDM_HEARTBEAT (R507). -/
def execSpdmHeartbeat (id : Nat) (s : State) : Host.Outcome State Fault Refusal :=
  .next (s.inSession id (fun x => { x with last := s.plumb }) (.heartbeat id))

/-- SPDM_HEARTBEAT_TIMEOUT (R507): the heartbeat period is 60 s. (DESIGN CHOICE, log 54). -/
def execSpdmHeartbeatTimeout (id : Nat) (s : State) : Host.Outcome State Fault Refusal :=
  .next { s with sessions := s.sessions.filter fun (x : Session) => !(x.id == id && decide (60 * 2 ^ 30 ≤ s.since x.last)) }

/-- SPDM_KEY_UPDATE (R507). -/
def execSpdmKeyUpdate (id : Nat) (s : State) : Host.Outcome State Fault Refusal :=
  .next (s.inSession id (fun x => { x with updates := x.updates + 1 }) (.keyUpdate id))

/-- SPDM_CHUNK (R507): the next chunk of a message; the spec states no chunk size. -/
def execSpdmChunk (s : State) : Host.Outcome State Fault Refusal :=
  .next (if s.answers then { s with draws := s.draws + 1 }.sendSpdm (.chunk (Config.spdmChunk s.draws)) else s)

end Sys2Proof.Machine
end

