-- ==== Sys2Proof/Machine/Telemetry.lean ====
section
/-! DEFINITION. Register reads and telemetry (19: R540-R567; R34, R36, R65, R76, R186, R214, R256-R258, R291, R324, R365,
R379, R405-R407, R446, R454, R467, R468, R492, R518, R520): the value of every register, latches of 64-bit counters,
snapshots and their shadow views, dumps, the event logs. -/
namespace Sys2Proof.Machine

/-! ### What a register shows -/

/-- The class word of a core (R65). -/
def State.coreStateWord (s : State) (c : Nat) : Nat :=
  let k := s.coreClass c
  k.1 + (if k.1 = 2 then b2n (s.fullUnchecked c) * 4 + k.2 * 16 else 0) +
    (match s.partOfCore c with | some p => p * 256 + 2 ^ 11 | none => 0)

/-- A context's state word (R76). -/
def State.ctxWord (s : State) (c x : Nat) : Nat :=
  let v := s.ctx c x
  v.st.code + b2n (s.tilePending c x) * 8 + v.cause.toNat * 256

/-- One byte per context of a core. -/
def State.perCtx (s : State) (c : Nat) (f : Ctx → Nat) : Nat :=
  ((List.range 4).map fun x => f (s.ctx c x) * 2 ^ (8 * x)).sum

/-- A register of the context window (R186); zero where BAY_CTX_SEL selects no enabled core. -/
def State.windowWord (s : State) (bay : Nat) (f : Ctx → Word) : Word :=
  match s.baySel bay with
  | some (c, x) => f (s.ctx c x)
  | none => 0#32

/-- A ring register of the selected core (R256). -/
def State.ringWord (s : State) (bay r : Nat) (f : Ring → Word) : Word :=
  match s.baySel bay with
  | some (c, _) => f ((s.core c).rings.getD r {})
  | none => 0#32

def Ring.cfgWord (g : Ring) : Word :=
  BitVec.ofNat 32 (g.base / 64 + (g.lines - 1) * 2 ^ 10 + g.lfmt * 2 ^ 22 + b2n g.opened * 2 ^ 31)

/-- A mask of the numbers below `n` that satisfy a test. -/
def maskOf (n : Nat) (f : Nat → Bool) : Nat := laneMask ((List.range n).filter f)

/-- PKG_TOPO (R34). -/
def State.topoWord (s : State) : Nat :=
  s.rfld ⟨.pkgTopo, 0, 0⟩ 3 0 + maskOf 4 (fun l => (s.link l).st == 2) * 2 ^ 8 +
  maskOf 8 (fun n => (s.port n).st == .up) * 2 ^ 16 + maskOf 8 (fun n => (s.port n).st == .sleeping) * 2 ^ 24

/-- D2D_STATE and D2D_BUNDLE of an endpoint (R379). -/
def State.d2dWord (s : State) (u : Nat) : Nat :=
  let l := d2dLink (u / 2) (u % 2)
  let k := s.link l
  k.st + l * 4 + (k.bundles.filter Bundle.good).length * 16 + ((k.inState 1).head?.getD 0) * 2 ^ 10 +
    ((k.inState 2).head?.getD 0x3F) * 2 ^ 16

def State.d2dBundleWord (s : State) (u : Nat) : Nat :=
  let sel := s.rfld ⟨.d2dBundle, u, 0⟩ 5 0
  let b := (s.link (d2dLink (u / 2) (u % 2))).bundle sel
  sel + b.st * 64 + (if b.st = 4 then b.part * 2 ^ 9 else 0) + b.spares.length % 8 * 2 ^ 12

/-- LMD_STATE and LMD_LANES (R363). -/
def State.portWord (s : State) (n : Nat) : Nat :=
  let q := s.port n
  q.st.code + b2n q.narrow * 8 + b2n q.unaligned * 16 + (match s.partOfPort n with | some p => 32 + p * 64 | none => 0)

def State.lanesWord (s : State) (n : Nat) : Nat := laneMask (s.port n).lanes + (s.port n).spares.length % 4 * 2 ^ 18

/-- HBM_CH_CFG of a physical channel (R258, R455). -/
def State.chanWord (s : State) (ch : Nat) : Nat :=
  let slot := ch / 32 * 32 + s.rfld ⟨.hbmChMap, ch, 0⟩ 4 0
  (match if s.physChan slot == ch then s.partOfChan slot else none with
    | some p => p + 8 + b2n (s.part p).prio * 16
    | none => 0) +
  b2n (decide (3 ≤ ch / 32 % 6)) * 32 + b2n (s.retired.contains (6, ch)) * 64

/-- TRS_INFO and TRS_STEP of the selected entry (R291). -/
def State.trsWord (s : State) (p : Nat) (step : Bool) : Nat :=
  match s.trussAt p (s.rfld ⟨.trsSel, p, 0⟩ 11 0) with
  | none => 0
  | some t =>
    let low := t.own.foldl (fun (a : Option OwnMem) (m : OwnMem) => match a with
      | some b => if m.pos < b.pos then some m else some b
      | none => some m) none
    if step then (match low with | some m => m.step | none => 0)
    else 1 + b2n t.active * 2 + (t.own.length - 1) % 64 * 4

/-- JNR_INFO and JNR_STEPS of the selected context (R324). -/
def State.jnrWord (s : State) (p : Nat) (steps : Bool) : Nat :=
  match aget s.jctxs (p, s.rfld ⟨.jnrSel, p, 0⟩ 9 0) with
  | none => 0
  | some j => if steps then j.n else 1 + b2n j.active.isSome * 2 + b2n j.gated * 4 + b2n j.xp.isSome * 8

/-- PRT_STATE (R406). (DEDUCED, log 96). -/
def State.partWord (s : State) (p : Nat) : Nat :=
  let q := s.part p
  b2n q.built + b2n q.unchecked * 2 + b2n q.prio * 4 + (s.vfsOf p).length * 8 + q.epoch.toNat * 256

/-- Cores of a partition that no probe has reached within 2^46 pt (R454). (DEDUCED, log 57). -/
def State.staleCores (s : State) (p : Nat) : Nat :=
  let q := s.part p
  min 0xFFFF (q.coreMap.filter fun c => match aget q.probedAt c with
    | some t => decide (2 ^ 46 < s.since t)
    | none => true).length

/-- MGT_CORE_FLOOR (R446), once the cores are configured. -/
def State.floorWord (s : State) : Nat :=
  if s.configured then maskOf 4 (fun d => decide (s.coreCount d < 75000)) + b2n (decide (s.coreSum < 300000)) * 16 else 0

/-- SEC_BOOT and SEC_KEY_STATE (R518). -/
def State.bootWord (s : State) : Nat :=
  let ks := if s.boot.image.isEmpty then 0 else (Config.authentic s.flash.revoked s.boot.image).getD 0
  s.boot.bank + b2n (s.boot.mode == 1) * 2 + b2n (s.boot.mode == 2) * 4 + b2n s.selector.1.pending * 8 + ks % 4 * 16 +
    imgSvn s.boot.image % 64 * 64 + s.flash.svnMin % 64 * 2 ^ 12 + s.flash.revoked.toNat * 2 ^ 18

def State.keyWord (s : State) : Nat :=
  b2n (s.slotKey 8 s.trayIdx).isSome + maskOf 8 (fun p => (s.slotKey p (s.keyIdx p)).isSome) * 256

/-- The word a register shows at the end of a cycle. -/
def State.readReg (s : State) (k : RKey) : Word :=
  let w (n : Nat) : Word := BitVec.ofNat 32 n
  let u := k.unit
  match k.reg with
  | .pkgTopo => w s.topoWord
  | .pkgCoreCount => w (s.coreCount k.idx)
  | .pkgCoreNarrow => w (s.classes.filter fun e => coreDie e.1 == k.idx && e.2.1 == 2).length
  | .coreState => w (s.coreStateWord u)
  | .coreCtxStatus => w (s.ctxWord u k.idx)
  | .coreCtxMode => w (s.perCtx u fun v => v.mode.toNat)
  | .coreCtxFlags => w (s.perCtx u fun v => v.flags.toNat)
  | .coreCtxPc => w (s.ctx u k.idx).pc.toNat
  | .coreCtxRegion => w ((s.ctx u k.idx).base.toNat + (s.ctx u k.idx).len.toNat * 2 ^ 16)
  | .bayCtxStopat => s.windowWord u fun v => v.stopAt
  | .bayCtxIndex => s.windowWord u fun v => v.index
  | .bayCtxP => s.windowWord u fun v => v.p.getD k.idx 0#32
  | .bayCtxPeg => s.windowWord u fun v => v.cpeg.getD k.idx 0#32
  | .bayCtxPsegLo => s.windowWord u fun v => v.psegLo.getD k.idx 0#32
  | .bayCtxPsegHi => s.windowWord u fun v => v.psegHi.getD k.idx 0#32
  | .bayRingCfg => s.ringWord u k.idx Ring.cfgWord
  | .bayRingProd => s.ringWord u k.idx Ring.prod
  | .bayRingCons => s.ringWord u k.idx Ring.cons
  | .spnPoolFree => if s.rbit ⟨.spnPoolCfg, u, 0⟩ 7 then w (s.poolCount (u / 64) (u % 64) - (s.pool (u / 64) (u % 64)).tags.length) else 0#32
  | .dckWays => w (if (s.part (u % 8)).built then (s.part (u % 8)).ways.getD (u / 8) 0 else 0)
  | .hbmChCfg => w (s.chanWord u)
  | .trsInfo => w (s.trsWord u false)
  | .trsStep => w (s.trsWord u true)
  | .jnrInfo => w (s.jnrWord u false)
  | .jnrSteps => w (s.jnrWord u true)
  | .lmdState => w (s.portWord u)
  | .lmdLanes => w (s.lanesWord u)
  | .d2dState => w (s.d2dWord u)
  | .d2dBundle => w (s.d2dBundleWord u)
  | .prtVfBind => w (match (s.vf (k.idx + 1)).bound with | some p => p + 8 + (s.vf (k.idx + 1)).hshare * 16 | none => 0)
  | .prtState => w (s.partWord u)
  | .prtCores => w (s.part u).coreMap.length
  | .prtReserve => w (s.part u).reserve.length
  | .prtShare => w (if (s.part u).built then leNat ((s.part u).share.map fun n => BitVec.ofNat 8 n) else 0)
  | .prtVfId => w (u + (match (s.vf u).bound with | some p => p * 64 + 2 ^ 9 | none => 0))
  | .prtProbeStatus => setField (s.reg k) 31 16 (s.staleCores u)
  | .mgtCoreFloor => w s.floorWord
  | .plbTimeLo => s.plumb.truncate 32
  | .plbTimeHi => (s.plumb >>> 32).truncate 32
  | .secBoot => w s.bootWord
  | .secKeyState => w s.keyWord
  | .mgtMaintStatus => w (s.maintRun.length + s.maintQueue.length * 2 ^ 16)
  | _ => s.reg k

/-! ### Reads (R14, R542, R547, R552) -/

/-- The HI register of a 64-bit value. -/
def Reg.hiOf : Reg → Option Reg
  | .coreArrayBusyLo => some .coreArrayBusyHi
  | .coreIdleLocalLo => some .coreIdleLocalHi
  | .coreIdleCollLo => some .coreIdleCollHi
  | .coreIdleMemLo => some .coreIdleMemHi
  | .coreIdleHostLo => some .coreIdleHostHi
  | .coreIdleJnrLo => some .coreIdleJnrHi
  | .coreIdleShimLo => some .coreIdleShimHi
  | .coreIdleThermLo => some .coreIdleThermHi
  | .coreIdleMaintLo => some .coreIdleMaintHi
  | .ldrBytesLo => some .ldrBytesHi
  | .plbTimeLo => some .plbTimeHi
  | _ => none

def Reg.isHi (r : Reg) : Bool :=
  [Reg.coreArrayBusyHi, .coreIdleLocalHi, .coreIdleCollHi, .coreIdleMemHi, .coreIdleHostHi, .coreIdleJnrHi, .coreIdleShimHi,
    .coreIdleThermHi, .coreIdleMaintHi, .ldrBytesHi, .plbTimeHi].contains r

/-- A source reads a register: LO latches HI for the source, HI answers its latch, an RC field clears. (DESIGN CHOICE, log
62). -/
def State.readBy (s : State) (src : Src) (k : RKey) : State × Word :=
  if !(s.srcLive src) then (s, 0#32)
  else if !(s.reaches src k false) then ((match src with | .i3c => s.denied src | _ => s), 0#32)
  else if k.reg.isHi then (s, (aget s.latches (src, k)).getD 0#32)
  else
    match k.reg.hiOf with
    | some h =>
      let kh : RKey := { k with reg := h }
      ({ s with latches := aset s.latches (src, kh) (s.readReg kh) }, s.readReg k)
    | none =>
      let rc := k.reg.fields.filter fun f => f.acc == .rc
      (if rc.isEmpty then s else s.setReg k (rc.foldl (fun w f => setField w (f.lo + f.width - 1) f.lo 0) (s.reg k)), s.readReg k)

/-- The register that an offset names for a source: a window offset for a VF, a physical offset for every other. (DEDUCED,
log 88). -/
def State.keyAt (s : State) (src : Src) (off : Nat) : Option RKey :=
  match src with
  | .vf v => (s.vf v).bound.bind fun p => s.windowReg v p off
  | _ => regAt off

/-- The shadow view an offset lies in: its slot and the live offset (R540). -/
def shadowAt (off : Nat) : Option (Nat × Nat) :=
  if 0x40010000 ≤ off ∧ off < 0x40020000 then some (1, off - 0x10000)
  else if 0x40020000 ≤ off ∧ off < 0x40030000 then some (0, off - 0x20000)
  else if 0x80000000 ≤ off ∧ off < 0xC0000000 then some (1, off - 0x80000000)
  else if 0xC0000000 ≤ off ∧ off < 0x100000000 then some (0, off - 0xC0000000)
  else none

/-- A latched ring count is kept by core: the shadow location shows the core that BAY_CTX_SEL selects. -/
def State.ringKey (s : State) (k : RKey) : RKey :=
  if k.reg = .bayRingProd ∨ k.reg = .bayRingCons then { k with idx := s.rfld ⟨.bayCtxSel, k.unit, 0⟩ 7 0 * 8 + k.idx } else k

/-- A read of a shadow view (R552): slot 1 for the PF, Welyar and the ranges of the register target, slot 0 for Welyar. -/
def State.readShadow (s : State) (src : Src) (slot off : Nat) : Word :=
  let may : Bool := match src with
    | .welyar => true
    | .pf => slot == 1
    | .i3c => slot == 1 && i3cReach off false
    | .vf _ => false
  match regAt off with
  | some k => if may then (aget (s.shadow.getD slot []) (s.ringKey k)).getD 0#32 else 0#32
  | none => 0#32

/-- Does the table of a function answer the host: the PF's, or a bound VF's? -/
def State.tableLive (s : State) (fn : Nat) : Bool :=
  if fn = 0 then s.srcLive .pf else s.srcLive (.vf fn) && (s.vf fn).bound.isSome

/-- A word of the MSI-X region of a function (R392, R522): entry address, data and vector control of the 64 vectors, and the
pending bit array at `pba`. -/
def Vf.msixWord (f : Vf) (pba off : Nat) : Word :=
  let (a, d) := (aget f.msix (off / 16)).getD (0#64, 0#32)
  if off % 4 ≠ 0 then 0#32
  else if off = pba then f.msixPend.truncate 32
  else if off = pba + 4 then (f.msixPend >>> 32).truncate 32
  else if 0x400 ≤ off then 0#32
  else
    match off % 16 / 4 with
    | 0 => a.truncate 32
    | 1 => (a >>> 32).truncate 32
    | 2 => d
    | _ => if f.msixMask.getLsbD (off / 16) then 1#32 else 0#32

/-- A read of an offset by a source. In a VF window the MSI-X region lies at 0x10000, for the PF from 2^32 on, where a
register access names BAR4 (R392, R522). -/
def State.readOff (s : State) (src : Src) (off : Nat) : State × Word :=
  match s.keyAt src off with
  | some k => s.readBy src k
  | none =>
    match src, shadowAt off with
    | .vf n, _ => (s, if 0x10000 ≤ off ∧ off < 0x11000 ∧ s.tableLive n then (s.vf n).msixWord 0x800 (off - 0x10000) else 0#32)
    | .pf, none => (s, if 2 ^ 32 ≤ off ∧ off < 2 ^ 32 + 0x4000 ∧ s.tableLive 0 then (s.vf 0).msixWord 0x2000 (off - 2 ^ 32) else 0#32)
    | .i3c, some (slot, o) => if slot = 1 ∧ i3cReach o false then (s, s.readShadow src slot o) else (s.denied src, 0#32)
    | .i3c, none => (if !(s.srcLive src) || i3cReach off false then s else s.denied src, 0#32)
    | _, some (slot, o) => (s, if s.srcLive src then s.readShadow src slot o else 0#32)
    | _, none => (s, 0#32)

/-- A host read that a fence refuses (R420): of a register of the fenced partition's own units, outside the VF page. -/
def State.fencedRead (s : State) (src : Src) (off : Nat) : Option Nat :=
  match src with
  | .vf v =>
    match (s.vf v).bound, s.keyAt src off with
    | some p, some k => if s.srcLive src && s.vfSees v p k && !(s.reaches src k false) then some v else none
    | _, _ => none
  | _ => none

/-- COUNTER_LO_READ (R492, R547, R420): a read of an offset; a LO half latches HI for the source. A read that a fence refuses
completes with Completer Abort. -/
def execCounterLoRead (src : Src) (off : Nat) (s : State) : Host.Outcome State Fault Refusal :=
  let (s1, w) := s.readOff src off
  .next (match s.fencedRead src off with
    | some v => { s1 with msgs := s1.msgs ++ [.hostRead v none], lastRead := none }
    | none => { s1 with lastRead := some w })

/-! ### Counter writes (R545-R548, R563-R565) -/

/-- Lost increments of a counter (R546): the record of its die or of the package, the running total, event 0x0501.
(DEDUCED, log 63; DEDUCED, log 83). -/
def State.lostCount (s : State) (k : RKey) (n : Nat) : State :=
  match k.addr with
  | none => s
  | some a =>
    let amt := BitVec.ofNat 32 (min n 0xFFFFFFFF)
    if a < 0x40000000 then
      let d := a / 2 ^ 28
      let tot : RKey := ⟨.dieCntLostTot, d, 0⟩
      let s1 := s.latch ⟨.dieCntLost, d, 0⟩ (BitVec.ofNat 32 (a % 2 ^ 28 / 4 * 4)) [(⟨.dieCntLostAmt, d, 0⟩, amt)]
      (s1.setReg tot (BitVec.ofNat 32 (min ((s1.reg tot).toNat + n) 0xFFFFFFFF))).spineEvent d 0x0501 255 (srcOf 8 d) a n
    else
      (s.latch ⟨.mgtCntLost, 0, 0⟩ (BitVec.ofNat 32 (a % 2 ^ 16 / 4 * 4)) [(⟨.mgtCntLostAmt, 0, 0⟩, amt)]).spineEvent 0 0x0501 255 0#32 a n

/-- COUNTER_WRITE (R545-R547): a CNT field takes the value; `lost` increments of that cycle are recorded. (DEDUCED, log 83). -/
def execCounterWrite (src : Src) (off : Nat) (value : Word) (lost : Nat) (s : State) : Host.Outcome State Fault Refusal :=
  .next (match s.keyAt src off with
    | none => s
    | some k =>
      if !(k.reg.fields.any fun f => f.acc == .cnt) then s
      else s.accessW src k fun s =>
        let s1 := s.writeFields k value
        if lost = 0 then s1 else s1.lostCount k lost)

/-! ### Snapshots (R467, R468, R551-R554) -/

/-- The bits of a register that a snapshot latches: its CNT and RC fields. -/
def Reg.latched (r : Reg) : Word :=
  (r.fields.filter fun f => f.acc == .cnt || f.acc == .rc).foldl
    (fun w f => setField w (f.lo + f.width - 1) f.lo (2 ^ f.width - 1)) 0#32

/-- The words of a shadow: the counters that are listed, the fields of the table of R551, the plumb copies of R553,
the master copy at T. -/
def State.capture (s : State) (t : Time) : List (RKey × Word) :=
  let one (k : RKey) : RKey × Word := (k, s.readReg k)
  let time (lo hi : Reg) (u : Nat) (t : Time) : List (RKey × Word) :=
    [(⟨lo, u, 0⟩, t.truncate 32), (⟨hi, u, 0⟩, (t >>> 32).truncate 32)]
  let cnt := (s.regs.filter fun e => e.1.reg.latched != 0#32).map fun (e : RKey × Word) => (e.1, e.2 &&& e.1.reg.latched)
  let bents := (List.range 96).flatMap fun b => [one ⟨.bentClk, b, 0⟩, one ⟨.bentShim, b, 0⟩, one ⟨.bentTemp, b, 0⟩]
  let ctxs := s.cores.flatMap fun (e : Nat × Core) => (List.range 4).map fun x =>
    ((⟨.coreCtxStatus, e.1, x⟩ : RKey), s.readReg ⟨.coreCtxStatus, e.1, x⟩ &&& 0xF#32)
  let rings := s.cores.flatMap fun (e : Nat × Core) => (List.range 8).flatMap fun r =>
    let g := e.2.rings.getD r {}
    [((⟨.bayRingProd, bayOf e.1, coreNum e.1 * 8 + r⟩ : RKey), g.prod), (⟨.bayRingCons, bayOf e.1, coreNum e.1 * 8 + r⟩, g.cons)]
  let temps := (List.range 4).flatMap fun d => one ⟨.pwrDieTemp, d, 0⟩ :: (List.range 6).map fun i => one ⟨.pwrHbmTemp, d, i⟩
  let pkg := [one ⟨.pwrIn, 0, 0⟩, one ⟨.pwrStatus, 0, 0⟩] ++ time .plbTimeLo .plbTimeHi 0 t
  let links := (List.range 8).flatMap fun n => [one ⟨.lmdState, n, 0⟩, one ⟨.d2dState, n, 0⟩]
  let tb := (List.range 96).flatMap fun b =>
    time .bentSnapTLo .bentSnapTHi b (s.timeOf (if s.stopped b then domOfSpine (b / 24) else domOfBent b))
  let tsp := (List.range 4).flatMap fun d => time .spnSnapTLo .spnSnapTHi d (s.timeOf (domOfSpine d))
  cnt ++ bents ++ ctxs ++ rings ++ temps ++ pkg ++ links ++ tb ++ tsp

/-! ### Dumps (R555, R556) -/

/-- A 64-bit counter from its halves. -/
def State.reg64 (s : State) (lo hi : Reg) (u : Nat) : Nat := (s.reg ⟨lo, u, 0⟩).toNat + 2 ^ 32 * (s.reg ⟨hi, u, 0⟩).toNat

/-- A core entry of a dump: logical core `l` on core `c`, `moved` against the previous record. -/
def State.dumpCore (s : State) (prev : Option Nat) (l c : Nat) : List Byte :=
  let moved := match prev with | some a => b2n (a != c) | none => 0
  let idle := [(Reg.coreIdleLocalLo, Reg.coreIdleLocalHi), (.coreIdleCollLo, .coreIdleCollHi), (.coreIdleMemLo, .coreIdleMemHi),
    (.coreIdleHostLo, .coreIdleHostHi), (.coreIdleJnrLo, .coreIdleJnrHi), (.coreIdleShimLo, .coreIdleShimHi),
    (.coreIdleThermLo, .coreIdleThermHi), (.coreIdleMaintLo, .coreIdleMaintHi)]
  leBytes 4 l ++ leBytes 4 (c + moved * 2 ^ 31) ++ leBytes 8 (s.reg64 .coreArrayBusyLo .coreArrayBusyHi c) ++
    idle.flatMap fun e => leBytes 8 (s.reg64 e.1 e.2 c)

/-- A bent entry: index `i`, bent `b`. -/
def State.dumpBent (s : State) (i b : Nat) : List Byte :=
  leBytes 2 i ++ leBytes 1 (s.point b) ++ leBytes 1 (s.rfld (kShim b) 5 0) ++ leBytes 1 (s.rfld (kShim b) 13 8) ++
  leBytes 1 (b2n (s.stopped b)) ++ leBytes 2 (s.bentTemp b) ++ leBytes 4 (s.reg ⟨.bentStopCnt, b, 0⟩).toNat ++ leBytes 4 0 ++
  leBytes 8 (s.timeOf (if s.stopped b then domOfSpine (b / 24) else domOfBent b)).toNat ++ leBytes 8 0

/-- The record of partition `p` for a VF, of the snapshot at `t`. -/
def State.dumpRecord (s : State) (v p : Nat) (t : Time) : List Byte :=
  let q := s.part p
  let bs := (List.range 96).filter q.bents.contains
  let prev := (s.vf v).dumpWhere
  let body := ((List.range q.coreMap.length).flatMap fun l => s.dumpCore prev[l]? l (q.coreMap.getD l 0)) ++
    (List.range bs.length).flatMap fun i => s.dumpBent i (bs.getD i 0)
  leBytes 2 0x7D57 ++ leBytes 1 1 ++ leBytes 1 p ++ leBytes 4 (s.reg ⟨.plbSnapSeq, 0, 0⟩).toNat ++ leBytes 8 t.toNat ++
  leBytes 4 q.coreMap.length ++ leBytes 4 bs.length ++ leBytes 4 (64 + body.length) ++ leBytes 4 (crc32 body) ++
  List.replicate 32 0#8 ++ body

def kTelCtl (v : Nat) : RKey := ⟨.prtTelCtl, v, 0⟩
def kTelStatus (v : Nat) : RKey := ⟨.prtTelStatus, v, 0⟩

/-- The ring size of a VF's dumps. -/
def State.telSize (s : State) (v : Nat) : Nat := (s.rfld (kTelCtl v) 8 1 + 1) * 2 ^ 21

/-- A snapshot starts the dump of a VF that asks for one; it is skipped while the previous one is being written, and not
written when it is longer than the ring. (DEDUCED, log 65). -/
def State.startDump (t : Time) (s : State) (v : Nat) : State :=
  let f := s.vf v
  match f.bound with
  | none => s
  | some p =>
    if !(s.rbit (kTelCtl v) 0) then s
    else if f.dump.isSome then s.setFld (kTelStatus v) 2 2 1
    else
      let r := s.dumpRecord v p t
      if s.telSize v < r.length then s.setFld (kTelStatus v) 1 1 1
      else s.setVf v { f with dump := some { bytes := r } }

/-- SNAPSHOT_LATCH (R421, R467, R468, R551-R555): slot 0 or 1 latches once its instant has come. -/
def execSnapshotLatch (slot : BitVec 1) (s : State) : Host.Outcome State Fault Refusal :=
  let due (t : Option Time) : Bool := match t with | some t => decide (t.toNat ≤ s.plumb.toNat) | none => false
  .next (
    if slot = 0#1 then
      if due s.snapWelyar then { s with shadow := s.shadow.set 0 (s.capture (s.snapWelyar.getD 0#64)), snapWelyar := none } else s
    else if due s.snapAt then
      let t := s.snapAt.getD 0#64
      let s1 := { s with shadow := s.shadow.set 1 (s.capture t), snapAt := none }.count .plbSnapSeq 0 1
      let s2 := ((s1.setFld kSnapStatus 1 0 2).setFld ⟨.plbSnapCmd, 0, 0⟩ 0 0 0).spineEvent 0 0x0205 255 0#32 t.toNat
        (s1.reg ⟨.plbSnapSeq, 0, 0⟩).toNat
      let s3 := (upto 1 63).foldl (State.startDump t) s2
      let per := (s3.reg kSnapPer).toNat
      if per = 0 then s3 else s3.snapSet (t + BitVec.ofNat 64 (per * 2 ^ 10))
    else s)

/-- DUMP_COMPLETE (R555): the record stands in the ring, after the one before or at the base. (DEDUCED, log 65). -/
def execDumpComplete (vf : BitVec 6) (s : State) : Host.Outcome State Fault Refusal :=
  let v := vf.toNat
  let f := s.vf v
  .next (match f.dump, f.bound with
    | some d, some p =>
      let base := (s.reg ⟨.prtTelBaseLo, v, 0⟩).toNat + 2 ^ 32 * s.rfld ⟨.prtTelBaseHi, v, 0⟩ 15 0
      let e := f.dumpEnd.getD 0
      let pos := if s.telSize v < e + d.bytes.length then 0 else e
      let s1 := s.vput p (base + pos) d.bytes
      let n := leNat ((d.bytes.drop 0x10).take 4)
      let holds := (List.range n).map fun l => leNat ((d.bytes.drop (64 + 80 * l + 4)).take 4) % 2 ^ 19
      let s2 := s1.setVf v { s1.vf v with dump := none, dumpEnd := some (pos + d.bytes.length), dumpWhere := holds }
      (s2.setFld (kTelStatus v) 31 9 (pos / 64)).setFld (kTelStatus v) 0 0 1
    | _, _ => s)

/-! ### Event logs (R557-R561) -/

/-- The 32 bytes of an entry. -/
def Event.bytes (e : Event) : List Byte :=
  leBytes 8 e.t.toNat ++ leBytes 2 e.code ++ leBytes 1 (b2n e.unaligned + b2n e.lost * 2) ++ leBytes 1 e.part ++
  leBytes 4 e.src.toNat ++ leBytes 8 e.arg0.toNat ++ leBytes 8 e.arg1.toNat

/-- The order of delivery: time, code, source. -/
def Event.before (a b : Event) : Bool :=
  decide (a.t.toNat < b.t.toNat ∨ (a.t = b.t ∧ (a.code < b.code ∨ (a.code = b.code ∧ a.src.toNat < b.src.toNat))))

/-- The first entry of a queue in that order. -/
def firstEvent : List Event → Option Event
  | [] => none
  | e :: r => match firstEvent r with
    | some f => if f.before e then some f else some e
    | none => some e

/-- The queue whose first entry comes first. (DEDUCED, log 81). -/
def State.nextEvent (s : State) : Option (Fin 4 × Event) :=
  ([0, 1, 2, 3] : List (Fin 4)).foldl (fun (a : Option (Fin 4 × Event)) (q : Fin 4) =>
    match a, firstEvent (s.evq.get q) with
    | some (p, e), some f => if f.before e then some (q, f) else some (p, e)
    | none, some f => some (q, f)
    | a, none => a) none

/-- Is the class of an entry enabled by a mask whose bit c enables class c? Class 1 always is. -/
def Event.shown (e : Event) (mask : Nat) : Bool := evClass e.code == 1 || mask.testBit (evClass e.code)

/-- The package log takes an entry of queue `q` (R559, R560). -/
def State.logPkg (s : State) (q : Nat) (e : Event) : State :=
  if e.shown (s.reg ⟨.mgtEvlogMask, 0, 0⟩).toNat then
    let l := s.evlog ++ [{ e with lost := e.lost || s.evMarks.contains q }]
    { s with evlog := if 65536 < l.length then l.drop 1 else l, evMarks := sdel s.evMarks q }.count .mgtEvlogHead 0 1
  else if e.lost then { s with evMarks := sput s.evMarks q } else s

def kLogCtl (v : Nat) : RKey := ⟨.prtLogCtl, v, 0⟩

/-- The ring of a VF takes an entry (R559, R561): a full ring drops it and marks the next one written. -/
def State.logVf (s : State) (q : Nat) (e : Event) (v : Nat) : State :=
  let f := s.vf v
  match f.bound with
  | none => s
  | some p =>
    if !(s.rbit (kLogCtl v) 0) then s
    else if e.part = p ∧ e.shown (s.rfld (kLogCtl v) 5 1 * 2) then
      let size := 2 ^ s.rfld (kLogCtl v) 10 6
      let head := s.rfld ⟨.prtLogHead, v, 0⟩ 19 0
      let lost := e.lost || f.logMarks.contains q || f.logMark
      if (head + 1) % size = s.rfld ⟨.prtLogTail, v, 0⟩ 19 0 then
        (s.setVf v { f with logMark := true, logMarks := sdel f.logMarks q }).count .prtLogLostCnt v 1
      else
        let base := (s.reg ⟨.prtLogBaseLo, v, 0⟩).toNat + 2 ^ 32 * s.rfld ⟨.prtLogBaseHi, v, 0⟩ 15 0
        let s1 := s.vput p (base + head * 32) ({ e with lost := lost }).bytes
        (s1.setVf v { s1.vf v with logMark := false, logMarks := sdel f.logMarks q }).setFld ⟨.prtLogHead, v, 0⟩ 19 0 ((head + 1) % size)
    else if e.lost then s.setVf v { f with logMarks := sput f.logMarks q } else s

/-- An entry leaves the queue of a spine, with the mark of a loss before it. -/
def State.takeEvent (s : State) (q : Fin 4) (e : Event) : State :=
  { s with evq := s.evq.set q ((s.evq.get q).erase e) q.isLt, evDrop := s.evDrop.set q false q.isLt }

/-- EVENT_DELIVER (R559-R561): the next entry of the spine queues goes to the package log and the rings. -/
def execEventDeliver (s : State) : Host.Outcome State Fault Refusal :=
  .next (match s.nextEvent with
    | none => s
    | some (q, e0) =>
      let e := { e0 with lost := e0.lost || s.evDrop.get q }
      (upto 1 63).foldl (fun s v => s.logVf q.val e v) ((s.takeEvent q e0).logPkg q.val e))

/-- EVLOG_SELECT (R560): a write of MGT_EVLOG_SEL copies an entry into the data registers. -/
def execEvlogSelect (src : Src) (n : Word) (s : State) : Host.Outcome State Fault Refusal :=
  .next (s.accessW src ⟨.mgtEvlogSel, 0, 0⟩ fun s =>
    let first := (s.reg ⟨.mgtEvlogHead, 0, 0⟩).toNat - s.evlog.length
    let b := if n.toNat < first then [] else match s.evlog[n.toNat - first]? with | some e => e.bytes | none => []
    (List.range 8).foldl (fun s w => s.setReg ⟨.mgtEvlogData, 0, w⟩ (BitVec.ofNat 32 (leNat ((b.drop (4 * w)).take 4))))
      (s.setReg ⟨.mgtEvlogSel, 0, 0⟩ n))

/-- A write of PRT_LOG_CTL of VF `v`: a size out of range drops it, a size stands while the log is on, setting `en`
resets head and tail. (DEDUCED, log 60). -/
def State.setLogCtl (s : State) (v : Nat) (value : Word) : State :=
  let size := wbits value 10 6
  if size < 8 ∨ 20 < size then s
  else
    let on := s.rbit (kLogCtl v) 0
    let w := if on then setField value 10 6 (s.rfld (kLogCtl v) 10 6) else value
    let s1 := s.setReg (kLogCtl v) (w &&& 0x7FF#32)
    if !on && wbit value 0 then (s1.setReg ⟨.prtLogHead, v, 0⟩ 0#32).setReg ⟨.prtLogTail, v, 0⟩ 0#32 else s1

/-- A write of PRT_LOG_TAIL: at or beyond the size it is dropped and counted. -/
def State.setLogTail (s : State) (v : Nat) (value : Word) : State :=
  if 2 ^ s.rfld (kLogCtl v) 10 6 ≤ value.toNat then s.count .prtVfDropCnt v 1 else s.setReg ⟨.prtLogTail, v, 0⟩ value

/-- LOG_ENABLE (R567). -/
def execLogEnable (vf : BitVec 6) (value : Word) (s : State) : Host.Outcome State Fault Refusal :=
  .next (s.accessW (.vf vf.toNat) (kLogCtl vf.toNat) fun s => s.setLogCtl vf.toNat value)

/-- LOG_TAIL_WRITE (R561, R562). -/
def execLogTailWrite (vf : BitVec 6) (value : Word) (s : State) : Host.Outcome State Fault Refusal :=
  .next (s.accessW (.vf vf.toNat) ⟨.prtLogTail, vf.toNat, 0⟩ fun s => s.setLogTail vf.toNat value)

end Sys2Proof.Machine
end

