-- ==== Sys2Proof/Machine/Bringup.lean ====
section
/-! DEFINITION. Bring-up and test (20: R568-R570, R574-R580; R447, R515): debug tokens, lane records, the HBM test
commands. -/
namespace Sys2Proof.Machine

/-! ### Debug tokens (R568-R570, R580) -/

def kDbgState : RKey := ⟨.tstDbgState, 0, 0⟩
def kDbgStatus : RKey := ⟨.tstDbgStatus, 0, 0⟩

def State.pkgDebug (s : State) : Bool := s.rbit kDbgState 0
def State.partDebug (s : State) (p : Nat) : Bool := s.rbit kDbgState (8 + p)

/-- TST_NONCE takes a new random value. (DESIGN CHOICE, log 8). -/
def State.newNonce (s : State) : State :=
  let n := (Config.random s.draws).toNat
  ({ s with draws := s.draws + 1 }.setReg ⟨.tstNonceLo, 0, 0⟩ (BitVec.ofNat 32 n)).setReg ⟨.tstNonceHi, 0, 0⟩ (BitVec.ofNat 32 (n / 2 ^ 32))

/-- The checks of a token of `d`: 0, or the first reason: 1 field, 2 serial, 3 nonce, 4 partition, 5 signature. -/
def State.tokenCheck (s : State) (d : List Byte) : Nat :=
  let kind := dfield d 2 1
  let p := dfield d 3 1
  let len := dfield d 4 4
  let clen := dfield d 0x40 2
  let shape : Bool :=
    if kind = 1 then p == 0 && decide (0x40 + 4723 ≤ len)
    else kind == 2 && decide (p < 8) && dfield d 0x42 14 == 0 && decide (len = 0x50 + clen + 96)
  let nonce := (s.reg ⟨.tstNonceLo, 0, 0⟩).toNat + 2 ^ 32 * (s.reg ⟨.tstNonceHi, 0, 0⟩).toNat
  let chain := (d.drop 0x50).take clen
  let signed : Bool :=
    if kind = 1 then (Config.authentic s.flash.revoked d).isSome
    else Config.chainRoot chain == some (s.rootOf p) && Config.ecdsaOk chain (d.take (0x50 + clen)) (d.drop (0x50 + clen))
  if dfield d 0 2 ≠ 0x7D6B ∨ dfield d 0x18 40 ≠ 0 ∨ !shape then 1
  else if dfield d 8 8 ≠ Config.serial.toNat then 2
  else if dfield d 0x10 8 ≠ nonce then 3
  else if kind = 2 ∧ !(s.part p).built then 4
  else if !signed then 5
  else 0

/-- DEBUG_TOKEN_SUBMIT (R568-R570, R580): the token at TST_DBG_ADDR in HBM that no partition holds; a new nonce follows
every submission. -/
def execDebugTokenSubmit (src : Src) (s : State) : Host.Outcome State Fault Refusal :=
  .next (s.accessW src ⟨.tstDbgCmd, 0, 0⟩ fun s =>
    let pa := (s.reg ⟨.tstDbgAddrLo, 0, 0⟩).toNat + 2 ^ 32 * s.rfld ⟨.tstDbgAddrHi, 0, 0⟩ 11 0
    let done (s : State) (result reason : Nat) : State := s.newNonce.cmdDone kDbgStatus result reason 3 none
    if !(s.freeHbm pa 0x50) || pa % 64 != 0 then done s 3 0
    else if anyPoison (s.pbytes pa 0x50) then done s 2 1
    else
      let n := max 0x50 (dfield (s.bytes pa 0x50) 4 4)
      if !(s.freeHbm pa n) then done s 3 0
      else if anyPoison (s.pbytes pa n) then done s 2 1
      else
        let d := s.bytes pa n
        let r := s.tokenCheck d
        if r ≠ 0 then done s 2 r
        else
          let bit := if dfield d 2 1 = 1 then 0 else 8 + dfield d 3 1
          done ({ s with tokens := s.tokens ++ [sha384 d] }.setFld kDbgState bit bit 1) 0 0)

/-! ### Lane records (R576) -/

/-- LANE_RECORD_SELECT (R574, R576): record n is copied into the data registers; one not yet written reads as zero. -/
def execLaneRecordSelect (src : Src) (n : BitVec 16) (s : State) : Host.Outcome State Fault Refusal :=
  .next (s.accessW src ⟨.tstRecSel, 0, 0⟩ fun s =>
    let d := s.flash.lanes.getD n.toNat []
    (List.range 16).foldl (fun (s : State) (w : Nat) => s.setReg ⟨.tstRecData, 0, w⟩ (BitVec.ofNat 32 (recField d (4 * w) 4)))
      (s.setReg ⟨.tstRecSel, 0, 0⟩ (n.zeroExtend 32)))

/-! ### HBM test access (R577, R578, R580) -/

def kHbmCmd : RKey := ⟨.tstHbmCmd, 0, 0⟩
def kHbmStatus : RKey := ⟨.tstHbmStatus, 0, 0⟩

def State.hbmDone (s : State) (result : Nat) : State := (s.setFld kHbmCmd 13 13 0).cmdDone kHbmStatus result 0 0 none

/-- The result of an operation in TST_HBM_DATA. -/
def State.hbmData (s : State) (v : BitVec 64) : State :=
  (s.setReg ⟨.tstHbmDataLo, 0, 0⟩ (v.truncate 32)).setReg ⟨.tstHbmDataHi, 0, 0⟩ ((v >>> 32).truncate 32)

/-- A `go` of TST_HBM_CMD: ignored while another operation runs; the same one goes on when the arbiter lets it. -/
def State.hbmGo (s : State) (src : Src) (op stack chan : Nat) (f : State → State) : State :=
  s.accessW src kHbmCmd fun s =>
    let w : Word := BitVec.ofNat 32 (op + stack * 8 + chan * 256 + 2 ^ 13)
    if s.rbit kHbmCmd 13 then (if s.reg kHbmCmd = w then f s else s)
    else if 24 ≤ stack then (s.setReg kHbmCmd w).hbmDone 2
    else f (s.setReg kHbmCmd w)

/-- Has a build claimed a channel in the present cycle (R578)? -/
def State.justBuilt (s : State) (ch : Nat) : Bool := (s.partOfChan ch).any s.cyc.builds.contains

/-- Operations 3 to 6: in package debug on a channel that no partition holds, as activity HR of the stack. A channel that a
build claims in the same cycle, or has claimed while the operation waited, ends it with result 1 (R578). (DEDUCED, log 66). -/
def State.hbmTest (s : State) (src : Src) (op stack chan : Nat) (f : State → State) : State :=
  let ch := stack * 32 + chan
  let act : Activity := ⟨7, stack⟩
  s.hbmGo src op stack chan fun s =>
    if s.maintQueue.contains act then s
    else if s.maintRun.contains act then
      (if (s.partOfChan ch).isSome then (s.maintEnd act).hbmDone 1 else (f s).maintEnd act)
    else if s.pkgDebug && s.justBuilt ch then s.hbmDone 1
    else if !s.pkgDebug || (s.partOfChan ch).isSome then s.hbmDone 2
    else
      let (s1, w) := s.maintAsk act
      if w = 1 then s1.hbmDone 1 else if w = 2 then s1 else (f s1).maintEnd act

/-- HBM_READ_ID (R577): the device ID that the stack gives, `none` when it fails in the stack. -/
def execHbmReadId (src : Src) (stack chan : BitVec 5) (id : Option (BitVec 64)) (s : State) : Host.Outcome State Fault Refusal :=
  .next (s.hbmGo src 1 stack.toNat chan.toNat fun s => match id with | some v => (s.hbmData v).hbmDone 0 | none => s.hbmDone 3)

/-- HBM_READ_TEMP (R577). -/
def execHbmReadTemp (src : Src) (stack chan : BitVec 5) (temp : Option (BitVec 64)) (s : State) : Host.Outcome State Fault Refusal :=
  .next (s.hbmGo src 2 stack.toNat chan.toNat fun s => match temp with | some v => (s.hbmData v).hbmDone 0 | none => s.hbmDone 3)

/-- HBM_MBIST (R577, R578): the count of failing rows; the channel is left with zeros and no poison. (DEDUCED, log 66). -/
def execHbmMbist (src : Src) (stack chan : BitVec 5) (rows : Option Word) (s : State) : Host.Outcome State Fault Refusal :=
  let ch := stack.toNat * 32 + chan.toNat
  .next (s.hbmTest src 3 stack.toNat chan.toNat fun s =>
    let s1 := s.forget (inChans [ch])
    let s2 := { s1 with zeroed := sput s1.zeroed ch }
    match rows with
    | some n => (s2.hbmData (n.zeroExtend 64)).hbmDone 0
    | none => s2.hbmDone 3)

/-- HBM_LANE_REPAIR (R577). -/
def execHbmLaneRepair (src : Src) (stack chan : BitVec 5) (ok : Bool) (s : State) : Host.Outcome State Fault Refusal :=
  .next (s.hbmTest src 4 stack.toNat chan.toNat fun s => s.hbmDone (if ok then 0 else 3))

/-- The row that TST_HBM_ARG and TST_HBM_ARG2 name: pseudo-channel, stack ID and bank as in ARG2, row. -/
def State.hbmRowArg (s : State) : Nat × Nat := ((s.reg ⟨.tstHbmArg2, 0, 0⟩).toNat, (s.reg ⟨.tstHbmArg, 0, 0⟩).toNat)

/-- HBM_SOFT_REPAIR (R575, R577, R578): the row is added to the repair list, with its record. -/
def execHbmSoftRepair (src : Src) (stack chan : BitVec 5) (ok : Bool) (s : State) : Host.Outcome State Fault Refusal :=
  let ch := stack.toNat * 32 + chan.toNat
  .next (s.hbmTest src 5 stack.toNat chan.toNat fun s =>
    if ok then
      let (bank, row) := s.hbmRowArg
      let mask := leBytes 1 (bank % 256) ++ leBytes 1 (bank / 256) ++ leBytes 2 0 ++ leBytes 4 row ++ List.replicate 24 0#8
      ({ s with repairs := s.repairs ++ [(ch, bank, row)] }.addRecord 3 3 ch mask).hbmDone 0
    else s.hbmDone 3)

/-- HBM_HARD_REPAIR (R577). -/
def execHbmHardRepair (src : Src) (stack chan : BitVec 5) (ok : Bool) (s : State) : Host.Outcome State Fault Refusal :=
  .next (s.hbmTest src 6 stack.toNat chan.toNat fun s => s.hbmDone (if ok then 0 else 3))

end Sys2Proof.Machine
end

