-- ==== Sys2Proof/Machine/HostIf.lean ====
section
/-! DEFINITION. The host interface (18: R522-R529, R537-R539; R395, R397): the PCIe link and its resets, the aperture, MSI-X
tables, power states, host queues. -/
namespace Sys2Proof.Machine

/-! ### The link and its resets (R524, R525) -/

def kHostLink : RKey := ⟨.mgtHostLink, 0, 0⟩

/-- Is the host link in service? -/
def State.hostUp (s : State) : Bool := s.rbit kHostLink 0

/-- HOST_LINK_UP (R524, R525): training ends at a rate (1, 2, 3) and width (8 or 16) that are in service; ready functions
send DRS. -/
def execHostLinkUp (speed : BitVec 2) (width : Nat) (s : State) : Host.Outcome State Fault Refusal :=
  .next (if s.pkg = .off ∨ s.resetPin = false ∨ speed = 0#2 ∨ ¬(width = 8 ∨ width = 16) then s
    else
      let s1 := s.setReg kHostLink (BitVec.ofNat 32 (1 + speed.toNat * 2 + width * 8))
      if s.pkg = .on then { s1 with msgs := s1.msgs ++ [.drs] } else s1)

/-- FLR of the PF (R525): its configuration, MGT_HOST_CAUSE, MGT_HOST_MASK and its MSI-X table. -/
def State.pfReset (s : State) : State :=
  let s1 := (s.setReg ⟨.mgtHostCause, 0, 0⟩ 0#32).setReg ⟨.mgtHostMask, 0, 0⟩ 0#32
  s1.setVf 0 { s1.vf 0 with msix := [], msixMask := BitVec.allOnes 64, msixPend := 0#64, d3 := false }

/-- FLR of a VF (R397, R525, R539). -/
def State.vfFlr (s : State) (v : Nat) : State :=
  let s1 := s.vfReset v
  s1.setVf v { s1.vf v with d3 := false }

/-- HOT_RESET (R525, R539): the link retrains and every function is reset. -/
def execHotReset (s : State) : Host.Outcome State Fault Refusal :=
  .next (if s.pkg ≠ .on then s
    else
      let s1 := (s.setReg kHostLink 0#32).count .mgtHostRetrainCnt 0 1
      (upto 1 63).foldl (fun s v => s.vfFlr v) s1.pfReset)

/-- PF_FLR (R525). -/
def execPfFlr (s : State) : Host.Outcome State Fault Refusal := .next (if s.pkg ≠ .on then s else s.pfReset)

/-- VF_FLR (R397, R525). -/
def execVfFlr (vf : BitVec 6) (s : State) : Host.Outcome State Fault Refusal :=
  .next (if s.pkg ≠ .on ∨ vf = 0#6 then s else s.vfFlr vf.toNat)

/-- PCIE_POWER_STATE_CHANGE (R524): D3hot changes no package state but what a function's memory space answers. (PRESUMED,
log 67). -/
def execPciePowerStateChange (fn : BitVec 6) (d3 : Bool) (s : State) : Host.Outcome State Fault Refusal :=
  .next (if s.pkg ≠ .on ∨ s.hostUp = false then s else s.setVf fn.toNat { s.vf fn.toNat with d3 := d3 })

/-! ### MSI-X tables (R395, R522) -/

/-- A vector's mask bit is written: unmasking sends the pending message. -/
def State.maskVector (s : State) (fn vec : Nat) (masked : Bool) : State :=
  let f := s.vf fn
  let bit : BitVec 64 := BitVec.ofNat 64 (2 ^ vec)
  if masked then s.setVf fn { f with msixMask := f.msixMask ||| bit }
  else
    let s1 := s.setVf fn { f with msixMask := f.msixMask &&& ~~~bit, msixPend := f.msixPend &&& ~~~bit }
    if f.msixPend.getLsbD vec then { s1 with msgs := s1.msgs ++ [.msix fn vec] } else s1

/-- A write of a word of an MSI-X table: entry address, data, vector control. -/
def State.msixTableWrite (s : State) (fn off : Nat) (value : Word) : State :=
  let vec := off / 16
  let f := s.vf fn
  let (a, d) := (aget f.msix vec).getD (0#64, 0#32)
  if 64 ≤ vec then s
  else
    match off % 16 / 4 with
    | 0 => s.setVf fn { f with msix := aset f.msix vec ((a >>> 32).truncate 32 ++ (value &&& 0xFFFFFFFC#32), d) }
    | 1 => s.setVf fn { f with msix := aset f.msix vec (value ++ a.truncate 32, d) }
    | 2 => s.setVf fn { f with msix := aset f.msix vec (a, value) }
    | _ => s.maskVector fn vec (wbit value 0)

/-- MSIX_VECTOR_MASK_WRITE (R395, R522). -/
def execMsixVectorMaskWrite (fn : BitVec 6) (vec : BitVec 6) (masked : Bool) (s : State) : Host.Outcome State Fault Refusal :=
  .next (if s.tableLive fn.toNat then s.maskVector fn.toNat vec.toNat masked else s)

/-! ### The aperture (R522, R523, R526) -/

/-- Is a package address one of memory that no partition holds? -/
def State.freeMem (s : State) (a : Nat) : Bool :=
  match s.place a with
  | .hbm ch _ => (s.partOfChan ch).isNone
  | .spad c _ => (s.partOfCore c).isNone
  | .bay b _ => (s.partOfBent (b / 16)).isNone
  | _ => false

/-- APERTURE_ACCESS (R522, R523, R526, R254): the PF reads `len` bytes or writes some, with EP as poison. (DEDUCED, log 68). -/
def execApertureAccess (off len : Nat) (write : Option (List (Byte × Bool))) (s : State) : Host.Outcome State Fault Refusal :=
  let a := s.rfld ⟨.mgtHostAper, 0, 0⟩ 7 0 * 2 ^ 36 + off
  let n := match write with | some l => l.length | none => len
  .next (if s.srcLive .pf = false ∨ 2 ^ 36 < off + n ∨ 4096 < n then s
    else if !((List.range n).all fun i => s.freeMem (a + i)) then
      let s1 := s.count .mgtHostAbortCnt 0 1
      (match write with | some _ => s1 | none => { s1 with msgs := s1.msgs ++ [.hostRead 0 none] })
    else
      match write with
      | some l =>
        let s1 := s.pokeP a l
        if anyPoison l then s1.count .mgtHostUeCnt 0 1 else s1
      | none => { s with msgs := s.msgs ++ [.hostRead 0 (some (s.pbytes a n))] })

/-! ### Host queues (R527, R528, R538) -/

/-- The register of queue `q` of a VF. -/
def kHq (r : Reg) (v q : Nat) : RKey := ⟨r, v * 8 + q, 0⟩

/-- A write of PRT_HQ_TAIL: dropped beyond the size of the queue. -/
def State.setHqTail (s : State) (v q : Nat) (value : Word) : State :=
  if 2 ^ s.rfld (kHq .prtHqCfg v q) 4 0 ≤ wbits value 15 0 then s else s.setReg (kHq .prtHqTail v q) (value &&& 0xFFFF#32)

/-- HQ_TAIL_WRITE (R527, R538, R539). -/
def execHqTailWrite (vf : BitVec 6) (q : BitVec 2) (value : Word) (s : State) : Host.Outcome State Fault Refusal :=
  .next (s.accessW (.vf vf.toNat) (kHq .prtHqTail vf.toNat q.toNat) fun s => s.setHqTail vf.toNat q.toNat value)

/-- A queue that can take its next descriptor: enabled, not empty, none in progress, its partition not fenced. -/
def State.hqReady (s : State) (v q : Nat) : Option Nat :=
  match (s.vf v).bound with
  | none => none
  | some p =>
    if s.srcLive (.vf v) && s.rbit (kHq .prtHqCfg v q) 11 && s.reg (kHq .prtHqHead v q) != s.reg (kHq .prtHqTail v q) &&
        (aget (s.vf v).jobs q).isNone && !(s.shut p) && decide (s.phase = 0) then some p
    else none

/-- The fields of a descriptor (R527). -/
def hqFields (d : List Byte) : Bool :=
  (dfield d 0 1 == 1 || dfield d 0 1 == 2) && decide (dfield d 1 1 < 4) && dfield d 3 1 == 0 && dfield d 6 2 == 0 &&
  dfield d 8 8 % 4 == 0 && dfield d 0x10 8 % 4 == 0 && dfield d 0x18 4 % 4 == 0 && decide (4 ≤ dfield d 0x18 4 ∧ dfield d 0x18 4 ≤ 2 ^ 30) &&
  decide (dfield d 0x1C 1 < 4) && (d.drop 0x1D).all (· == 0#8)

/-- Its peg. -/
def hqPeg (d : List Byte) : PegHome := .spine (bitsOf (dfield d 4 2) 15 14) (bitsOf (dfield d 4 2) 13 0)

/-- A descriptor that ends with status 4 moves nothing. -/
def State.hqBad (s : State) (p : Nat) (d : List Byte) : Bool :=
  !(hqFields d) || ((dfield d 1 1).testBit 1 && s.partOfPeg (hqPeg d) != some p)

def State.setJob (s : State) (v q : Nat) (d : List Byte) (status : Nat) : State :=
  s.setVf v { s.vf v with jobs := aset (s.vf v).jobs q { desc := d.take 64, status := status } }

/-- HQ_HOST_TO_PARTITION (R526, R527, R528): the bytes that the host's completions bring, EP as poison. (DEDUCED, log 64). -/
def execHqHostToPartition (vf : BitVec 6) (q : BitVec 2) (desc : List Byte) (data : List (Byte × Bool)) (s : State) :
    Host.Outcome State Fault Refusal :=
  let v := vf.toNat
  .next (match s.hqReady v q.toNat with
    | none => s
    | some p =>
      if s.hqBad p desc then s.setJob v q.toNat desc 4
      else if dfield desc 0 1 ≠ 1 ∨ data.length ≠ dfield desc 0x18 4 then s
      else
        let (s1, ok) := s.vstore p (dfield desc 0x10 8) (dfield desc 0x1C 1) data
        s1.setJob v q.toNat desc (if ok then 1 else 2))

/-- Move partition bytes to the host page by page: what was moved, and whether every page translated. -/
def State.hqRead (s : State) (p va n hint : Nat) : State × List PByte × Bool :=
  (vpieces va n).foldl (fun (r : State × List PByte × Bool) (c : Nat × Nat) =>
    if r.2.2 then
      match r.1.vload p c.1 c.2 hint with
      | some (s', l) => (s', r.2.1 ++ l, true)
      | none => (r.1, r.2.1, false)
    else r) (s, [], true)

/-- HQ_PARTITION_TO_HOST (R526-R528): data writes may pass one another. -/
def execHqPartitionToHost (vf : BitVec 6) (q : BitVec 2) (desc : List Byte) (s : State) : Host.Outcome State Fault Refusal :=
  let v := vf.toNat
  .next (match s.hqReady v q.toNat with
    | none => s
    | some p =>
      if s.hqBad p desc then s.setJob v q.toNat desc 4
      else if dfield desc 0 1 ≠ 2 then s
      else
        let (s1, l, ok) := s.hqRead p (dfield desc 0x10 8) (dfield desc 0x18 4) (dfield desc 0x1C 1)
        let s2 := if l.isEmpty then s1 else { s1 with msgs := s1.msgs ++ [Msg.hostWrite v (dfield desc 8 8) l true] }
        s2.setJob v q.toNat desc (if !ok then 2 else if anyPoison l then 5 else 1))

/-- HQ_HOST_READ_TIMEOUT (R526): a host read without completion in 50 ms, or with an error completion; the bytes that came
before it stay moved. -/
def execHqHostReadTimeout (vf : BitVec 6) (q : BitVec 2) (desc : List Byte) (data : List (Byte × Bool)) (s : State) :
    Host.Outcome State Fault Refusal :=
  let v := vf.toNat
  .next (match s.hqReady v q.toNat with
    | none => s
    | some p =>
      if s.hqBad p desc then s.setJob v q.toNat desc 4
      else if dfield desc 0 1 ≠ 1 ∨ dfield desc 0x18 4 ≤ data.length then s
      else
        let (s1, ok) := s.vstore p (dfield desc 0x10 8) (dfield desc 0x1C 1) data
        s1.setJob v q.toNat desc (if ok then 3 else 2))

/-- HQ_DESCRIPTOR_COMPLETE (R527, R528, R538): status, head, signal, interrupt; one that the fence deadline ended signals
nothing. (DEDUCED, log 64). -/
def execHqDescriptorComplete (vf : BitVec 6) (q : BitVec 2) (s : State) : Host.Outcome State Fault Refusal :=
  let v := vf.toNat
  let Q := q.toNat
  .next (match aget (s.vf v).jobs Q with
    | none => s
    | some j =>
      let kh := kHq .prtHqHead v Q
      let head := (s.reg kh).toNat
      let ring := (s.reg (kHq .prtHqBaseLo v Q)).toNat + 2 ^ 32 * (s.reg (kHq .prtHqBaseHi v Q)).toNat
      let flags := dfield j.desc 1 1
      let s1 := s.setVf v { s.vf v with jobs := adel (s.vf v).jobs Q }
      let s2 := { s1 with msgs := s1.msgs ++ [Msg.hostWrite v (ring + head * 64 + 2) [(BitVec.ofNat 8 j.status, false)] false] }
      let s3 := s2.setReg kh (BitVec.ofNat 32 ((head + 1) % 2 ^ s2.rfld (kHq .prtHqCfg v Q) 4 0))
      let s4 := s3.count (if j.status = 1 then .prtHqDoneCnt else .prtHqErrCnt) (v * 8 + Q) 1
      let s5 := match (s.vf v).bound with
        | some p => if flags.testBit 1 ∧ j.status ≠ 6 then s4.engineSignal 0 p (hqPeg j.desc) 1#32 else s4
        | none => s4
      if flags.testBit 0 then s5.msix v (s5.rfld (kHq .prtHqCfg v Q) 10 5) else s5)

end Sys2Proof.Machine
end

