-- ==== Sys2Proof/Machine/Access.lean ====
section
/-! DEFINITION. Register writes (14, 19: R14, R100, R110, R434, R541-R545, R567, R579-R581 and the register tables of every
chapter): what a write of a word does at an offset, the registers with a behaviour of their own, the drop rules. -/
namespace Sys2Proof.Machine

/-- The state that an outcome answers; the meanings of commands always answer one. -/
def outcomeState (s : State) : Host.Outcome State Fault Refusal → State
  | .next s' => s'
  | _ => s

/-! ### Registers without a behaviour of their own -/

/-- Are the perturbation registers of a partition shut: it is not in partition debug, or the cycle is that of its fence
(R579)? -/
def State.pertShut (s : State) (p : Nat) : Bool := !(s.partDebug p) || s.cyc.fences.contains p

/-- Is a written value one that the register's table drops, or one that the state of its unit drops? (DEDUCED, log 44). -/
def State.dropsWrite (s : State) (k : RKey) (v : Word) : Bool :=
  let n := v.toNat
  let u := k.unit
  match k.reg with
  | .hbmArb => decide (wbits v 15 0 < 256)
  | .dckKeep => decide (wbits v 4 0 = 0 ∨ (s.waysOf (u % 8) (u / 8)).length < wbits v 4 0)
  | .trsBaseLo => s.trusses.any fun e => e.1.1 == u
  | .trsBaseHi => s.trusses.any fun e => e.1.1 == u
  | .jnrBaseLo => s.jctxs.any fun e => e.1.1 == u
  | .jnrBaseHi => s.jctxs.any fun e => e.1.1 == u
  | .lmdIdleTo => decide (n < 0x10000)
  | .lmdTimers => decide (wbits v 31 16 < 0x400)
  | .prtWdCtx => decide (n ≠ 0 ∧ n < 0x10000)
  | .prtWdEng => decide (n < 0x10000)
  | .prtFence => decide (wbits v 26 0 < 0x10000 ∨ 0x4000000 < wbits v 26 0)
  | .prtProbeBudget => decide (n < 0x100000)
  | .pwrTlim => decide (wbits v 6 0 < 80 ∨ 105 < wbits v 6 0)
  | .pwrRide => decide (n < 0x100000 ∨ 0x40000000 < n)
  | .prtHqBaseLo => s.rbit ⟨.prtHqCfg, u, 0⟩ 11
  | .prtHqBaseHi => s.rbit ⟨.prtHqCfg, u, 0⟩ 11
  | .prtHqCfg => decide (wbits v 4 0 < 4 ∨ 16 < wbits v 4 0)
  | .prtTelBaseLo => s.rbit (kTelCtl u) 0
  | .prtTelBaseHi => s.rbit (kTelCtl u) 0
  | .prtLogBaseLo => s.rbit (kLogCtl u) 0
  | .prtLogBaseHi => s.rbit (kLogCtl u) 0
  | .tstPertBridge => s.pertShut u
  | .tstPertCredit => s.pertShut u
  | .tstPertBp => s.pertShut u || decide (60 < wbits v 5 0)
  | .tstPertSkew => s.pertShut u || decide (8 < (BitVec.toInt (v.truncate 5 : BitVec 5)).natAbs)
  | .tstPertWake => s.pertShut u
  | _ => false

/-- A write of a register whose fields alone matter: by access type, with the fields that hold while a unit is on.
(DEDUCED, log 60). -/
def State.writePlain (s : State) (k : RKey) (v : Word) : State :=
  if s.dropsWrite k v then s
  else
    match k.reg with
    | .coreCtxFlags => (List.range 4).foldl (fun (s : State) (x : Nat) =>
        let c := s.ctx k.unit x
        s.setCtx k.unit x { c with flags := c.flags &&& ~~~(BitVec.ofNat 5 (wbits v (8 * x + 4) (8 * x))) }) s
    | .prtHqCfg =>
      let keep := s.rfld k 4 0
      if s.rbit k 11 then s.writeFields k (setField v 4 0 keep) else s.writeFields k v
    | .prtTelCtl =>
      let keep := s.rfld k 8 1
      if s.rbit k 0 then s.writeFields k (setField v 8 1 keep) else s.writeFields k v
    | .mgtHostMask =>
      (List.range 18).foldl (fun (s1 : State) (c : Nat) =>
        if s.rbit k c && !(wbit v c) && s1.rbit ⟨.mgtHostCause, 0, 0⟩ c then s1.msix 0 c else s1) (s.writeFields k v)
    | _ => s.writeFields k v

/-! ### Undefined operations (R172, R290, R303, R390, R405, R449, R518, R580) -/

/-- RESERVED_OP_COMMAND: a `go` write with an undefined `op` ends with result 2, unless a command runs. (DEDUCED, log 61). -/
def State.reservedOp (s : State) (k : RKey) (v : Word) : State :=
  let store (s : State) : State := s.setReg k ((k.reg.fields.filter fun f => f.acc == .rw).foldl (fun w f => f.write w v) (s.reg k))
  let u := k.unit
  match k.reg with
  | .trsCmd => if wbits v 13 12 = 1 ∨ wbits v 13 12 = 2 then s else (store s).cmdDone ⟨.trsStatus, u, 0⟩ 2 0 0 (some u)
  | .jnrCmd => if wbits v 11 10 = 1 ∨ wbits v 11 10 = 2 then s else (store s).cmdDone ⟨.jnrStatus, u, 0⟩ 2 0 0 (some u)
  | .jnrProgCmd =>
    if wbits v 10 9 = 1 ∨ wbits v 10 9 = 2 then s else (store s).cmdDone ⟨.jnrProgStatus, 0, 0⟩ 2 0 0 (some (wbits v 8 6))
  | .prtCmd => if (1 ≤ wbits v 5 3 ∧ wbits v 5 3 ≤ 6) ∨ s.rbit k 12 then s else (store s).prtDone 2 0
  | .prtMapCmd =>
    if wbits v 1 0 = 1 ∨ wbits v 1 0 = 2 ∨ s.rbit k 13 then s else (store s).cmdDone ⟨.prtMapStatus, u, 0⟩ 2 0 0 (s.vf u).bound
  | .mgtProbeCmd => if wbits v 1 0 = 1 ∨ wbits v 1 0 = 2 then s else (store s).cmdDone ⟨.mgtProbeStatus, 0, 0⟩ 2 0 0 none
  | .secUpdCmd => if (1 ≤ wbits v 2 0 ∧ wbits v 2 0 ≤ 5) ∨ s.rbit k 3 then s else (store s).cmdDone ⟨.secUpdStatus, 0, 0⟩ 2 0 0 none
  | .tstHbmCmd => if (1 ≤ wbits v 2 0 ∧ wbits v 2 0 ≤ 6) ∨ s.rbit k 13 then s else (store s).cmdDone ⟨.tstHbmStatus, 0, 0⟩ 2 0 0 none
  | _ => s

/-- The bit of `go` in the command registers that have an `op`. -/
def Reg.goBit : Reg → Option Nat
  | .trsCmd => some 14
  | .jnrCmd => some 12
  | .jnrProgCmd => some 11
  | .prtCmd => some 12
  | .prtMapCmd => some 13
  | .mgtProbeCmd => some 2
  | .secUpdCmd => some 3
  | .tstHbmCmd => some 13
  | _ => none

/-- RESERVED_OP_COMMAND (R290, R303, R390, R405, R449, R518, R580). -/
def execReservedOpCommand (src : Src) (off : Nat) (value : Word) (s : State) : Host.Outcome State Fault Refusal :=
  .next (match s.keyAt src off with
    | none => s
    | some k =>
      match k.reg.goBit with
      | some b => if wbit value b then s.accessW src k fun s => s.reservedOp k value else s
      | none => s)

/-! ### The write of a word -/

/-- The operation of an export or import request descriptor (R318). -/
def State.xpOp (s : State) (p : Nat) : Nat :=
  let va := (s.reg ⟨.jnrXpAddrLo, p, 0⟩).toNat + 2 ^ 32 * s.rfld ⟨.jnrXpAddrHi, p, 0⟩ 15 0
  match s.vload p va 1 0 with
  | some (_, l) => dfield (dataOf l) 0 1
  | none => 1

/-- A write of 1 to `go` of a command register with an `op`. What comes from the stack or the flash is taken as good: the
commands of their own carry the other outcomes. (DEDUCED, log 59). -/
def State.writeGo (s : State) (src : Src) (k : RKey) (v : Word) : Host.Outcome State Fault Refusal :=
  let p : BitVec 3 := BitVec.ofNat 3 k.unit
  let resv := Host.Outcome.next (s.accessW src k fun s => s.reservedOp k v)
  match k.reg with
  | .trsCmd =>
    (match wbits v 13 12 with
     | 1 => execTrussInstall p src (BitVec.ofNat 12 (wbits v 11 0)) s
     | 2 => execTrussRetire p src (BitVec.ofNat 12 (wbits v 11 0)) s
     | _ => resv)
  | .jnrCmd =>
    (match wbits v 11 10 with
     | 1 => execJoinerCtxInstall p src (BitVec.ofNat 10 (wbits v 9 0)) s
     | 2 => execJoinerCtxRetire p src (BitVec.ofNat 10 (wbits v 9 0)) s
     | _ => resv)
  | .jnrProgCmd =>
    (match wbits v 10 9 with
     | 1 => execJoinerProgLoad src (BitVec.ofNat 3 (wbits v 8 6)) (BitVec.ofNat 6 (wbits v 5 0)) s
     | 2 => execJoinerProgFree src (BitVec.ofNat 3 (wbits v 8 6)) (BitVec.ofNat 6 (wbits v 5 0)) s
     | _ => resv)
  | .prtCmd =>
    let q : BitVec 3 := BitVec.ofNat 3 (wbits v 2 0)
    let f : BitVec 6 := BitVec.ofNat 6 (wbits v 11 6)
    (match wbits v 5 3 with
     | 1 => execPartitionBuild src q s
     | 2 => execPartitionDissolve src q s
     | 3 => execCoreMigrate src q s
     | 4 => execSharesSet src q s
     | 5 => execVfBind src q f s
     | 6 => execVfUnbind src f s
     | _ => resv)
  | .prtMapCmd =>
    (match wbits v 1 0 with
     | 1 => .next (s.accessW src k fun s => s.mapPages k.unit (wbit v 2) (wbit v 3) (wbits v 12 4))
     | 2 => .next (s.accessW src k fun s => s.unmapPages k.unit (wbits v 12 4))
     | _ => resv)
  | .mgtProbeCmd =>
    (match wbits v 1 0 with
     | 1 => execProbePackLoad src s
     | 2 => execProbePackLoadForward src s
     | _ => resv)
  | .secUpdCmd =>
    (match wbits v 2 0 with
     | 1 => execImageWrite src true s
     | 2 => execFirmwareApply src s
     | 3 => execTrialConfirm src s
     | 4 => execPendingCancel src s
     | 5 => execSvnCommit src s
     | _ => resv)
  | .tstHbmCmd =>
    let st : BitVec 5 := BitVec.ofNat 5 (wbits v 7 3)
    let ch : BitVec 5 := BitVec.ofNat 5 (wbits v 12 8)
    (match wbits v 2 0 with
     | 1 => execHbmReadId src st ch (some (Config.hbmReply s.draws)) s
     | 2 => execHbmReadTemp src st ch (some (Config.hbmReply s.draws)) s
     | 3 => execHbmMbist src st ch (some ((Config.hbmReply s.draws).truncate 32)) s
     | 4 => execHbmLaneRepair src st ch true s
     | 5 => execHbmSoftRepair src st ch true s
     | 6 => execHbmHardRepair src st ch true s
     | _ => resv)
  | _ => .next s

/-- A write of a word to a register that has a behaviour of its own, `none` for every other. -/
def State.writeOwn (s : State) (src : Src) (k : RKey) (v : Word) : Option (Host.Outcome State Fault Refusal) :=
  let u := k.unit
  let p : BitVec 3 := BitVec.ofNat 3 u
  let die : BitVec 2 := BitVec.ofNat 2 (u / 64)
  let pool : BitVec 6 := BitVec.ofNat 6 u
  let plain := Host.Outcome.next (s.accessW src k fun s => s.writePlain k v)
  match k.reg with
  | .coreCtxMode => some (execCoreCtxModeWrite (BitVec.ofNat 19 u) src v s)
  | .coreCtxCmd =>
    let c : CoreAddr := BitVec.ofNat 19 u
    some (execCtxReset c src (BitVec.ofNat 4 (wbits v 7 4)) (outcomeState s (execCtxStop c src (BitVec.ofNat 4 (wbits v 3 0)) s)))
  | .bayCsCmd =>
    if !(wbit v 8) then some plain
    else
      let cs : BitVec 4 := BitVec.ofNat 4 (wbits v 7 4)
      some (match wbits v 2 0 with
        | 1 => execBayLoad u src cs s
        | 2 => execBayPatch u src cs s
        | 3 => execBayStart u src cs s
        | 4 => execBayPatchAndStart u src cs s
        | 5 => execBayResume u src cs s
        | n => execBayCmdUndefined u src (BitVec.ofNat 3 n) cs s)
  | .bayCtxStopat => some (execBayCtxStopatWrite u src v s)
  | .bayCtxP => some (execBayCtxPWrite u src (BitVec.ofNat 6 k.idx) v s)
  | .bayCtxPsegLo => some (execBayCtxPsegWrite u src (BitVec.ofNat 2 k.idx) false v s)
  | .bayCtxPsegHi => some (execBayCtxPsegWrite u src (BitVec.ofNat 2 k.idx) true v s)
  | .bayCtxPeg =>
    some (match s.baySel u with
      | some (c, x) => execPegHostWrite (.ctx c x k.idx) src v [] [] s
      | none => .next (s.accessW src k fun s => s.count .bayCtxDropCnt u 1))
  | .pegBentVal => some (execPegHostWrite (.bent u k.idx) src v [] [] s)
  | .pegSpnVal => some (execPegHostWrite (.spine u k.idx) src v [] [] s)
  | .spnPoolBaseLo => some (execPoolCfgWrite die pool src .baseLo v s)
  | .spnPoolBaseHi => some (execPoolCfgWrite die pool src .baseHi v s)
  | .spnPoolCfg => some (execPoolCfgWrite die pool src .cfg v s)
  | .spnPoolCmd => some (if wbit v 0 then execPoolReclaim die pool src s else .next s)
  | .dckCmd =>
    let d : BitVec 2 := BitVec.ofNat 2 (u / 8)
    let q : BitVec 3 := BitVec.ofNat 3 u
    let s1 := s.accessW src k fun s => s.setFld k 2 2 (s.rfld k 2 2 * (1 - wbits v 2 2))
    let s2 := if wbit v 1 then outcomeState s1 (execDeckUnkeep d q src s1) else s1
    some (if wbit v 0 then execDeckFlush d q src s2 else .next s2)
  | .jnrXpCmd =>
    some (if !(wbit v 0) then .next s else if s.xpOp u = 2 then execStateImport p src s else execStateExport p src s)
  | .lmdCtl =>
    let s1 := s.accessW src k fun s => s.writePlain k v
    some (if wbit v 2 then execPortRetrain (BitVec.ofNat 3 u) src s1 else .next s1)
  | .prtVfMask => some (.next (s.accessW src k fun s => s.maskVf u v))
  | .prtRst => some (if wbit v 0 then execPartitionReset p src s else .next s)
  | .mgtRstCmd =>
    let s1 := if wbit v 1 then outcomeState s (execPowerCycleRequest src s) else s
    some (if wbit v 0 then execPackageReset src s1 else .next s1)
  | .prtProbeGrant => some (if wbit v 14 then execProbeWindow p (some (src, (wbits v 6 0, wbits v 13 7))) [] s else plain)
  | .plbCmd => some (if wbit v 0 then execPlumbLoad src s else .next s)
  | .plbSnapCmd => some (if wbit v 0 then execSnapSchedule src s else .next s)
  | .plbSnapPer => some (execSnapPeriodWrite src v s)
  | .pwrCap => some (execPwrCapWrite [(src, v)] s)
  | .pwrPart => some (execPwrPartWrite src p v s)
  | .secKeyCmd => some (if wbit v 0 then execKeyBlobSubmit src s else .next s)
  | .secPartRoot => some (execPartRootWrite src p (BitVec.ofNat 4 k.idx) v s)
  | .mgtMaintCtl => some (execMaintHoldWrite src (wbit v 0) s)
  | .mgtEvlogSel => some (execEvlogSelect src v s)
  | .prtLogCtl => some (.next (s.accessW src k fun s => s.setLogCtl u v))
  | .prtLogTail => some (.next (s.accessW src k fun s => s.setLogTail u v))
  | .prtHqTail => some (.next (s.accessW src k fun s => s.setHqTail (u / 8) (u % 8) v))
  | .tstDbgCmd => some (if wbit v 0 then execDebugTokenSubmit src s else .next s)
  | .tstRecSel => some (execLaneRecordSelect src (BitVec.ofNat 16 (wbits v 15 0)) s)
  | r =>
    match r.goBit with
    | some b => some (if wbit v b then s.writeGo src k v else plain)
    | none => none

/-- The place of a source among the software writes of one cycle (R544). -/
def srcRank : Src → Nat
  | .i3c => 0
  | .vf v => v
  | .pf => 64
  | .welyar => 65

/-- A value to write with the fields that a write stores as they stand. -/
def State.standing (s : State) (k : RKey) (v : Word) : Word :=
  k.reg.fields.foldl (fun w f =>
    let hi := f.lo + f.width - 1
    if f.acc == .rw || f.acc == .cnt then setField w hi f.lo (wbits (s.reg k) hi f.lo) else w) v

/-- A write of a stored register among those of its cycle (R544): where a source served later has written it, the fields it
stores stay and its other bits act. -/
def State.writeSoft (s : State) (src : Src) (k : RKey) (v : Word) : State :=
  if s.dropsWrite k v then s
  else if (aget s.cyc.soft k).any fun r => decide (srcRank src < r) then s.writePlain k (s.standing k v)
  else
    let s1 := s.writePlain k v
    { s1 with cyc := { s1.cyc with soft := aset s1.cyc.soft k (srcRank src) } }

/-- A write of a whole word by a source to a register: one that does not reach it is dropped, and counted once. (DEDUCED,
log 58). -/
def State.writeReg (s : State) (src : Src) (k : RKey) (v : Word) : State :=
  if s.srcLive src && !(s.reaches src k true) then s.denied src
  else
    match s.writeOwn src k v with
    | some o => outcomeState s o
    | none => s.accessW src k fun s => s.writeSoft src k v

/-- A write of a word at an offset: a register, or a word of an MSI-X table in a VF window. A write that reaches no register
is dropped; a VF and the register target count it. -/
def State.writeOff (s : State) (src : Src) (off : Nat) (v : Word) : State :=
  match s.keyAt src off with
  | some k => s.writeReg src k v
  | none =>
    match src with
    | .vf n =>
      if 0x10000 ≤ off ∧ off < 0x10400 ∧ off % 4 = 0 then (if s.tableLive n then s.msixTableWrite n (off - 0x10000) v else s)
      else if s.srcLive src then s.denied src else s
    | .i3c => if !(s.srcLive src) || i3cReach off true then s else s.denied src
    | _ => if s.srcLive src then s.denied src else s

/-- REGISTER_WRITE (R14, R541-R545, R393): a write whose byte enables are not all set changes nothing. From 2^32 on, an
offset of the PF names its MSI-X table (R522). (DEDUCED, log 59). -/
def execRegisterWrite (src : Src) (off : Nat) (value : Word) (enables : BitVec 4) (s : State) : Host.Outcome State Fault Refusal :=
  .next (if enables ≠ 0xF#4 then s
    else if src = .pf ∧ 2 ^ 32 ≤ off then
      (if s.tableLive 0 ∧ off < 2 ^ 32 + 0x400 then s.msixTableWrite 0 (off - 2 ^ 32) value else s)
    else s.writeOff src off value)

end Sys2Proof.Machine
end

