-- ==== Sys2Proof/Machine/Mgmt.lean ====
section
/-! DEFINITION. The management path (18: R530-R533): the I3C targets and their addresses, the register target, the MCTP
endpoint, PLDM. -/
namespace Sys2Proof.Machine

def kI3cStatus : RKey := ⟨.mgtI3cStatus, 0, 0⟩

/-! ### I3C (R530, R531) -/

/-- I3C_ADDRESS_ASSIGN (R530): SETDASA or ENTDAA gives the MCTP target, or the register target, its dynamic address.
(DEDUCED, log 70). -/
def execI3cAddressAssign (mctp : Bool) (da : BitVec 7) (s : State) : Host.Outcome State Fault Refusal :=
  .next (if s.pkg = .off then s
    else if mctp then s.setFld kI3cStatus 6 0 da.toNat
    else s.setFld kI3cStatus 14 8 da.toNat)

/-- Does the register target reach an offset: its ranges, and for reads their slot-1 shadow (R531)? -/
def State.i3cMay (off : Nat) (write : Bool) : Bool :=
  i3cReach off write ||
  (!write && (match shadowAt off with
    | some (slot, o) => slot == 1 && i3cReach o false
    | none => false))

/-- What a private read returns: data bytes, where there are some, and the status byte (R531). (DEDUCED, log 69). -/
def State.i3cAnswer (s : State) (status : Nat) (data : Option Word) : State := { s with msgs := s.msgs ++ [.i3c status data] }

/-- Data bytes of a read that is not done: the spec states no value. (DEDUCED, log 69). -/
def State.i3cNoData (s : State) (status : Nat) : State :=
  { s with draws := s.draws + 1 }.i3cAnswer status (some (Config.undriven s.draws))

/-- I3C_REG_READ (R531): data and status 0; 1 where it may not reach; 2 until Welyar's runtime starts. (DEDUCED, log 69). -/
def execI3cRegRead (off : BitVec 32) (s : State) : Host.Outcome State Fault Refusal :=
  .next (if s.pkg = .off then s
    else if !s.answers then s.i3cNoData 2
    else if State.i3cMay off.toNat false then
      let (s1, w) := s.readOff .i3c off.toNat
      s1.i3cAnswer 0 (some w)
    else (s.denied .i3c).i3cNoData 1)

/-- I3C_REG_WRITE (R531). -/
def execI3cRegWrite (off : BitVec 32) (value : Word) (s : State) : Host.Outcome State Fault Refusal :=
  .next (if s.pkg = .off then s
    else if !s.answers then s.i3cAnswer 2 none
    else if State.i3cMay off.toNat true then (s.writeOff .i3c off.toNat value).i3cAnswer 0 none
    else (s.denied .i3c).i3cAnswer 1 none)

/-! ### MCTP and PLDM (R532, R533) -/

/-- A request over MCTP: answered once the management path is up. -/
def State.mgtAsk (s : State) (f : State → State) : State := if s.mgtLive then f s else s

def State.pldm (s : State) (r : PldmReply) : State := { s with msgs := s.msgs ++ [.pldmReply r] }

/-- MCTP_SET_ENDPOINT_ID (R532): the bus owner sets the EID. -/
def execMctpSetEndpointId (eid : Byte) (s : State) : Host.Outcome State Fault Refusal :=
  .next (s.mgtAsk fun s => s.setFld kI3cStatus 23 16 eid.toNat)

/-- PLDM_GET_TID (R532). -/
def execPldmGetTid (s : State) : Host.Outcome State Fault Refusal := .next (s.mgtAsk fun s => s.pldm (.tid s.tid))

/-- PLDM_SET_TID (R532). -/
def execPldmSetTid (tid : Byte) (s : State) : Host.Outcome State Fault Refusal :=
  .next (s.mgtAsk fun s => { s with tid := tid.toNat }.pldm .done)

/-- PLDM_GET_VERSION (R532). -/
def execPldmGetVersion (ty : Machine.PldmType) (s : State) : Host.Outcome State Fault Refusal :=
  let n : Nat := match ty with | .base => 0 | .platform => 1 | .fru => 2 | .firmware => 3 | .file => 4
  .next (s.mgtAsk fun s => s.pldm (.version (Config.pldmVersion n)))

/-- PLDM_GET_TYPES (R532): BIOS control is used as a requester only. (DESIGN CHOICE, log 75). -/
def execPldmGetTypes (s : State) : Host.Outcome State Fault Refusal :=
  .next (s.mgtAsk fun s => s.pldm (.types [.base, .platform, .fru, .firmware, .file]))

/-- The commands of a type (R532). -/
def PldmType.commands : PldmType → List PldmCmd
  | .base => [.getTid, .setTid, .getVersion, .getTypes, .getCommands]
  | .platform => [.getPdr, .getSensorReading, .getEffecter, .setEffecter, .setEventReceiver]
  | .fru => [.fruMetadata, .fruTable]
  | .firmware => [.updateComponent, .activateFirmware]
  | .file => [.fileTransfer]

/-- PLDM_GET_COMMANDS (R532). -/
def execPldmGetCommands (ty : Machine.PldmType) (s : State) : Host.Outcome State Fault Refusal :=
  .next (s.mgtAsk fun s => s.pldm (.commands ty.commands))

/-- PLDM_GET_PDR (R532). -/
def execPldmGetPdr (handle : Nat) (s : State) : Host.Outcome State Fault Refusal :=
  .next (s.mgtAsk fun s => s.pldm (.pdr (Config.pdr handle)))

/-- The register field a sensor reads (R532): 0x10 + d the temperature of die d, 0x20 + s of stack s, 0x40 PWR_IN, 0x41
PWR_FLOOR. (DESIGN CHOICE, log 75). -/
def State.sensor (s : State) (n : Nat) : Option Nat :=
  if 0x10 ≤ n ∧ n < 0x14 then some (s.rfld ⟨.pwrDieTemp, n - 0x10, 0⟩ 11 0)
  else if 0x20 ≤ n ∧ n < 0x38 then some (s.rfld ⟨.pwrHbmTemp, (n - 0x20) / 6, (n - 0x20) % 6⟩ 7 0)
  else if n = 0x40 then some (s.rfld ⟨.pwrIn, 0, 0⟩ 15 0)
  else if n = 0x41 then some (s.rfld ⟨.pwrFloor, 0, 0⟩ 15 0)
  else none

/-- PLDM_GET_SENSOR_READING (R532). -/
def execPldmGetSensorReading (sensor : Nat) (s : State) : Host.Outcome State Fault Refusal :=
  .next (s.mgtAsk fun s => s.pldm (match s.sensor sensor with | some v => .reading v | none => .invalid))

/-- PLDM_GET_EFFECTER (R532): effecter 0x80 is PWR_CAP in W. -/
def execPldmGetEffecter (effecter : Nat) (s : State) : Host.Outcome State Fault Refusal :=
  .next (s.mgtAsk fun s => s.pldm (if effecter = 0x80 then .reading (s.rfld ⟨.pwrCap, 0, 0⟩ 15 0) else .invalid))

/-- PLDM_SET_EFFECTER (R469, R532): a cap above 15,000 W is dropped. (DESIGN CHOICE, log 75). -/
def execPldmSetEffecter (effecter value : Nat) (s : State) : Host.Outcome State Fault Refusal :=
  .next (s.mgtAsk fun s =>
    if effecter = 0x80 ∧ value ≤ 15000 then (s.writeCap value).pldm .done else s.pldm .invalid)

/-- A new event receiver takes every event that was kept for one. (DEDUCED, log 77). -/
def State.setReceiver (s : State) (eid : Byte) : State :=
  { s with pldmRecv := some eid.toNat, pldmQueue := [], msgs := s.msgs ++ s.pldmQueue.map fun e => Msg.pldm e.1 e.2 }

/-- PLDM_SET_EVENT_RECEIVER (R533): the receiver gets the queued events, oldest first. -/
def execPldmSetEventReceiver (eid : Byte) (s : State) : Host.Outcome State Fault Refusal :=
  .next (s.mgtAsk fun s =>
    (s.pldm .done).setReceiver eid)

/-- PLDM_FRU_METADATA (R532). -/
def execPldmFruMetadata (s : State) : Host.Outcome State Fault Refusal := .next (s.mgtAsk fun s => s.pldm (.fruMeta Config.fruMeta))

/-- PLDM_FRU_TABLE (R1, R532): the ordering code, the stepping and SEC_SERIAL. -/
def execPldmFruTable (s : State) : Host.Outcome State Fault Refusal :=
  .next (s.mgtAsk fun s => s.pldm (.fru "TVR-VT424-B0" "B0" Config.serial))

/-- An update command of the management path: `op` 1 or 2 of R512 and R513; while another command runs it waits. (DEDUCED,
log 76). -/
def State.updAs (s : State) (op : Nat) (f : State → State) : State :=
  if s.rbit kUpdCmd 3 then (if s.rfld kUpdCmd 2 0 = op then f s else s) else f (s.setReg kUpdCmd (BitVec.ofNat 32 (op + 8)))

/-- The result of an update command once it has ended. (DEDUCED, log 76). -/
def State.updReply (s : State) : State :=
  if s.rbit kUpdCmd 3 then s else s.pldm (.update (s.rfld kUpdStatus 1 0) (s.rfld kUpdStatus 5 3))

/-- PLDM_UPDATE_COMPONENT (R512, R532): the Clasel image, component 0x0001, goes to the bank that was not booted. (DEDUCED,
log 76). -/
def execPldmUpdateComponent (component : Nat) (image : List Byte) (flashOk : Bool) (s : State) : Host.Outcome State Fault Refusal :=
  .next (s.mgtAsk fun s =>
    if component ≠ 1 then s.pldm .invalid
    else (s.updAs 1 fun s => s.writeImage image flashOk).updReply)

/-- PLDM_ACTIVATE_FIRMWARE (R513, R532). -/
def execPldmActivateFirmware (s : State) : Host.Outcome State Fault Refusal :=
  .next (s.mgtAsk fun s => (s.updAs 2 State.applyImage).updReply)

/-- PLDM_FILE_TRANSFER (R425, R532): the record of the last package reset or power cycle, as a file of at most 16 MiB.
(DEDUCED, log 77). -/
def execPldmFileTransfer (s : State) : Host.Outcome State Fault Refusal :=
  .next (s.mgtAsk fun s => s.pldm (.file (s.pkgRecord.take (2 ^ 24))))

/-- PLDM_UNSUPPORTED (R532): any other message type, PLDM type or command. -/
def execPldmUnsupported (s : State) : Host.Outcome State Fault Refusal := .next (s.mgtAsk fun s => s.pldm .unsupported)

end Sys2Proof.Machine
end

