-- ==== Sys2Proof/Machine/Tray.lean ====
section
/-! DEFINITION. The tray window and the JTAG port (11: R339, R354; 01: R29, R30; 20: R571-R573): requests served with Welyar's
rights, replies, the time limit, the JTAG instructions, debug accesses. -/
namespace Sys2Proof.Machine

/-! ### Who holds what an access reaches -/

/-- Is a register one of a unit that partition `p` holds? -/
def State.holdsReg (s : State) (p : Nat) (k : RKey) : Bool :=
  match k.blk with
  | .jnrProg => false
  | .idle => (s.part p).bents.contains (bentOf k.unit)
  | .bent => (s.part p).bents.contains k.unit
  | .vf => decide ((s.vf k.unit).bound = some p)
  | .vfTel => decide ((s.vf k.unit).bound = some p)
  | .vfHq => decide ((s.vf (k.unit / 8)).bound = some p)
  | _ => s.vfSees 64 p k

/-- The partition that holds what a package address names, when one does. -/
def State.heldAt (s : State) (a : Nat) : Option Nat :=
  match s.place a with
  | .hbm ch _ => s.partOfChan ch
  | .spad c _ => s.partOfCore c
  | .bay b _ => s.partOfBent (b / 16)
  | .reg off => (regAt off).bind fun k => (List.range 8).find? fun p => (s.part p).built && s.holdsReg p k
  | .hole => none

/-- Do `n` bytes from a package address lie in memory, or in whole words of the register window (R13, R24)? -/
def State.reachable (s : State) (a n : Nat) : Bool :=
  (List.range n).all fun i => match s.place (a + i) with | .hole => false | .reg _ => decide (a % 4 = 0 ∧ n % 4 = 0) | _ => true

def isReg (a : Nat) : Bool := decide (regBase ≤ a)

/-- A word read, joined to what the words before it gave. -/
def joinWord (l : List PByte) (p : State × Word) : State × List PByte := (p.1, l ++ clean (leBytes 4 p.2.toNat))

/-- Word `i` of a read of the register window. -/
def readPkgWord (a : Nat) (r : State × List PByte) (i : Nat) : State × List PByte :=
  joinWord r.2 (r.1.readOff .welyar (a - regBase + 4 * i))

/-- Read `n` bytes with the rights of Welyar; HBM of a partition through its deck, with hint 0 (R233, R235). -/
def State.readPkg (s : State) (a n : Nat) : State × List PByte :=
  if isReg a then (List.range (n / 4)).foldl (readPkgWord a) (s, [])
  else match s.heldAt a with
    | some p => s.loadP p a n 0
    | none => (s, s.pbytes a n)

/-- Write bytes with the rights of Welyar, at a place among the writers of the cycle (R20). -/
def State.writePkg (s : State) (rank a : Nat) (d : List Byte) : State :=
  if isReg a then
    (List.range (d.length / 4)).foldl (fun (s : State) i =>
      s.writeOff .welyar (a - regBase + 4 * i) (BitVec.ofNat 32 (leNat ((d.drop (4 * i)).take 4)))) s
  else match s.heldAt a with
    | some p => (s.storeBy rank p a 0 (clean d)).windowBytes a d.length
    | none => s.pokeP a (clean d)

/-! ### Requests and replies (R354) -/

/-- Since the start count would have wrapped, Welyar refuses every tray-window access until a new tray key is
provisioned (R339). (DEDUCED, log 71). -/
def State.trayShut (s : State) : Bool := s.starts / 2 ^ 24 != s.flash.trayAt / 2 ^ 24

def trayFlow (peer : Nat) : FlowKey := { tray := true, part := 0, addr := peer, ppart := 0 }

def State.sendTw (s : State) (m : TwMsg) : State := s.putMsg (trayFlow m.peer) 3 m.body

/-- A request that awaits its reply. -/
def State.askTw (s : State) (m : TwMsg) (by_ : TwBy) (next : Option TwMsg) : State :=
  { s.sendTw m with twOut := s.twOut ++ [{ msg := m, by_ := by_, t0 := s.plumb, next := next }] }

/-- The oldest received message of an operation, taken from those that wait. (DEDUCED, log 72). -/
def State.takeTw (s : State) (op : Nat) : Option (State × TwMsg) :=
  (s.twIn.find? fun m => m.op == op).map fun m => ({ s with twIn := s.twIn.erase m }, m)

/-- Why a request is not served: 1 an address that R24 rejects, 2 memory that a partition holds; 0 it is served. (DEDUCED,
log 71). -/
def State.twReason (s : State) (m : TwMsg) : Nat :=
  if !(s.reachable m.addr m.len) then 1
  else if !(isReg m.addr) && (List.range m.len).any fun i => (s.heldAt (m.addr + i)).isSome then 2
  else 0

def TwMsg.error (m : TwMsg) (reason : Nat) : TwMsg := { m with op := 5, poison := false, reason := reason, data := [] }

/-- TW_READ (R24, R29, R254, R354). (DEDUCED, log 71). -/
def execTwRead (s : State) : Host.Outcome State Fault Refusal :=
  .next (if !s.answers then s
    else match s.takeTw 1 with
      | none => s
      | some (s1, m) =>
        if s1.trayShut then s1
        else if s1.twReason m ≠ 0 then s1.sendTw (m.error (s1.twReason m))
        else
          let (s2, l) := s1.readPkg m.addr m.len
          s2.sendTw { m with op := 3, poison := anyPoison l, reason := 0, data := dataOf l })

/-- TW_WRITE (R24, R29, R354). -/
def execTwWrite (s : State) : Host.Outcome State Fault Refusal :=
  .next (if !s.answers then s
    else match s.takeTw 2 with
      | none => s
      | some (s1, m) =>
        if s1.trayShut then s1
        else if s1.twReason m ≠ 0 then s1.sendTw (m.error (s1.twReason m))
        else (s1.writePkg rankTray m.addr (m.data.take m.len)).sendTw { m with op := 4, poison := false, reason := 0, data := [] })

/-- A debug access ends with a status and, where it read, its data. (DEDUCED, log 73). -/
def State.dbgEnd (s : State) (st : Nat) (data : Option Word) : State :=
  match data with
  | some w => { s with tap := { s.tap with st := st, data := w, busy := false } }
  | none => { s with tap := { s.tap with st := st, data := Config.undriven s.draws, busy := false }, draws := s.draws + 1 }

/-- A request ends with a reply, or with none in time: its issuer is told. The check of a debug agent's target is followed by
the access when the target's `pkg` is 1 (R573). (DEDUCED, log 73). -/
def State.endTw (s : State) (q : TwReq) (r : Option TwMsg) : State :=
  let s1 := { s with twOut := s.twOut.erase q }
  match q.by_ with
  | .debug =>
    (match r, q.next with
     | some m, some n => if m.op = 3 ∧ !m.poison ∧ (leNat (m.data.take 4)).testBit 0 then s1.askTw n .debug none else s1.dbgEnd 1 none
     | some m, none =>
       if m.op = 3 then s1.dbgEnd (if m.poison then 3 else 0) (some (BitVec.ofNat 32 (leNat (m.data.take 4))))
       else s1.dbgEnd (if m.op = 4 then 0 else 1) none
     | none, _ => s1.dbgEnd 1 none)
  | b => { s1 with twDone := s1.twDone ++ [{ by_ := b, tag := q.msg.tag, reply := r }] }

/-- A reply of an operation returns to the request of its tag. -/
def State.twReply (s : State) (op : Nat) : State :=
  match s.takeTw op with
  | none => s
  | some (s1, m) =>
    match s1.twOut.find? fun q => q.msg.tag == m.tag && q.msg.peer == m.peer with
    | some q => s1.endTw q (some m)
    | none => s1

/-- TW_READ_DATA (R354). -/
def execTwReadData (s : State) : Host.Outcome State Fault Refusal := .next (if s.answers then s.twReply 3 else s)

/-- TW_WRITE_DONE (R354). -/
def execTwWriteDone (s : State) : Host.Outcome State Fault Refusal := .next (if s.answers then s.twReply 4 else s)

/-- TW_ERROR (R354). -/
def execTwError (s : State) : Host.Outcome State Fault Refusal := .next (if s.answers then s.twReply 5 else s)

/-- TW_REPLY_TIMEOUT (R354): no reply within 2^20 pt. -/
def execTwReplyTimeout (tag : Nat) (s : State) : Host.Outcome State Fault Refusal :=
  .next (match s.twOut.find? fun q => q.msg.tag == tag && decide (2 ^ 20 ≤ s.since q.t0) with
    | some q => s.endTw q none
    | none => s)

/-! ### Memory requests, and the tray-window accesses of Welyar and the export engines (R29, R30) -/

/-- The own slot: SLOT_ID[1:0], which PKG_TOPO shows (R29, R31). -/
def State.ownSlot (s : State) : Nat := s.rfld ⟨.pkgTopo, 0, 0⟩ 1 0

/-- A tray-window access (R29): a 2-bit slot above a 44-bit package address; one of the own slot is served here, every other
one leaves in a tray-window frame. `data` is what a write writes. (DEDUCED, log 72). -/
def State.trayAccess (s : State) (by_ : TwBy) (rank a len : Nat) (data : Option (List Byte)) : State :=
  let slot := bitsOf a 45 44
  let m : TwMsg := { peer := s.fabricAddr / 4 * 4 + slot, op := if data.isSome then 2 else 1, len := len, tag := s.draws % 2 ^ 16
                     addr := a % 2 ^ 44, data := data.getD [] }
  let s1 := { s with draws := s.draws + 1 }
  let done (s : State) (r : TwMsg) : State := { s with twDone := s.twDone ++ [{ by_ := by_, tag := m.tag, reply := some r }] }
  if slot ≠ s.ownSlot then (if s.trayShut then done s1 (m.error 2) else s1.askTw m by_ none)
  else if s1.twReason m ≠ 0 then done s1 (m.error (s1.twReason m))
  else match data with
    | some d => done (s1.writePkg rank m.addr d) { m with op := 4, data := [] }
    | none =>
      let (s2, l) := s1.readPkg m.addr len
      done s2 { m with op := 3, poison := anyPoison l, data := dataOf l }

/-- A memory request that names a tray-window address (R30): Welyar and the export engines issue it; a core's context is
faulted, and nothing is sent; another engine's is answered with an error. (DEDUCED, log 72). -/
def State.trayRequest (s : State) (P : Nat) (pepoch : BitVec 8) (by_ : Issuer) (a len : Nat) (data : Option (List Byte)) : State :=
  match by_ with
  | .core c _ _ x => s.faultCtx c x 0x08#8
  | .welyar => s.trayAccess .welyar by_.rank a len data
  | .engine n _ =>
    if n % 8 = 3 then s.trayAccess .exporter by_.rank a len data
    else s.reply P pepoch by_ [] true none s.plumb

/-- May a request be of a tray-window message: 4 to 512 bytes in whole words (R354)? -/
def twLen (n : Nat) : Bool := decide (4 ≤ n ∧ n ≤ 512 ∧ n % 4 = 0)

/-- MEM_READ (R20, R24, R29, R30, R235-R239, R416, R420). From 2^44 on the address is one of the tray window. -/
def execMemRead (p : BitVec 3) (pepoch : BitVec 8) (by_ : Issuer) (pa len : Nat) (hint : BitVec 2) (lat : Bool)
    (issued : Time) (errs : List MemErr) (s : State) : Host.Outcome State Fault Refusal :=
  .next (if pa < 2 ^ 44 then
      match by_ with
      | .welyar => let (s1, l) := s.readPkg pa len; s1.reply p.toNat pepoch by_ l (!(s.reachable pa len)) none issued
      | _ => s.memRead p.toNat pepoch by_ pa len hint lat issued errs
    else if twLen len then s.trayRequest p.toNat pepoch by_ pa len none
    else s.reply p.toNat pepoch by_ [] true none s.plumb)

/-- MEM_WRITE (R20, R24, R29, R30, R235, R236, R252, R402, R416, R420). -/
def execMemWrite (p : BitVec 3) (pepoch : BitVec 8) (by_ : Issuer) (pa : Nat) (hint : BitVec 2) (data : List (Byte × Bool))
    (errs : List MemErr) (s : State) : Host.Outcome State Fault Refusal :=
  .next (if pa < 2 ^ 44 then
      match by_ with
      | .welyar =>
        if s.reachable pa data.length then (s.writePkg by_.rank pa (dataOf data)).reply p.toNat pepoch by_ [] false none s.plumb
        else s.reply p.toNat pepoch by_ [] true none s.plumb
      | _ => s.memWrite p.toNat pepoch by_ pa hint data errs
    else if twLen data.length then s.trayRequest p.toNat pepoch by_ pa data.length (some (dataOf data))
    else s.reply p.toNat pepoch by_ [] true none s.plumb)

/-! ### JTAG (R571, R572) -/

def State.tdo (s : State) (bits : Nat) : State := { s with msgs := s.msgs ++ [.tdo bits] }

/-- An instruction is loaded; one whose condition does not hold acts as BYPASS. (PRESUMED, log 74). -/
def State.tapLoad (s : State) (ir : TapIr) (holds : Bool) : State :=
  { s with tap := { s.tap with ir := if holds then ir else .bypass } }

/-- A scan of the one-bit bypass register. (PRESUMED, log 74). -/
def State.bypass (s : State) : State := s.tdo 0

/-- What the boundary cells capture: the pins, cell 2 the level of PKG_RESET_N, cells 5 and 7 what the package drives on PWR_OK
and THERMTRIP_N. (PRESUMED, log 74). -/
def State.cells (s : State) (pins : BitVec 15) : List Bool :=
  (List.range 15).map fun i => if i = 2 then s.resetPin else if i = 5 then s.pwrOk else if i = 7 then s.thermtripN else pins.getLsbD i

/-- A scan of the boundary register. -/
def State.boundary (s : State) (pins shift : BitVec 15) : State :=
  let c := s.cells pins
  { s with tap := { s.tap with captured := c, preload := (List.range 15).map fun i => shift.getLsbD i } }.tdo (maskOf 15 fun i => c.getD i false)

/-- JTAG_RESET (R571): IDCODE at Test-Logic-Reset. -/
def execJtagReset (s : State) : Host.Outcome State Fault Refusal := .next (s.tapLoad .idcode true)

/-- JTAG_IDCODE (R571). -/
def execJtagIdcode (s : State) : Host.Outcome State Fault Refusal := .next ((s.tapLoad .idcode true).tdo 0x20424DCB)

/-- JTAG_SAMPLE_PRELOAD (R571, R572). -/
def execJtagSamplePreload (pins shift : BitVec 15) (s : State) : Host.Outcome State Fault Refusal :=
  .next ((s.tapLoad .sample true).boundary pins shift)

/-- JTAG_EXTEST (R571, R572): while PKG_RESET_N is low. -/
def execJtagExtest (pins shift : BitVec 15) (s : State) : Host.Outcome State Fault Refusal :=
  let s1 := s.tapLoad .extest (!s.resetPin)
  .next (if s.resetPin then s1.bypass else s1.boundary pins shift)

/-- JTAG_CLAMP (R571): while PKG_RESET_N is low; the bypass register. -/
def execJtagClamp (s : State) : Host.Outcome State Fault Refusal := .next (s.tapLoad .clamp (!s.resetPin)).bypass

/-- JTAG_HIGHZ (R571): while PKG_RESET_N is low; the bypass register. -/
def execJtagHighz (s : State) : Host.Outcome State Fault Refusal := .next (s.tapLoad .highz (!s.resetPin)).bypass

/-- JTAG_BYPASS (R571): 0xFF and every other code. -/
def execJtagBypass (s : State) : Host.Outcome State Fault Refusal := .next (s.tapLoad .bypass true).bypass

/-! ### Debug accesses (R573) -/

/-- The package address of an access: a register offset is one of the register window. -/
def dbgAddr (dr : BitVec 88) : Nat :=
  let a := bitsOf dr.toNat 49 6
  if dr.getLsbD 2 then a else regBase + a % 2 ^ 32

/-- An access inside the package: refused where R24 rejects it, or where a partition that is not in partition debug holds
what it reaches. -/
def State.dbgLocal (s : State) (a : Nat) (write : Bool) (v : Word) : State :=
  let barred := (List.range 4).any fun i => match s.heldAt (a + i) with | some p => !(s.partDebug p) | none => false
  if !(s.reachable a 4) || barred then s.dbgEnd 1 none
  else if write then (s.writePkg (Issuer.rank .welyar) a (leBytes 4 v.toNat)).dbgEnd 0 none
  else
    let (s1, l) := s.readPkg a 4
    s1.dbgEnd (if anyPoison l then 3 else 0) (some (BitVec.ofNat 32 (leNat (dataOf l))))

/-- An access to another package of the tray: its TST_DBG_STATE is read first. (DEDUCED, log 72). -/
def State.dbgTray (s : State) (slot a : Nat) (write : Bool) (v : Word) : State :=
  if s.trayShut then s.dbgEnd 1 none
  else
    let peer := s.fabricAddr / 4 * 4 + slot
    let tag (n : Nat) : Nat := (s.draws + n) % 2 ^ 16
    let check : TwMsg := { peer := peer, op := 1, tag := tag 0, addr := regBase + (kDbgState.addr.getD 0) }
    let m : TwMsg := { peer := peer, op := if write then 2 else 1, tag := tag 1, addr := a
                       data := if write then leBytes 4 v.toNat else [] }
    { s with draws := s.draws + 2, tap := { s.tap with st := 2, busy := true } }.askTw check .debug (some m)

/-- Update-DR starts an access; one that comes while another runs gets status 2. (DEDUCED, log 73). -/
def State.dbgAccess (s : State) (dr : BitVec 88) : State :=
  let n := dr.toNat
  let op := bitsOf n 1 0
  let v := BitVec.ofNat 32 (bitsOf n 81 50)
  let slot := bitsOf n 5 4
  if op = 0 then s
  else if s.tap.busy then { s with tap := { s.tap with st := 2 } }
  else if op = 3 then s.dbgEnd 1 none
  else if dr.getLsbD 3 ∧ slot ≠ s.ownSlot then s.dbgTray slot (dbgAddr dr) (op = 2) v
  else s.dbgLocal (dbgAddr dr) (op = 2) v

/-- DBGACC (R29, R30, R571, R573): in package debug; else BYPASS. The capture shows the previous access. (DEDUCED, log 73). -/
def execDbgacc (dr : BitVec 88) (s : State) : Host.Outcome State Fault Refusal :=
  let s1 := s.tapLoad .dbgacc s.pkgDebug
  .next (if !s.pkgDebug then s1.bypass
    else { s1 with msgs := s1.msgs ++ [Msg.dbg s1.tap.st s1.tap.data] }.dbgAccess dr)

end Sys2Proof.Machine
end

