-- ==== Sys2Proof/Machine/Dispatch.lean ====
section
/-! DEFINITION. The dispatch of the commands: one arm per row of spec/opcode_table.json. -/
namespace Sys2Proof.Machine

/-- The effect of a command on everything but the queue. (DESIGN CHOICE, log 1). -/
def exec (i : Instr) (s : State) : Host.Outcome State Fault Refusal :=
  match i with
  | .opAdd core => Sys2Proof.Machine.execOpAdd core s
  | .opSub core => Sys2Proof.Machine.execOpSub core s
  | .opAnd core => Sys2Proof.Machine.execOpAnd core s
  | .opOr core => Sys2Proof.Machine.execOpOr core s
  | .opXor core => Sys2Proof.Machine.execOpXor core s
  | .opSll core => Sys2Proof.Machine.execOpSll core s
  | .opSrl core => Sys2Proof.Machine.execOpSrl core s
  | .opSra core => Sys2Proof.Machine.execOpSra core s
  | .opMul core => Sys2Proof.Machine.execOpMul core s
  | .opSlt core => Sys2Proof.Machine.execOpSlt core s
  | .opSltu core => Sys2Proof.Machine.execOpSltu core s
  | .opAddi core => Sys2Proof.Machine.execOpAddi core s
  | .opAndi core => Sys2Proof.Machine.execOpAndi core s
  | .opOri core => Sys2Proof.Machine.execOpOri core s
  | .opXori core => Sys2Proof.Machine.execOpXori core s
  | .opLui core => Sys2Proof.Machine.execOpLui core s
  | .opSlli core => Sys2Proof.Machine.execOpSlli core s
  | .opSrli core => Sys2Proof.Machine.execOpSrli core s
  | .opSrai core => Sys2Proof.Machine.execOpSrai core s
  | .opLw core => Sys2Proof.Machine.execOpLw core s
  | .opSw core => Sys2Proof.Machine.execOpSw core s
  | .opGetp core => Sys2Proof.Machine.execOpGetp core s
  | .opGets core => Sys2Proof.Machine.execOpGets core s
  | .opClrf core => Sys2Proof.Machine.execOpClrf core s
  | .opSetm core => Sys2Proof.Machine.execOpSetm core s
  | .opBeq core => Sys2Proof.Machine.execOpBeq core s
  | .opBne core => Sys2Proof.Machine.execOpBne core s
  | .opBlt core => Sys2Proof.Machine.execOpBlt core s
  | .opBge core => Sys2Proof.Machine.execOpBge core s
  | .opBltu core => Sys2Proof.Machine.execOpBltu core s
  | .opBgeu core => Sys2Proof.Machine.execOpBgeu core s
  | .opJal core => Sys2Proof.Machine.execOpJal core s
  | .opJr core => Sys2Proof.Machine.execOpJr core s
  | .opPwait core => Sys2Proof.Machine.execOpPwait core s
  | .opPsig core => Sys2Proof.Machine.execOpPsig core s
  | .opPread core => Sys2Proof.Machine.execOpPread core s
  | .opEnd core => Sys2Proof.Machine.execOpEnd core s
  | .mmul core => Sys2Proof.Machine.execMmul core s
  | .mmulRs core => Sys2Proof.Machine.execMmulRs core s
  | .mmulAg core => Sys2Proof.Machine.execMmulAg core s
  | .mmulAr core => Sys2Proof.Machine.execMmulAr core s
  | .csend core => Sys2Proof.Machine.execCsend core s
  | .copy core => Sys2Proof.Machine.execCopy core s
  | .astream core => Sys2Proof.Machine.execAstream core s
  | .wstream core => Sys2Proof.Machine.execWstream core s
  | .requant core => Sys2Proof.Machine.execRequant core s
  | .fill core => Sys2Proof.Machine.execFill core s
  | .ringOpen core => Sys2Proof.Machine.execRingOpen core s
  | .ringClose core => Sys2Proof.Machine.execRingClose core s
  | .ringCloseComplete core ring => Sys2Proof.Machine.execRingCloseComplete core ring s
  | .gather core => Sys2Proof.Machine.execGather core s
  | .poolAlloc core => Sys2Proof.Machine.execPoolAlloc core s
  | .poolFree core => Sys2Proof.Machine.execPoolFree core s
  | .poolGive core => Sys2Proof.Machine.execPoolGive core s
  | .lineProduce xfer => Sys2Proof.Machine.execLineProduce xfer s
  | .transferComplete send xfer => Sys2Proof.Machine.execTransferComplete send xfer s
  | .tileStart core => Sys2Proof.Machine.execTileStart core s
  | .arrayLineRead core errs => Sys2Proof.Machine.execArrayLineRead core errs s
  | .rowDrain core => Sys2Proof.Machine.execRowDrain core s
  | .tileComplete core => Sys2Proof.Machine.execTileComplete core s
  | .contextSwitch core => Sys2Proof.Machine.execContextSwitch core s
  | .heldStartRelease core ctx => Sys2Proof.Machine.execHeldStartRelease core ctx s
  | .bayLoad bay src ctxs => Sys2Proof.Machine.execBayLoad bay src ctxs s
  | .bayPatch bay src ctxs => Sys2Proof.Machine.execBayPatch bay src ctxs s
  | .bayStart bay src ctxs => Sys2Proof.Machine.execBayStart bay src ctxs s
  | .bayPatchAndStart bay src ctxs => Sys2Proof.Machine.execBayPatchAndStart bay src ctxs s
  | .bayResume bay src ctxs => Sys2Proof.Machine.execBayResume bay src ctxs s
  | .bayCmdUndefined bay src cmd ctxs => Sys2Proof.Machine.execBayCmdUndefined bay src cmd ctxs s
  | .bayCommandDone bay => Sys2Proof.Machine.execBayCommandDone bay s
  | .bayCtxPWrite bay src reg value => Sys2Proof.Machine.execBayCtxPWrite bay src reg value s
  | .bayCtxStopatWrite bay src value => Sys2Proof.Machine.execBayCtxStopatWrite bay src value s
  | .bayCtxPsegWrite bay src seg hi value => Sys2Proof.Machine.execBayCtxPsegWrite bay src seg hi value s
  | .coreCtxModeWrite core src value => Sys2Proof.Machine.execCoreCtxModeWrite core src value s
  | .ctxStop core src stops => Sys2Proof.Machine.execCtxStop core src stops s
  | .ctxReset core src resets => Sys2Proof.Machine.execCtxReset core src resets s
  | .pegSignalArrive home ids => Sys2Proof.Machine.execPegSignalArrive home ids s
  | .pegPoll core ctx => Sys2Proof.Machine.execPegPoll core ctx s
  | .pegHostWrite home src value more lost => Sys2Proof.Machine.execPegHostWrite home src value more lost s
  | .pegMessage => Sys2Proof.Machine.execPegMessage s
  | .deadlockFire p => Sys2Proof.Machine.execDeadlockFire p s
  | .poolReclaim die pool src => Sys2Proof.Machine.execPoolReclaim die pool src s
  | .poolCfgWrite die pool src reg value => Sys2Proof.Machine.execPoolCfgWrite die pool src reg value s
  | .memRead p pepoch by_ pa len hint lat issued errs => Sys2Proof.Machine.execMemRead p pepoch by_ pa len hint lat issued errs s
  | .memWrite p pepoch by_ pa hint data errs => Sys2Proof.Machine.execMemWrite p pepoch by_ pa hint data errs s
  | .memReplyArrive reply => Sys2Proof.Machine.execMemReplyArrive reply s
  | .bulkPromote chan waited => Sys2Proof.Machine.execBulkPromote chan waited s
  | .hbmScrubPass chan errs => Sys2Proof.Machine.execHbmScrubPass chan errs s
  | .deckScrubPass die errs => Sys2Proof.Machine.execDeckScrubPass die errs s
  | .hbmLatMaxRead chan src => Sys2Proof.Machine.execHbmLatMaxRead chan src s
  | .deckFlush die p src => Sys2Proof.Machine.execDeckFlush die p src s
  | .deckFlushComplete die p => Sys2Proof.Machine.execDeckFlushComplete die p s
  | .deckUnkeep die p src => Sys2Proof.Machine.execDeckUnkeep die p src s
  | .trussInstall p src id => Sys2Proof.Machine.execTrussInstall p src id s
  | .trussRetire p src id => Sys2Proof.Machine.execTrussRetire p src id s
  | .colSupply send unit => Sys2Proof.Machine.execColSupply send unit s
  | .colPartial rec_ errs => Sys2Proof.Machine.execColPartial rec_ errs s
  | .colResult rec_ errs => Sys2Proof.Machine.execColResult rec_ errs s
  | .colMaxReply rec_ => Sys2Proof.Machine.execColMaxReply rec_ s
  | .colExponent rec_ => Sys2Proof.Machine.execColExponent rec_ s
  | .colSettle rec_ => Sys2Proof.Machine.execColSettle rec_ s
  | .colRetry rec_ => Sys2Proof.Machine.execColRetry rec_ s
  | .colGatherData rec_ => Sys2Proof.Machine.execColGatherData rec_ s
  | .colTimeout p id pos => Sys2Proof.Machine.execColTimeout p id pos s
  | .joinerCtxInstall p src id => Sys2Proof.Machine.execJoinerCtxInstall p src id s
  | .joinerCtxRetire p src id => Sys2Proof.Machine.execJoinerCtxRetire p src id s
  | .joinerProgLoad src p slot => Sys2Proof.Machine.execJoinerProgLoad src p slot s
  | .joinerProgFree src p slot => Sys2Proof.Machine.execJoinerProgFree src p slot s
  | .joinerBlockOffer p entry block => Sys2Proof.Machine.execJoinerBlockOffer p entry block s
  | .joinerStepLatch p jctx => Sys2Proof.Machine.execJoinerStepLatch p jctx s
  | .joinerBlockApply p jctx num block dup => Sys2Proof.Machine.execJoinerBlockApply p jctx num block dup s
  | .joinerRowApply p jctx num row dup => Sys2Proof.Machine.execJoinerRowApply p jctx num row dup s
  | .stateExport p src => Sys2Proof.Machine.execStateExport p src s
  | .stateImport p src => Sys2Proof.Machine.execStateImport p src s
  | .frameClose key => Sys2Proof.Machine.execFrameClose key s
  | .dataFrame port cws frame => Sys2Proof.Machine.execDataFrame port cws frame s
  | .trayWindowFrame port cws frame => Sys2Proof.Machine.execTrayWindowFrame port cws frame s
  | .ackFrame port cws frame => Sys2Proof.Machine.execAckFrame port cws frame s
  | .linkControlFrame port cws frame msg => Sys2Proof.Machine.execLinkControlFrame port cws frame msg s
  | .idleFrame port cws frame => Sys2Proof.Machine.execIdleFrame port cws frame s
  | .ackSend key => Sys2Proof.Machine.execAckSend key s
  | .nakTimeout key => Sys2Proof.Machine.execNakTimeout key s
  | .frameResendTimeout key seq => Sys2Proof.Machine.execFrameResendTimeout key seq s
  | .flowDormant key => Sys2Proof.Machine.execFlowDormant key s
  | .portAvoidExpire addr port => Sys2Proof.Machine.execPortAvoidExpire addr port s
  | .nextKeyInstall owner => Sys2Proof.Machine.execNextKeyInstall owner s
  | .lumderLaneSwapRequest port lane => Sys2Proof.Machine.execLumderLaneSwapRequest port lane s
  | .lumderLaneSwap port lane boundary => Sys2Proof.Machine.execLumderLaneSwap port lane boundary s
  | .lumderLaneFail port lane => Sys2Proof.Machine.execLumderLaneFail port lane s
  | .portTrainDone port errs partner => Sys2Proof.Machine.execPortTrainDone port errs partner s
  | .partnerSilent port => Sys2Proof.Machine.execPartnerSilent port s
  | .sleepRequest port boundary => Sys2Proof.Machine.execSleepRequest port boundary s
  | .sleepEnter port => Sys2Proof.Machine.execSleepEnter port s
  | .wakeTrigger port tone => Sys2Proof.Machine.execWakeTrigger port tone s
  | .fastWakeDone port lock partner rtt => Sys2Proof.Machine.execFastWakeDone port lock partner rtt s
  | .wakeToneTimeout port => Sys2Proof.Machine.execWakeToneTimeout port s
  | .portRetrain port src => Sys2Proof.Machine.execPortRetrain port src s
  | .twRead => Sys2Proof.Machine.execTwRead s
  | .twWrite => Sys2Proof.Machine.execTwWrite s
  | .twReadData => Sys2Proof.Machine.execTwReadData s
  | .twWriteDone => Sys2Proof.Machine.execTwWriteDone s
  | .twError => Sys2Proof.Machine.execTwError s
  | .twReplyTimeout tag => Sys2Proof.Machine.execTwReplyTimeout tag s
  | .d2dFlitReceive die e bundle new errs => Sys2Proof.Machine.execD2dFlitReceive die e bundle new errs s
  | .d2dReplayRequest die e bundle seq => Sys2Proof.Machine.execD2dReplayRequest die e bundle seq s
  | .d2dLaneSwapRequest die e bundle lane => Sys2Proof.Machine.execD2dLaneSwapRequest die e bundle lane s
  | .d2dLaneSwap link bundle ahead => Sys2Proof.Machine.execD2dLaneSwap link bundle ahead s
  | .d2dBundleFail link bundle lane => Sys2Proof.Machine.execD2dBundleFail link bundle lane s
  | .d2dBundleRetrainDone link bundle errs => Sys2Proof.Machine.execD2dBundleRetrainDone link bundle errs s
  | .partitionBuild src p => Sys2Proof.Machine.execPartitionBuild src p s
  | .partitionDissolve src p => Sys2Proof.Machine.execPartitionDissolve src p s
  | .coreMigrate src p => Sys2Proof.Machine.execCoreMigrate src p s
  | .sharesSet src p => Sys2Proof.Machine.execSharesSet src p s
  | .vfBind src p vf => Sys2Proof.Machine.execVfBind src p vf s
  | .vfUnbind src vf => Sys2Proof.Machine.execVfUnbind src vf s
  | .pageMap vf w lg count => Sys2Proof.Machine.execPageMap vf w lg count s
  | .pageUnmap vf count => Sys2Proof.Machine.execPageUnmap vf count s
  | .pageUnmapComplete vf => Sys2Proof.Machine.execPageUnmapComplete vf s
  | .vfMaskWrite vf value => Sys2Proof.Machine.execVfMaskWrite vf value s
  | .partitionReset p src => Sys2Proof.Machine.execPartitionReset p src s
  | .fenceDeadline p => Sys2Proof.Machine.execFenceDeadline p s
  | .ctxWatchdog core ctx => Sys2Proof.Machine.execCtxWatchdog core ctx s
  | .engineWatchdog kind unit p waited others => Sys2Proof.Machine.execEngineWatchdog kind unit p waited others s
  | .engineReset kind unit p => Sys2Proof.Machine.execEngineReset kind unit p s
  | .resetBudgetExpire unit => Sys2Proof.Machine.execResetBudgetExpire unit s
  | .packageReset src => Sys2Proof.Machine.execPackageReset src s
  | .powerCycleRequest src => Sys2Proof.Machine.execPowerCycleRequest src s
  | .probePackLoad src => Sys2Proof.Machine.execProbePackLoad src s
  | .probePackLoadForward src => Sys2Proof.Machine.execProbePackLoadForward src s
  | .unitProbe kind unit result => Sys2Proof.Machine.execUnitProbe kind unit result s
  | .probeWindow p grant results => Sys2Proof.Machine.execProbeWindow p grant results s
  | .probeBudgetExpire p => Sys2Proof.Machine.execProbeBudgetExpire p s
  | .coreSubstitute core result => Sys2Proof.Machine.execCoreSubstitute core result s
  | .channelSubstitute chan spare => Sys2Proof.Machine.execChannelSubstitute chan spare s
  | .channelCopyDone chan => Sys2Proof.Machine.execChannelCopyDone chan s
  | .controlParityError unit => Sys2Proof.Machine.execControlParityError unit s
  | .residueMismatch unit => Sys2Proof.Machine.execResidueMismatch unit s
  | .ppsPulse => Sys2Proof.Machine.execPpsPulse s
  | .plumbCorrection => Sys2Proof.Machine.execPlumbCorrection s
  | .ppsHoldover => Sys2Proof.Machine.execPpsHoldover s
  | .plumbLoad src => Sys2Proof.Machine.execPlumbLoad src s
  | .islandTimeSync dom dev => Sys2Proof.Machine.execIslandTimeSync dom dev s
  | .snapSchedule src => Sys2Proof.Machine.execSnapSchedule src s
  | .snapPeriodWrite src value => Sys2Proof.Machine.execSnapPeriodWrite src value s
  | .snapshotLatch slot => Sys2Proof.Machine.execSnapshotLatch slot s
  | .dumpComplete vf => Sys2Proof.Machine.execDumpComplete vf s
  | .governorInterval p pb f => Sys2Proof.Machine.execGovernorInterval p pb f s
  | .peakCheck p => Sys2Proof.Machine.execPeakCheck p s
  | .boostStep => Sys2Proof.Machine.execBoostStep s
  | .pointSwitch bent => Sys2Proof.Machine.execPointSwitch bent s
  | .thermalInterval bents dies => Sys2Proof.Machine.execThermalInterval bents dies s
  | .partitionPark f => Sys2Proof.Machine.execPartitionPark f s
  | .partitionUnpark f fw => Sys2Proof.Machine.execPartitionUnpark f fw s
  | .dieTrip die temp => Sys2Proof.Machine.execDieTrip die temp s
  | .dieTripRestart die => Sys2Proof.Machine.execDieTripRestart die s
  | .thermalShutdown temp => Sys2Proof.Machine.execThermalShutdown temp s
  | .hbmTempPoll die temps => Sys2Proof.Machine.execHbmTempPoll die temps s
  | .pwrCapWrite writes => Sys2Proof.Machine.execPwrCapWrite writes s
  | .pwrPartWrite src p value => Sys2Proof.Machine.execPwrPartWrite src p value s
  | .pwrfailFall => Sys2Proof.Machine.execPwrfailFall s
  | .bladeUndervolt => Sys2Proof.Machine.execBladeUndervolt s
  | .bladeCollapse => Sys2Proof.Machine.execBladeCollapse s
  | .pfHoldDone => Sys2Proof.Machine.execPfHoldDone s
  | .pfFlushDone => Sys2Proof.Machine.execPfFlushDone s
  | .rideExpire => Sys2Proof.Machine.execRideExpire s
  | .railsDownDone => Sys2Proof.Machine.execRailsDownDone s
  | .inputReturn => Sys2Proof.Machine.execInputReturn s
  | .coldStart => Sys2Proof.Machine.execColdStart s
  | .bladesInRange => Sys2Proof.Machine.execBladesInRange s
  | .pkgResetAssert => Sys2Proof.Machine.execPkgResetAssert s
  | .bootSequence inp => Sys2Proof.Machine.execBootSequence inp s
  | .standbyTakeover inp => Sys2Proof.Machine.execStandbyTakeover inp s
  | .lockstepMismatch site => Sys2Proof.Machine.execLockstepMismatch site s
  | .datetimeReply seconds => Sys2Proof.Machine.execDatetimeReply seconds s
  | .datetimeTimeout => Sys2Proof.Machine.execDatetimeTimeout s
  | .imageWrite src flashOk => Sys2Proof.Machine.execImageWrite src flashOk s
  | .firmwareApply src => Sys2Proof.Machine.execFirmwareApply src s
  | .trialConfirm src => Sys2Proof.Machine.execTrialConfirm src s
  | .pendingCancel src => Sys2Proof.Machine.execPendingCancel src s
  | .svnCommit src => Sys2Proof.Machine.execSvnCommit src s
  | .keyBlobSubmit src => Sys2Proof.Machine.execKeyBlobSubmit src s
  | .partRootWrite src p word value => Sys2Proof.Machine.execPartRootWrite src p word value s
  | .maintRequest code unit => Sys2Proof.Machine.execMaintRequest code unit s
  | .maintActivityEnd code unit => Sys2Proof.Machine.execMaintActivityEnd code unit s
  | .maintHoldWrite src hold => Sys2Proof.Machine.execMaintHoldWrite src hold s
  | .apertureAccess off len write => Sys2Proof.Machine.execApertureAccess off len write s
  | .hqTailWrite vf q value => Sys2Proof.Machine.execHqTailWrite vf q value s
  | .hqHostToPartition vf q desc data => Sys2Proof.Machine.execHqHostToPartition vf q desc data s
  | .hqPartitionToHost vf q desc => Sys2Proof.Machine.execHqPartitionToHost vf q desc s
  | .hqDescriptorComplete vf q => Sys2Proof.Machine.execHqDescriptorComplete vf q s
  | .hqHostReadTimeout vf q desc data => Sys2Proof.Machine.execHqHostReadTimeout vf q desc data s
  | .hostLinkUp speed width => Sys2Proof.Machine.execHostLinkUp speed width s
  | .hotReset => Sys2Proof.Machine.execHotReset s
  | .pfFlr => Sys2Proof.Machine.execPfFlr s
  | .vfFlr vf => Sys2Proof.Machine.execVfFlr vf s
  | .i3cAddressAssign mctp da => Sys2Proof.Machine.execI3cAddressAssign mctp da s
  | .i3cRegRead off => Sys2Proof.Machine.execI3cRegRead off s
  | .i3cRegWrite off value => Sys2Proof.Machine.execI3cRegWrite off value s
  | .mctpSetEndpointId eid => Sys2Proof.Machine.execMctpSetEndpointId eid s
  | .pldmGetTid => Sys2Proof.Machine.execPldmGetTid s
  | .pldmSetTid tid => Sys2Proof.Machine.execPldmSetTid tid s
  | .pldmGetVersion ty => Sys2Proof.Machine.execPldmGetVersion ty s
  | .pldmGetTypes => Sys2Proof.Machine.execPldmGetTypes s
  | .pldmGetCommands ty => Sys2Proof.Machine.execPldmGetCommands ty s
  | .pldmGetPdr handle => Sys2Proof.Machine.execPldmGetPdr handle s
  | .pldmGetSensorReading sensor => Sys2Proof.Machine.execPldmGetSensorReading sensor s
  | .pldmGetEffecter effecter => Sys2Proof.Machine.execPldmGetEffecter effecter s
  | .pldmSetEffecter effecter value => Sys2Proof.Machine.execPldmSetEffecter effecter value s
  | .pldmSetEventReceiver eid => Sys2Proof.Machine.execPldmSetEventReceiver eid s
  | .pldmFruMetadata => Sys2Proof.Machine.execPldmFruMetadata s
  | .pldmFruTable => Sys2Proof.Machine.execPldmFruTable s
  | .pldmUpdateComponent component image flashOk => Sys2Proof.Machine.execPldmUpdateComponent component image flashOk s
  | .pldmActivateFirmware => Sys2Proof.Machine.execPldmActivateFirmware s
  | .pldmFileTransfer => Sys2Proof.Machine.execPldmFileTransfer s
  | .pldmUnsupported => Sys2Proof.Machine.execPldmUnsupported s
  | .spdmVersion => Sys2Proof.Machine.execSpdmVersion s
  | .spdmCertificate slot => Sys2Proof.Machine.execSpdmCertificate slot s
  | .spdmChallenge slot => Sys2Proof.Machine.execSpdmChallenge slot s
  | .spdmMeasurements index => Sys2Proof.Machine.execSpdmMeasurements index s
  | .spdmKeyExchange id => Sys2Proof.Machine.execSpdmKeyExchange id s
  | .spdmHeartbeat id => Sys2Proof.Machine.execSpdmHeartbeat id s
  | .spdmHeartbeatTimeout id => Sys2Proof.Machine.execSpdmHeartbeatTimeout id s
  | .spdmKeyUpdate id => Sys2Proof.Machine.execSpdmKeyUpdate id s
  | .spdmChunk => Sys2Proof.Machine.execSpdmChunk s
  | .eventDeliver => Sys2Proof.Machine.execEventDeliver s
  | .evlogSelect src n => Sys2Proof.Machine.execEvlogSelect src n s
  | .logEnable vf value => Sys2Proof.Machine.execLogEnable vf value s
  | .logTailWrite vf value => Sys2Proof.Machine.execLogTailWrite vf value s
  | .counterWrite src off value lost => Sys2Proof.Machine.execCounterWrite src off value lost s
  | .counterLoRead src off => Sys2Proof.Machine.execCounterLoRead src off s
  | .registerWrite src off value enables => Sys2Proof.Machine.execRegisterWrite src off value enables s
  | .debugTokenSubmit src => Sys2Proof.Machine.execDebugTokenSubmit src s
  | .jtagReset => Sys2Proof.Machine.execJtagReset s
  | .jtagIdcode => Sys2Proof.Machine.execJtagIdcode s
  | .jtagSamplePreload pins shift => Sys2Proof.Machine.execJtagSamplePreload pins shift s
  | .jtagExtest pins shift => Sys2Proof.Machine.execJtagExtest pins shift s
  | .jtagClamp => Sys2Proof.Machine.execJtagClamp s
  | .jtagHighz => Sys2Proof.Machine.execJtagHighz s
  | .jtagBypass => Sys2Proof.Machine.execJtagBypass s
  | .dbgacc dr => Sys2Proof.Machine.execDbgacc dr s
  | .laneRecordSelect src n => Sys2Proof.Machine.execLaneRecordSelect src n s
  | .hbmReadId src stack chan id => Sys2Proof.Machine.execHbmReadId src stack chan id s
  | .hbmReadTemp src stack chan temp => Sys2Proof.Machine.execHbmReadTemp src stack chan temp s
  | .hbmMbist src stack chan rows => Sys2Proof.Machine.execHbmMbist src stack chan rows s
  | .hbmLaneRepair src stack chan ok => Sys2Proof.Machine.execHbmLaneRepair src stack chan ok s
  | .hbmSoftRepair src stack chan ok => Sys2Proof.Machine.execHbmSoftRepair src stack chan ok s
  | .hbmHardRepair src stack chan ok => Sys2Proof.Machine.execHbmHardRepair src stack chan ok s
  | .holdBoundExpire => Sys2Proof.Machine.execHoldBoundExpire s
  | .portTrainingDelayExpire port => Sys2Proof.Machine.execPortTrainingDelayExpire port s
  | .msixVectorMaskWrite fn vec masked => Sys2Proof.Machine.execMsixVectorMaskWrite fn vec masked s
  | .d2dAcknowledgement die e bundle seq => Sys2Proof.Machine.execD2dAcknowledgement die e bundle seq s
  | .pciePowerStateChange fn d3 => Sys2Proof.Machine.execPciePowerStateChange fn d3 s
  | .reservedOpCommand src off value => Sys2Proof.Machine.execReservedOpCommand src off value s

end Sys2Proof.Machine
end

