-- ==== Sys2Proof/Machine/Step.lean ====
section
/-! DEFINITION. The step of the block: it takes the command at the front of the queue; on an empty queue one spine cycle
passes. -/
namespace Sys2Proof.Machine

/-- One step: the front command is executed with the rest of the queue. With no command waiting a spine cycle passes, as the
model chooses (DESIGN CHOICE, log 1; DESIGN CHOICE, log 3). -/
def step (s : State) : Host.Outcome State Fault Refusal :=
  match s.pending with
  | [] => .next s.tick
  | c :: r => exec c { s with pending := r }

/-- The state with the command that a table word spells at the front of its queue. -/
def State.withFetchWord (s : State) (nbits w : Nat) : State :=
  match decodeTableWord nbits w with
  | some c => { s with pending := c :: s.pending }
  | none => s

end Sys2Proof.Machine
end

