-- ==== Sys2Proof/Safety.lean ====
section
/-! DEFINITION. What counts as a safe run: no step ends in a fault or a refusal. -/
namespace Sys2Proof.Machine

/-- Does an outcome go on? -/
def Goes : Host.Outcome State Fault Refusal → Prop
  | .next _ => True
  | .fault _ => False
  | .refused _ => False

/-- A state from which every step goes on, whatever command comes first. -/
def Safe (s : State) : Prop := ∀ c, Goes (exec c s)

end Sys2Proof.Machine
end

