-- ==== Sys2Proof/WellFormed.lean ====
section
/-! DEFINITION. Well-formed commands: every unit an operand names exists (R5, R21, R25, R188, R330, R366) and every size is
one the spec allows (R336, R524). A command that is not well formed names nothing; what it does is said nowhere. -/
namespace Sys2Proof
open Machine

/-- A core address names a core: 24 bents, 200 cores a bay (R5). -/
def coreOk (c : CoreAddr) : Bool := decide (c.toNat / 4096 % 32 < 24 ∧ c.toNat % 256 < 200)

/-- A source is Welyar, the register target, the PF or one of the VFs 1 to 63 (R391, R544). -/
def srcOk : Src → Bool
  | .vf v => decide (1 ≤ v ∧ v < 64)
  | _ => true

/-- A flow is of partition 0 to 7 to a 17-bit fabric address; a tray-window flow has no partitions (R342). -/
def flowOk (k : FlowKey) : Bool :=
  decide (k.part < 8 ∧ k.ppart < 8 ∧ k.addr < 2 ^ 17) && (!k.tray || (k.part == 0 && k.ppart == 0))

/-- A frame has a 16-byte head, at most 1,024 payload bytes, a 16-byte tag (R336). -/
def frameOk (f : Frame) : Bool := f.head.length == 16 && decide (f.body.length ≤ 1024) && f.tag.length == 16

/-- The symbols in error of the codewords that begin in a frame's slot (R333, R334): at most two codewords. -/
def cwsOk (l : List (List Nat)) : Bool := decide (l.length ≤ 2) && l.all fun c => c.all (· < 560)

/-- A peg exists (R188). -/
def pegOk : PegHome → Bool
  | .ctx c x i => coreOk (BitVec.ofNat 19 c) && decide (c < 2 ^ 19 ∧ x < 4 ∧ i < 16)
  | .bent b i => decide (b < 96 ∧ i < 4096)
  | .spine d i => decide (d < 4 ∧ i < 16384)
  | .remote a q d i => decide (a < 2 ^ 17 ∧ q < 8 ∧ d < 4 ∧ i < 16384)

/-- A faulty column is one of the array's (R54). -/
def faultOk : ArrayFault → Bool
  | .output c _ => decide (c < 17)
  | .adder c => decide (c < 17)

/-- Is a command well formed? -/
def WellFormed (i : Instr) : Bool :=
  match i with
  | .opAdd core => coreOk core
  | .opSub core => coreOk core
  | .opAnd core => coreOk core
  | .opOr core => coreOk core
  | .opXor core => coreOk core
  | .opSll core => coreOk core
  | .opSrl core => coreOk core
  | .opSra core => coreOk core
  | .opMul core => coreOk core
  | .opSlt core => coreOk core
  | .opSltu core => coreOk core
  | .opAddi core => coreOk core
  | .opAndi core => coreOk core
  | .opOri core => coreOk core
  | .opXori core => coreOk core
  | .opLui core => coreOk core
  | .opSlli core => coreOk core
  | .opSrli core => coreOk core
  | .opSrai core => coreOk core
  | .opLw core => coreOk core
  | .opSw core => coreOk core
  | .opGetp core => coreOk core
  | .opGets core => coreOk core
  | .opClrf core => coreOk core
  | .opSetm core => coreOk core
  | .opBeq core => coreOk core
  | .opBne core => coreOk core
  | .opBlt core => coreOk core
  | .opBge core => coreOk core
  | .opBltu core => coreOk core
  | .opBgeu core => coreOk core
  | .opJal core => coreOk core
  | .opJr core => coreOk core
  | .opPwait core => coreOk core
  | .opPsig core => coreOk core
  | .opPread core => coreOk core
  | .opEnd core => coreOk core
  | .mmul core => coreOk core
  | .mmulRs core => coreOk core
  | .mmulAg core => coreOk core
  | .mmulAr core => coreOk core
  | .csend core => coreOk core
  | .copy core => coreOk core
  | .astream core => coreOk core
  | .wstream core => coreOk core
  | .requant core => coreOk core
  | .fill core => coreOk core
  | .ringOpen core => coreOk core
  | .ringClose core => coreOk core
  | .ringCloseComplete core _ => coreOk core
  | .gather core => coreOk core
  | .poolAlloc core => coreOk core
  | .poolFree core => coreOk core
  | .poolGive core => coreOk core
  | .lineProduce _ => true
  | .transferComplete _ _ => true
  | .tileStart core => coreOk core
  | .arrayLineRead core errs => coreOk core && errs.all faultOk
  | .rowDrain core => coreOk core
  | .tileComplete core => coreOk core
  | .contextSwitch core => coreOk core
  | .heldStartRelease core _ => coreOk core
  | .bayLoad bay src _ => decide (bay < 1536) && srcOk src
  | .bayPatch bay src _ => decide (bay < 1536) && srcOk src
  | .bayStart bay src _ => decide (bay < 1536) && srcOk src
  | .bayPatchAndStart bay src _ => decide (bay < 1536) && srcOk src
  | .bayResume bay src _ => decide (bay < 1536) && srcOk src
  | .bayCmdUndefined bay src _ _ => decide (bay < 1536) && srcOk src
  | .bayCommandDone bay => decide (bay < 1536)
  | .bayCtxPWrite bay src _ _ => decide (bay < 1536) && srcOk src
  | .bayCtxStopatWrite bay src _ => decide (bay < 1536) && srcOk src
  | .bayCtxPsegWrite bay src _ _ _ => decide (bay < 1536) && srcOk src
  | .coreCtxModeWrite core src _ => coreOk core && srcOk src
  | .ctxStop core src _ => coreOk core && srcOk src
  | .ctxReset core src _ => coreOk core && srcOk src
  | .pegSignalArrive home _ => pegOk home
  | .pegPoll core _ => coreOk core
  | .pegHostWrite home src _ more _ => pegOk home && srcOk src && more.all fun w => srcOk w.1
  | .pegMessage => true
  | .deadlockFire _ => true
  | .poolReclaim _ _ src => srcOk src
  | .poolCfgWrite _ _ src _ _ => srcOk src
  | .memRead _ _ _ pa _ _ _ _ _ => decide (pa < 2 ^ 44)
  | .memWrite _ _ _ pa _ _ _ => decide (pa < 2 ^ 44)
  | .memReplyArrive _ => true
  | .bulkPromote chan _ => decide (chan < 768)
  | .hbmScrubPass chan _ => decide (chan < 768)
  | .deckScrubPass _ _ => true
  | .hbmLatMaxRead chan src => decide (chan < 768) && srcOk src
  | .deckFlush _ _ src => srcOk src
  | .deckFlushComplete _ _ => true
  | .deckUnkeep _ _ src => srcOk src
  | .trussInstall _ src _ => srcOk src
  | .trussRetire _ src _ => srcOk src
  | .colSupply _ _ => true
  | .colPartial _ _ => true
  | .colResult _ _ => true
  | .colMaxReply _ => true
  | .colExponent _ => true
  | .colSettle _ => true
  | .colRetry _ => true
  | .colGatherData _ => true
  | .colTimeout _ _ _ => true
  | .joinerCtxInstall _ src _ => srcOk src
  | .joinerCtxRetire _ src _ => srcOk src
  | .joinerProgLoad src _ _ => srcOk src
  | .joinerProgFree src _ _ => srcOk src
  | .joinerBlockOffer _ _ _ => true
  | .joinerStepLatch _ _ => true
  | .joinerBlockApply _ _ _ _ _ => true
  | .joinerRowApply _ _ _ _ _ => true
  | .stateExport _ src => srcOk src
  | .stateImport _ src => srcOk src
  | .frameClose key => flowOk key
  | .dataFrame _ cws frame => cwsOk cws && frameOk frame
  | .trayWindowFrame _ cws frame => cwsOk cws && frameOk frame
  | .ackFrame _ cws frame => cwsOk cws && frameOk frame
  | .linkControlFrame _ cws frame _ => cwsOk cws && frameOk frame
  | .idleFrame _ cws frame => cwsOk cws && frameOk frame
  | .ackSend key => flowOk key
  | .nakTimeout key => flowOk key
  | .frameResendTimeout key _ => flowOk key
  | .flowDormant key => flowOk key
  | .portAvoidExpire _ _ => true
  | .nextKeyInstall owner => decide (owner ≤ 8)
  | .lumderLaneSwapRequest _ lane => decide (lane < 18)
  | .lumderLaneSwap _ lane _ => decide (lane < 18)
  | .lumderLaneFail _ lane => decide (lane < 18)
  | .portTrainDone _ _ _ => true
  | .partnerSilent _ => true
  | .sleepRequest _ _ => true
  | .sleepEnter _ => true
  | .wakeTrigger _ _ => true
  | .fastWakeDone _ _ _ _ => true
  | .wakeToneTimeout _ => true
  | .portRetrain _ src => srcOk src
  | .twRead => true
  | .twWrite => true
  | .twReadData => true
  | .twWriteDone => true
  | .twError => true
  | .twReplyTimeout _ => true
  | .d2dFlitReceive _ _ bundle new errs => decide (bundle < 48) && new.all (fun f => f.part.all fun p => decide (p < 8)) && errs.all fun i => decide (i < 64)
  | .d2dReplayRequest _ _ bundle _ => decide (bundle < 48)
  | .d2dLaneSwapRequest _ _ bundle lane => decide (bundle < 48) && decide (lane < 64)
  | .d2dLaneSwap _ bundle _ => decide (bundle < 48)
  | .d2dBundleFail _ bundle lane => decide (bundle < 48) && decide (lane < 68)
  | .d2dBundleRetrainDone _ bundle _ => decide (bundle < 48)
  | .partitionBuild src _ => srcOk src
  | .partitionDissolve src _ => srcOk src
  | .coreMigrate src _ => srcOk src
  | .sharesSet src _ => srcOk src
  | .vfBind src _ _ => srcOk src
  | .vfUnbind src _ => srcOk src
  | .pageMap _ _ _ _ => true
  | .pageUnmap _ _ => true
  | .pageUnmapComplete _ => true
  | .vfMaskWrite _ _ => true
  | .partitionReset _ src => srcOk src
  | .fenceDeadline _ => true
  | .ctxWatchdog core _ => coreOk core
  | .engineWatchdog _ _ _ _ _ => true
  | .engineReset _ _ _ => true
  | .resetBudgetExpire _ => true
  | .packageReset src => srcOk src
  | .powerCycleRequest src => srcOk src
  | .probePackLoad src => srcOk src
  | .probePackLoadForward src => srcOk src
  | .unitProbe _ _ _ => true
  | .probeWindow _ _ _ => true
  | .probeBudgetExpire _ => true
  | .coreSubstitute core _ => coreOk core
  | .channelSubstitute chan spare => decide (chan < 768) && decide (spare < 768)
  | .channelCopyDone chan => decide (chan < 768)
  | .controlParityError _ => true
  | .residueMismatch _ => true
  | .ppsPulse => true
  | .plumbCorrection => true
  | .ppsHoldover => true
  | .plumbLoad src => srcOk src
  | .islandTimeSync dom _ => decide (dom < 100)
  | .snapSchedule src => srcOk src
  | .snapPeriodWrite src _ => srcOk src
  | .snapshotLatch _ => true
  | .dumpComplete _ => true
  | .governorInterval _ _ _ => true
  | .peakCheck _ => true
  | .boostStep => true
  | .pointSwitch bent => decide (bent < 96)
  | .thermalInterval _ _ => true
  | .partitionPark _ => true
  | .partitionUnpark _ _ => true
  | .dieTrip _ _ => true
  | .dieTripRestart _ => true
  | .thermalShutdown _ => true
  | .hbmTempPoll _ _ => true
  | .pwrCapWrite writes => writes.all fun e => srcOk e.1
  | .pwrPartWrite src _ _ => srcOk src
  | .pwrfailFall => true
  | .bladeUndervolt => true
  | .bladeCollapse => true
  | .pfHoldDone => true
  | .pfFlushDone => true
  | .rideExpire => true
  | .railsDownDone => true
  | .inputReturn => true
  | .coldStart => true
  | .bladesInRange => true
  | .pkgResetAssert => true
  | .bootSequence _ => true
  | .standbyTakeover _ => true
  | .lockstepMismatch _ => true
  | .datetimeReply _ => true
  | .datetimeTimeout => true
  | .imageWrite src _ => srcOk src
  | .firmwareApply src => srcOk src
  | .trialConfirm src => srcOk src
  | .pendingCancel src => srcOk src
  | .svnCommit src => srcOk src
  | .keyBlobSubmit src => srcOk src
  | .partRootWrite src _ _ _ => srcOk src
  | .maintRequest _ _ => true
  | .maintActivityEnd _ _ => true
  | .maintHoldWrite src _ => srcOk src
  | .apertureAccess _ _ _ => true
  | .hqTailWrite _ _ _ => true
  | .hqHostToPartition _ _ _ _ => true
  | .hqPartitionToHost _ _ _ => true
  | .hqDescriptorComplete _ _ => true
  | .hqHostReadTimeout _ _ _ _ => true
  | .hostLinkUp _ width => (width == 8 || width == 16)
  | .hotReset => true
  | .pfFlr => true
  | .vfFlr _ => true
  | .i3cAddressAssign _ _ => true
  | .i3cRegRead _ => true
  | .i3cRegWrite _ _ => true
  | .mctpSetEndpointId _ => true
  | .pldmGetTid => true
  | .pldmSetTid _ => true
  | .pldmGetVersion _ => true
  | .pldmGetTypes => true
  | .pldmGetCommands _ => true
  | .pldmGetPdr _ => true
  | .pldmGetSensorReading _ => true
  | .pldmGetEffecter _ => true
  | .pldmSetEffecter _ _ => true
  | .pldmSetEventReceiver _ => true
  | .pldmFruMetadata => true
  | .pldmFruTable => true
  | .pldmUpdateComponent _ _ _ => true
  | .pldmActivateFirmware => true
  | .pldmFileTransfer => true
  | .pldmUnsupported => true
  | .spdmVersion => true
  | .spdmCertificate _ => true
  | .spdmChallenge _ => true
  | .spdmMeasurements _ => true
  | .spdmKeyExchange _ => true
  | .spdmHeartbeat _ => true
  | .spdmHeartbeatTimeout _ => true
  | .spdmKeyUpdate _ => true
  | .spdmChunk => true
  | .eventDeliver => true
  | .evlogSelect src _ => srcOk src
  | .logEnable _ _ => true
  | .logTailWrite _ _ => true
  | .counterWrite src _ _ _ => srcOk src
  | .counterLoRead src _ => srcOk src
  | .registerWrite src _ _ _ => srcOk src
  | .debugTokenSubmit src => srcOk src
  | .jtagReset => true
  | .jtagIdcode => true
  | .jtagSamplePreload _ _ => true
  | .jtagExtest _ _ => true
  | .jtagClamp => true
  | .jtagHighz => true
  | .jtagBypass => true
  | .dbgacc _ => true
  | .laneRecordSelect src _ => srcOk src
  | .hbmReadId src _ _ _ => srcOk src
  | .hbmReadTemp src _ _ _ => srcOk src
  | .hbmMbist src _ _ _ => srcOk src
  | .hbmLaneRepair src _ _ _ => srcOk src
  | .hbmSoftRepair src _ _ _ => srcOk src
  | .hbmHardRepair src _ _ _ => srcOk src
  | .holdBoundExpire => true
  | .portTrainingDelayExpire _ => true
  | .msixVectorMaskWrite _ _ _ => true
  | .d2dAcknowledgement _ _ bundle _ => decide (bundle < 48)
  | .pciePowerStateChange _ _ => true
  | .reservedOpCommand src _ _ => srcOk src

end Sys2Proof
end

