-- ==== Sys2Proof/Certificates/Slice0/Obligations.lean ====
section
/-! DEFINITION. The statements about the block. Those with the words "completes" in their docstring say for each command
they name when it has its effect and what the next state is. -/
namespace Sys2Proof.Spec
open Sys2Proof Sys2Proof.Machine

/-! ### Words the statements share -/

/-- A command answers this next state. -/
def Next (i : Instr) (s t : State) : Prop := exec i s = .next t

/-- Core `c` runs context `x`; the word at its pc is `w`: the bent is clocked, the partition not fenced, the pc in the
stream region, the word not poisoned, its op this one and its must-be-zero fields zero (R71, R150, R155, R158). -/
def Issues (s : State) (c x : Nat) (w : Word) (op : Nat) : Prop :=
  s.clocked c = true ∧ s.fencedCore c = false ∧ s.running c = some x ∧ (s.ctx c x).inRegion (s.ctx c x).pc.toNat = true ∧
  (s.core c).imPoison.contains ((s.ctx c x).pc.toNat / 4) = false ∧ wget (s.core c).imem ((s.ctx c x).pc.toNat / 4) = w ∧
  opOf w = op ∧ scalarLegal w = true

/-- The state in which context `x` of core `c` alone has changed, to `v` with the pc on the next word. -/
def Retires (s : State) (c x : Nat) (v : Ctx) : State :=
  s.setCtx c x { v with pc := v.pc + 4#13, progress := s.plumb }

/-- An instruction of a core: what holds after it. -/
def Scalar (i : CoreAddr → Instr) (op : Nat) (t : State → Nat → Nat → Word → State) : Prop :=
  ∀ (s : State) (core : CoreAddr) (x : Nat) (w : Word), Issues s core.toNat x w op → Next (i core) s (t s core.toNat x w)

/-- An RR instruction: rd := ra op rb. -/
def Rr (i : CoreAddr → Instr) (op : Nat) (f : Word → Word → Word) : Prop :=
  Scalar i op fun s c x w =>
    let v := s.ctx c x
    Retires s c x (v.setSreg (fA w) (f (v.sreg (fB w)) (v.sreg (fC w))))

/-- An RI instruction: rd := f ra imm. -/
def Ri (i : CoreAddr → Instr) (op : Nat) (f : Word → BitVec 16 → Word) : Prop :=
  Scalar i op fun s c x w =>
    let v := s.ctx c x
    Retires s c x (v.setSreg (fA w) (f (v.sreg (fB w)) (imm16 w)))

/-- A jump: the pc alone changes, to the target. -/
def Jumps (s : State) (c x : Nat) (v : Ctx) (a : Word) : State := s.setCtx c x { v with pc := a.truncate 13, progress := s.plumb }

/-- A branch: taken when `cond ra rb`, to its own address plus 4 × off, which lies in the region; else the next word. -/
def Br (i : CoreAddr → Instr) (op : Nat) (cond : Word → Word → Prop) : Prop :=
  ∀ (s : State) (core : CoreAddr) (x : Nat) (w : Word), Issues s core.toNat x w op →
    let c := core.toNat
    let v := s.ctx c x
    let a : Word := v.pc.zeroExtend 32 + 4#32 * (imm16 w).signExtend 32
    (cond (v.sreg (fA w)) (v.sreg (fB w)) → v.inRegion a.toNat = true → Next (i core) s (Jumps s c x v a)) ∧
    (¬ cond (v.sreg (fA w)) (v.sreg (fB w)) → Next (i core) s (Retires s c x v))

/-- Core `c` runs context `x` and a long instruction of this op lies at its pc: four words in the region, none poisoned
(R150, R158, R159). -/
def IssuesLong (s : State) (c x : Nat) (w0 : Word) (ws : Words3) (op : Nat) : Prop :=
  s.clocked c = true ∧ s.fencedCore c = false ∧ s.running c = some x ∧
  (∀ d ∈ [0, 4, 8, 12], (s.ctx c x).inRegion ((s.ctx c x).pc.toNat + d) = true) ∧
  (∀ d ∈ [0, 1, 2, 3], (s.core c).imPoison.contains ((s.ctx c x).pc.toNat / 4 + d) = false) ∧
  wget (s.core c).imem ((s.ctx c x).pc.toNat / 4) = w0 ∧ wget (s.core c).imem ((s.ctx c x).pc.toNat / 4 + 1) = ws.1 ∧
  wget (s.core c).imem ((s.ctx c x).pc.toNat / 4 + 2) = ws.2.1 ∧ wget (s.core c).imem ((s.ctx c x).pc.toNat / 4 + 3) = ws.2.2 ∧
  opOf w0 = op

/-- A tile instruction of legal words, ranges and truss, with a free place in the tile queue, joins the queue with its
fields, its completion peg and the arithmetic mode of its issue; the index rises by 1 and the pc by 16 (R70, R104, R160,
R161, R163). -/
def TileIssue (i : CoreAddr → Instr) (opc : Nat) (op : TileOp) : Prop :=
  ∀ (s : State) (core : CoreAddr) (x : Nat) (w0 : Word) (ws : Words3) (sig : Option PegHome),
    IssuesLong s core.toNat x w0 ws opc → tileLegal0 w0 = true → tileLegal op w0 ws = true →
    let c := core.toNat
    let v := s.ctx c x
    let a := tileArgs v w0 ws
    s.tileRanges c op a = true → s.tileTruss c op a = true → (op = .ag → a.fmt ≠ 2) → s.sigPeg c x w0 = some sig →
    (s.core c).queue.length < 4 → v.stopAt = 0xFFFFFFFF#32 →
    ∃ t q, Next (i core) s t ∧ (t.core c).queue = (s.core c).queue ++ [q] ∧ q.op = op ∧ q.ctx = x ∧ q.fmt = a.fmt ∧
      q.m = a.m ∧ q.k = a.k ∧ q.n = a.n ∧ q.mc = a.mc ∧ q.acc = a.acc ∧ q.ofmt = a.ofmt ∧ q.sc = a.sc.toNat ∧
      q.sx = a.sx.toNat ∧ q.sig = sig ∧ q.mode = v.mode ∧ q.index = v.index ∧
      t.ctx c x = { v with pc := v.pc + 16#13, progress := s.plumb, index := v.index + 1#32 }

/-- The transfer that an XFER makes of its descriptor. -/
def xferOf (s : State) (c x : Nat) (d : List Byte) (sig : Option PegHome) (ring : Nat) : Xfer :=
  let p := (s.partOfCore c).getD 255
  { id := s.nextId, core := c, ctx := x, part := p, lcore := s.lcoreOf c
    epoch := match s.lcoreOf c with | some l => s.cepoch p l | none => 0#8
    pepoch := (s.part p).epoch, desc := d, mode := (s.ctx c x).mode, sig := sig, ring := ring, t0 := s.plumb }

/-- Core `c` issues an XFER whose descriptor `d` passes every check and has this kind; it has a place (R164, R167, R209,
R221 to R226). -/
def IssuesXfer (s : State) (c x : Nat) (d : List Byte) (sig : Option PegHome) (ring kind : Nat) : Prop :=
  ∃ (w0 : Word) (ws : Words3), IssuesLong s c x w0 ws 0x38 ∧ xferLegal0 w0 = true ∧
    ws.1.toNat < 32 ∧ ws.2.1 = 0#32 ∧ ws.2.2 = 0#32 ∧
    (let a := ((s.ctx c x).sreg (BitVec.ofNat 5 ws.1.toNat)).toNat
     a % 64 = 0 ∧ a ≤ 0x3C0 ∧ (∀ i < 16, (s.ctx c x).dmPoison.contains (a / 4 + i) = false) ∧ (s.ctx c x).descAt a = d) ∧
    dfield d 0 1 = kind ∧ s.checkDesc c ((s.partOfCore c).getD 255) d = .ok ring ∧ s.sigPeg c x w0 = some sig ∧
    (s.xfersOf c x).length < 8

/-- The state after the issue: the pc on the next instruction, one transfer number taken. -/
def Xfered (s : State) (c x : Nat) : State :=
  { s with nextId := s.nextId + 1 }.setCtx c x { s.ctx c x with pc := (s.ctx c x).pc + 16#13, progress := s.plumb }

/-- An XFER with this kind: what follows its issue. -/
def Xfers (i : CoreAddr → Instr) (kind : Nat) (f : State → Xfer → Nat → State) : Prop :=
  ∀ (s : State) (core : CoreAddr) (x : Nat) (d : List Byte) (sig : Option PegHome) (ring : Nat),
    IssuesXfer s core.toNat x d sig ring kind →
    Next (i core) s (f (Xfered s core.toNat x) (xferOf s core.toNat x d sig ring) ring)

/-- A source issues accesses and its write reaches the register (R14, R393, R531, R544). -/
def Reaches (s : State) (src : Src) (k : RKey) : Prop := s.srcLive src = true ∧ s.reaches src k true = true

/-- A bay controller takes a command: the write reaches, no command is in progress, the bent is not probed, the partition
not fenced (R171, R185, R419, R451). -/
def BayFree (s : State) (bay : Nat) (src : Src) : Prop :=
  Reaches s src ⟨.bayCsCmd, bay, 0⟩ ∧ aget s.bays bay = none ∧ s.bayProbed bay = false ∧ s.bayFenced bay = false

/-- The state with `go` and the command written. -/
def BayGo (s : State) (bay cmd : Nat) (ctxs : BitVec 4) : State :=
  s.setReg ⟨.bayCsCmd, bay, 0⟩ (BitVec.ofNat 32 (cmd + ctxs.toNat * 16 + 256))

/-- The command runs until its end is shown, with this result. -/
def BayRuns (s : State) (bay cmd result : Nat) : State := { s with bays := aset s.bays bay { cmd := cmd, result := result } }

/-- The contexts of a command are Empty and hold a stream (R172). -/
def CanStart (s : State) (prs : List (Nat × Nat)) : Prop :=
  ∀ q ∈ prs, (s.ctx q.1 q.2).len ≠ 0#14 ∧ (s.ctx q.1 q.2).st = .empty

/-- A port that receives a frame: the codewords of its slot are corrected and counted, and a good frame ends its idle time. -/
def Received (s : State) (n : Nat) (cws : List (List Nat)) : State := (s.receive n cws).1.touchPort n

/-- PRT_CMD takes a command: the write reaches and no command of the PF runs (R405). -/
def PrtFree (s : State) (src : Src) : Prop := Reaches s src kPrtCmd ∧ s.rbit kPrtCmd 12 = false

/-- The state with the fields of the command in PRT_CMD. -/
def PrtSet (s : State) (p op vf : Nat) : State := s.setReg kPrtCmd (BitVec.ofNat 32 (p + op * 8 + vf * 64))

/-- PRT_MAP_CMD of VF `v`, bound to partition `p`, takes a command (R390). -/
def MapFree (s : State) (v p : Nat) : Prop :=
  Reaches s (.vf v) (mapKey v) ∧ (s.vf v).bound = some p ∧ s.rbit (mapKey v) 13 = false


end Sys2Proof.Spec

section
open Sys2Proof Sys2Proof.Machine Sys2Proof.Spec

/-! ### The scalar processor (05) -/

/-- The register instructions complete (R155): rd gets the two's complement result; nothing but the context changes.
The immediate instructions complete (R155), and LW, SW within 0x000 to 0x3FC on words without poison (R151, R155,
R253).
It rests on the model's readings in logs 11, 12. -/
def Obligations.ScalarOpsAndDataMemory : Prop :=
  (
  Rr .opAdd 0x00 (fun a b => a + b) ∧ Rr .opSub 0x01 (fun a b => a - b) ∧ Rr .opAnd 0x02 (fun a b => a &&& b) ∧
  Rr .opOr 0x03 (fun a b => a ||| b) ∧ Rr .opXor 0x04 (fun a b => a ^^^ b) ∧
  Rr .opSll 0x05 (fun a b => a <<< (b.toNat % 32)) ∧ Rr .opSrl 0x06 (fun a b => a >>> (b.toNat % 32)) ∧
  Rr .opSra 0x07 (fun a b => a.sshiftRight (b.toNat % 32)) ∧ Rr .opMul 0x08 (fun a b => a * b) ∧
  Rr .opSlt 0x09 (fun a b => if a.toInt < b.toInt then 1#32 else 0#32) ∧
  Rr .opSltu 0x0A (fun a b => if a.toNat < b.toNat then 1#32 else 0#32))
  ∧
  (
  Ri .opAddi 0x10 (fun a i => a + i.signExtend 32) ∧ Ri .opAndi 0x11 (fun a i => a &&& i.zeroExtend 32) ∧
  Ri .opOri 0x12 (fun a i => a ||| i.zeroExtend 32) ∧ Ri .opXori 0x13 (fun a i => a ^^^ i.zeroExtend 32) ∧
  Ri .opLui 0x14 (fun _ i => i.zeroExtend 32 <<< 16) ∧ Ri .opSlli 0x15 (fun a i => a <<< (i.toNat % 32)) ∧
  Ri .opSrli 0x16 (fun a i => a >>> (i.toNat % 32)) ∧ Ri .opSrai 0x17 (fun a i => a.sshiftRight (i.toNat % 32)) ∧
  (∀ (s : State) (core : CoreAddr) (x : Nat) (w : Word), Issues s core.toNat x w 0x18 →
    let v := s.ctx core.toNat x
    let a := (v.sreg (fB w) + (imm16 w).signExtend 32).toNat
    a % 4 = 0 → a ≤ 0x3FC → v.dmPoison.contains (a / 4) = false →
    Next (.opLw core) s (Retires s core.toNat x (v.setSreg (fA w) (wget v.dmem (a / 4))))) ∧
  (∀ (s : State) (core : CoreAddr) (x : Nat) (w : Word), Issues s core.toNat x w 0x19 →
    let v := s.ctx core.toNat x
    let a := (v.sreg (fB w) + (imm16 w).signExtend 32).toNat
    a % 4 = 0 → a ≤ 0x3FC →
    Next (.opSw core) s (Retires s core.toNat x
      { v with dmem := wput v.dmem (a / 4) (v.sreg (fA w)), dmPoison := sdel v.dmPoison (a / 4) })))

/-- GETP, GETS, CLRF and SETM complete (R155, R157): parameters, state items with the latch of item 5, own flags and own
arithmetic mode.
The branches and jumps complete (R155): to their target inside the region, or to the next word.
It rests on the model's readings in logs 11, 12. -/
def Obligations.ScalarStateAndBranches : Prop :=
  (
  Scalar .opGetp 0x1A (fun s c x w =>
    let v := s.ctx c x
    Retires s c x (v.setSreg (fA w) (v.p.getD ((imm16 w).toNat % 64) 0#32))) ∧
  (∀ (s : State) (core : CoreAddr) (x : Nat) (w : Word), Issues s core.toNat x w 0x1B →
    let c := core.toNat
    let v := s.ctx c x
    let now := s.timeOf (domOfBent (bentOf c))
    let i := (imm16 w).toNat % 16
    let sets (a : Word) : State := Retires s c x (v.setSreg (fA w) a)
    (i = 0 → Next (.opGets core) s (sets (BitVec.ofNat 32 x))) ∧
    (∀ l, i = 1 → s.lcoreOf c = some l → Next (.opGets core) s (sets (BitVec.ofNat 32 l))) ∧
    (i = 2 → Next (.opGets core) s (sets v.index)) ∧
    (i = 3 → Next (.opGets core) s (sets (v.flags.zeroExtend 32))) ∧
    (i = 4 → Next (.opGets core) s (sets (v.mode.zeroExtend 32))) ∧
    (i = 5 → Next (.opGets core) s (Retires s c x
      { v.setSreg (fA w) (now.truncate 32) with plbHi := (now >>> 32).truncate 32 })) ∧
    (i = 6 → Next (.opGets core) s (sets v.plbHi))) ∧
  Scalar .opClrf 0x1C (fun s c x w =>
    let v := s.ctx c x
    Retires s c x { v with flags := v.flags &&& ~~~ (w.truncate 5) }) ∧
  Scalar .opSetm 0x1D (fun s c x w => Retires s c x { s.ctx c x with mode := w.truncate 2 }))
  ∧
  (
  Br .opBeq 0x20 (fun a b => a = b) ∧ Br .opBne 0x21 (fun a b => a ≠ b) ∧ Br .opBlt 0x22 (fun a b => a.toInt < b.toInt) ∧
  Br .opBge 0x23 (fun a b => b.toInt ≤ a.toInt) ∧ Br .opBltu 0x24 (fun a b => a.toNat < b.toNat) ∧
  Br .opBgeu 0x25 (fun a b => b.toNat ≤ a.toNat) ∧
  (∀ (s : State) (core : CoreAddr) (x : Nat) (w : Word), Issues s core.toNat x w 0x26 →
    let v := s.ctx core.toNat x
    let here : Word := v.pc.zeroExtend 32
    let a : Word := here + 4#32 * (imm16 w).signExtend 32
    v.inRegion a.toNat = true → Next (.opJal core) s (Jumps s core.toNat x (v.setSreg (fA w) (here + 4#32)) a)) ∧
  (∀ (s : State) (core : CoreAddr) (x : Nat) (w : Word), Issues s core.toNat x w 0x27 →
    let v := s.ctx core.toNat x
    v.inRegion (v.sreg (fB w)).toNat = true → Next (.opJr core) s (Jumps s core.toNat x v (v.sreg (fB w)))))

/-- PWAIT on a peg that has reached its threshold, PSIG, PREAD, END and the switch of contexts complete (R71, R155, R170,
R191 to R193).
It rests on the model's readings in logs 11, 12, 14. -/
def Obligations.ScalarPegOps : Prop :=
  (∀ (s : State) (core : CoreAddr) (x : Nat) (w : Word) (h : PegHome), Issues s core.toNat x w 0x28 →
    let c := core.toNat
    let v := s.ctx c x
    let thr := v.sreg (fB w)
    s.pegOf c x ((imm16 w).toNat % 1024) = some h → h.isRemote = false → s.badPegs.contains h = false →
    thr.toNat ≤ (s.peg h).toNat →
    let s1 := if w.getLsbD 10 then s.setPeg h (s.peg h - thr) else s
    Next (.opPwait core) s (Retires s1 c x (s1.ctx c x))) ∧
  (∀ (s : State) (core : CoreAddr) (x : Nat) (w : Word) (h : PegHome), Issues s core.toNat x w 0x29 →
    let c := core.toNat
    s.pegOf c x ((imm16 w).toNat % 1024) = some h →
    ∃ t, Next (.opPsig core) s t ∧ t.ctx c x = { s.ctx c x with pc := (s.ctx c x).pc + 4#13, progress := s.plumb } ∧
      ∃ g, t.signals = s.signals ++ [g] ∧ g.home = h ∧ g.amount = (s.ctx c x).sreg (fB w) ∧ g.core = c ∧ g.ctx = x) ∧
  (∀ (s : State) (core : CoreAddr) (x : Nat) (w : Word) (h : PegHome), Issues s core.toNat x w 0x2A →
    let c := core.toNat
    let v := s.ctx c x
    s.pegOf c x ((imm16 w).toNat % 1024) = some h → h.isRemote = false → s.badPegs.contains h = false →
    Next (.opPread core) s (Retires s c x (v.setSreg (fA w) (s.peg h)))) ∧
  Scalar .opEnd 0x2F (fun s c x _ => Retires (s.depart c x) c x { s.ctx c x with st := .empty }) ∧
  (∀ (s : State) (core : CoreAddr) (x : Nat),
    let c := core.toNat
    let k := s.core c
    let order := if k.rotate then [k.cur + 1, k.cur + 2, k.cur + 3, k.cur + 4].map (· % 4) else [0, 1, 2, 3]
    s.clocked c = true → s.running c = none → order.find? (fun y => (s.ctx c y).st == .ready) = some x →
    Next (.contextSwitch core) s (s.setCore c ({ k with cur := x, rotate := false }.setCtx x
      { s.ctx c x with st := .running, progress := s.plumb })))

/-! ### Arithmetic (03, 04) -/

/-- Every NaN that the core's cells, folds and conversions produce is the canonical NaN of its format, whatever the sign and
payload of an input NaN (R82, R85, R89, R101). -/
def Obligations.NanResultsAreCanonical : Prop :=
  (∀ (x y : Word), FFmt.fp32.isNan (addFp32 x y).1.toNat = true → (addFp32 x y).1 = 0x7FC00000#32) ∧
  (∀ (f : FFmt) (a w : Nat) (x : Word), f = .bf16 ∨ f = .fp16 →
    let r := (cell (f.decode a) (f.decode w) x).1
    FFmt.fp32.isNan r.toNat = true → r = 0x7FC00000#32) ∧
  (∀ (src dst : FFmt) (den : Bool) (w : Nat), (src = .bf16 ∨ src = .fp16 ∨ src = .fp32) →
    let r := (loaderConvert src dst den w).1
    (dst = .fp32 → FFmt.fp32.isNan r = true → r = 0x7FC00000) ∧
    (dst = .bf16 → FFmt.bf16.isNan r = true → r = 0x7FC0) ∧
    (dst = .fp16 → FFmt.fp16.isNan r = true → r = 0x7E00)) ∧
  (∀ (den : Bool) (w : Word),
    (FFmt.fp32.isNan (drainConvert .fp32 den w).1 = true → (drainConvert .fp32 den w).1 = 0x7FC00000) ∧
    (FFmt.bf16.isNan (drainConvert .bf16 den w).1 = true → (drainConvert .bf16 den w).1 = 0x7FC0) ∧
    (FFmt.fp16.isNan (drainConvert .fp16 den w).1 = true → (drainConvert .fp16 den w).1 = 0x7E00))

/-- A Lath block of width n takes 2 + 4n bytes; element i has the payload bits i × n to i × n + n - 1, payload bit j being bit
j mod 8 of payload byte j / 8 (R116); its integer is the n-bit two's complement of them, for n = 1 +1 or -1, and its value
q × 2^(u - 127) (R115). -/
def Obligations.LathBlockLayout : Prop :=
  (∀ (l : List Byte),
    let b := Blk.ofBytes l false
    2 + 4 * b.w ≤ l.length → ∀ i < 32, ∃ code : Nat, code < 2 ^ b.w ∧
      (∀ j < b.w, code.testBit j = (l.getD (2 + (i * b.w + j) / 8) 0#8).getLsbD ((i * b.w + j) % 8)) ∧
      b.q[i]? = some (if b.w = 1 then (if code = 0 then 1 else -1)
        else if code < 2 ^ (b.w - 1) then (code : Int) else (code : Int) - 2 ^ b.w) ∧
      b.vals[i]? = (b.q[i]?).map fun q => FV.ofSigned (q, (b.u : Int) - 127)) ∧
  (∀ (b : Blk), 1 ≤ b.w → b.w ≤ 8 → (b.bytes b.w).length = 2 + 4 * b.w)

/-! ### The long instructions (02 to 05) -/

/-- The four tile instructions and CSEND complete their issue (R70, R104, R160 to R165).
It rests on the model's readings in logs 11, 12. -/
def Obligations.TileInstructionsIssue : Prop :=
  TileIssue .mmul 0x30 .mmul ∧ TileIssue .mmulRs 0x31 .rs ∧ TileIssue .mmulAg 0x32 .ag ∧ TileIssue .mmulAr 0x33 .ar ∧
  ∀ (s : State) (core : CoreAddr) (x p : Nat) (tr : Truss) (w0 : Word) (ws : Words3) (sig : Option PegHome),
    IssuesLong s core.toNat x w0 ws 0x39 → xferLegal0 w0 = true → ws.1.toNat < 2 ^ 20 → ws.2.1 = 0#32 → ws.2.2 = 0#32 →
    let c := core.toNat
    let v := s.ctx c x
    let r (lo : Nat) : Word := v.sreg (BitVec.ofNat 5 (ws.1.toNat / 2 ^ lo % 32))
    (r 0).toNat < 4096 → (r 5).toNat % 64 = 0 → (r 10).toNat % 64 = 0 → 64 ≤ (r 10).toNat →
    (r 5).toNat + (r 10).toNat ≤ 65536 → s.partOfCore c = some p → s.trussAt p (r 0).toNat = some tr →
    (s.memberOf p c tr).isSome = true → s.sigPeg c x w0 = some sig → (s.sendsOf c x).length < 8 →
    ∃ t g, Next (.csend core) s t ∧ t.sends = s.sends ++ [g] ∧ g.core = c ∧ g.ctx = x ∧ g.part = p ∧
      g.truss = (r 0).toNat ∧ g.base = (r 5).toNat ∧ g.len = (r 10).toNat ∧ g.key = r 15 ∧ g.sig = sig ∧
      t.ctx c x = { v with pc := v.pc + 16#13, progress := s.plumb }

/-- COPY, ASTREAM, WSTREAM, REQUANT, FILL, RING_OPEN, RING_CLOSE and GATHER complete their issue (R164, R220, R222, R226,
R242): a loader transfer joins the bay's transfers, which its loader begins while it runs fewer than 16; RING_OPEN takes
the lowest free tracker with counts 0; RING_CLOSE waits for its ring; a GATHER whose bags pass their
checks is served.
It rests on the model's readings in logs 11, 15, 19, 89. -/
def Obligations.TransfersIssue : Prop :=
  (let joins (s : State) (t : Xfer) (_ : Nat) : State := State.beginAll (bayOf t.core) 16 { s with xfers := s.xfers ++ [t] }
   Xfers .copy 0x01 joins ∧ Xfers .astream 0x02 joins ∧ Xfers .wstream 0x03 joins ∧ Xfers .requant 0x04 joins ∧
   Xfers .fill 0x05 joins) ∧
  (∀ (s : State) (core : CoreAddr) (x : Nat) (d : List Byte) (sig : Option PegHome) (ring : Nat),
    IssuesXfer s core.toNat x d sig ring 0x08 → ring < 8 → x < 4 →
    ∃ t, Next (.ringOpen core) s t ∧ t.xfers = s.xfers ++ [{ xferOf s core.toNat x d sig ring with ready := true }] ∧
      (t.core core.toNat).rings.getD ring {} =
        { opened := true, base := (Desc.ofBytes d).dst, lines := (Desc.ofBytes d).rows
          lfmt := (lfmtOf (Desc.ofBytes d).dfmt (Desc.ofBytes d).lf.cls).getD 0 : Ring }) ∧
  (∀ (s : State) (core : CoreAddr) (x : Nat) (d : List Byte) (sig : Option PegHome) (ring : Nat),
    IssuesXfer s core.toNat x d sig ring 0x09 → ring < 8 →
    ∃ t, Next (.ringClose core) s t ∧ t.xfers = s.xfers ++ [xferOf s core.toNat x d sig ring] ∧
      ((t.core core.toNat).rings.getD ring {}).closing =
        some ((((s.core core.toNat).rings.getD ring {}).closing).getD s.nextId)) ∧
  (∀ (s : State) (core : CoreAddr) (x : Nat) (d : List Byte) (sig : Option PegHome) (ring : Nat),
    IssuesXfer s core.toNat x d sig ring 0x10 →
    let t0 := xferOf s core.toNat x d sig ring
    let g := Gather.ofBytes d
    let s1 := Xfered s core.toNat x
    let die := s1.tblDie g.die
    let w := (List.range g.nout).foldl (fun w o => w.gatherRow t0 g die o) ({ s := s1 } : Work)
    (∃ a, s1.gatherBags t0.part g = .ok a) → w.bad = false →
    Next (.gather core) s { w.s with xfers := w.s.xfers ++ [{ t0 with ready := true, flags := w.flags, ring := die }] })

/-- POOL_ALLOC, POOL_FREE and POOL_GIVE of an enabled pool of the partition complete their issue (R209 to R212): the request
reaches the pool, which serves the requests of a spine cycle at its end: an allocation with a free buffer gets the lowest one,
under its tag, and its address goes to the context; a buffer of the request's tag is freed and serves the waiting
requests, or takes the new tag.
It rests on the model's readings in log 11. -/
def Obligations.PoolRequests : Prop :=
  (∀ (s : State) (core : CoreAddr) (x : Nat) (d : List Byte) (sig : Option PegHome) (ring kind : Nat) (i : CoreAddr → Instr),
    (i, kind) ∈ [(Instr.poolAlloc, 0xC0), (.poolFree, 0xC1), (.poolGive, 0xC2)] → IssuesXfer s core.toNat x d sig ring kind →
    let t := xferOf s core.toNat x d sig ring
    let s1 := { Xfered s core.toNat x with xfers := s.xfers ++ [t] }
    let die := dfield d 1 1
    let q := dfield d 2 1
    s.poolOn die q t.part = true →
    Next (i core) s (s1.setPool die q { s.pool die q with reqs := (s.pool die q).reqs ++ [t.id] })) ∧
  (∀ (s : State) (die q b : Nat) (t : Xfer),
    let k : RKey := ⟨.spnPoolCmd, die * 64 + q, 0⟩
    let s1 := s.setPool die q { s.pool die q with reqs := [], eng := [] }
    let s2 := s1.putXfer { t with ready := true }
    let nw : Word := BitVec.ofNat 32 (dfield t.desc 0x10 4)
    (s.pool die q).reqs = [t.id] → (s.pool die q).eng = [] → s.rbit k 0 = false →
    s.xfers.find? (fun y => y.id == t.id) = some t →
    (dfield t.desc 0 1 = 0xC0 → s1.poolFree die q = some b →
      s.poolCycle die q = (s1.poolTake die q b t.tag).allocResult t (s1.poolBase die q + b * s1.poolBytes die q)) ∧
    (dfield t.desc 8 8 = s1.poolBase die q + b * s1.poolBytes die q → b < s1.poolCount die q →
      aget (s.pool die q).tags b = some t.tag →
      (dfield t.desc 0 1 = 0xC1 → s.poolCycle die q = (s2.poolDrop die q b).poolServe die q) ∧
      (dfield t.desc 0 1 = 0xC2 → nw ≠ 0xFFFFFFFF#32 → s.poolCycle die q = s2.poolTake die q b nw)))

/-- TILE_START, TILE_COMPLETE, RING_CLOSE_COMPLETE and TRANSFER_COMPLETE complete (R70, R98, R166, R226).
It rests on the model's readings in log 15. -/
def Obligations.TilesAndTransfersComplete : Prop :=
  (∀ (s : State) (core : CoreAddr) (q : Tile) (r : List Tile),
    let k := s.core core.toNat
    s.clocked core.toNat = true → k.run = none → k.queue = q :: r → k.accBusy q = false →
    Next (.tileStart core) s (s.setCore core.toNat { k with queue := r, run := some { tile := q, lastLine := s.plumb } })) ∧
  (∀ (s : State) (core : CoreAddr) (u : Run) (r : List Run),
    let c := core.toNat
    let k := s.core c
    let q := u.tile
    s.clocked c = true → k.tail = u :: r → u.banks = [] → u.stopped = false →
    (q.op = .mmul ∨ q.op = .ag ∨ aget s.supplies c = none) →
    Next (.tileComplete core) s
      ((((s.setCore c { k with tail := r }).setCtx c q.ctx { s.ctx c q.ctx with flags := (s.ctx c q.ctx).flags ||| u.flags }).signalDone
        c q.ctx q.lcore q.epoch q.sig).tileEnd c u)) ∧
  (∀ (s : State) (core : CoreAddr) (ring : BitVec 3),
    let c := core.toNat
    let g := (s.core c).rings.getD ring.toNat {}
    g.opened = true → g.closing.isSome = true → g.prod = g.cons → s.ringNamed c ring.toNat = false → s.clocked c = true →
    ∃ t, Next (.ringCloseComplete core ring) s t ∧ (t.core c).rings.getD ring.toNat {} = {} ∧
      ∀ y ∈ t.xfers, y.core = c → y.ring = ring.toNat → dfield y.desc 0 1 = 9 → y.ready = true) ∧
  (∀ (s : State) (id : Nat) (g : Csend), s.sends.find? (fun y => y.id == id) = some g → g.len ≤ g.pos →
    Next (.transferComplete true id) s
      (({ s with sends := s.sends.filter fun y => y.id != id }.signalDone g.core g.ctx g.lcore g.epoch g.sig).ctxReclaim
        g.core g.ctx)) ∧
  (∀ (s : State) (id : Nat) (y : Xfer), s.xfers.find? (fun y => y.id == id) = some y → y.ready = true →
    (y.moves = true → s.clocked y.core = true) → s.backPressed y.part (if y.moves then 6 else 7) = false →
    let v := s.ctx y.core y.ctx
    let s1 := ((s.dropXfer id).setCtx y.core y.ctx { v with flags := v.flags ||| y.flags }).count .ldrXferCnt (bayOf y.core) 1
    let s2 := if dfield y.desc 0 1 = 0x10 then s1.count .spnTblReqCnt y.ring 1 else s1
    Next (.transferComplete false id) s
      (State.beginAll (bayOf y.core) 16 ((s2.signalDone y.core y.ctx y.lcore y.epoch y.sig).ctxReclaim y.core y.ctx)))

/-- The array reads its lines, a full bank drains row by row, a loader writes the next line of a stream (R42 to R46, R53,
R227): the first weight line of a chunk, then a step with its activation line, and the closing steps; a drained row of a tile that stays in the
scratchpad is written there; a line raises the ring's count of lines produced.
It rests on the model's readings in logs 5, 18. -/
def Obligations.ArrayLinesAndRows : Prop :=
  (∀ (s s1 : State) (core : CoreAddr) (errs : List ArrayFault) (r : Run) (w : Line),
    let c := core.toNat
    s.clocked c = true → (s.core c).run = some r → r.close = false → r.pre = false →
    s.ringRead c r.tile.rw r.tile.lfmt = some (s1, w) →
    Next (.arrayLineRead core errs) s
      (s1.setCore c { s1.core c with run := some { r with pre := true, wl := [w], lastLine := s.plumb } })) ∧
  (∀ (s : State) (core : CoreAddr) (errs : List ArrayFault) (r : Run),
    s.clocked core.toNat = true → (s.core core.toNat).run = some r → r.close = false → r.pre = true →
    Next (.arrayLineRead core errs) s (s.arrayLine core.toNat r errs)) ∧
  (∀ (s : State) (core : CoreAddr) (errs : List ArrayFault) (r : Run),
    s.clocked core.toNat = true → (s.core core.toNat).run = some r → r.close = true →
    Next (.arrayLineRead core errs) s (s.arrayClose core.toNat r errs)) ∧
  (∀ (s : State) (core : CoreAddr) (r : Run) (b : Bank),
    let c := core.toNat
    let q := r.tile
    s.clocked c = true → (s.core c).oldestFull = some (r, b) → q.op = .mmul → q.keep = true → q.nanTrap = false →
    let out := (b.ent.getD b.drained []).map (drainElem q)
    let at_ := spadAddr c (q.sc + ((b.chunk * q.mc + b.drained) * q.n + b.npass * s.nwidth c) * esize q.ofmt)
    let bytes := out.flatMap fun e => (leBytes (esize q.ofmt) e.1.1).map fun y => (y, e.1.2)
    ∃ t, Next (.rowDrain core) s t ∧ t.mem = (s.pokeP at_ bytes).mem ∧ t.poison = (s.pokeP at_ bytes).poison) ∧
  (∀ (s : State) (id : Nat) (y : Xfer),
    let c := y.core
    let g := (s.core c).rings.getD y.ring {}
    let mine := s.xfers.filter fun z =>
      z.core == c && z.ring == y.ring && !z.ready && (dfield z.desc 0 1 == 2 || dfield z.desc 0 1 == 3)
    s.xfers.find? (fun z => z.id == id) = some y → y.begun = true → y.ready = false → mine.head?.map (·.id) = some id →
    s.clocked c = true → s.backPressed y.part 6 = false → (g.prod - g.cons).toNat < g.lines → y.ring < 8 →
    ∃ t, Next (.lineProduce id) s t ∧ ((t.core c).rings.getD y.ring {}).prod = g.prod + 1#32)

/-! ### The bay controller and the context window (05) -/

/-- The commands of a bay controller complete (R171 to R174, R185): a load that passes its checks, a patch list that is
legal and reaches no context in a run, a start of Empty contexts that hold a stream, both as one command, a resume of
Stopped contexts; a code without a meaning ends with result 2.
A start makes a context ready with cleared registers at its entry address, a resume leaves them, and both wait while
work of the ended run is outstanding or a substitution is pending (R152, R170, R171, R444).
It rests on the model's readings in log 90. -/
def Obligations.BayCommandsAndTheirContexts : Prop :=
  (
  (∀ (s s2 : State) (bay : Nat) (src : Src) (m : BitVec 4), BayFree s bay src → (BayGo s bay 1 m).bayLoad bay m = (s2, 0) →
    Next (.bayLoad bay src m) s (BayRuns s2 bay 1 0)) ∧
  (∀ (s s2 : State) (bay : Nat) (src : Src) (m : BitVec 4) (rs : List Patch),
    BayFree s bay src → (BayGo s bay 2 m).patchRead bay = (s2, .inr rs) → s2.patchBusy bay rs = false →
    Next (.bayPatch bay src m) s (BayRuns (s2.patchApply bay rs) bay 2 0)) ∧
  (∀ (s : State) (bay : Nat) (src : Src) (m : BitVec 4),
    let s1 := BayGo s bay 3 m
    let prs := s1.bayPairs bay m
    BayFree s bay src → CanStart s1 prs →
    Next (.bayStart bay src m) s (BayRuns (prs.foldl (fun s q => s.startCtx q.1 q.2) s1) bay 3 0)) ∧
  (∀ (s s2 : State) (bay : Nat) (src : Src) (m : BitVec 4) (rs : List Patch),
    let prs := s2.bayPairs bay m
    BayFree s bay src → (BayGo s bay 4 m).patchRead bay = (s2, .inr rs) → s2.patchBusy bay rs = false → CanStart s2 prs →
    Next (.bayPatchAndStart bay src m) s
      (BayRuns (prs.foldl (fun s q => s.startCtx q.1 q.2) (s2.patchApply bay rs)) bay 4 0)) ∧
  (∀ (s : State) (bay : Nat) (src : Src) (m : BitVec 4),
    let s1 := BayGo s bay 5 m
    let prs := s1.bayPairs bay m
    BayFree s bay src → (∀ q ∈ prs, (s1.ctx q.1 q.2).st = .stopped) →
    Next (.bayResume bay src m) s (BayRuns (prs.foldl (fun s q => s.resumeCtx q.1 q.2) s1) bay 5 0)) ∧
  (∀ (s : State) (bay : Nat) (src : Src) (cmd : BitVec 3) (m : BitVec 4), cmd.toNat = 0 ∨ 6 ≤ cmd.toNat → BayFree s bay src →
    Next (.bayCmdUndefined bay src cmd m) s (BayRuns (BayGo s bay cmd.toNat m) bay cmd.toNat 2)))
  ∧
  (
  ∀ (s : State) (c x : Nat), x < 4 →
    let v := s.ctx c x
    let v1 := (s.startCtx c x).ctx c x
    let v2 := (s.resumeCtx c x).ctx c x
    (s.outstanding c x = false → s.pendingSub.contains c = false →
      v1.st = .ready ∧ v1.pc = v.base + v.entry ∧ v1.s = Vector.replicate 32 0#32 ∧ v1.index = 0#32 ∧ v1.flags = 0#5 ∧
      v1.p = v.p ∧ v1.mode = v.mode ∧ v1.dmem = v.dmem ∧ v1.stopAt = v.stopAt) ∧
    (s.outstanding c x = true → v1 = { v with heldStart := true }) ∧
    (s.pendingSub.contains c = false → v2 = { v with st := .ready, heldStart := false, progress := s.plumb }) ∧
    (s.pendingSub.contains c = true → v1 = { v with heldStart := true } ∧ v2 = { v with heldStart := true }))

/-- BAY_COMMAND_DONE, HELD_START_RELEASE and the writes of the context window complete (R170, R171, R175, R186, R191, R394):
`go` clears, result and `done` are set, a rejection is counted, cause 9 is set; a held context starts or resumes; p
registers and the stop index of an Empty or Stopped context, and the peg segments of a context that is in no run, are
written.
CORE_CTX_MODE_WRITE, CTX_STOP and CTX_RESET complete (R104, R177, R183, R426): each context takes the mode of its byte;
a context in a run becomes Stopped with cause 0; a reset of a context of a core that no partition holds empties it, clears
its registers and sets its pc to its entry.
It rests on the model's readings in logs 33, 90. -/
def Obligations.WindowModeStopAndReset : Prop :=
  (
  (∀ (s : State) (bay : Nat) (b : BayCmd), aget s.bays bay = some b → s.bentRuns (bay / 16) = true →
    let s1 := { s with bays := adel s.bays bay }.setFld ⟨.bayCsCmd, bay, 0⟩ 8 8 0
    let s2 := if b.result = 0 then s1 else s1.count .bayCsRejectCnt bay 1
    Next (.bayCommandDone bay) s (s2.cmdDone ⟨.bayCsStatus, bay, 0⟩ b.result 0 0 (s2.partOfBay bay))) ∧
  (∀ (s : State) (core : CoreAddr) (x : BitVec 2),
    let c := core.toNat
    let v := s.ctx c x.toNat
    v.heldStart = true → s.outstanding c x.toNat = false → s.pendingSub.contains c = false → s.clocked c = true →
    (v.st = .empty → Next (.heldStartRelease core x) s (s.setCtx c x.toNat (v.started s.plumb))) ∧
    (v.st = .stopped → Next (.heldStartRelease core x) s (s.setCtx c x.toNat (v.resumed s.plumb)))) ∧
  (∀ (s : State) (bay c x : Nat) (src : Src) (value : Word), s.baySel bay = some (c, x) →
    let v := s.ctx c x
    (v.st = .empty ∨ v.st = .stopped) →
    (∀ i : BitVec 6, Reaches s src ⟨.bayCtxP, bay, i.toNat⟩ →
      Next (.bayCtxPWrite bay src i value) s (s.setCtx c x { v with p := v.p.setIfInBounds i.toNat value })) ∧
    (Reaches s src ⟨.bayCtxStopat, bay, 0⟩ → Next (.bayCtxStopatWrite bay src value) s (s.setCtx c x { v with stopAt := value })) ∧
    (∀ seg : BitVec 2, Reaches s src ⟨.bayCtxPsegHi, bay, seg.toNat⟩ →
      Next (.bayCtxPsegWrite bay src seg true value) s
        (s.setCtx c x { v with psegHi := v.psegHi.setIfInBounds seg.toNat (value &&& 0x00FFFFFF#32) })) ∧
    (∀ seg : BitVec 2, Reaches s src ⟨.bayCtxPsegLo, bay, seg.toNat⟩ → (value.getLsbD 0 = false ∨ s.psegOk c value = true) →
      Next (.bayCtxPsegWrite bay src seg false value) s
        (s.setCtx c x { v with psegLo := v.psegLo.setIfInBounds seg.toNat value }))))
  ∧
  (
  (∀ (s : State) (core : CoreAddr) (src : Src) (value : Word), Reaches s src ⟨.coreCtxMode, core.toNat, 0⟩ →
    ∃ t, Next (.coreCtxModeWrite core src value) s t ∧ t.mem = s.mem ∧ t.regs = s.regs ∧
      ∀ x < 4, t.ctx core.toNat x = { s.ctx core.toNat x with mode := BitVec.ofNat 2 (value.toNat / 2 ^ (8 * x) % 4) }) ∧
  (∀ (s : State) (core : CoreAddr) (src : Src) (x : BitVec 2), Reaches s src ⟨.coreCtxCmd, core.toNat, 0⟩ →
    (s.ctx core.toNat x.toNat).inRun = true →
    ∃ t, Next (.ctxStop core src (1#4 <<< x.toNat)) s t ∧ (t.ctx core.toNat x.toNat).st = .stopped ∧
      (t.ctx core.toNat x.toNat).cause = 0#8) ∧
  (∀ (s : State) (core : CoreAddr) (src : Src) (x : BitVec 2), Reaches s src ⟨.coreCtxCmd, core.toNat, 0⟩ → src ≠ .welyar →
    s.partOfCore core.toNat = none →
    ∃ t, Next (.ctxReset core src (1#4 <<< x.toNat)) s t ∧ (t.ctx core.toNat x.toNat).st = .empty ∧
      (t.ctx core.toNat x.toNat).s = Vector.replicate 32 0#32 ∧ (t.ctx core.toNat x.toNat).index = 0#32 ∧
      (t.ctx core.toNat x.toNat).flags = 0#5 ∧ (t.ctx core.toNat x.toNat).cpeg = Vector.replicate 16 0#32 ∧
      (t.ctx core.toNat x.toNat).pc = (s.ctx core.toNat x.toNat).base + (s.ctx core.toNat x.toNat).entry))

/-- A write to BAY_CTX_P or BAY_CTX_STOPAT for a context that is in a run is dropped and counted in BAY_CTX_DROP_CNT; such a
write changes the context only while it is Empty or Stopped, and then takes effect (R175). -/
def Obligations.ParameterWritesDuringARun : Prop :=
  ∀ (s : State) (bay c x : Nat) (src : Src) (i : BitVec 6) (value : Word), s.baySel bay = some (c, x) →
    let v := s.ctx c x
    (v.inRun = true →
      (Reaches s src ⟨.bayCtxP, bay, i.toNat⟩ → Next (.bayCtxPWrite bay src i value) s (s.count .bayCtxDropCnt bay 1)) ∧
      (Reaches s src ⟨.bayCtxStopat, bay, 0⟩ → Next (.bayCtxStopatWrite bay src value) s (s.count .bayCtxDropCnt bay 1))) ∧
    (v.st = .empty ∨ v.st = .stopped →
      (Reaches s src ⟨.bayCtxP, bay, i.toNat⟩ →
        Next (.bayCtxPWrite bay src i value) s (s.setCtx c x { v with p := v.p.setIfInBounds i.toNat value })) ∧
      (Reaches s src ⟨.bayCtxStopat, bay, 0⟩ →
        Next (.bayCtxStopatWrite bay src value) s (s.setCtx c x { v with stopAt := value }))) ∧
    (v.st ≠ .empty → v.st ≠ .stopped →
      (∀ t, Next (.bayCtxPWrite bay src i value) s t → t.ctx c x = v) ∧
      (∀ t, Next (.bayCtxStopatWrite bay src value) s t → t.ctx c x = v))

/-! ### Pegs and pools (06) -/

/-- PEG_SIGNAL_ARRIVE, PEG_POLL and PEG_HOST_WRITE complete (R192 to R195, R200, R201): the signals of a cycle are applied
in the order of R195 and one walk serves the waiters when the value rose; a polling waiter goes on once its threshold is
reached; a host write loads the value and runs a walk.
DEADLOCK_FIRE, POOL_RECLAIM and POOL_CFG_WRITE complete (R203 to R205, R213, R214): 2^16 pt after the condition began
the detector fires, and stays fired; a reclaim is asked for and every buffer of the pool's tag is freed at the end of the
spine cycle; a disabled pool takes its base and its configuration, an enabled one only the clear of `enable`.
It rests on the model's readings in log 82. -/
def Obligations.PegsPoolsAndDetector : Prop :=
  (
  (∀ (s : State) (h : PegHome) (ids : List Nat), s.homeRuns h = true →
    let mine (g : Signal) : Bool := g.home == h && ids.contains g.id
    let r := s.takeSigs h ids
    let s2 := r.2.foldl State.applySig r.1
    Next (.pegSignalArrive h ids) s (if r.1.peg h < s2.peg h then s2.walkPeg h else s2) ∧
    ((∀ m ∈ s.pegMsgs, m.peg = h → ids.contains m.id = false) →
      r = ({ s with signals := s.signals.filter fun g => !(mine g) }, sortSigs (s.signals.filter mine)))) ∧
  (∀ (s : State) (core : CoreAddr) (x : BitVec 2) (id : Nat) (h : PegHome) (thr : Word) (sub : Bool),
    let c := core.toNat
    let s1 := s.count .pegPollCnt h.dom 1
    s.clocked c = true → (s.ctx c x.toNat).st = .waiting → (s.ctx c x.toNat).wait = .peg id h thr sub true →
    s.badPegs.contains h = false → thr.toNat ≤ (s1.peg h).toNat →
    Next (.pegPoll core x) s ((if sub then s1.setPeg h (s1.peg h - thr) else s1).wake c x.toNat)) ∧
  (∀ (s : State) (b i : Nat) (src : Src) (value : Word), Reaches s src ⟨.pegBentVal, b, i⟩ →
    Next (.pegHostWrite (.bent b i) src value [] []) s (s.pegLoad (.bent b i) value [])) ∧
  (∀ (s : State) (d i : Nat) (src : Src) (value : Word), Reaches s src ⟨.pegSpnVal, d, i⟩ →
    Next (.pegHostWrite (.spine d i) src value [] []) s (s.pegLoad (.spine d i) value [])) ∧
  (∀ (s : State) (c x i : Nat) (src : Src) (value : Word), Reaches s src ⟨.bayCtxPeg, bayOf c, i⟩ →
    s.baySel (bayOf c) = some (c, x) → Next (.pegHostWrite (.ctx c x i) src value [] []) s (s.pegLoad (.ctx c x i) value [])))
  ∧
  (
  (∀ (s : State) (p : BitVec 3) (t0 : Time), s.dldStart p.toNat = some t0 → s.deadlocked p.toNat = true →
    s.partStopped p.toNat = false → 65536 ≤ (s.spineTime p.toNat - t0).toNat → (s.part p.toNat).dldFired = false →
    ∃ t, Next (.deadlockFire p) s t ∧ (t.part p.toNat).dldFired = true) ∧
  (∀ (s : State) (die : BitVec 2) (pool : BitVec 6) (src : Src), Reaches s src ⟨.spnPoolCmd, die.toNat * 64 + pool.toNat, 0⟩ →
    let k : RKey := ⟨.spnPoolCmd, die.toNat * 64 + pool.toNat, 0⟩
    Next (.poolReclaim die pool src) s (s.setFld k 0 0 1) ∧
    ((s.pool die.toNat pool.toNat).reqs = [] → (s.pool die.toNat pool.toNat).eng = [] → s.rbit k 0 = true →
      let tag := s.reg ⟨.spnPoolTag, die.toNat * 64 + pool.toNat, 0⟩
      let t := s.poolCycle die.toNat pool.toNat
      t.rbit k 0 = false ∧ ((s.pool die.toNat pool.toNat).queue = [] →
        (t.pool die.toNat pool.toNat).tags = (s.pool die.toNat pool.toNat).tags.filter fun e => e.2 != tag))) ∧
  (∀ (s : State) (die : BitVec 2) (pool : BitVec 6) (value : Word),
    let u := die.toNat * 64 + pool.toNat
    let k : RKey := ⟨.spnPoolCfg, u, 0⟩
    s.rbit k 7 = false → 
    (Reaches s .pf ⟨.spnPoolBaseLo, u, 0⟩ →
      Next (.poolCfgWrite die pool .pf .baseLo value) s (s.setReg ⟨.spnPoolBaseLo, u, 0⟩ value)) ∧
    (Reaches s .pf k → value.getLsbD 7 = true → Next (.poolCfgWrite die pool .pf .cfg value) s
      ((s.setReg k (value &&& 0xFFFF00FF#32)).setPool die.toNat pool.toNat {}))) ∧
  (∀ (s : State) (die : BitVec 2) (pool : BitVec 6) (value : Word),
    let u := die.toNat * 64 + pool.toNat
    let k : RKey := ⟨.spnPoolCfg, u, 0⟩
    s.rbit k 7 = true → Reaches s .pf k → (value.getLsbD 7 = true ∨ (s.pool die.toNat pool.toNat).tags ≠ []) →
    Next (.poolCfgWrite die pool .pf .cfg value) s s))

/-- The translation of a peg id of a context (R189): bits [9:8] select the segment, bits [7:0] are the offset o; in a valid
segment with o below its length the physical peg has number base + o, of the segment's kind and location; any other id is
untranslatable. The bounds of the checks that R191 makes on every use are premises. -/
def Obligations.PegIdsTranslate : Prop :=
  ∀ (s : State) (c x seg o : Nat), seg < 4 → o < 256 →
    let v := s.ctx c x
    let lo := v.psegLo.getD seg 0#32
    let hi := v.psegHi.getD seg 0#32
    let valid := lo.getLsbD 0
    let kind := wbits lo 2 1
    let die := wbits lo 4 3
    let bent := wbits lo 9 5
    let n := wbits lo 23 10 + o
    let len := wbits lo 31 24 + 1
    let r := s.pegOf c x (seg * 256 + o)
    (valid = false ∨ len ≤ o → r = none) ∧
    (valid = true → o < len →
      (kind = 0 → n < 16 → r = some (.ctx c x n)) ∧
      (kind = 1 → bent < 24 → die = coreDie c → n < 4096 → (s.partOfBent (die * 24 + bent)).isSome = true →
        s.partOfBent (die * 24 + bent) = s.partOfCore c → r = some (.bent (die * 24 + bent) n)) ∧
      (kind = 2 → n < 16384 → (s.partOfPeg (.spine die n)).isSome = true → s.partOfPeg (.spine die n) = s.partOfCore c →
        r = some (.spine die n)) ∧
      (kind = 3 → r = some (.remote (wbits hi 16 0) (wbits hi 19 17) die n)))

/-- A signal sets a peg to the lesser of value plus amount and 0xFFFF_FFFF, and a peg that was written reads as written
(R192, R201): for bent and spine pegs, in every state. -/
def Obligations.SignalAddsAndSaturates : Prop :=
  ∀ (s : State) (h : PegHome) (v : Word), (∃ b i, h = .bent b i) ∨ (∃ d i, h = .spine d i) →
    (s.setPeg h v).peg h = v ∧
    ((s.peg h).toNat + v.toNat ≤ 0xFFFFFFFF → (s.addPeg h v).peg h = s.peg h + v) ∧
    (0xFFFFFFFF < (s.peg h).toNat + v.toNat → (s.addPeg h v).peg h = 0xFFFFFFFF#32)


/-! ### Trusses and collectives (08) -/

/-- The collective records complete (R276 to R288): a partial that is not the last of its sum is kept; replies combine by
the maximum; the fallback exponent makes the members send again; an owner that kept a result answers a retry with it; a
settle record writes the block's element state and settles it; a result whose digest agrees is passed on, delivered and
settled; a drained row that the engine accepts whole leaves its core; a CSEND advances by the elements taken; gathered elements
count as arrived.
TRUSS_INSTALL, TRUSS_RETIRE and COL_TIMEOUT complete (R264, R289, R290, R408): an entry whose descriptor and members
read and pass the checks is installed with result 0; an inactive one is retired with result 0; a stalled member past the
limit ends its step and is counted.
It rests on the model's readings in log 84. -/
def Obligations.CollectivesAndTrusses : Prop :=
  (
  (∀ (s s1 : State) (n : Nat) (errs : List (Nat × Word)) (r : ColRec) (t : Truss), s.colTake n [0] = (s1, some (r, t)) →
    let me := s1.ownRank r.part t
    let key (y : ColSum) : Bool := y.b == r.b && y.step == r.step && !y.max && y.fb == r.fb && y.rt == r.rt
    t.ownerRank r.b ≠ me → t.sums.find? key = none → r.cnt < t.expect r.b me →
    Next (.colPartial n errs) s (s1.setTruss r.part r.entry
      { t.stamp s1.plumb with sums := (t.sums.filter fun y => !(key y)) ++ [⟨r.b, r.step, false, r.fb, r.rt, r⟩] })) ∧
  (∀ (s s1 : State) (n : Nat) (r : ColRec) (t : Truss), s.colTake n [2] = (s1, some (r, t)) →
    let me := s1.ownRank r.part t
    let key (y : ColSum) : Bool := y.b == r.b && y.step == r.step && y.max
    ∀ y, r.cnt ≠ 0 → t.sums.find? key = some y → t.ownerRank r.b ≠ me → y.acc.cnt + r.cnt < t.expect r.b me →
    Next (.colMaxReply n) s (s1.setTruss r.part r.entry
      { t.stamp s1.plumb with
        sums := (t.sums.filter fun z => !(key z)) ++
          [⟨r.b, r.step, true, false, false, { y.acc with cnt := y.acc.cnt + r.cnt, st := max y.acc.st r.st }⟩] })) ∧
  (∀ (s s1 : State) (n : Nat) (r : ColRec) (t : Truss), s.colTake n [3] = (s1, some (r, t)) →
    let first := (t.bufs.filter fun u => u.retains r.b r.step && !u.fb).map (·.pos)
    Next (.colExponent n) s
      (((s1.colForward r.part t r).setExponent r.part r.entry r).resend r.part r.entry
        (fun u => u.retains r.b r.step && first.contains u.pos) false)) ∧
  (∀ (s s1 : State) (n : Nat) (r res : ColRec) (t : Truss), s.colTake n [5] = (s1, some (r, t)) → r.cnt ≠ 0 →
    (t.ownerOf r.b).result = some res → Next (.colRetry n) s (s1.colSend { res with dst := r.x0, rt := true })) ∧
  (∀ (s s1 : State) (n : Nat) (r : ColRec) (t : Truss), s.colTake n [4] = (s1, some (r, t)) →
    Next (.colSettle n) s
      (((s1.colForward r.part t r).estateSettle r.part r.entry t r).settleHere r.part r.entry r.b r.step)) ∧
  (∀ (s s1 : State) (n : Nat) (r : ColRec) (t : Truss), s.colTake n [1] = (s1, some (r, t)) → r.rt = false →
    r.dig = digestOf t.dseed r.b (flipWords [] r.q) →
    let r1 := { r with q := flipWords [] r.q }
    let s4 := (s1.colForward r.part t r).setTruss r.part r.entry
      { t with rechecked := t.rechecked.filter (· != (r.b, r.step.toNat)) }
    Next (.colResult n []) s
      (((s4.deliverBlock r.part r.entry t r1).estateSettle r.part r.entry t r1).settleHere r.part r.entry r.b r.step)) ∧
  (∀ (s s1 : State) (c : Nat) (u : Supply) (h : Bool), aget s.supplies c = some u → s.backPressed u.part 7 = false →
    s.supplyAll u.part u.truss c u.lcore u.epoch (u.elems.map fun e => (e.1, e.2, [])) = (s1, u.elems.length, h) →
    Next (.colSupply false c) s { s1 with supplies := adel s1.supplies c }) ∧
  (∀ (s s1 : State) (id n : Nat) (g : Csend) (t : Truss), s.sends.find? (fun g => g.id == id) = some g → g.pos < g.len →
    s.clocked g.core = true → s.backPressed g.part 7 = false → s.trussAt g.part g.truss = some t →
    let l := s.pbytes (spadAddr g.core (g.base + g.pos)) 64
    let els := (List.range (min (64 / t.sendSize) ((g.len - g.pos) / t.sendSize))).map fun i =>
      let e := (l.drop (i * t.sendSize)).take t.sendSize
      (g.key.toNat + g.pos / t.sendSize + i, (BitVec.ofNat 32 (leNat (dataOf e)), anyPoison e), e)
    s.supplyAll g.part g.truss g.core g.lcore g.epoch els = (s1, n, false) →
    Next (.colSupply true id) s
      { s1 with sends := s1.sends.map fun y => if y.id = id then { y with pos := y.pos + n * t.sendSize } else y }) ∧
  (∀ (s s1 : State) (n k : Nat) (r : ColRec) (t : Truss), s.colTake n [6] = (s1, some (r, t)) →
    let lo := (t.own.map (·.step)).foldl min ((t.own.map (·.step)).headD 0)
    (BitVec.ofNat 8 lo = r.step ∧ k = lo ∨ BitVec.ofNat 8 lo ≠ r.step ∧ BitVec.ofNat 8 (lo + 1) = r.step ∧ k = lo + 1) →
    let sz := t.sendSize
    let nel := r.bytes.length / sz
    let w := (List.range nel).foldl (fun (a : State × List Nat) i =>
      let x := r.x0 + i
      if x < t.nelem then
        let (s, ok) := a.1.colStore r.part r.entry t (x / 64) (t.gbuf + x * sz) ((r.bytes.drop (i * sz)).take sz)
        (s, if ok then a.2.filter (· != x) else sput a.2 x)
      else a) (s1, t.failed)
    let arr := (List.range nel).foldl (fun l i => if r.x0 + i < t.nelem then sput l (r.x0 + i) else l) ((aget t.arrived k).getD [])
    let s4 := (w.1.setTruss r.part r.entry
      ({ t with arrived := aset t.arrived k arr, failed := w.2 }.stamp s.plumb)).colComplete r.part r.entry
    Next (.colGatherData n) s
      ((s4.ags.filter fun a => a.part == r.part && a.truss == r.entry).foldl (fun s a => State.agRun a.id 4096 s) s4)))
  ∧
  (
  (∀ (s s1 s2 : State) (p : BitVec 3) (src : Src) (id : BitVec 12) (l ml : List PByte) (t : Truss),
    let P := p.toNat
    let s0 := s.trsCmd P id.toNat 1
    let base := (s0.reg ⟨.trsBaseLo, P, 0⟩).toNat + 2 ^ 32 * s0.rfld ⟨.trsBaseHi, P, 0⟩ 15 0
    Reaches s src ⟨.trsCmd, P, 0⟩ → (s0.part P).built = true → s0.trussAt P id.toNat = none →
    s0.vload P (base + id.toNat * 128) 128 0 = some (s1, l) → anyPoison l = false → trussFields (dataOf l) = true →
    s1.vload P (dfield (dataOf l) 8 8) (dfield (dataOf l) 4 4 * 8) 0 = some (s2, ml) → anyPoison ml = false →
    s2.trussCheck P (dataOf l) (membersOf (dfield (dataOf l) 4 4) (dataOf ml)) = .inr t →
    s2.trussJoinerOk P id.toNat t = true →
    Next (.trussInstall p src id) s ((s2.setTruss P id.toNat t).cmdDone ⟨.trsStatus, P, 0⟩ 0 0 8 (some P))) ∧
  (∀ (s : State) (p : BitVec 3) (src : Src) (id : BitVec 12) (t : Truss),
    let P := p.toNat
    let s0 := s.trsCmd P id.toNat 2
    Reaches s src ⟨.trsCmd, P, 0⟩ → s0.trussAt P id.toNat = some t → t.active = false →
    Next (.trussRetire p src id) s
      ({ s0 with trusses := adel s0.trusses (P, id.toNat) }.cmdDone ⟨.trsStatus, P, 0⟩ 0 0 8 (some P))) ∧
  (∀ (s : State) (p : BitVec 3) (id : BitVec 12) (pos : Nat) (t : Truss) (m : OwnMem),
    let P := p.toNat
    let lim := (s.reg ⟨.prtWdCol, P, 0⟩).toNat
    s.trussAt P id.toNat = some t → t.own.find? (fun m => m.pos == pos) = some m → lim ≠ 0 → t.stalled m = true →
    lim ≤ s.since m.last → s.partStopped P = false →
    Next (.colTimeout p id pos) s (((s.endStep P id.toNat pos).count .prtWdCnt P 1).inspect P 0 0x03)))

/-! ### Memory (07) -/

/-- MEM_READ and MEM_WRITE complete, and a reply arrives (R20, R235, R402, R414, R416): with the partition's epoch current,
every byte the partition's own and no error struck, a read is answered with the bytes the partition's path reads, a write
stores its bytes on that path and is answered; Welyar reads and writes what it may reach (R24); an address of another package
goes to the tray window (R30); a reply of current epochs goes to its engine or core.
Requests of an old epoch are dropped and counted (R402, R416): a read, a write, a reply.
It rests on the model's readings in log 9. -/
def Obligations.MemoryRequestsAndStaleOnes : Prop :=
  (
  (∀ (s : State) (p : BitVec 3) (by_ : Issuer) (pa len : Nat) (hint : BitVec 2) (t0 : Time),
    by_ ≠ .welyar → pa < 2 ^ 44 → s.served p.toNat pa len = true →
    let r := s.loadP p.toNat pa len hint.toNat
    ∃ t, Next (.memRead p (s.part p.toNat).epoch by_ pa len hint false t0 []) s t ∧ t.mem = r.1.mem ∧
      ∃ y, t.replies = r.1.replies ++ [y] ∧ y.data = r.2 ∧ y.err = false ∧ y.dest = by_ ∧ y.part = p.toNat) ∧
  (∀ (s : State) (p : BitVec 3) (by_ : Issuer) (pa : Nat) (hint : BitVec 2) (data : List (Byte × Bool)),
    by_ ≠ .welyar → pa < 2 ^ 44 → s.served p.toNat pa data.length = true → s.staleWrite p.toNat pa by_ = false →
    let s1 := s.storeBy by_.rank p.toNat pa hint.toNat data
    ∃ t, Next (.memWrite p (s.part p.toNat).epoch by_ pa hint data []) s t ∧ t.mem = s1.mem ∧ t.poison = s1.poison ∧
      ∃ y, t.replies = s1.replies ++ [y] ∧ y.err = false ∧ y.dest = by_) ∧
  (∀ (s : State) (p : BitVec 3) (e : BitVec 8) (pa len : Nat) (hint : BitVec 2) (lat : Bool) (t0 : Time)
      (data : List (Byte × Bool)), pa < 2 ^ 44 →
    (s.reachable pa len = true → Next (.memRead p e .welyar pa len hint lat t0 []) s
      ((s.readPkg pa len).1.reply p.toNat e .welyar (s.readPkg pa len).2 false none t0)) ∧
    (s.reachable pa data.length = true → Next (.memWrite p e .welyar pa hint data []) s
      ((s.writePkg Issuer.welyar.rank pa (dataOf data)).reply p.toNat e .welyar [] false none s.plumb))) ∧
  (∀ (s : State) (p : BitVec 3) (e : BitVec 8) (by_ : Issuer) (pa len : Nat) (hint : BitVec 2) (lat : Bool) (t0 : Time)
      (data : List (Byte × Bool)), 2 ^ 44 ≤ pa →
    (twLen len = true → Next (.memRead p e by_ pa len hint lat t0 []) s (s.trayRequest p.toNat e by_ pa len none)) ∧
    (twLen data.length = true → Next (.memWrite p e by_ pa hint data []) s
      (s.trayRequest p.toNat e by_ pa data.length (some (dataOf data))))) ∧
  (∀ (s : State) (id : Nat) (r : Reply), s.replies.find? (fun y => y.id == id) = some r →
    r.pepoch = (s.part r.part).epoch →
    let s1 := { s with replies := s.replies.filter fun y => y.id != id }
    (∀ n, r.dest = .engine n (s.eepoch n) → Next (.memReplyArrive id) s (s1.takeReply r)) ∧
    (r.dest = .welyar → Next (.memReplyArrive id) s (s1.takeReply r)) ∧
    (∀ c l e x, r.dest = .core c l e x → s.fresh r.part (some l) e = true → Next (.memReplyArrive id) s (s1.takeReply r))))
  ∧
  (
  ∀ (s : State) (p : BitVec 3) (e : BitVec 8), (s.part p.toNat).epoch ≠ e →
    let t := s.count .prtEpochDropCnt p.toNat 1
    (∀ by_ pa len hint lat t0 errs, by_ ≠ .welyar → pa < 2 ^ 44 → Next (.memRead p e by_ pa len hint lat t0 errs) s t) ∧
    (∀ by_ pa hint data errs, by_ ≠ .welyar → pa < 2 ^ 44 → Next (.memWrite p e by_ pa hint data errs) s t) ∧
    (∀ (id : Nat) (r : Reply), s.replies.find? (fun y => y.id == id) = some r → r.part = p.toNat → r.pepoch = e →
      r.dest ≠ .welyar →
      Next (.memReplyArrive id) s
        ({ s with replies := s.replies.filter fun y => y.id != id }.count .prtEpochDropCnt p.toNat 1)))

/-- BULK_PROMOTE, the scrubs, HBM_LAT_MAX_READ and the deck commands complete (R236, R238, R239, R247, R258, R441): a bulk
request past the guard time is promoted and counted; a scrub counts a corrected error of its channel and reads the lines of
its deck; the maximum is read and cleared; a flush writes the deck's lines back and shows `flush` until it is complete,
then `flush_done`; the keep marks of a partition's lines are dropped.
It rests on the model's readings in logs 5, 45. -/
def Obligations.ChannelsAndDecks : Prop :=
  (∀ (s : State) (chan waited p : Nat), s.partOfChan chan = some p → (s.part p).prio = true →
    s.rfld ⟨.hbmArb, s.physChan chan, 0⟩ 15 0 ≤ waited →
    Next (.bulkPromote chan waited) s (s.count .hbmPromoteCnt (s.physChan chan) 1)) ∧
  (∀ (s : State) (chan a off : Nat), s.rbit ⟨.mgtScrubCtl, 0, 0⟩ 0 = true → s.place a = .hbm chan off →
    Next (.hbmScrubPass chan [.ce a]) s (s.chanCe (s.physChan chan)) ∧
    Next (.hbmScrubPass chan [.ue a]) s
      ((s.chanUe (s.physChan chan) (bitsOf a 30 0)).markGranule (a / 32) true)) ∧
  (∀ (s : State) (die : BitVec 2) (e : MemErr), s.rbit ⟨.mgtScrubCtl, 0, 0⟩ 0 = true →
    (∃ a, e.addr = some a ∧ hbmDie a = die.toNat ∧ (s.deckFind die.toNat (a / 128)).isSome = true) →
    Next (.deckScrubPass die [e]) s (s.memErr e)) ∧
  (∀ (s : State) (chan : Nat) (src : Src), s.reaches src ⟨.hbmLatMax, chan, 0⟩ false = true →
    Next (.hbmLatMaxRead chan src) s
      { s.setReg ⟨.hbmLatMax, chan, 0⟩ 0#32 with lastRead := some (s.reg ⟨.hbmLatMax, chan, 0⟩) }) ∧
  (∀ (s : State) (die : BitVec 2) (p : BitVec 3) (src : Src),
    let k : RKey := ⟨.dckCmd, deckUnit die.toNat p.toNat, 0⟩
    (Reaches s src k → s.rbit k 0 = false →
      Next (.deckFlush die p src) s ((s.deckFlush die.toNat p.toNat).setFld k 0 0 1)) ∧
    (s.rbit k 0 = true → Next (.deckFlushComplete die p) s ((s.setFld k 0 0 0).setFld k 2 2 1)) ∧
    (Reaches s src k → Next (.deckUnkeep die p src) s
      { s with deck := s.deck.map fun (l : DeckLine) =>
          if l.die = die.toNat ∧ l.part = p.toNat then { l with keep := false } else l }))

/-- Memory is held in one canonical form, and every write of a byte keeps it (R24, R250): a byte that was written reads as
written, every other address reads as before.
It rests on the model's readings in log 6. -/
def Obligations.MemoryReadsWhatWasWritten : Prop :=
  ∀ (m : List (Nat × Byte)) (a b : Nat) (v : Byte), Memory.wf m →
    Memory.wf (Memory.write m a v) ∧ Memory.read (Memory.write m a v) a = some v ∧
    (b ≠ a → Memory.read (Memory.write m a v) b = Memory.read m b)

/-! ### Joiners (09) -/

/-- The joiner's blocks complete (R285, R305, R306, R309, R314): an offered block of the latched step is accepted and
settled; an accepted block that a joiner of its die takes runs the element program or the rows it completes, and one that is
poisoned or not finite is skipped; a complete row runs its program; the step is latched through the gate
peg, whose value falls by 1.
The joiner commands complete (R293 to R296, R303, R317 to R323): a context whose record passes the checks is installed,
one that nothing uses is retired, a program that passes the checks is loaded and one that nothing names freed, each with
result 0; an export and an import of an idle context are served.
It rests on the model's readings in log 85. -/
def Obligations.JoinerWork : Prop :=
  (
  (∀ (s : State) (p : BitVec 3) (entry : BitVec 12) (block : Nat) (t : Truss) (o : OwnerBlk) (r : ColRec) (keep : Bool)
      (j : JCtx), s.offeredBlock p.toNat entry.toNat block = some (t, o, (r, keep)) →
    aget s.jctxs (p.toNat, t.jctx) = some j → j.active.isSome = true → j.done.contains block = false →
    j.queue.any (fun q => q.crec.b == block) = false → s.dispatcherLoad t.sumDie < 256 → s.backPressed p.toNat 7 = false →
    Next (.joinerBlockOffer p entry block) s
      (((s.setJctx p.toNat t.jctx { j with queue := j.queue ++ [{ crec := r, pos := t.ownerPos block }] }).settle p.toNat
        entry.toNat r keep).colComplete p.toNat entry.toNat)) ∧
  (∀ (s : State) (p : BitVec 3) (id : BitVec 10) (n : BitVec 4) (block : Nat) (jb : JJob) (t : JExt) (q : JBlock) (a : JLatch)
      (g : JProg), s.jnrTake p.toNat id.toNat n.toNat block = some (jb, t, q) → s.pubHeld jb.p jb.j = false →
    (q.crec.poison = true → Next (.joinerBlockApply p id n block []) s ((s.skipBlock jb t block 1).rowBlocksDone jb t)) ∧
    (q.crec.poison = false → q.crec.nf = true →
      Next (.joinerBlockApply p id n block []) s ((s.skipBlock jb t block 2).rowBlocksDone jb t)) ∧
    (q.crec.poison = false → q.crec.nf = false → s.jnrProgOf jb.p jb.j = some (a, g) →
      (jb.j.dim = 0 → Next (.joinerBlockApply p id n block []) s (s.applyElems jb t q.crec a g [])) ∧
      (jb.j.dim ≠ 0 → Next (.joinerBlockApply p id n block []) s
        (((upto (64 * block / jb.j.dim) (64 / jb.j.dim + 1)).foldl (fun s r => s.applyRow jb t a g r []) s).rowBlocksDone jb t)))) ∧
  (∀ (s : State) (p : BitVec 3) (id : BitVec 10) (n : BitVec 4) (row : Nat) (jb : JJob) (t : JExt) (q : JBlock) (j : JCtx)
      (a : JLatch) (g : JProg), aget s.jctxs (p.toNat, id.toNat) = some j →
    s.jnrTake p.toNat id.toNat n.toNat (row * j.dim / 64) = some (jb, t, q) → s.jnrProgOf jb.p j = some (a, g) →
    Next (.joinerRowApply p id n row []) s (s.applyRow jb t a g row [])) ∧
  (∀ (s : State) (p : BitVec 3) (id : BitVec 10) (j : JCtx) (t : Truss) (h : PegHome),
    aget s.jctxs (p.toNat, id.toNat) = some j → s.trussAt p.toNat j.entry = some t → j.active = none → j.xp = none →
    j.gate = some h → j.granted = false → j.gated = false → t.joiner = true → t.jctx = id.toNat →
    (t.owner.any fun o => o.offered.isSome) = true → 1 ≤ (s.peg h).toNat →
    let s1 := s.setPeg h (s.peg h - 1#32)
    Next (.joinerStepLatch p id) s
      ((s1.jnrSlot p.toNat j).1.setJctx p.toNat id.toNat
        { j with active := some (s1.jnrSlot p.toNat j).2, ext := some t.ext, gated := false, granted := false })))
  ∧
  (
  (∀ (s s1 : State) (p : BitVec 3) (src : Src) (id : BitVec 10) (l : List PByte),
    let P := p.toNat
    let s0 := s.jnrCmd P id.toNat 1
    let va := s0.jnrBase P + id.toNat * 256
    Reaches s src ⟨.jnrCmd, P, 0⟩ → (s0.part P).built = true → aget s0.jctxs (P, id.toNat) = none →
    s0.vload P va 256 0 = some (s1, l) → s1.jctxCheck P l = 0 →
    Next (.joinerCtxInstall p src id) s
      ((s1.setJctx P id.toNat (JCtx.ofBytes va (dataOf l))).cmdDone ⟨.jnrStatus, P, 0⟩ 0 0 8 (some P))) ∧
  (∀ (s : State) (p : BitVec 3) (src : Src) (id : BitVec 10) (j : JCtx),
    let P := p.toNat
    let s0 := s.jnrCmd P id.toNat 2
    Reaches s src ⟨.jnrCmd, P, 0⟩ → aget s0.jctxs (P, id.toNat) = some j → j.active = none → j.gated = false →
    (s0.trusses.any fun e => e.1.1 == P && e.2.joiner && e.2.jctx == id.toNat) = false →
    Next (.joinerCtxRetire p src id) s
      ({ s0 with jctxs := adel s0.jctxs (P, id.toNat) }.cmdDone ⟨.jnrStatus, P, 0⟩ 0 0 8 (some P))) ∧
  (∀ (s s1 s2 : State) (p : BitVec 3) (src : Src) (slot : BitVec 6) (h c : List PByte) (g : JProg),
    let P := s.progPart src p.toNat
    let s0 := s.progCmd slot.toNat P 1
    let va := (s0.reg ⟨.jnrProgAddrLo, 0, 0⟩).toNat + 2 ^ 32 * s0.rfld ⟨.jnrProgAddrHi, 0, 0⟩ 15 0
    Reaches s src ⟨.jnrProgCmd, 0, 0⟩ → (∀ u, aget s0.jprogs slot.toNat = some u → u.part = P) →
    (s0.jctxs.any fun e => match e.2.active with | some a => a.prog == slot.toNat | none => false) = false →
    s0.vload P va 16 0 = some (s1, h) →
    s1.vload P (va + 16) (4 * (dfield (dataOf h) 4 1 + dfield (dataOf h) 5 1 + dfield (dataOf h) 6 1)) 0 = some (s2, c) →
    progOf P (dataOf h) (dataOf c) = some g → anyPoison h = false → anyPoison c = false → va % 16 = 0 →
    Next (.joinerProgLoad src p slot) s
      ({ s2 with jprogs := aset s2.jprogs slot.toNat g }.cmdDone ⟨.jnrProgStatus, 0, 0⟩ 0 0 0 (some P))) ∧
  (∀ (s : State) (p : BitVec 3) (src : Src) (slot : BitVec 6) (g : JProg),
    let P := s.progPart src p.toNat
    let s0 := s.progCmd slot.toNat P 2
    Reaches s src ⟨.jnrProgCmd, 0, 0⟩ → aget s0.jprogs slot.toNat = some g → g.part = P → s0.slotNamed P slot.toNat = false →
    Next (.joinerProgFree src p slot) s
      ({ s0 with jprogs := adel s0.jprogs slot.toNat }.cmdDone ⟨.jnrProgStatus, 0, 0⟩ 0 0 0 (some P))) ∧
  (∀ (s s1 : State) (p : BitVec 3) (src : Src) (l : List PByte) (j : JCtx) (im : Bool),
    let P := p.toNat
    let k : RKey := ⟨.jnrXpCmd, P, 0⟩
    let va := (s.reg ⟨.jnrXpAddrLo, P, 0⟩).toNat + 2 ^ 32 * s.rfld ⟨.jnrXpAddrHi, P, 0⟩ 15 0
    let d := dataOf l
    Reaches s src k → s.rbit k 0 = false → (s.part P).built = true → s.vload P va 64 0 = some (s1, l) →
    anyPoison l = false → dfield d 0 1 = (if im then 2 else 1) → va % 64 = 0 →
    aget s1.jctxs (P, dfield d 2 2) = some j → j.active = none →
    Next (if im then .stateImport p src else .stateExport p src) s ((s1.setFld k 0 0 1).xpServe P d)))

/-! ### Maintenance and reliability (15, 17) -/

/-- The maintenance commands complete (R515, R516, R520): a request that conflicts with nothing runs, one that conflicts
joins the queue; an activity that runs ends, the queue is examined, and a partition reset that waited for it begins; `hold` is written, and its clearing examines the
queue.
Substitutions and detected errors complete (R439, R440, R443, R444, R447, R455): a pending core whose activity is
granted moves to the lowest reserve core; a suspect channel whose activity is granted is marked with its spare until the
copy is done, when the spare takes the slot and the channel is retired; a parity error of a peg poisons it; a residue
mismatch of a scalar unit faults the context with cause 3 and makes the core suspect.
It rests on the model's readings in log 5. -/
def Obligations.MaintenanceAndErrors : Prop :=
  (
  (∀ (s : State) (code unit : Nat), 1 ≤ code → code ≤ 10 → s.maintFree s.maintQueue ⟨code, unit⟩ = true →
    ∃ t, Next (.maintRequest code unit) s t ∧ t.maintRun = s.maintRun ++ [⟨code, unit⟩] ∧ t.maintQueue = s.maintQueue) ∧
  (∀ (s : State) (code unit : Nat), 1 ≤ code → code ≤ 10 → s.maintFree s.maintQueue ⟨code, unit⟩ = false →
    s.maintQueue.length < 256 →
    ∃ t, Next (.maintRequest code unit) s t ∧ t.maintRun = s.maintRun ∧ t.maintQueue = s.maintQueue ++ [⟨code, unit⟩]) ∧
  (∀ (s : State) (code unit : Nat), s.maintRun.contains ⟨code, unit⟩ = true →
    Next (.maintActivityEnd code unit) s ((List.range 8).foldl State.waitingReset (State.maintScan [] s.maintQueue
      (({ s with maintRun := s.maintRun.erase ⟨code, unit⟩ }.count .mgtMaintDoneCnt 0 1).maintEvent ⟨code, unit⟩ 1)))) ∧
  (∀ (s : State) (src : Src), Reaches s src ⟨.mgtMaintCtl, 0, 0⟩ →
    let k : RKey := ⟨.mgtMaintCtl, 0, 0⟩
    Next (.maintHoldWrite src true) s (s.setFld k 0 0 1) ∧
    Next (.maintHoldWrite src false) s (State.maintScan [] (s.setFld k 0 0 0).maintQueue (s.setFld k 0 0 0))))
  ∧
  (
  (∀ (s : State) (core : CoreAddr) (p l b : Nat),
    let c := core.toNat
    let act : Activity := ⟨4, bentOf c⟩
    let q := s.part p
    s.partOfCore c = some p → s.lcoreOf c = some l → s.pendingSub.contains c = true → q.fenced = false →
    (s.pendingSub.filter fun y => q.coreMap.contains y && decide (y < c)).length < q.reserve.length →
    (∀ x < 4, (s.ctx c x).st = .empty) → s.inFlight c = false → s.maintRun.contains act = true → q.reserve.head? = some b →
    let s2 := s.moveCore p l c b
    Next (.coreSubstitute core .pass) s
      ((({ s2 with pendingSub := sdel s2.pendingSub c }.count .mgtSubstCnt 0 1).probedCore c .pass).maintEnd act)) ∧
  (∀ (s : State) (chan spare : Nat), (aget s.suspects (6, chan)).isSome = true → chan ≠ spare → chan / 32 = spare / 32 →
    chan < 768 → s.partOfChan spare = none → s.retired.contains (6, spare) = false → s.slotHole spare = false →
    s.rbit ⟨.hbmChMap, spare, 0⟩ 5 = false → s.rbit ⟨.hbmChMap, spare, 0⟩ 6 = false → s.rbit ⟨.hbmChMap, chan, 0⟩ 6 = false →
    s.slotHole chan = false → s.maintRun.contains ⟨6, chan / 32⟩ = true →
    Next (.channelSubstitute chan spare) s
      ((({ s with copies := aset s.copies chan (spare, s.plumb) }).setFld ⟨.hbmChMap, chan, 0⟩ 6 6 1).setFld
        ⟨.hbmChMap, spare, 0⟩ 6 6 1)) ∧
  (∀ (s : State) (chan spare : Nat) (t0 : Time), aget s.copies chan = some (spare, t0) →
    let slot := s.rfld ⟨.hbmChMap, chan, 0⟩ 4 0
    let s1 := { s with copies := adel s.copies chan, suspects := adel s.suspects (6, chan) }
    let s2 := (s1.setFld ⟨.hbmChMap, chan, 0⟩ 6 6 0).setReg ⟨.hbmChMap, spare, 0⟩ (BitVec.ofNat 32 (slot + 32))
    Next (.channelCopyDone chan) s (((s2.retireUnit 6 chan).count .mgtSubstCnt 0 1).maintEnd ⟨6, chan / 32⟩)) ∧
  (∀ (s : State) (h : PegHome), s.badPegs.contains h = false →
    Next (.controlParityError (.peg h)) s ({ s with badPegs := s.badPegs ++ [h] }.chkCount h.die)) ∧
  (∀ (s : State) (c x : Nat), validCore c = true →
    Next (.residueMismatch (.scalar c x)) s (((s.faultCtx c x 0x03#8).chkCount (coreDie c)).suspect 1 c)))

/-- The probes complete (R443, R448 to R451): a unit that is due and free is probed: one that passes leaves the suspects, one
that does not is retired, and its probe time is kept; a core is judged against its known column; a window opens over the bents
of a grant, which names none of the partition's or some, probes the next bent under its activity when none of its contexts is in
a run, and skips it otherwise; past its budget the window closes; a probe pack is checked in the order of R449 and loaded.
It rests on the model's readings in logs 37, 39. -/
def Obligations.Probes : Prop :=
  (∀ (s : State) (kind unit : Nat) (r : Machine.Probed), s.probePack ≠ [] →
    ((aget s.suspects (kind, unit)).isSome = true ∨ ∀ t, aget s.unitProbed (kind, unit) = some t → 2 ^ 46 ≤ s.since t) →
    (2 ≤ kind → kind ≤ 5 → s.unitHeld kind unit = false →
      let s1 := { s.probeCount r with unitProbed := aset s.unitProbed (kind, unit) s.plumb }
      (r = .pass → Next (.unitProbe kind unit r) s { s1 with suspects := adel s1.suspects (kind, unit) }) ∧
      (r ≠ .pass → Next (.unitProbe kind unit r) s (s1.retireUnit kind unit))) ∧
    (kind = 1 → s.enabled unit = true → s.partOfCore unit = none →
      Next (.unitProbe kind unit r) s (s.probedCore unit r))) ∧
  (∀ (s : State) (p : BitVec 3) (src : Src) (lo hi : Nat), Reaches s src ⟨.prtProbeGrant, p.toNat, 0⟩ → lo < 128 → hi < 128 →
    (s.part p.toNat).window = none → (s.part p.toNat).built = true → (s.part p.toNat).fenced = false →
    let s1 := s.setReg ⟨.prtProbeGrant, p.toNat, 0⟩ (BitVec.ofNat 32 (lo + hi * 128 + 2 ^ 14))
    let bs := (upto lo (hi + 1 - lo)).filterMap (s1.bentIndex p.toNat)
    let s2 := s1.setPart p.toNat { s1.part p.toNat with window := some { bents := bs, t0 := s.plumb } }
    (bs ≠ [] → Next (.probeWindow p (some (src, lo, hi)) []) s s2) ∧
    (bs = [] → Next (.probeWindow p (some (src, lo, hi)) []) s (s2.endWindow p.toNat false))) ∧
  (∀ (s : State) (p : BitVec 3) (w : Window) (b n : Nat) (r : List Nat) (res : List (Nat × Machine.Probed)),
    let P := p.toNat
    (s.part P).window = some w → w.bents = b :: n :: r → s.maintRun.contains ⟨5, b⟩ = true →
    (∀ c ∈ coresOfBent b, ∀ x < 4, (s.ctx c x).inRun = false) →
    let va := (s.reg ⟨.prtProbeSaveLo, P, 0⟩).toNat + 2 ^ 32 * s.rfld ⟨.prtProbeSaveHi, P, 0⟩ 15 0
    let s1 := (List.range 3200).foldl (fun s i =>
      { s.vput P (va + ((w.probed + w.skipped) * 3200 + i) * 0x14800) ((Config.saveImage s.draws).take 0x14800) with
          draws := s.draws + 1 }) s
    let s2 := (res.filter fun e => (coresOfBent b).contains e.1).foldl (fun s e => s.windowCore P e.1 e.2) s1
    Next (.probeWindow p none res) s
      ((s2.setPart P { s2.part P with window := some { w with bents := n :: r, probed := w.probed + 1 } }).maintEnd ⟨5, b⟩)) ∧
  (∀ (s : State) (p : BitVec 3) (w : Window) (b n c x : Nat) (r : List Nat) (res : List (Nat × Machine.Probed)),
    let P := p.toNat
    (s.part P).window = some w → w.bents = b :: n :: r → s.maintRun.contains ⟨5, b⟩ = true →
    c ∈ coresOfBent b → x < 4 → (s.ctx c x).inRun = true →
    Next (.probeWindow p none res) s
      ((s.setPart P { s.part P with window := some { w with bents := n :: r, skipped := w.skipped + 1 } }).maintEnd ⟨5, b⟩)) ∧
  (∀ (s : State) (p : BitVec 3) (w : Window), (s.part p.toNat).window = some w →
    (s.reg ⟨.prtProbeBudget, p.toNat, 0⟩).toNat ≤ s.since w.t0 →
    (w.bents = [] → Next (.probeBudgetExpire p) s (s.endWindow p.toNat true)) ∧
    (∀ b r, w.bents = b :: r →
      Next (.probeBudgetExpire p) s (((s.maintCancel ⟨5, b⟩).maintEnd ⟨5, b⟩).endWindow p.toNat true))) ∧
  (∀ (s : State) (src : Src) (fwd : Bool), Reaches s src kProbeCmd →
    let s1 := s.setReg kProbeCmd (BitVec.ofNat 32 (if fwd then 2 else 1))
    let pa := (s1.reg ⟨.mgtProbeAddrLo, 0, 0⟩).toNat + 2 ^ 32 * s1.rfld ⟨.mgtProbeAddrHi, 0, 0⟩ 11 0
    let h := s1.bytes pa 0x20
    let len := dfield h 8 4
    let d := s1.bytes pa len
    let s2 := { s1 with probePack := d }.setReg ⟨.mgtProbeId, 0, 0⟩ (BitVec.ofNat 32 (dfield d 4 4))
    Next (if fwd then .probePackLoadForward src else .probePackLoad src) s
      (if (List.range 8).any fun p => (s1.part p).window.isSome then s1.probeDone 1 0
       else if s1.freeHbm pa 0x20 = false then s1.probeDone 3 0
       else if anyPoison (s1.pbytes pa 0x20) = true ∨ packFields h = false ∨ pa % 4096 ≠ 0 then s1.probeDone 2 1
       else if 2 ^ 26 < len ∨ len < 0x20 + 32 * dfield h 0xC 2 + 4723 then s1.probeDone 2 3
       else if s1.freeHbm pa len = false then s1.probeDone 3 0
       else if anyPoison (s1.pbytes pa len) = true ∨ packItems d = false then s1.probeDone 2 1
       else if (Config.authentic s.flash.revoked d).isNone = true then s1.probeDone 2 2
       else (if fwd then { s2 with msgs := s2.msgs ++ [.probePack d] } else s2).probeDone 0 0))

/-! ### The fabric (11) -/

/-- The port commands complete (R330 to R332, R356 to R361, R418): training with a partner of its own plane ends Up with 16 good
lanes, or Up narrow with 8 where that is allowed; else it is tried again twice and the port is Down; a held port trains when its
delay ends; a retrain, a partner silent for 2^20 pt, a failed lane without a spare and a wake tone that is not answered in 2^16
pt start training; a lane past the threshold is asked for and, at the boundary that both sides know, swapped for a spare, a lane
that failed at once; a port sleeps at its boundary once the partner has agreed, wakes, and is Up again when the times agree within
2^16 pt, else it is unaligned and trains.
It rests on the model's readings in logs 5, 26, 28. -/
def Obligations.PortsTrainSleepAndWake : Prop :=
  (∀ (s : State) (port : BitVec 3) (errs : List (Option Nat)) (partner : Option Machine.Partner),
    let n := port.toNat
    let q := s.port n
    let es := (List.range 18).map fun i => if s.assemblyBad 2 n i then none else (errs[i]?).bind id
    let good := ((List.range 18).filter fun i => ((es[i]?).bind id).isSome).length
    let k := if 16 ≤ good then 16 else if 8 ≤ good ∧ s.rbit ⟨.lmdCtl, n, 0⟩ 1 = true then 8 else 0
    q.st = .training →
    (∀ p, partner = some p → p.plane = n → k ≠ 0 →
      ∃ t, Next (.portTrainDone port errs partner) s t ∧ (t.port n).st = .up ∧ (t.port n).lanes = (laneSelect es k).1 ∧
        (t.port n).spares = (if k = 16 then (laneSelect es k).2 else []) ∧ (t.port n).narrow = decide (k = 8) ∧
        (t.port n).addr = some p.addr) ∧
    ((∀ p, partner = some p → p.plane = n → k = 0) →
      (q.tries < 2 → Next (.portTrainDone port errs partner) s (s.setPort n { q with tries := q.tries + 1 })) ∧
      (2 ≤ q.tries → Next (.portTrainDone port errs partner) s
        (((s.setFld ⟨.lmdCtl, n, 0⟩ 2 2 0).portTo n { q with tries := 0, dead := good == 0 } .down).pldmEvent 0x0009 n)))) ∧
  (∀ (s : State) (port : BitVec 3),
    let n := port.toNat
    let k : RKey := ⟨.lmdCtl, n, 0⟩
    ((s.port n).held = true → s.trainHeld n = false → Next (.portTrainingDelayExpire port) s (s.startTrain n)) ∧
    (∀ src, Reaches s src k → (s.port n).st ≠ .off → Next (.portRetrain port src) s ((s.startTrain n).setFld k 2 2 1)) ∧
    ((s.port n).st = .up → 2 ^ 20 ≤ s.since (s.port n).lastCtl → Next (.partnerSilent port) s (s.startTrain n)) ∧
    ((s.port n).st = .waking → 65536 ≤ s.since (s.port n).wakeT → Next (.wakeToneTimeout port) s (s.startTrain n)) ∧
    ((s.port n).st ≠ .up → ((s.startTrain n).port n).st = .training ∧ ((s.startTrain n).port n).held = false)) ∧
  (∀ (s : State) (port : BitVec 3) (lane boundary : Nat),
    let n := port.toNat
    let q := s.port n
    let act : Activity := ⟨9, n⟩
    q.st = .up → lane < q.lanes.length →
    (q.spares ≠ [] → (s.reg ⟨.lmdSwapTh, n, 0⟩).toNat < s.laneCount n lane → q.swapAsked.contains lane = false →
      (s.maintFree s.maintQueue act = true → ∃ t, Next (.lumderLaneSwapRequest port lane) s t ∧
        t.maintRun = s.maintRun ++ [act] ∧ (t.port n).swapAsked = q.swapAsked ++ [lane]) ∧
      (s.maintFree s.maintQueue act = false → s.maintQueue.length < 256 → ∃ t, Next (.lumderLaneSwapRequest port lane) s t ∧
        t.maintQueue = s.maintQueue ++ [act] ∧ (t.port n).swapAsked = q.swapAsked ++ [lane])) ∧
    (q.spares ≠ [] →
      (∀ b, q.swap = some (lane, b) → b ≤ q.sent → Next (.lumderLaneSwap port lane boundary) s (s.laneSwapped n lane)) ∧
      (∀ b, q.swap = none → q.swapWait = some (lane, b) → b ≤ q.sent →
        Next (.lumderLaneSwap port lane boundary) s ((s.laneSwapped n lane).maintEnd act)) ∧
      (q.swap = none → q.swapWait = none → q.swapAsked.contains lane = true → s.maintRun.contains act = true →
        q.sent + 1024 ≤ boundary → Next (.lumderLaneSwap port lane boundary) s
          ((s.setPort n { q with swapWait := some (lane, boundary) }).sendCtl n (.swap lane boundary)))) ∧
    (q.spares = [] → Next (.lumderLaneFail port lane) s (s.startTrain n)) ∧
    (∀ sp r, q.spares = sp :: r →
      (q.swapAsked.contains lane = false → Next (.lumderLaneFail port lane) s (s.laneSwapped n lane)) ∧
      (q.swapAsked.contains lane = true →
        Next (.lumderLaneFail port lane) s (((s.maintCancel act).maintEnd act).laneSwapped n lane)) ∧
      ((s.laneSwapped n lane).port n).lanes = q.lanes.set lane sp ∧ ((s.laneSwapped n lane).port n).spares = r)) ∧
  (∀ (s : State) (port : BitVec 3) (b : Nat),
    let n := port.toNat
    let q := s.port n
    (s.sleepOk n = true → q.sleepAt = none → q.sent < b →
      Next (.sleepRequest port b) s ((s.setPort n { q with sleepAt := some b }).sendCtl n (.sleepReq b))) ∧
    (q.sleepAt = some b → s.sleepOk n = true → q.sleepAcked = true → b ≤ q.sent →
      Next (.sleepEnter port) s (s.goSleep n) ∧ ((s.goSleep n).port n).st = .sleeping) ∧
    (q.st = .sleeping → Next (.wakeTrigger port true) s (s.portTo n { q with wakeT := s.plumb, tone := some s.plumb } .waking) ∧
      Next (.wakeTrigger port false) s (s.portTo n { q with wakeT := s.plumb, tone := none } .waking)) ∧
    (q.st = .up → q.sleepAt = some b → Next (.wakeTrigger port true) s
      ((s.setPort n { q with sleepAt := none, sleepAcked := false }).sendCtl n .sleepAbort))) ∧
  (∀ (s : State) (port : BitVec 3) (partner : Time) (rtt : Nat),
    let n := port.toNat
    let woff := match s.partOfPort n with | some p => (s.reg ⟨.tstPertWake, p, 0⟩).toInt | none => 0
    let d := max (-2147483648) (min 2147483647 (timeDiff (s.timeOf (domOfSpine (n / 2))) partner rtt + woff))
    let s1 := s.setReg ⟨.lmdTimeDiff, n, 0⟩ (BitVec.ofInt 32 d)
    (s.port n).st = .waking →
    (d.natAbs ≤ 65536 → Next (.fastWakeDone port true partner rtt) s (s1.wakeUp n rtt) ∧ ((s1.wakeUp n rtt).port n).st = .up) ∧
    (65536 < d.natAbs → Next (.fastWakeDone port true partner rtt) s (s1.unalign n)) ∧
    Next (.fastWakeDone port false partner rtt) s (s.unalign n))

/-- The frames complete (R334, R335, R343 to R345, R347, R351 to R353): an open frame of a flow that may send leaves when it is
full, holds a peg message, is `coalesce` pt old or is of an ended epoch, and wakes a sleeping port when every eligible one is
crowded; a data, tray-window or acknowledgement frame without a bad codeword that is for this package and passes the checks of
its slice or tray is opened under its key, and its bytes enter the flow's order or its records acknowledge frames; idle and
link-control frames with a good check are consumed; a frame with a bad codeword is dropped.
Frames for another package, of a foreign slice or of a foreign tray are dropped and counted (R352, R353).
It rests on the model's readings in logs 10, 26. -/
def Obligations.FramesLeaveArriveOrAreRejected : Prop :=
  (
  (∀ (s0 : State) (key : FlowKey),
    let s := s0.pump key
    let f := s.sflow key
    let n := min 1024 f.buf.length
    n ≠ 0 → (key.tray = true ∨ ((s.part key.part).fenced = false ∧ (s.part key.part).parked = false)) → s.phase = 0 →
    (n = 1024 ∨ f.marks ≠ [] ∨ f.epoch ≠ s.flowEpoch key ∨
      ∃ t, f.t0 = some t ∧ s.rfld ⟨.lmdTimers, key.part, 0⟩ 15 0 ≤ s.since t) →
    (∀ s1, (s.crowded key = false ∨ s.sleeper key = none) → s.sendFrame key f.epoch (f.buf.take n) = some s1 →
      Next (.frameClose key) s0 (s1.setSflow key ((s1.sflow key).taken n s.plumb))) ∧
    (s.crowded key = true → (s.sleeper key).isSome = true → Next (.frameClose key) s0 (s.wakeFor key))) ∧
  (∀ (s0 : State) (port : BitVec 3) (cws : List (List Nat)) (frame : Frame),
    let n := port.toNat
    let h := Head.ofBytes frame.head
    let s := Received s0 n cws
    s0.rxUp n = true → (s0.receive n cws).2 = true → h.dst = s.fabricAddr →
    (h.ftype = 1 → s.phase = 0 → s.sliceOk n h = true → (s.part h.dpart).parked = false →
      let k : FlowKey := ⟨false, h.dpart, h.src, h.spart⟩
      let seq := extSeq (s.flowPos k h.epoch) h.oseq
      let s1 := s.followKey k h.kidx
      Next (.dataFrame port cws frame) s0
        (match s.openFrame k h frame 0 seq with
         | none => s.count .lmdAuthFailCnt n 1
         | some pl =>
           match s1.flowAdmit k h.epoch seq with
           | none => s1.count .prtEpochDropCnt k.part 1
           | some f => s1.reorder k n f seq (pl.take h.plen))) ∧
    (h.ftype = 2 → s.phase = 0 → s.trayOk h = true →
      let k : FlowKey := ⟨true, 0, h.src, 0⟩
      let seq := extSeq (s.flowPos k h.epoch) h.oseq
      let s1 := s.followKey k h.kidx
      Next (.trayWindowFrame port cws frame) s0
        (match s.openFrame k h frame 1 seq with
         | none => s.count .lmdTwRejectCnt n 1
         | some pl =>
           match s1.flowAdmit k h.epoch seq with
           | none => s1.count .lmdTwRejectCnt n 1
           | some f => s1.reorder k n f seq (pl.take h.plen))) ∧
    (h.ftype = 4 → (h.kidx < 2 → s.sliceOk n h = true) → (2 ≤ h.kidx → s.trayOk h = true) →
      let tray := decide (2 ≤ h.kidx)
      let k : FlowKey := ⟨tray, h.dpart, h.src, h.spart⟩
      let seq := extSeq (s.ackAt k h.epoch) h.oseq
      let s1 := s.followKey k h.kidx
      (∀ f, aget s1.rflows k = some f → f.epoch = h.epoch) →
      Next (.ackFrame port cws frame) s0
        (match s.openFrame k h frame 2 seq with
         | none => if tray then s.count .lmdTwRejectCnt n 1 else s.count .lmdAuthFailCnt n 1
         | some pl => (ackList 64 (pl.take h.plen)).foldl (fun s d => s.ackOne tray h.src d)
             (s1.setSflow k { s1.sflow k with ackEp := h.epoch, ackPos := max (s1.ackAt k h.epoch) (seq + 1) })))) ∧
  (∀ (s : State) (port : BitVec 3) (cws : List (List Nat)) (frame : Frame) (msg : LinkCtl),
    let n := port.toNat
    let s1 := (s.receive n cws).1
    s.rxUp n = true →
    ((s.receive n cws).2 = true → frame.crcOk = true →
      ((Head.ofBytes frame.head).ftype = 0 → Next (.idleFrame port cws frame) s s1) ∧
      ((Head.ofBytes frame.head).ftype = 3 → Next (.linkControlFrame port cws frame msg) s
        ((s1.setPort n { s1.port n with lastCtl := s1.plumb }).linkCtl n msg))) ∧
    ((s.receive n cws).2 = false → Next (.dataFrame port cws frame) s s1 ∧ Next (.trayWindowFrame port cws frame) s s1 ∧
      Next (.ackFrame port cws frame) s s1 ∧ Next (.linkControlFrame port cws frame msg) s s1 ∧
      Next (.idleFrame port cws frame) s s1)))
  ∧
  (
  ∀ (s0 : State) (port : BitVec 3) (cws : List (List Nat)) (frame : Frame),
    let n := port.toNat
    let h := Head.ofBytes frame.head
    let s := Received s0 n cws
    s0.rxUp n = true → (s0.receive n cws).2 = true → s.phase = 0 →
    (h.ftype = 1 → h.dst ≠ s.fabricAddr → Next (.dataFrame port cws frame) s0 (s.count .lmdMisrouteCnt n 1)) ∧
    (h.ftype = 1 → h.dst = s.fabricAddr → s.sliceOk n h = false →
      Next (.dataFrame port cws frame) s0 (s.sliceReject n h frame)) ∧
    (h.ftype = 2 → h.dst = s.fabricAddr →
      (h.src / 4 ≠ s.fabricAddr / 4 ∨ h.src = s.fabricAddr ∨ h.spart ≠ 0 ∨ h.dpart ≠ 0 ∨ h.kidx < 2) →
      Next (.trayWindowFrame port cws frame) s0 (s.count .lmdTwRejectCnt n 1)))

/-- The timers of flows and keys complete (R345, R346, R417, R511), and a delivered peg message is applied (R199): an
acknowledgement is due after 128 frames or 4,096 pt; the missing frames before the first kept one are asked for after `gap_to`,
three times each, then the flow breaks; an unacknowledged
frame is sent again after 2^20 pt; a quiet flow record becomes dormant after 2^32 pt; a port avoided for 2^30 pt is used
again; the next key is written 2^32 pt after a switch.
It rests on the model's readings in logs 27, 29. -/
def Obligations.FlowTimersAndPegMessages : Prop :=
  (∀ (s : State) (key : FlowKey) (f : RFlow), aget s.rflows key = some f →
    (f.broken = false → f.unacked ≠ 0 → (128 ≤ f.unacked ∨ 4096 ≤ s.since f.ackT) →
      Next (.ackSend key) s (s.ackRecord key (f.next % 2 ^ 32))) ∧
    (2 ^ 32 ≤ s.since f.last → f.kept = [] →
      Next (.flowDormant key) s { s with rflows := aset s.rflows key { f with dormant := true } })) ∧
  (∀ (s : State) (key : FlowKey) (f : RFlow) (q0 : Nat) (k0 : Machine.Kept) (r : List (Nat × Machine.Kept)),
    aget s.rflows key = some f → f.kept = (q0, k0) :: r → f.broken = false → s.gapTo key ≤ s.since (f.gapSince s.plumb) →
    let lo := (r.map (·.1)).foldl min q0
    let asked := ((aget f.naks f.next).map (·.1)).getD 0
    (asked < 3 → ∀ s1 f1, s.sendAck key true (f.next % 2 ^ 32) (lo - f.next) = some s1 → aget s1.rflows key = some f1 →
      let naks := (upto f.next (lo - f.next)).foldl (fun l q => aset l q (((aget l q).map (·.1)).getD 0 + 1, s.plumb)) f1.naks
      Next (.nakTimeout key) s { s1 with rflows := aset s1.rflows key { f1 with naks := naks } }) ∧
    (3 ≤ asked → Next (.nakTimeout key) s (s.flowBreak key k0.port))) ∧
  (∀ (s : State) (key : FlowKey) (seq : Nat) (r : Replay),
    s.replay.find? (fun r => r.key == key && r.seq == seq && r.epoch == s.flowEpoch key) = some r → 2 ^ 20 ≤ s.since r.sent →
    Next (.frameResendTimeout key seq) s (s.resendFrame false r)) ∧
  (∀ (s : State) (addr c : Nat) (port : BitVec 3) (t0 : Time), aget s.avoid (addr, port.toNat) = some (c, t0) → 2 ≤ c →
    2 ^ 30 ≤ s.since t0 → Next (.portAvoidExpire addr port) s { s with avoid := adel s.avoid (addr, port.toNat) }) ∧
  (∀ (s : State) (owner : Nat) (t0 : Time) (k : List Byte), aget s.keySwitch owner = some t0 → 2 ^ 32 ≤ s.since t0 →
    s.slotKey owner (s.keyIdx owner) = some k →
    Next (.nextKeyInstall owner) s
      { s with keys := aset s.keys (owner, 1 - s.keyIdx owner) (s.nextKey owner k), keySwitch := adel s.keySwitch owner }) ∧
  (∀ (s : State) (m : PegMsg) (r : List PegMsg), s.pegMsgs = m :: r →
    let s1 := { s with pegMsgs := r }
    (s1.partOfPeg m.peg = some m.part → Next .pegMessage s ((s1.addPeg m.peg m.amount).walkPeg m.peg)) ∧
    (s1.partOfPeg m.peg ≠ some m.part → Next .pegMessage s (s1.count .lmdPegRejectCnt m.port 1)))
/-! ### Partitions (13) -/

/-- PARTITION_BUILD and PARTITION_DISSOLVE complete (R382 to R386, R405): a build whose descriptor lies at a 256-byte
aligned address of a free channel is checked in the order of R383 with the core classes of the retirement list in force;
with every check passed it takes the steps of R384 and result 0, else result 2 with the first failing reason; a dissolve
takes a built partition away.
It rests on the model's readings in logs 30, 46. -/
def Obligations.PartitionBuildAndDissolve : Prop :=
  (∀ (s : State) (src : Src) (p : BitVec 3) (ch off : Nat), PrtFree s src →
    let s1 := PrtSet s p.toNat 1 0
    let pa := (s1.reg ⟨.prtDescLo, 0, 0⟩).toNat + 2 ^ 32 * s1.rfld ⟨.prtDescHi, 0, 0⟩ 11 0
    let d := dataOf (s1.pbytes pa 256)
    let s2 := s1.applyClasses (Part.ofDesc d).bents
    s1.place pa = .hbm ch off → s1.partOfChan ch = none → pa % 256 = 0 →
    (s2.buildCheck p.toNat (s1.pbytes pa 256) = 0 →
      let s3 := (s2.build p.toNat d).noteWork
      Next (.partitionBuild src p) s ({ s3 with cyc := { s3.cyc with builds := p.toNat :: s3.cyc.builds } }.prtDone 0 0)) ∧
    (s2.buildCheck p.toNat (s1.pbytes pa 256) ≠ 0 →
      Next (.partitionBuild src p) s (s1.prtDone 2 (s2.buildCheck p.toNat (s1.pbytes pa 256))))) ∧
  (∀ (s : State) (src : Src) (p : BitVec 3), PrtFree s src →
    let s1 := PrtSet s p.toNat 2 0
    ((s1.part p.toNat).built = true → Next (.partitionDissolve src p) s ((s1.dissolve p.toNat).prtDone 0 0)) ∧
    ((s1.part p.toNat).built = false → Next (.partitionDissolve src p) s (s1.prtDone 2 0)))

/-- After a dissolve, whatever the partition held: it is not built, owns no unit, holds no key, and none of its virtual
functions is bound (R386). -/
def Obligations.DissolvedPartitionHoldsNothing : Prop :=
  ∀ (s : State) (p : BitVec 3) (v : Nat), v < 64 →
    let t := s.dissolve p.toNat
    (t.part p.toNat).built = false ∧ (t.part p.toNat).bents = [] ∧ (t.part p.toNat).chans = [] ∧
    (t.part p.toNat).leaves = [] ∧ (t.part p.toNat).coreMap = [] ∧
    (∀ e ∈ t.keys, e.1.1 ≠ p.toNat) ∧ ((s.vf v).bound = some p.toNat → (t.vf v).bound = none)

/-- SHARES_SET, VF_BIND, VF_UNBIND and CORE_MIGRATE complete (R391, R397, R398, R402 to R405): shares within the sums of a
die replace the old ones, else reason 5; a free VF other than 0 is bound with its host share; an unbound VF is reset; an
idle logical core moves to a reserve core of its partition after 2^25 pt, and while a tile instruction is in flight the
command waits.
It rests on the model's readings in log 31. -/
def Obligations.SharesBindingAndMigration : Prop :=
  (∀ (s : State) (src : Src) (p : BitVec 3), PrtFree s src →
    let s1 := PrtSet s p.toNat 4 0
    let q := s1.part p.toNat
    let share := (List.range 4).map fun i => wbits (s1.reg ⟨.prtArg0, 0, 0⟩) (8 * i + 7) (8 * i)
    q.built = true →
    ((∀ x ∈ share, x ≤ 60) → s1.sharesBad p.toNat q share = false →
      Next (.sharesSet src p) s ((s1.setPart p.toNat { q with share := share }).prtDone 0 0)) ∧
    (s1.sharesBad p.toNat q share = true → Next (.sharesSet src p) s (s1.prtDone 2 5))) ∧
  (∀ (s : State) (src : Src) (p : BitVec 3) (vf : BitVec 6), PrtFree s src →
    let s1 := PrtSet s p.toNat 5 vf.toNat
    let h := s1.rfld ⟨.prtArg0, 0, 0⟩ 5 0
    (s1.bindOk p.toNat vf.toNat h = true → Next (.vfBind src p vf) s ((s1.bindVf p.toNat vf.toNat h).prtDone 0 0)) ∧
    (s1.bindOk p.toNat vf.toNat h = false → Next (.vfBind src p vf) s (s1.prtDone 2 0))) ∧
  (∀ (s : State) (src : Src) (vf : BitVec 6), PrtFree s src →
    let s1 := PrtSet s 0 6 vf.toNat
    let s2 := s1.vfReset vf.toNat
    ((s1.vf vf.toNat).bound.isSome = true →
      Next (.vfUnbind src vf) s ((s2.setVf vf.toNat { s2.vf vf.toNat with bound := none, hshare := 0 }).prtDone 0 0)) ∧
    ((s1.vf vf.toNat).bound = none → Next (.vfUnbind src vf) s (s1.prtDone 2 0))) ∧
  (∀ (s : State) (src : Src) (p : BitVec 3) (a : Nat), PrtFree s src →
    let s1 := PrtSet s p.toNat 3 0
    let q := s1.part p.toNat
    let l := (s.reg ⟨.prtArg0, 0, 0⟩).toNat
    let b := s.rfld ⟨.prtArg1, 0, 0⟩ 18 0
    let s2 := (s1.stopAll a).setFld kPrtCmd 12 12 1
    q.coreMap[l]? = some a → q.reserve.contains b = true →
    (q.migTime.getD l none = none → (s2.part p.toNat).coreMap[l]? = some a →
      (s2.inFlight a = false →
        Next (.coreMigrate src p) s (((s2.moveCore p.toNat l a b).setFld kPrtCmd 12 12 0).prtDone 0 0)) ∧
      (s2.inFlight a = true → Next (.coreMigrate src p) s s2)) ∧
    (∀ t, q.migTime.getD l none = some t → s1.since t < 2 ^ 25 → Next (.coreMigrate src p) s (s1.prtDone 1 0)))

/-- PAGE_MAP, PAGE_UNMAP, PAGE_UNMAP_COMPLETE and VF_MASK_WRITE complete (R390, R394, R395): a map that passes its checks
makes its leaves and reports result 0, else its reason; an unmap of mapped pages removes them and runs until their uses
end; a mask write stores the 18 mask bits and sends one message for each set cause that it unmasks.
It rests on the model's readings in log 20. -/
def Obligations.PagesAndVfMasks : Prop :=
  (∀ (s : State) (vf : BitVec 6) (p : Nat) (w lg : Bool) (count : BitVec 9), MapFree s vf.toNat p →
    let v := vf.toNat
    let s1 := s.setReg (mapKey v) (BitVec.ofNat 32 (1 + b2n w * 4 + b2n lg * 8 + count.toNat * 16))
    (∀ q, s1.mapCheck p (s1.mapVa v) (s1.mapPa v) (count.toNat + 1) w lg = .inr q →
      Next (.pageMap vf w lg count) s ((s1.setPart p q).mapDone v 0 0)) ∧
    (∀ r, s1.mapCheck p (s1.mapVa v) (s1.mapPa v) (count.toNat + 1) w lg = .inl r →
      Next (.pageMap vf w lg count) s (s1.mapDone v 2 r))) ∧
  (∀ (s : State) (vf : BitVec 6) (p : Nat) (count : BitVec 9), MapFree s vf.toNat p →
    let v := vf.toNat
    let s1 := s.setReg (mapKey v) (BitVec.ofNat 32 (2 + count.toNat * 16))
    let va := s1.mapVa v
    let q := s1.part p
    let ps := (List.range (count.toNat + 1)).map fun i => va / 2 ^ 21 + i
    (va % 2 ^ 21 = 0 → va + (count.toNat + 1) * 2 ^ 21 ≤ 2 ^ 48 → (∀ i ∈ ps, (aget q.leaves i).isSome = true) →
      Next (.pageUnmap vf count) s
        ((s1.setPart p { q with leaves := q.leaves.filter fun e => !(ps.contains e.1) }.freeTables).setFld (mapKey v) 13 13 1)) ∧
    (va % 2 ^ 21 ≠ 0 → Next (.pageUnmap vf count) s (s1.mapDone v 2 1))) ∧
  (∀ (s : State) (vf : BitVec 6), s.rbit (mapKey vf.toNat) 13 = true →
    Next (.pageUnmapComplete vf) s (s.mapDone vf.toNat 0 0)) ∧
  (∀ (s : State) (vf : BitVec 6) (value : Word),
    let v := vf.toNat
    let k : RKey := ⟨.prtVfMask, v, 0⟩
    Reaches s (.vf v) k →
    ∃ t, Next (.vfMaskWrite vf value) s t ∧ t.reg k = value &&& 0x3FFFF#32 ∧
      ((∀ c < 18, s.rbit k c = true → wbit value c = false → s.rbit ⟨.prtVfCause, v, 0⟩ c = false) → t.msgs = s.msgs))

/-! ### Resets and watchdogs (14) -/

/-- The resets complete (R412, R413, R419, R428, R430, R434, R435): a partition that is built, not in reset, not parked and with
no update being applied is fenced under its next epoch, and waits otherwise; at the end of its fence its units are reset and cause 15 is set; a partition reset past 3 s
and a package reset past 9 s go to the next level; a package reset leaves the package as the die reset does; the power-cycle
request goes to the tray controller.
It rests on the model's readings in logs 32, 34, 35, 80. -/
def Obligations.PartitionAndPackageResets : Prop :=
  (∀ (s : State) (p : BitVec 3) (src : Src), src ≠ .welyar → Reaches s src ⟨.prtRst, p.toNat, 0⟩ →
    let q := s.part p.toNat
    q.built = true → q.reset = none → q.resetWait = none →
    (q.parked = false → s.swapping p.toNat = false → Next (.partitionReset p src) s (s.fencePart p.toNat 0x05)) ∧
    (q.parked = true ∨ s.swapping p.toNat = true → Next (.partitionReset p src) s
      ((s.setPart p.toNat { q with resetWait := some 0x05 }).setFld ⟨.prtRst, p.toNat, 0⟩ 0 0 1))) ∧
  (∀ (s : State) (p : BitVec 3), (s.part p.toNat).reset = none →
    let (s1, third) := s.ordered 3 p.toNat
    Next (.partitionReset p .welyar) s (if third then s1.orderPackage 0x06 else s1.partitionReset p.toNat 0x06)) ∧
  (∀ (s : State) (p : BitVec 3) (trigger : Nat) (t0 : Time),
    let P := p.toNat
    (s.part P).reset = some (trigger, t0) → s.phase = 0 →
    (2 ^ 16 + s.rfld ⟨.prtFence, P, 0⟩ 26 0 ≤ s.since t0 →
      let s1 := s.resetUnits P
      let s2 := s1.setPart P { s1.part P with fenced := false, reset := none, dldSince := none, dldFired := false }
      Next (.fenceDeadline p) s (((s2.setFld ⟨.prtRst, P, 0⟩ 0 0 0).rstDone 0 P 0#32 3 (s.since t0)).cause P 15)) ∧
    (3221225472 ≤ s.since t0 → Next (.resetBudgetExpire (.part P)) s (s.orderPackage 0x06))) ∧
  (∀ (s : State) (t0 : Time), s.pkgFence = some t0 → s.pkg = .held → 9663676416 ≤ s.since t0 →
    Next (.resetBudgetExpire .pkg) s (s.askCycle 0x06 4)) ∧
  (∀ (s : State) (src : Src), Reaches s src ⟨.mgtRstCmd, 0, 0⟩ → s.pkg = .on →
    (src ≠ .welyar → Next (.packageReset src) s (s.packageReset 0x05)) ∧
    ∃ arg, Next (.powerCycleRequest src) s (s.askCycle 0x05 arg)) ∧
  (∀ (s : State), s.pkg = .on → Next (.packageReset .welyar) s (s.orderPackage 0x06) ∧
    Next .pkgResetAssert s { s.packageReset 0x08 with resetPin := false }) ∧
  (∀ (s : State), s.pkg = .halted ∨ s.pkg = .failed → Next .pkgResetAssert s { s.dieReset with resetPin := false })

/-- A package reset outside a shutdown sequence (R430, R432, R435, R543): nothing of the partitions, the virtual functions,
the queues of the engines or the ports is left, every register but the package's reset registers stands at its reset value,
the contents of HBM are lost, and the plumb time, the flash and the records stay.
It rests on the model's readings in log 35. -/
def Obligations.PackageResetLeaves : Prop :=
  ∀ (s : State) (trigger : Nat), s.pkg = .on → s.phase = 0 →
    let t := s.packageReset trigger
    t.pkg = .held ∧ t.pending = s.pending ∧ t.parts = State.reset.parts ∧ t.vfs = State.reset.vfs ∧ t.cores = [] ∧
    t.xfers = [] ∧ t.trusses = [] ∧ t.jctxs = [] ∧ t.ports = State.reset.ports ∧ t.bays = [] ∧
    (∀ k : RKey, k.blk ≠ .mgtRst → t.reg k = k.resetVal) ∧
    (∀ a < 2 ^ 41, Memory.read t.mem a = none) ∧ t.plumb = s.plumb ∧ t.flash = s.flash

/-- ENGINE_RESET, CTX_WATCHDOG and ENGINE_WATCHDOG complete (R408 to R410, R412, R413, R427): an engine reset is counted
among the orders of its unit and the third within 2^36 pt goes to the next level; a context without progress for `ctx_wd`
pt is faulted with cause 7; an engine that advanced nothing for `eng_wd` pt is reset with trigger 2; a context and an engine
reset are complete at once and no budget of theirs runs out.
It rests on the model's readings in logs 33, 86, 92. -/
def Obligations.EngineResetAndWatchdogs : Prop :=
  (∀ (s : State) (kind : Machine.EngKind) (unit : Nat) (p : Option Nat),
    let (s1, third) := s.ordered 2 (engNum kind unit)
    (third = false → Next (.engineReset kind unit p) s (s1.engineReset kind unit p 0x07)) ∧
    (third = true → kind.inBay = false → Next (.engineReset kind unit p) s (s1.orderPackage 0x06))) ∧
  (∀ (s : State) (core : CoreAddr) (x : BitVec 2) (p : Nat),
    let c := core.toNat
    let v := s.ctx c x.toNat
    let lim := (s.reg ⟨.prtWdCtx, p, 0⟩).toNat
    s.partOfCore c = some p → lim ≠ 0 → s.watched p = true → (s.core c).run = none → v.st = .ready ∨ v.st = .running →
    lim ≤ s.since v.progress → Next (.ctxWatchdog core x) s ((s.count .prtWdCnt p 1).faultCtx c x.toNat 0x07#8)) ∧
  (∀ (s : State) (kind : Machine.EngKind) (unit : Nat) (p : BitVec 3) (waited : Nat),
    s.watched p.toNat = true → (s.reg ⟨.prtWdEng, p.toNat, 0⟩).toNat ≤ waited →
    let s1 := s.count .prtWdCnt p.toNat 1
    Next (.engineWatchdog kind unit p waited true) s (s1.orderEngine kind unit (some p.toNat) 0x02) ∧
    Next (.engineWatchdog kind unit p waited false) s (s1.orderEngine kind unit none 0x02)) ∧
  (∀ (s : State) (c x : Nat) (kind : Machine.EngKind) (unit : Nat),
    Next (.resetBudgetExpire (.ctx c x)) s s ∧ Next (.resetBudgetExpire (.engine kind unit)) s s)

/-! ### Links between dies (12) -/

/-- The flits of a bundle complete (R368, R372, R374, R376): a flit of the bundle's user joins those of its direction; the next
one on the line is delivered when it is expected and has at most one wrong bit, counted when it was corrected, else dropped and
asked for again; an acknowledgement frees the flits up to it; a replay sends every open flit again, and the sixteenth for one
flit fails the bundle.
The lanes of a bundle complete (R369, R375, R376): a lane past `swap_th` asks for a swap, which takes place, once it is granted,
at a boundary at least 1,024 flits on; a lane that loses lock takes a spare at once, and with no spare the bundle fails; a failed
bundle returns with 64 good lanes, as control where the link has none and as standby else, and is retired otherwise.
It rests on the model's readings in log 87. -/
def Obligations.LinksBetweenDies : Prop :=
  (
  (∀ (s : State) (die : BitVec 2) (e : Bool) (bundle : Nat) (new : Option Machine.Flit) (errs : List Nat),
    let u := die.toNat * 2 + b2n e
    let l := d2dLink die.toNat (b2n e)
    let o := 1 - b2n e
    let fs := (new.filter ((s.link l).bundle bundle).carries).toList
    let s1 := s.setBundle l bundle fun b => b.setSent o ((b.sent o).send fs)
    let d := ((s1.link l).bundle bundle).sent o
    ((s.link l).bundle bundle).good = true →
    (d.wire = [] → Next (.d2dFlitReceive die e bundle new errs) s s1) ∧
    (∀ seq rest f, d.wire = seq :: rest → aget d.buf seq = some f →
      let d1 := { d with wire := rest }
      let recent := d.laneErr.filter fun e => decide (s1.since e.1 ≤ 2 ^ 30)
      let s2 := s1.setBundle l bundle fun b => b.setSent o { d1 with
        expect := (d.expect + 1) % 4096, asked := false, replays := 0, laneErr := recent ++ errs.map fun i => (s1.plumb, i) }
      let s3 := s2.setLink l ((s2.link l).deliver o f)
      (seq = d.expect → errs = [] → Next (.d2dFlitReceive die e bundle new errs) s s3) ∧
      (seq = d.expect → errs.length = 1 → Next (.d2dFlitReceive die e bundle new errs) s (s3.count .d2dCeCnt u 1)) ∧
      (seq ≠ d.expect ∨ 2 ≤ errs.length → Next (.d2dFlitReceive die e bundle new errs) s
        ((s1.setBundle l bundle fun b => b.setSent o { d1 with asked := true }).count .d2dReplayCnt u 1)))) ∧
  (∀ (s : State) (die : BitVec 2) (e : Bool) (bundle seq : Nat),
    let l := d2dLink die.toNat (b2n e)
    let b := (s.link l).bundle bundle
    let d := b.sent (b2n e)
    (seq < 4096 → seqDist d.acked seq < seqDist d.acked d.expect → Next (.d2dAcknowledgement die e bundle seq) s
      (s.setBundle l bundle fun b => b.setSent (b2n e)
        { d with acked := (seq + 1) % 4096, buf := d.buf.filter fun x => decide (seqDist d.acked seq < seqDist d.acked x.1) }.load)) ∧
    (b.good = true → d.asked = true → seq = d.expect →
      (15 ≤ d.replays → Next (.d2dReplayRequest die e bundle seq) s (s.bundleFail l bundle)) ∧
      (d.replays < 15 → Next (.d2dReplayRequest die e bundle seq) s
        (s.setBundle l bundle fun b => b.setSent (b2n e)
          { d with asked := false, replays := d.replays + 1, wire := (d.buf.filter fun x => d.open_ x.1).map (·.1) })))))
  ∧
  (
  (∀ (s : State) (die : BitVec 2) (e : Bool) (bundle lane : Nat),
    let l := d2dLink die.toNat (b2n e)
    let b := (s.link l).bundle bundle
    b.good = true → lane < 64 → b.spares.isEmpty = false → b.swap = none →
    (s.reg ⟨.d2dSwapTh, die.toNat * 2 + b2n e, 0⟩).toNat < s.laneBits (b.sent (1 - b2n e)) lane →
    (s.maintAsk ⟨8, l * 48 + bundle⟩).2 ≠ 1 → Next (.d2dLaneSwapRequest die e bundle lane) s
      ((s.maintAsk ⟨8, l * 48 + bundle⟩).1.setBundle l bundle fun b => { b with swap := some (lane, none) })) ∧
  (∀ (s : State) (link : BitVec 2) (bundle lane ahead : Nat),
    let l := link.toNat
    let b := (s.link l).bundle bundle
    let act : Activity := ⟨8, l * 48 + bundle⟩
    b.good = true →
    (b.spares.isEmpty = false → s.maintRun.contains act = true →
      (b.swap = some (lane, none) → 1024 ≤ ahead → Next (.d2dLaneSwap link bundle ahead) s (s.setBundle l bundle fun b =>
        { b with swap := some (lane, some (s.plumb + BitVec.ofNat 64 (flitTime ahead))) })) ∧
      (∀ t : Time, b.swap = some (lane, some t) → t.toNat ≤ s.plumb.toNat →
        Next (.d2dLaneSwap link bundle ahead) s ((s.bundleSwap l bundle lane).maintEnd act))) ∧
    (lane < 64 → b.spares.isEmpty = false → Next (.d2dBundleFail link bundle lane) s
      ((if b.swap.isSome then (s.maintCancel act).maintEnd act else s).bundleSwap l bundle lane)) ∧
    (lane < 64 → b.spares.isEmpty = true → Next (.d2dBundleFail link bundle lane) s (s.bundleFail l bundle))) ∧
  (∀ (s : State) (link : BitVec 2) (bundle : Nat) (errs : List (Option Nat)),
    let l := link.toNat
    let u := l * 48 + bundle
    let r := s.bundleLanes u errs
    ((s.link l).bundle bundle).st = 5 →
    (64 ≤ r.1.length →
      (s.firstIn l 1 = none → Next (.d2dBundleRetrainDone link bundle errs) s (s.setBundle l bundle fun b =>
        { b with st := 1, part := 0, lanes := r.1, spares := r.2, fwd := b.fwd.load, bwd := b.bwd.load })) ∧
      (s.firstIn l 1 ≠ none → Next (.d2dBundleRetrainDone link bundle errs) s
        (s.setBundle l bundle fun b => { b with st := 3, part := 0, lanes := r.1, spares := r.2 }))) ∧
    (r.1.length < 64 → Next (.d2dBundleRetrainDone link bundle errs) s
      ((s.setBundle l bundle fun _ => {}).addRecord 1 2 u (laneMasks 68 r.1 r.2)))))

/-! ### Plumb time and snapshots (16, 19) -/

/-- The commands of plumb time complete (R461 to R466): a pulse at least 2^29 pt after the last one is counted, its offset
from the whole second recorded, the rate corrected unless the clock was held over, and lock shown when the offset is within
64 pt; an earlier one is rejected; a correction removes at most 64 pt, by a step forward or a hold; without a pulse for 2^32
pt the clock is held over; a load sets the clock before any partition has accepted work, and the time since every earlier
event stays what it was; the copy of a spine stays within 4 pt of the master, that of a bent within 8 pt of its spine, and one
outside its band steps forward by 8 pt at most or holds, and is counted.
It rests on the model's readings in logs 40, 41, 42. -/
def Obligations.PlumbTimeFollowsThePulse : Prop :=
  (∀ (s : State), s.pkg = .on →
    let w := s.power
    let o := offsetOf s.plumb
    (∀ t0, w.pps = some t0 → s.since t0 < 2 ^ 29 → Next .ppsPulse s (s.count .plbPpsRejCnt 0 1)) ∧
    (∀ t0, w.pps = some t0 → 2 ^ 29 ≤ s.since t0 →
      ∃ t, Next .ppsPulse s t ∧
        t.power = { w with pps := some s.plumb, pps1 := some (w.pps1.getD s.plumb), ppsHeld := false, left := o } ∧
        t.reg ⟨.plbOffset, 0, 0⟩ = BitVec.ofInt 32 o ∧
        t.reg kRate = (if w.ppsHeld then s.reg kRate else
          BitVec.ofNat 32 (correctRate (s.reg kRate).toNat o w.left (s.since t0))) ∧
        t.rbit kPlbStatus 0 = decide (o.natAbs ≤ 64) ∧ t.rbit kPlbStatus 1 = false ∧ (∀ n < 8, (t.port n).st = (s.port n).st)) ∧
    (∀ t0, w.pps = some t0 → 2 ^ 32 ≤ s.since t0 →
      Next .ppsHoldover s { s.setFld kPlbStatus 1 1 1 with power := { w with ppsHeld := true } })) ∧
  (∀ (s : State),
    let w := s.power
    let i := s.plumb.toNat / 2 ^ 20
    i ≠ w.corr →
    (0 < w.left → Next .plumbCorrection s
      { s with power := { w with corr := i, left := w.left - min w.left 64, hold := w.hold + (min w.left 64).toNat } }) ∧
    (w.left < 0 → Next .plumbCorrection s
      { s with plumb := s.plumb + BitVec.ofNat 64 (min (-w.left) 64).toNat
               power := { w with corr := i, left := w.left + min (-w.left) 64 } }) ∧
    (w.left = 0 → Next .plumbCorrection s { s with power := { w with corr := i } })) ∧
  (∀ (s : State) (src : Src), Reaches s src ⟨.plbCmd, 0, 0⟩ →
    (s.worked = false → ∃ t, Next (.plumbLoad src) s t ∧
      t.plumb = (s.reg ⟨.plbLoadHi, 0, 0⟩) ++ (s.reg ⟨.plbLoadLo, 0, 0⟩) ∧ t.isle = [] ∧ t.isleHold = [] ∧
      t.regs = s.regs ∧ t.mem = s.mem ∧ ∀ n < 8, t.since (t.port n).stopT = s.since (s.port n).stopT) ∧
    (s.worked = true → Next (.plumbLoad src) s (s.count .plbErrCnt 0 1))) ∧
  (∀ (s : State) (dom : Nat) (dev : Int), dom < 100 → dom ≠ domOfSpine 0 →
    let stopped := s.rbit ⟨.bentClk, dom / 25 * 24 + dom % 25, 0⟩ 18
    let put (d : Int) (hold : List Nat) : State :=
      { s with isle := aset s.isle dom (BitVec.ofInt 64 d), isleHold := (s.isleHold.filter (· != dom)) ++ hold }
    (dom % 25 = 24 → dev.natAbs ≤ 4 → Next (.islandTimeSync dom dev) s (put dev [])) ∧
    (dom % 25 = 24 → 4 < dev.natAbs → Next (.islandTimeSync dom dev) s s) ∧
    (dom % 25 ≠ 24 → stopped = true → Next (.islandTimeSync dom dev) s s) ∧
    (dom % 25 ≠ 24 → stopped = false → dev.natAbs ≤ 8 → Next (.islandTimeSync dom dev) s (put dev [])) ∧
    (dom % 25 ≠ 24 → stopped = false → dev < -8 → Next (.islandTimeSync dom dev) s ((put (dev + 8) []).count .plbErrCnt 0 1)) ∧
    (dom % 25 ≠ 24 → stopped = false → 8 < dev → Next (.islandTimeSync dom dev) s ((put dev [dom]).count .plbErrCnt 0 1)))

/-- A corrected rate stays within the bounds of PLB_RATE, 10^-4 of nominal on either side (R461, R462).
It rests on the model's readings in log 40. -/
def Obligations.CorrectedRateStaysInBounds : Prop :=
  ∀ (s t : State) (t0 : Time), rateMin ≤ (s.reg kRate).toNat → (s.reg kRate).toNat ≤ rateMax →
    s.power.pps = some t0 → Next .ppsPulse s t → rateMin ≤ (t.reg kRate).toNat ∧ (t.reg kRate).toNat ≤ rateMax

/-- SNAP_SCHEDULE, SNAP_PERIOD_WRITE, SNAPSHOT_LATCH and DUMP_COMPLETE complete (R467, R468, R551 to R555, R566): an instant
at least 2^14 pt ahead is scheduled, a nearer one is late; a period of 0 or at least 2^16 is stored, and the first instant is
set; at the instant of slot 1 the counters are latched and each bound VF with a dump area in the ring writes a dump, whose
completion the spine shows.
It rests on the model's readings in log 65. -/
def Obligations.SnapshotsAndDumps : Prop :=
  (∀ (s : State) (src : Src), Reaches s src ⟨.plbSnapCmd, 0, 0⟩ → s.snapAt = none →
    let t : Time := (s.reg ⟨.plbSnapTHi, 0, 0⟩) ++ (s.reg ⟨.plbSnapTLo, 0, 0⟩)
    (s.plumb.toNat + 2 ^ 14 ≤ t.toNat → Next (.snapSchedule src) s (s.snapSet t)) ∧
    (t.toNat < s.plumb.toNat + 2 ^ 14 → Next (.snapSchedule src) s
      ((s.setFld kSnapStatus 2 2 1).spineEvent 0 0x0205 255 0#32 t.toNat 0xFFFFFFFF))) ∧
  (∀ (s : State) (src : Src) (value : Word), Reaches s src kSnapPer →
    (value = 0#32 → Next (.snapPeriodWrite src value) s (s.setReg kSnapPer 0#32)) ∧
    (0x10000 ≤ value.toNat → Next (.snapPeriodWrite src value) s
      ((s.setReg kSnapPer value).snapSet (s.plumb + BitVec.ofNat 64 (value.toNat * 2 ^ 10)))) ∧
    (value ≠ 0#32 → value.toNat < 0x10000 → Next (.snapPeriodWrite src value) s s))
  ∧
  (∀ (s : State) (t : Time),
    (s.snapWelyar = some t → t.toNat ≤ s.plumb.toNat → Next (.snapshotLatch 0#1) s
      { s with shadow := s.shadow.set 0 (s.capture t), snapWelyar := none }) ∧
    (s.snapAt = some t → t.toNat ≤ s.plumb.toNat →
      let s1 := { s with shadow := s.shadow.set 1 (s.capture t), snapAt := none }.count .plbSnapSeq 0 1
      let s2 := ((s1.setFld kSnapStatus 1 0 2).setFld ⟨.plbSnapCmd, 0, 0⟩ 0 0 0).spineEvent 0 0x0205 255 0#32 t.toNat
        (s1.reg ⟨.plbSnapSeq, 0, 0⟩).toNat
      let s3 := (upto 1 63).foldl (State.startDump t) s2
      let per := (s3.reg kSnapPer).toNat
      (per = 0 → Next (.snapshotLatch 1#1) s s3) ∧
      (per ≠ 0 → Next (.snapshotLatch 1#1) s (s3.snapSet (t + BitVec.ofNat 64 (per * 2 ^ 10)))))) ∧
  (∀ (s : State) (vf : BitVec 6) (d : Dump) (p : Nat),
    let v := vf.toNat
    let f := s.vf v
    let e := f.dumpEnd.getD 0
    let pos := if s.telSize v < e + d.bytes.length then 0 else e
    let base := (s.reg ⟨.prtTelBaseLo, v, 0⟩).toNat + 2 ^ 32 * s.rfld ⟨.prtTelBaseHi, v, 0⟩ 15 0
    f.dump = some d → f.bound = some p →
    ∃ t, Next (.dumpComplete vf) s t ∧ t.mem = (s.vput p (base + pos) d.bytes).mem ∧ (t.vf v).dump = none ∧
      (t.vf v).dumpEnd = some (pos + d.bytes.length) ∧ t.rbit (kTelStatus v) 0 = true ∧
      t.rfld (kTelStatus v) 31 9 = pos / 64 % 2 ^ 23)

/-! ### Power and heat (16) -/

/-- The governor completes (R469, R471 to R474, R476): in its interval it stores P and F; a cap below F not yet reported is
reported as infeasible, and feasible again when no partition is parked; while infeasible, every running bent that may is
lowered one point and x_pwr is 60; else x_pwr rises by the excess of P over the cap less 128 W in units of P_b / 64, or falls
by one step when P would stay 128 W under the cap, but for 2^14 pt after a peak it does not fall. A peak above 18,000 W sets
x_pwr to 60 and is counted.
It rests on the model's readings in logs 5, 45. -/
def Obligations.GovernorFollowsTheCap : Prop :=
  (∀ (s : State) (p pb f : Nat), s.pkg = .on → s.phase = 0 →
    let s1 := (s.setReg ⟨.pwrIn, 0, 0⟩ (BitVec.ofNat 32 (min p 0xFFFF))).setReg ⟨.pwrFloor, 0, 0⟩ (BitVec.ofNat 32 (min f 0xFFFF))
    let c := s1.cap
    let close (s : State) : State := ((List.range 96).foldl (fun s b => s.fixedStep b) s).clampAll
    let peak := s.power.peakT.any fun t => decide (s1.since t < 2 ^ 14)
    (s1.rbit kPwrStatus 0 = false → f ≤ c →
      (c < p + 128 → pb ≠ 0 → Next (.governorInterval p pb f) s
        (close (s1.setX (min 60 (s1.xPwr + (64 * (p + 128 - c) + pb - 1) / pb))))) ∧
      (64 * p + pb + 8192 ≤ 64 * c → peak = false → Next (.governorInterval p pb f) s (close (s1.setX (s1.xPwr - 1)))) ∧
      (64 * p + pb + 8192 ≤ 64 * c → peak = true → Next (.governorInterval p pb f) s (close s1)) ∧
      (p + 128 ≤ c → 64 * c < 64 * p + pb + 8192 → Next (.governorInterval p pb f) s (close s1))) ∧
    (s1.rbit kPwrStatus 0 = false → c < f → s1.infeasible.rbit kPwrStatus 0 = true → Next (.governorInterval p pb f) s
      (close (((List.range 96).filter fun b => !(s1.infeasible.stopped b) && !(s1.infeasible.bentFixed b) &&
        decide (0 < s1.infeasible.point b)).foldl (fun s b => s.startMove b (s.point b - 1) 5) (s1.infeasible.setX 60))))) ∧
  (∀ (s : State) (p : Nat), s.pkg = .on →
    (18000 < p → Next (.peakCheck p) s
      (({ s with power := { s.power with peakT := some s.plumb } }.setX 60).count .pwrPeakCnt 0 1)) ∧ (p ≤ 18000 → Next (.peakCheck p) s s))

/-- The points of the bents complete (R456, R460, R472 to R475): a switch takes the decided point, its supply and its 32 idle
cycles, 1,074 pt after the decision of a rise and 2^10 pt after the last switch; a boost step lowers the boosted bent of the
highest point while x_pwr is above 0, and raises the one of the lowest point that the limits allow while there is room.
Parking and the power registers complete (R459, R469, R474, R476, R493, R494): 200 ms after the report, with the cap
below F, the highest partition with a running bent is parked; with 256 W to spare the lowest parked one restarts; the lowest
cap in range of those written in a cycle stands; a partition's points are stored within 22 and within 8 of a fixed
neighbour's.
It rests on the model's readings in logs 43, 44. -/
def Obligations.PointsParkingAndPowerRegisters : Prop :=
  (
  (∀ (s : State) (bent k cause p : Nat) (t0 : Time),
    aget s.power.moves bent = some (k, cause, t0) → aget s.power.switched bent = none → s.stopped bent = false →
    (s.point bent < k → 1074 ≤ s.since t0) → s.partOfBent bent = some p → s.rbit (kPart p) 0 = false →
    s.rbit kPwrStatus 0 = false →
    let s1 := ((s.setFld (kClk bent) 4 0 k).setFld (kClk bent) 15 6 (supplyOf bent k)).setFld (kClk bent) 21 21 0
    let s2 := { s1 with power := { s1.power with moves := adel s1.power.moves bent
                                                 switched := aset s1.power.switched bent s1.plumb } }
    Next (.pointSwitch bent) s { s2 with
      bentCyc := aset s2.bentCyc bent { s2.bentCycle bent with halt := 32, cause := cause, point := s.point bent } }) ∧
  (∀ (s : State), s.pkg = .on → 2 ^ 20 ≤ s.since s.power.xSince → 2 ^ 20 ≤ s.since s.power.boostT →
    s.rbit kPwrStatus 0 = false → s.phase = 0 →
    let boost := (List.range 96).filter fun b =>
      (match s.partOfBent b with | some p => !(s.rbit (kPart p) 0) | none => false) && !(s.stopped b) &&
        (aget s.power.moves b).isNone
    let fmax (b : Nat) : Nat := match s.partOfBent b with | some p => s.rfld (kPart p) 10 6 | none => 0
    let ok (b : Nat) : Bool := decide (s.bentTemp b < 760) && decide (s.point b < fmax b) &&
      (neighbours b).all fun n => s.overLimit b (s.point b + 1) n == 0
    (∀ b, 0 < s.xPwr →
      bestBent (fun a b => decide (s.point b < s.point a)) (boost.filter fun b => decide (0 < s.point b)) = some b →
      Next .boostStep s { s.startMove b (s.point b - 1) 5 with power :=
        { (s.startMove b (s.point b - 1) 5).power with boostT := (s.startMove b (s.point b - 1) 5).plumb } }) ∧
    (∀ b, s.xPwr = 0 → s.rfld ⟨.pwrIn, 0, 0⟩ 15 0 + 700 ≤ s.cap →
      bestBent (fun a b => decide (s.point a < s.point b)) (boost.filter ok) = some b →
      Next .boostStep s { s.startMove b (s.point b + 1) 5 with power :=
        { (s.startMove b (s.point b + 1) 5).power with boostT := (s.startMove b (s.point b + 1) 5).plumb } })))
  ∧
  (
  (∀ (s : State) (f : Nat) (t0 : Time), s.rbit kPwrStatus 0 = true → s.power.infeas = some t0 → 214748365 ≤ s.since t0 →
    s.power.parkT = none → s.cap < f → s.phase = 0 →
    let s1 := s.setReg ⟨.pwrFloor, 0, 0⟩ (BitVec.ofNat 32 (min f 0xFFFF))
    let pick := (List.range 8).reverse.find? fun p =>
      (s1.part p).built && !(s1.part p).parked && (s1.part p).bents.any fun b => !(s1.stopped b)
    (∀ p, pick = some p →
      Next (.partitionPark f) s ({ s1.parkPart p with power := { s.power with parkT := some s1.plumb } }).capEvent) ∧
    (pick = none → Next (.partitionPark f) s s1)) ∧
  (∀ (s : State) (f fw p : Nat), s.power.parkT = none → f + 256 ≤ s.cap → fw + 256 ≤ s.cap → s.phase = 0 →
    ((List.range 8).find? fun p => (s.part p).parked) = some p →
    ∃ t, Next (.partitionUnpark f fw) s t ∧ (t.part p).parked = false ∧ t.power.parkT = some s.plumb) ∧
  (∀ (s : State) (src : Src) (value : Word), Reaches s src ⟨.pwrCap, 0, 0⟩ → s.pkg = .on →
    let v := wbits value 15 0
    let put (v : Nat) : State :=
      { s.setReg ⟨.pwrCap, 0, 0⟩ (BitVec.ofNat 32 v) with cyc := { s.cyc with cap := some v } }
    (v ≤ 15000 → s.cyc.cap = none → Next (.pwrCapWrite [(src, value)]) s (put v)) ∧
    (∀ c, v ≤ 15000 → s.cyc.cap = some c → Next (.pwrCapWrite [(src, value)]) s (put (min c v))) ∧
    (15000 < v → Next (.pwrCapWrite [(src, value)]) s s) ∧
    (∀ v2 : Word, v ≤ 15000 → wbits v2 15 0 ≤ v → s.cyc.cap = none →
      Next (.pwrCapWrite [(src, value), (src, v2)]) s (put (wbits v2 15 0)))) ∧
  (∀ (s : State) (src : Src) (p : BitVec 3) (value : Word), Reaches s src (kPart p.toNat) →
    (wbits value 5 1 ≤ 22 → wbits value 10 6 ≤ 22 → wbit value 0 = false →
      Next (.pwrPartWrite src p value) s (s.setReg (kPart p.toNat) (value &&& 0x7FF#32))) ∧
    (22 < wbits value 5 1 ∨ 22 < wbits value 10 6 → Next (.pwrPartWrite src p value) s s)))

/-- The shutdown sequence completes (R31, R480, R482 to R488): a power-fail edge or a low blade stops the bents and begins the
hold; with nothing outstanding, or at the bound of 2^22 pt, the flush follows, where every port that is Up asks for sleep,
then self-refresh, where the package resumes when the input is back and commits after `ride`; a port whose sleep was not
acknowledged goes down; the rails go down with the outcome in flash, at once when a blade collapses.
It rests on the model's readings in logs 36, 80. -/
def Obligations.ShutdownSequence : Prop :=
  (∀ (s : State), s.pkg ≠ .off →
    (s.phase = 0 → Next .pwrfailFall s (s.shutdown false false) ∧ Next .bladeUndervolt s (s.shutdown true false)) ∧
    (s.phase ≠ 0 → Next .pwrfailFall s { s with power := { s.power with returned := false } } ∧
      Next .bladeUndervolt s (let s1 := { s.noResume with power := { s.power with returned := false } }
        if s.phase = 3 then s1.commit else s1)) ∧
    Next .bladeCollapse s (s.powerOff 3)) ∧
  (∀ (s : State), s.phase = 1 →
    (s.replies = [] → Next .pfHoldDone s s.toFlush) ∧ (s.replies ≠ [] → Next .pfHoldDone s s) ∧
    (4194304 ≤ s.since s.power.phaseT → Next .holdBoundExpire s s.noResume.toFlush) ∧
    (s.since s.power.phaseT < 4194304 → Next .holdBoundExpire s s) ∧
    (s.rbit ⟨.pwrPfStatus, 0, 0⟩ 3 = false → Next .inputReturn s { s with power := { s.power with returned := true } })) ∧
  (∀ (s : State), s.phase = 2 →
    let s1 := (List.range 32).foldl (fun s i => s.deckFlush (i / 8) (i % 8)) s
    let still (s : State) (n : Nat) : Port :=
      { s.port n with sleepAt := none, sleepAcked := false, swap := none, swapWait := none, swapAsked := [] }
    let stop (s : State) (n : Nat) : State :=
      if (s.port n).sleepAcked then
        ((s.swapsEnd n).portStep n { still s n with stopT := s.plumb } .sleeping).count .lmdSleepCnt n 1
      else ((s.swapsEnd n).portStep n (still s n) .down).pldmEvent 0x0009 n
    let s3 := (s1.portsStep ((List.range 8).filter fun n => (s1.port n).st == .up) stop).toPhase 3
    (s3.power.returned = false ∨ s3.rbit ⟨.pwrPfStatus, 0, 0⟩ 3 = true → Next .pfFlushDone s s3) ∧
    (s3.power.returned = true → s3.rbit ⟨.pwrPfStatus, 0, 0⟩ 3 = false → Next .pfFlushDone s s3.resume)) ∧
  (∀ (s : State), s.phase = 3 → s.power.ride0 = false → s.rbit ⟨.pwrPfStatus, 0, 0⟩ 3 = false →
    ((s.reg ⟨.pwrRide, 0, 0⟩).toNat ≤ s.since s.power.phaseT → Next .rideExpire s s.commit ∧ Next .inputReturn s s) ∧
    (s.since s.power.phaseT < (s.reg ⟨.pwrRide, 0, 0⟩).toNat → Next .inputReturn s s.resume)) ∧
  (∀ (s : State), (s.phase = 4 → Next .railsDownDone s (s.powerOff s.flash.outcome)) ∧
    (s.pkg = .off → Next .bladesInRange s s.railsUp ∧ (s.power.thermal = false → Next .coldStart s s.railsUp) ∧
      (s.power.thermal = true → Next .coldStart s s)))

/-- The thermal commands complete (R472, R477 to R481): the shim of a bent rises by the degrees above the limit, in 1/8 °C, to
60 at most, and falls by one below the limit less 2 °C; a die at 110 °C trips, and restarts after 2^30 pt below 95 °C; 125 °C
or a die tripped for 2^34 pt shuts the package down; the temperatures of the HBM stacks are stored with their state and one at
105 °C trips the die.
It rests on the model's readings in logs 5, 45. -/
def Obligations.TemperaturesAndTrips : Prop :=
  (∀ (s : State), s.pkg = .on →
    (∀ (b t : Nat), b < 96 →
      let lim := 8 * s.rfld ⟨.pwrTlim, 0, 0⟩ 6 0
      let x := s.rfld (kShim b) 13 8
      ∃ u, Next (.thermalInterval [(b, t)] []) s u ∧ u.bentTemp b = min t 0xFFF ∧
        (lim < t → u.rfld (kShim b) 13 8 = min 60 (x + (t - lim))) ∧
        (t ≤ lim → lim ≤ t + 16 → u.rfld (kShim b) 13 8 = x) ∧ (t + 16 < lim → u.rfld (kShim b) 13 8 = x - 1)) ∧
    (∀ (die : BitVec 2) (temp : Nat), (880 ≤ temp → Next (.dieTrip die temp) s (s.trip die.toNat temp)) ∧
      (temp < 880 → Next (.dieTrip die temp) s s)) ∧
    (∀ temp : Nat, 1000 ≤ temp →
      (s.phase = 0 → Next (.thermalShutdown temp) s (s.shutdown true true)) ∧
      (s.phase = 3 → Next (.thermalShutdown temp) s
        { s.noResume with power := { s.power with ride0 := true, thermal := true } })) ∧
    (∀ (temp d : Nat) (t0 : Time), (d, t0) ∈ s.power.tripT → 2 ^ 34 ≤ s.since t0 → s.phase = 0 →
      Next (.thermalShutdown temp) s (s.shutdown true true)) ∧
    (∀ (die : BitVec 2) (a b c d e f : Nat), a < 105 → b < 105 → c < 105 → d < 105 → e < 105 → f < 105 →
      ∃ u, Next (.hbmTempPoll die [a, b, c, d, e, f]) s u ∧
        ∀ i < 6, ∀ x, [a, b, c, d, e, f][i]? = some x → u.reg ⟨.pwrHbmTemp, die.toNat, i⟩ =
          BitVec.ofNat 32 (x + (if x < 85 then 0 else if x < 95 then 1 else 2) * 256))) ∧
  (∀ (s : State) (die : BitVec 2) (t0 : Time), aget s.power.coolT die.toNat = some t0 → s.rbit (kDieTemp die.toNat) 12 = true →
    2 ^ 30 ≤ s.since t0 →
    ∃ u, Next (.dieTripRestart die) s u ∧ u.rbit (kDieTemp die.toNat) 12 = false ∧ aget u.power.tripT die.toNat = none)
/-! ### Boot, security, live update (17) -/

/-- The start completes (R32, R34, R497, R498, R534, R571): at the release of PKG_RESET_N the site that serves and passes its
self test starts Welyar, else the package fails; the standby site takes over after 2^28 pt; a lockstep mismatch of the serving
site is written to the retirement list, retires the site at the second within 2^42 pt, and resets the package; the date
reply, or its absence for 2^30 pt, loads the seconds, and is counted as an error where a partition has accepted work.
It rests on the model's readings in logs 5, 47, 56. -/
def Obligations.BootAndTakeover : Prop :=
  (∀ (s : State) (inp : Machine.StartIn), s.pkg = .held → s.tap.ir = .bypass →
    let ready := inp.site1 && !(s.siteRetired 1)
    let s1 := (({ s with resetPin := true }.setFld ⟨.pkgTopo, 0, 0⟩ 1 0 inp.slot).setFld ⟨.pkgTopo, 0, 0⟩ 3 3 (b2n ready))
    let s2 := { s1 with boot := { s1.boot with released := some s1.plumb } }
    (s.boot.site = 0 → inp.site0 = true → s.siteRetired 0 = false → Next (.bootSequence inp) s (s2.start 0 inp)) ∧
    (s.boot.site = 0 → inp.site0 = false ∨ s.siteRetired 0 = true → Next (.bootSequence inp) s { s2 with pkg := .failed }) ∧
    (s.boot.site = 1 → ready = true → Next (.bootSequence inp) s (s2.start 1 inp))) ∧
  (∀ (s : State) (inp : Machine.StartIn) (t : Time), s.pkg = .failed → s.boot.released = some t → s.boot.site = 0 →
    s.rbit ⟨.pkgTopo, 0, 0⟩ 3 = true →
    (2 ^ 28 ≤ s.since t → Next (.standbyTakeover inp) s (s.start 1 inp)) ∧
    (s.since t < 2 ^ 28 → Next (.standbyTakeover inp) s s)) ∧
  (∀ (s : State) (site : BitVec 1), s.pkg = .on → s.boot.site = site.toNat →
    let n := site.toNat
    let again := s.flash.retire.any fun e => e.1 == 9 && e.2.2.1 == n && decide (s.since e.2.2.2 ≤ 2 ^ 42)
    (again = false → Next (.lockstepMismatch site) s
      ({ s with flash := { s.flash with retire := s.flash.retire ++ [(9, 0, n, s.plumb)] } }.orderPackage 0x0A)) ∧
    (again = true → Next (.lockstepMismatch site) s
      ({ s with flash := { s.flash with retire := s.flash.retire ++ [(9, 0, n, s.plumb), (8, 0, n, s.plumb)] } }.orderPackage 0x0A))) ∧
  (∀ (s : State) (t : Time) (seconds : Nat), s.boot.dateAsked = some t → s.worked = false →
    let frac := match s.power.pps1 with | some t => s.since t % 2 ^ 30 | none => s.plumb.toNat % 2 ^ 30
    let loaded (sec : Nat) (u : State) : Prop := u.plumb = BitVec.ofNat 64 (sec * 2 ^ 30 + frac) ∧ u.boot.dateAsked = none ∧
      u.isle = [] ∧ u.worked = ((List.range 8).any fun p => (s.part p).built) ∧ u.regs = s.regs
    (∃ u, Next (.datetimeReply seconds) s u ∧ loaded seconds u) ∧
    (2 ^ 30 ≤ s.since t → ∃ u, Next .datetimeTimeout s u ∧ loaded 0 u) ∧ (s.since t < 2 ^ 30 → Next .datetimeTimeout s s)) ∧
  (∀ (s : State) (t : Time) (seconds : Nat), s.boot.dateAsked = some t → s.worked = true →
    let late := { s with boot := { s.boot with dateAsked := none } }.count .plbErrCnt 0 1
    Next (.datetimeReply seconds) s late ∧ (2 ^ 30 ≤ s.since t → Next .datetimeTimeout s late)) ∧
  (∀ (s : State) (seconds : Nat), s.boot.dateAsked = none → Next (.datetimeReply seconds) s s ∧ Next .datetimeTimeout s s)

/-- The update commands complete (R501, R512 to R514): an image whose checks fail is refused with the first failing reason and
leaves the bank, as is one with a poisoned byte; one that passes is written as a maintenance activity to the bank that was not booted, and is invalid when the
flash fails; apply follows the activities it needs; confirm needs a trial boot, commit a normal one; cancel clears the
pending trial.
It rests on the model's readings in logs 50, 51, 52. -/
def Obligations.ImagesAreWrittenAndApplied : Prop :=
  (∀ (s : State) (src : Src), Reaches s src kUpdCmd → s.rbit kUpdCmd 3 = false →
    let go (op : Nat) : State := s.setReg kUpdCmd (BitVec.ofNat 32 (op + 8))
    ((go 1).staged = none → ∀ ok, Next (.imageWrite src ok) s ((go 1).updDone 3 0)) ∧
    (∀ d, (go 1).staged = some (d, true) → ∀ ok, Next (.imageWrite src ok) s ((go 1).updDone 2 1)) ∧
    (∀ d, (go 1).staged = some (d, false) → (go 1).maintQueue.contains ⟨10, 0⟩ = false → (go 1).maintRun.contains ⟨10, 0⟩ = true →
      let r := (go 1).imageCheck d
      let b := (go 1).otherBank
      Next (.imageWrite src true) s (if r ≠ 0 then (go 1).updDone 2 r
        else ((((go 1).setBank b (d.take (imgLen d))).setPending false).maintEnd ⟨10, 0⟩).updDone 0 0) ∧
      Next (.imageWrite src false) s (if r ≠ 0 then (go 1).updDone 2 r
        else (((go 1).setBank b []).maintEnd ⟨10, 0⟩).updDone 2 5)) ∧
    Next (.firmwareApply src) s (go 2).applyImage ∧
    (s.boot.mode = 1 → Next (.trialConfirm src) s
      ({ (go 3).writeSelector { (go 3).selector.1 with active := s.boot.bank, pending := false, tries := 0 } with
          boot := { s.boot with mode := 0 } }.updDone 0 0)) ∧
    (s.boot.mode ≠ 1 → Next (.trialConfirm src) s ((go 3).updDone 2 6)) ∧
    Next (.pendingCancel src) s (((go 4).setPending false).updDone 0 0) ∧
    (s.boot.mode = 0 → Next (.svnCommit src) s
      ({ go 5 with flash := { s.flash with
        svnMin := max s.flash.svnMin (imgSvn (s.bankImage s.selector.1.active)) } }.updDone 0 0)) ∧
    (s.boot.mode ≠ 0 → Next (.svnCommit src) s ((go 5).updDone 2 6)))

/-- The fused security version never falls, whatever command runs: what SVN_COMMIT blows cannot be undone (R514). -/
def Obligations.SecurityVersionNeverFalls : Prop :=
  ∀ (s t : State) (c : Instr), Next c s t → s.flash.svnMin ≤ t.flash.svnMin

/-- KEY_BLOB_SUBMIT and PART_ROOT_WRITE complete (R509, R510, R519): a blob in free HBM is checked in the order of R510, a
poisoned byte as the first check, and the first failing check is its reason; an accepted one raises the generation of its owner and installs the key; a root word is
written while the partition is built and holds no traffic key, and dropped otherwise.
The SPDM requests complete while Welyar's runtime answers (R505 to R507): each sends its reply; a slot other than 0, an
empty index, a second session of one number, a seventeenth session and an unknown session get an error; a session without a
heartbeat for 60 s ends.
It rests on the model's readings in logs 8, 53, 54. -/
def Obligations.KeysAndSpdm : Prop :=
  (
  (∀ (s : State) (src : Src), Reaches s src kKeyCmd →
    let pa := (s.reg ⟨.secKeyAddrLo, 0, 0⟩).toNat + 2 ^ 32 * s.rfld ⟨.secKeyAddrHi, 0, 0⟩ 11 0
    let n := 0x140 + min (dfield (s.bytes pa 0x140) 0x130 2) 3776
    let d := s.bytes pa n
    (s.freeHbm pa 0x140 = false ∨ pa % 64 ≠ 0 → Next (.keyBlobSubmit src) s (s.cmdDone kKeyStatus 3 0 3 none)) ∧
    (s.freeHbm pa 0x140 = true → pa % 64 = 0 → anyPoison (s.pbytes pa 0x140) = true →
      Next (.keyBlobSubmit src) s (s.cmdDone kKeyStatus 2 1 3 none)) ∧
    (s.freeHbm pa 0x140 = true → pa % 64 = 0 → anyPoison (s.pbytes pa 0x140) = false → s.freeHbm pa n = false →
      Next (.keyBlobSubmit src) s (s.cmdDone kKeyStatus 3 0 3 none)) ∧
    (s.freeHbm pa 0x140 = true → pa % 64 = 0 → anyPoison (s.pbytes pa 0x140) = false → s.freeHbm pa n = true →
      anyPoison (s.pbytes pa n) = true → Next (.keyBlobSubmit src) s (s.cmdDone kKeyStatus 2 1 3 none)) ∧
    (s.freeHbm pa 0x140 = true → pa % 64 = 0 → anyPoison (s.pbytes pa 0x140) = false → s.freeHbm pa n = true →
      anyPoison (s.pbytes pa n) = false →
      Next (.keyBlobSubmit src) s (match s.blobCheck d with
        | .inl r => s.cmdDone kKeyStatus 2 r 3 none
        | .inr (k, owner) =>
          (({ s with flash := { s.flash with gens := aset s.flash.gens owner (dfield d 4 4)
                                             trayAt := if owner = 8 then s.starts else s.flash.trayAt } }).installKey owner k).cmdDone
            kKeyStatus 0 0 3 none))) ∧
  (∀ (s : State) (src : Src) (p : BitVec 3) (word : BitVec 4) (value : Word),
    let P := p.toNat
    let k : RKey := ⟨.secPartRoot, P, word.toNat⟩
    Reaches s src k → word.toNat < 12 →
    ((s.part P).built = true → s.slotKey P (s.keyIdx P) = none → Next (.partRootWrite src p word value) s (s.setReg k value)) ∧
    ((s.part P).built = false ∨ (s.slotKey P (s.keyIdx P)).isSome = true → Next (.partRootWrite src p word value) s s)))
  ∧
  (
  (∀ (s : State), s.pkg = .on →
    let b := s.signed.2
    let s1 := { s with draws := s.draws + 1 }
    Next .spdmVersion s (s.sendSpdm .version) ∧
    Next (.spdmCertificate 0) s (s.sendSpdm (.certificate (Config.certChain s.boot.exchange s.boot.image))) ∧
    (∀ slot, slot ≠ 0 → Next (.spdmCertificate slot) s (s.sendSpdm .error) ∧ Next (.spdmChallenge slot) s (s.sendSpdm .error)) ∧
    Next (.spdmChallenge 0) s (s1.sendSpdm (.challenge b)) ∧
    (∀ i m, i ≠ 255 → s.measurement i = some m → Next (.spdmMeasurements i) s (s1.sendSpdm (.measurements [(i, m)] b))) ∧
    (∀ i, i ≠ 255 → s.measurement i = none → Next (.spdmMeasurements i) s (s.sendSpdm .error)) ∧
    Next .spdmChunk s (s1.sendSpdm (.chunk (Config.spdmChunk s.draws))) ∧
    (∀ id, s.sessions.length < 16 → (∀ x ∈ s.sessions, x.id ≠ id) →
      ∃ x : Session, x.id = id ∧ x.last = s.plumb ∧
        Next (.spdmKeyExchange id) s ({ s1 with sessions := s.sessions ++ [x] }.sendSpdm (.keyExchange id b))) ∧
    (∀ id, 16 ≤ s.sessions.length → Next (.spdmKeyExchange id) s (s.sendSpdm .error)) ∧
    (∀ id x, x ∈ s.sessions → x.id = id →
      Next (.spdmHeartbeat id) s ({ s with
        sessions := s.sessions.map fun (x : Session) => if x.id = id then { x with last := s.plumb } else x }.sendSpdm (.heartbeat id)) ∧
      Next (.spdmKeyUpdate id) s ({ s with
        sessions := s.sessions.map fun (x : Session) => if x.id = id then { x with updates := x.updates + 1 } else x }.sendSpdm (.keyUpdate id))) ∧
    (∀ id, (∀ x ∈ s.sessions, x.id ≠ id) → Next (.spdmHeartbeat id) s (s.sendSpdm .error) ∧
      Next (.spdmKeyUpdate id) s (s.sendSpdm .error))) ∧
  (∀ (s : State) (id : Nat), ∃ t, Next (.spdmHeartbeatTimeout id) s t ∧
    (∀ x ∈ s.sessions, x.id = id → 60 * 2 ^ 30 ≤ s.since x.last → x ∉ t.sessions) ∧
    (∀ x ∈ s.sessions, x.id ≠ id ∨ s.since x.last < 60 * 2 ^ 30 → x ∈ t.sessions)))
/-! ### Registers, counters and logs (14, 19) -/

/-- REGISTER_WRITE, RESERVED_OP_COMMAND, COUNTER_WRITE and COUNTER_LO_READ complete (R14, R390, R393, R405, R544 to R547): a
write with an enable missing changes nothing; a register without a behaviour of its own takes each field by its access type, but
for a mark that a record latched in the cycle keeps, and the fields it stores stay where a source served later in the cycle wrote it;
a `go` with an operation that PRT_CMD or PRT_MAP_CMD does not have ends with result 2; a counter takes the value written; a
read of a LO half shows it and latches its HI half for the source, a read of the HI half shows the latch, and a read that a
fence keeps from its function is answered with an error.
It rests on the model's readings in logs 59, 61, 62, 83, 100. -/
def Obligations.RegisterAccess : Prop :=
  (∀ (s : State) (src : Src) (off : Nat) (value : Word) (enables : BitVec 4), enables ≠ 0xF#4 →
    Next (.registerWrite src off value enables) s s) ∧
  (∀ (s : State) (src : Src) (off : Nat) (value : Word) (k : RKey), (src = .pf → off < 2 ^ 32) → s.keyAt src off = some k →
    Reaches s src k →
    let put (v : Word) : State := s.setReg k (k.reg.fields.foldl (fun w f =>
      if (aget s.cyc.latched k).isSome = true ∧ f.acc = .w1c then w else f.write w v) (s.reg k))
    (s.writeOwn src k value = none → s.dropsWrite k value = true → Next (.registerWrite src off value 0xF#4) s s) ∧
    (s.writeOwn src k value = none → s.dropsWrite k value = false →
      k.reg ≠ .coreCtxFlags → k.reg ≠ .prtHqCfg → k.reg ≠ .prtTelCtl → k.reg ≠ .mgtHostMask →
      ((∀ r, aget s.cyc.soft k = some r → r ≤ srcRank src) → Next (.registerWrite src off value 0xF#4) s
        { put value with cyc := { s.cyc with soft := aset s.cyc.soft k (srcRank src) } }) ∧
      (∀ r, aget s.cyc.soft k = some r → srcRank src < r → s.dropsWrite k (s.standing k value) = false →
        Next (.registerWrite src off value 0xF#4) s (put (s.standing k value)))) ∧
    (k.reg.fields.any (fun f => f.acc == .cnt) = true → Next (.counterWrite src off value 0) s (put value))) ∧
  (∀ (s : State) (src : Src) (off : Nat) (value : Word), s.keyAt src off = some kPrtCmd → PrtFree s src → wbit value 12 = true →
    wbits value 5 3 = 0 ∨ wbits value 5 3 = 7 →
    ∃ t w, Next (.reservedOpCommand src off value) s t ∧ t = (s.setReg kPrtCmd w).prtDone 2 0) ∧
  (∀ (s : State) (src : Src) (off : Nat) (v : Nat), s.fencedRead src off = some v →
    Next (.counterLoRead src off) s (let r := (s.readOff src off).1; { r with msgs := r.msgs ++ [.hostRead v none], lastRead := none })) ∧
  (∀ (s : State) (src : Src) (off : Nat) (k : RKey), s.srcLive src = true → s.keyAt src off = some k →
    s.reaches src k false = true → s.fencedRead src off = none →
    (∀ h, k.reg.isHi = false → k.reg.hiOf = some h →
      Next (.counterLoRead src off) s { s with
        latches := aset s.latches (src, { k with reg := h }) (s.readReg { k with reg := h }), lastRead := some (s.readReg k) }) ∧
    (k.reg.isHi = true → Next (.counterLoRead src off) s { s with lastRead := some ((aget s.latches (src, k)).getD 0#32) }))

/-- What a virtual function cannot do (R393): a write of an offset that names no register of its window, or one that it does
not reach, is dropped and counted in PRT_VF_DROP_CNT, and nothing else changes; and no register that one function reaches is
reached by a function of another partition that shares no unit with its own, but the tables of joiner programs, which every
partition loads.
It rests on the model's readings in logs 58, 88. -/
def Obligations.VirtualFunctionsStayInTheirWindow : Prop :=
  (∀ (s : State) (v off : Nat) (value : Word), s.srcLive (.vf v) = true →
    (∀ k, s.keyAt (.vf v) off = some k → s.reaches (.vf v) k true = false →
      Next (.registerWrite (.vf v) off value 0xF#4) s (s.count .prtVfDropCnt v 1)) ∧
    (∀ p, (s.vf v).bound = some p → s.keyAt (.vf v) off = none → off < 0x10000 ∨ 0x10400 ≤ off →
      Next (.registerWrite (.vf v) off value 0xF#4) s (s.count .prtVfDropCnt v 1))) ∧
  (∀ (s : State) (v1 v2 p1 p2 : Nat) (k : RKey), (s.vf v1).bound = some p1 → (s.vf v2).bound = some p2 → p1 ≠ p2 →
    (∀ b, (s.part p1).bents.contains b = true → (s.part p2).bents.contains b = false) →
    (∀ c, (s.part p1).chans.contains c = true → (s.part p2).chans.contains c = false) →
    (∀ n, (s.part p1).ports.contains n = true → (s.part p2).ports.contains n = false) →
    (∀ d i, ((s.part p1).pools.getD d 0).testBit i = true → ((s.part p2).pools.getD d 0).testBit i = false) →
    (∀ d i, ((s.part p1).pegblk.getD d 0).testBit i = true → ((s.part p2).pegblk.getD d 0).testBit i = false) →
    s.reaches (.vf v1) k true = true → s.reaches (.vf v2) k true = true → k.blk = .jnrProg)

/-- The event logs complete (R559 to R562, R567): the entry that comes first in time goes to the package log and the rings of
the VFs; a selection copies the 32 bytes of an entry into the data registers; enabling a log stores its settings and resets
head and tail; a tail beyond the size is dropped and counted.
It rests on the model's readings in logs 60, 81. -/
def Obligations.EventsAndLogs : Prop :=
  (∀ (s : State) (q : Fin 4) (e0 : Event), s.nextEvent = some (q, e0) →
    let e := { e0 with lost := e0.lost || s.evDrop.get q }
    Next .eventDeliver s ((upto 1 63).foldl (fun s v => s.logVf q.val e v) ((s.takeEvent q e0).logPkg q.val e))) ∧
  (∀ (s : State), (∀ d, s.evq.get d = []) → Next .eventDeliver s s) ∧
  (∀ (s : State) (src : Src) (n : Word) (e : Event), Reaches s src ⟨.mgtEvlogSel, 0, 0⟩ →
    let first := (s.reg ⟨.mgtEvlogHead, 0, 0⟩).toNat - s.evlog.length
    first ≤ n.toNat → s.evlog[n.toNat - first]? = some e →
    ∃ t, Next (.evlogSelect src n) s t ∧ t.reg ⟨.mgtEvlogSel, 0, 0⟩ = n ∧
      ∀ w < 8, t.reg ⟨.mgtEvlogData, 0, w⟩ = BitVec.ofNat 32 (leNat ((e.bytes.drop (4 * w)).take 4))) ∧
  (∀ (s : State) (vf : BitVec 6) (value : Word),
    let v := vf.toNat
    Reaches s (.vf v) (kLogCtl v) →
    (8 ≤ wbits value 10 6 → wbits value 10 6 ≤ 20 → s.rbit (kLogCtl v) 0 = false → wbit value 0 = true →
      Next (.logEnable vf value) s (((s.setReg (kLogCtl v) (value &&& 0x7FF#32)).setReg ⟨.prtLogHead, v, 0⟩ 0#32).setReg
        ⟨.prtLogTail, v, 0⟩ 0#32)) ∧
    (8 ≤ wbits value 10 6 → wbits value 10 6 ≤ 20 → s.rbit (kLogCtl v) 0 = false → wbit value 0 = false →
      Next (.logEnable vf value) s (s.setReg (kLogCtl v) (value &&& 0x7FF#32))) ∧
    (wbits value 10 6 < 8 ∨ 20 < wbits value 10 6 → Next (.logEnable vf value) s s)) ∧
  (∀ (s : State) (vf : BitVec 6) (value : Word),
    let v := vf.toNat
    Reaches s (.vf v) ⟨.prtLogTail, v, 0⟩ →
    (value.toNat < 2 ^ s.rfld (kLogCtl v) 10 6 → Next (.logTailWrite vf value) s (s.setReg ⟨.prtLogTail, v, 0⟩ value)) ∧
    (2 ^ s.rfld (kLogCtl v) 10 6 ≤ value.toNat → Next (.logTailWrite vf value) s (s.count .prtVfDropCnt v 1)))

/-! ### Bring-up and test (20) -/

/-- The bring-up commands complete (R568 to R570, R574 to R578): a token in free HBM is checked in the order of R569, a
poisoned byte as the first check, sets the debug bit it is for when every check passes, and a new nonce follows either way; a selected lane record stands in the data
registers; the identification and temperature of a stack come back in the data registers, or result 3; the tests of a channel
need package debug and a channel that no partition holds, else result 2, or 1 on a channel of a partition built in the same cycle;
with the activity granted they have their effect.
It rests on the model's readings in logs 59, 66. -/
def Obligations.DebugTokensAndHbmTests : Prop :=
  (∀ (s : State) (src : Src), Reaches s src ⟨.tstDbgCmd, 0, 0⟩ →
    let pa := (s.reg ⟨.tstDbgAddrLo, 0, 0⟩).toNat + 2 ^ 32 * s.rfld ⟨.tstDbgAddrHi, 0, 0⟩ 11 0
    let n := max 0x50 (dfield (s.bytes pa 0x50) 4 4)
    let d := s.bytes pa n
    let done (s : State) (result reason : Nat) : State := s.newNonce.cmdDone kDbgStatus result reason 3 none
    (s.freeHbm pa 0x50 = false ∨ pa % 64 ≠ 0 → Next (.debugTokenSubmit src) s (done s 3 0)) ∧
    (s.freeHbm pa 0x50 = true → pa % 64 = 0 → anyPoison (s.pbytes pa 0x50) = true →
      Next (.debugTokenSubmit src) s (done s 2 1)) ∧
    (s.freeHbm pa 0x50 = true → pa % 64 = 0 → anyPoison (s.pbytes pa 0x50) = false → s.freeHbm pa n = true →
      anyPoison (s.pbytes pa n) = true → Next (.debugTokenSubmit src) s (done s 2 1)) ∧
    (s.freeHbm pa 0x50 = true → pa % 64 = 0 → anyPoison (s.pbytes pa 0x50) = false → s.freeHbm pa n = true →
      anyPoison (s.pbytes pa n) = false →
      let bit := if dfield d 2 1 = 1 then 0 else 8 + dfield d 3 1
      Next (.debugTokenSubmit src) s (if s.tokenCheck d ≠ 0 then done s 2 (s.tokenCheck d)
        else done ({ s with tokens := s.tokens ++ [sha384 d] }.setFld kDbgState bit bit 1) 0 0))) ∧
  (∀ (s : State) (src : Src) (n : BitVec 16), Reaches s src ⟨.tstRecSel, 0, 0⟩ →
    ∃ t, Next (.laneRecordSelect src n) s t ∧ t.reg ⟨.tstRecSel, 0, 0⟩ = n.zeroExtend 32 ∧
      ∀ w < 16, t.reg ⟨.tstRecData, 0, w⟩ = BitVec.ofNat 32 (recField (s.flash.lanes.getD n.toNat []) (4 * w) 4)) ∧
  (∀ (s : State) (src : Src) (stack chan : BitVec 5) (v : BitVec 64), Reaches s src kHbmCmd → s.rbit kHbmCmd 13 = false →
    stack.toNat < 24 →
    let go (op : Nat) : State := s.setReg kHbmCmd (BitVec.ofNat 32 (op + stack.toNat * 8 + chan.toNat * 256 + 2 ^ 13))
    let ch := stack.toNat * 32 + chan.toNat
    Next (.hbmReadId src stack chan (some v)) s (((go 1).hbmData v).hbmDone 0) ∧
    Next (.hbmReadId src stack chan none) s ((go 1).hbmDone 3) ∧
    Next (.hbmReadTemp src stack chan (some v)) s (((go 2).hbmData v).hbmDone 0) ∧
    Next (.hbmReadTemp src stack chan none) s ((go 2).hbmDone 3) ∧
    (∀ op ∈ [3, 4, 5, 6], (go op).maintQueue = [] → (go op).maintRun = [] →
      (go op).pkgDebug = false ∨ ((go op).partOfChan ch).isSome = true →
      let no := if (go op).pkgDebug && (go op).justBuilt ch then 1 else 2
      (op = 3 → ∀ r, Next (.hbmMbist src stack chan r) s ((go op).hbmDone no)) ∧
      (op = 4 → ∀ ok, Next (.hbmLaneRepair src stack chan ok) s ((go op).hbmDone no)) ∧
      (op = 5 → ∀ ok, Next (.hbmSoftRepair src stack chan ok) s ((go op).hbmDone no)) ∧
      (op = 6 → ∀ ok, Next (.hbmHardRepair src stack chan ok) s ((go op).hbmDone no))) ∧
    (∀ op ∈ [3, 4, 5, 6], (go op).maintQueue = [] → (go op).maintRun.contains ⟨7, stack.toNat⟩ = true →
      (go op).partOfChan ch = none →
      (op = 3 → ∀ rows, Next (.hbmMbist src stack chan (some rows)) s
        (((({ (go 3).forget (inChans [ch]) with zeroed := sput (go 3).zeroed ch }).hbmData (rows.zeroExtend 64)).hbmDone 0).maintEnd
          ⟨7, stack.toNat⟩)) ∧
      (op = 4 → Next (.hbmLaneRepair src stack chan true) s (((go 4).hbmDone 0).maintEnd ⟨7, stack.toNat⟩) ∧
        Next (.hbmLaneRepair src stack chan false) s (((go 4).hbmDone 3).maintEnd ⟨7, stack.toNat⟩)) ∧
      (op = 5 → Next (.hbmSoftRepair src stack chan false) s (((go 5).hbmDone 3).maintEnd ⟨7, stack.toNat⟩) ∧
        ∃ t, Next (.hbmSoftRepair src stack chan true) s t ∧
          t.repairs = s.repairs ++ [(ch, (s.reg ⟨.tstHbmArg2, 0, 0⟩).toNat, (s.reg ⟨.tstHbmArg, 0, 0⟩).toNat)]) ∧
      (op = 6 → Next (.hbmHardRepair src stack chan true) s (((go 6).hbmDone 0).maintEnd ⟨7, stack.toNat⟩) ∧
        Next (.hbmHardRepair src stack chan false) s (((go 6).hbmDone 3).maintEnd ⟨7, stack.toNat⟩))))

/-! ### The host interface (18) -/

/-- The host link and its functions complete (R395, R397, R522 to R526): training shows the link, and ready functions report;
a hot reset drops the link, counts a retrain and resets every function; function resets act alone; a power state and a vector's
mask bit are stored, and unmasking sends the pending message; the aperture moves bytes of memory that no partition holds and
aborts elsewhere.
It rests on the model's readings in logs 67, 68. -/
def Obligations.HostLinkAndAperture : Prop :=
  (∀ (s : State) (speed : BitVec 2) (width : Nat), s.resetPin = true → speed ≠ 0#2 → width = 8 ∨ width = 16 →
    let s1 := s.setReg kHostLink (BitVec.ofNat 32 (1 + speed.toNat * 2 + width * 8))
    (s.pkg = .on → Next (.hostLinkUp speed width) s { s1 with msgs := s1.msgs ++ [.drs] }) ∧
    (s.pkg ≠ .on → s.pkg ≠ .off → Next (.hostLinkUp speed width) s s1)) ∧
  (∀ (s : State), s.pkg = .on →
    Next .hotReset s ((upto 1 63).foldl (fun s v => s.vfFlr v) ((s.setReg kHostLink 0#32).count .mgtHostRetrainCnt 0 1).pfReset) ∧
    Next .pfFlr s s.pfReset ∧ (∀ vf : BitVec 6, vf ≠ 0#6 → Next (.vfFlr vf) s (s.vfFlr vf.toNat)) ∧
    (∀ (fn : BitVec 6) (d3 : Bool), s.hostUp = true →
      Next (.pciePowerStateChange fn d3) s (s.setVf fn.toNat { s.vf fn.toNat with d3 := d3 }))) ∧
  (∀ (s : State) (fn vec : BitVec 6) (m : Bool), s.tableLive fn.toNat = false → Next (.msixVectorMaskWrite fn vec m) s s) ∧
  (∀ (s : State) (fn vec : BitVec 6), s.tableLive fn.toNat = true →
    let f := s.vf fn.toNat
    let bit : BitVec 64 := BitVec.ofNat 64 (2 ^ vec.toNat)
    let open_ := s.setVf fn.toNat { f with msixMask := f.msixMask &&& ~~~bit, msixPend := f.msixPend &&& ~~~bit }
    Next (.msixVectorMaskWrite fn vec true) s (s.setVf fn.toNat { f with msixMask := f.msixMask ||| bit }) ∧
    (f.msixPend.getLsbD vec.toNat = true → Next (.msixVectorMaskWrite fn vec false) s
      { open_ with msgs := s.msgs ++ [.msix fn.toNat vec.toNat] }) ∧
    (f.msixPend.getLsbD vec.toNat = false → Next (.msixVectorMaskWrite fn vec false) s open_)) ∧
  (∀ (s : State) (off len : Nat) (l : List (Byte × Bool)), s.srcLive .pf = true →
    let a := s.rfld ⟨.mgtHostAper, 0, 0⟩ 7 0 * 2 ^ 36 + off
    (off + l.length ≤ 2 ^ 36 → l.length ≤ 4096 → (∀ i < l.length, s.freeMem (a + i) = true) →
      Next (.apertureAccess off len (some l)) s (if anyPoison l then (s.pokeP a l).count .mgtHostUeCnt 0 1 else s.pokeP a l)) ∧
    (off + len ≤ 2 ^ 36 → len ≤ 4096 → (∀ i < len, s.freeMem (a + i) = true) →
      Next (.apertureAccess off len none) s { s with msgs := s.msgs ++ [.hostRead 0 (some (s.pbytes a len))] }) ∧
    (∀ i < l.length, off + l.length ≤ 2 ^ 36 → l.length ≤ 4096 → s.freeMem (a + i) = false →
      Next (.apertureAccess off len (some l)) s (s.count .mgtHostAbortCnt 0 1)) ∧
    (∀ i < len, off + len ≤ 2 ^ 36 → len ≤ 4096 → s.freeMem (a + i) = false →
      Next (.apertureAccess off len none) s
        (let s1 := s.count .mgtHostAbortCnt 0 1; { s1 with msgs := s1.msgs ++ [.hostRead 0 none] })))

/-- The host queues complete (R526 to R528, R538): a tail within the queue is stored; a ready queue takes its descriptor, and
a descriptor that fails its checks ends with status 4; the bytes of a host read are stored in the partition, those of a
partition read are sent to the host; a host read that fails ends with status 3; the end of a descriptor writes its status to
the ring, moves the head, and signals and interrupts as its flags say.
It rests on the model's readings in log 64. -/
def Obligations.HostQueueDescriptors : Prop :=
  (∀ (s : State) (vf : BitVec 6) (q : BitVec 2) (value : Word),
    let k := kHq .prtHqTail vf.toNat q.toNat
    Reaches s (.vf vf.toNat) k →
    (wbits value 15 0 < 2 ^ s.rfld (kHq .prtHqCfg vf.toNat q.toNat) 4 0 →
      Next (.hqTailWrite vf q value) s (s.setReg k (value &&& 0xFFFF#32))) ∧
    (2 ^ s.rfld (kHq .prtHqCfg vf.toNat q.toNat) 4 0 ≤ wbits value 15 0 → Next (.hqTailWrite vf q value) s s)) ∧
  (∀ (s : State) (vf : BitVec 6) (q : BitVec 2) (p : Nat) (d : List Byte) (data : List (Byte × Bool)),
    let v := vf.toNat
    let Q := q.toNat
    s.hqReady v Q = some p →
    (s.hqBad p d = true → Next (.hqHostToPartition vf q d data) s (s.setJob v Q d 4) ∧
      Next (.hqPartitionToHost vf q d) s (s.setJob v Q d 4) ∧ Next (.hqHostReadTimeout vf q d data) s (s.setJob v Q d 4)) ∧
    (s.hqBad p d = false → dfield d 0 1 = 1 → data.length = dfield d 0x18 4 →
      Next (.hqHostToPartition vf q d data) s
        (let r := s.vstore p (dfield d 0x10 8) (dfield d 0x1C 1) data; r.1.setJob v Q d (if r.2 then 1 else 2))) ∧
    (s.hqBad p d = false → dfield d 0 1 = 1 → data.length < dfield d 0x18 4 →
      Next (.hqHostReadTimeout vf q d data) s
        (let r := s.vstore p (dfield d 0x10 8) (dfield d 0x1C 1) data; r.1.setJob v Q d (if r.2 then 3 else 2))) ∧
    (s.hqBad p d = false → dfield d 0 1 = 2 →
      Next (.hqPartitionToHost vf q d) s
        (let r := s.hqRead p (dfield d 0x10 8) (dfield d 0x18 4) (dfield d 0x1C 1)
         let s2 := if r.2.1.isEmpty then r.1 else { r.1 with msgs := r.1.msgs ++ [Msg.hostWrite v (dfield d 8 8) r.2.1 true] }
         s2.setJob v Q d (if !r.2.2 then 2 else if anyPoison r.2.1 then 5 else 1)))) ∧
  (∀ (s : State) (vf : BitVec 6) (q : BitVec 2) (j : HqJob),
    let v := vf.toNat
    let Q := q.toNat
    aget (s.vf v).jobs Q = some j → dfield j.desc 1 1 = 0 →
    ∃ t, Next (.hqDescriptorComplete vf q) s t ∧ aget (t.vf v).jobs Q = none ∧
      t.reg (kHq .prtHqHead v Q) = BitVec.ofNat 32 (((s.reg (kHq .prtHqHead v Q)).toNat + 1) %
        2 ^ s.rfld (kHq .prtHqCfg v Q) 4 0) ∧
      t.msgs = s.msgs ++ [Msg.hostWrite v ((s.reg (kHq .prtHqBaseLo v Q)).toNat + 2 ^ 32 * (s.reg (kHq .prtHqBaseHi v Q)).toNat +
        (s.reg (kHq .prtHqHead v Q)).toNat * 64 + 2) [(BitVec.ofNat 8 j.status, false)] false])
/-! ### The management path (18) -/

/-- The I3C, MCTP and PLDM requests complete (R469, R512, R513, R530 to R533): an assigned address stands in MGT_I3C_STATUS; a
read or write within the ranges of the register target is done with status 0, one outside is counted with status 1, and with
Welyar's runtime off each answers status 2; each PLDM request is answered as its table says: the cap is set in range, a new
event receiver gets the queued events, an update runs as the update commands do and is answered when it has ended.
It rests on the model's readings in logs 69, 70, 75, 76, 77. -/
def Obligations.ManagementRequestsAreAnswered : Prop :=
  (∀ (s : State) (da : BitVec 7), s.pkg ≠ .off →
    Next (.i3cAddressAssign true da) s (s.setFld kI3cStatus 6 0 da.toNat) ∧
    Next (.i3cAddressAssign false da) s (s.setFld kI3cStatus 14 8 da.toNat)) ∧
  (∀ (s : State) (off : BitVec 32) (value : Word),
    (s.pkg = .on → State.i3cMay off.toNat false = true → Next (.i3cRegRead off) s
      ((s.readOff .i3c off.toNat).1.i3cAnswer 0 (some (s.readOff .i3c off.toNat).2))) ∧
    (s.pkg = .on → State.i3cMay off.toNat true = true → Next (.i3cRegWrite off value) s
      ((s.writeOff .i3c off.toNat value).i3cAnswer 0 none)) ∧
    (s.pkg = .on → State.i3cMay off.toNat false = false → ∃ w, Next (.i3cRegRead off) s
      { (s.count .mgtI3cDenyCnt 0 1).i3cAnswer 1 (some w) with draws := s.draws + 1 }) ∧
    (s.pkg = .on → State.i3cMay off.toNat true = false → Next (.i3cRegWrite off value) s
      ((s.count .mgtI3cDenyCnt 0 1).i3cAnswer 1 none)) ∧
    (s.pkg = .held ∨ s.pkg = .halted → Next (.i3cRegWrite off value) s (s.i3cAnswer 2 none) ∧
      ∃ w, Next (.i3cRegRead off) s { s.i3cAnswer 2 (some w) with draws := s.draws + 1 })) ∧
  (∀ (s : State), s.pkg = .on ∨ s.pkg = .halted →
    (∀ eid : Byte, Next (.mctpSetEndpointId eid) s (s.setFld kI3cStatus 23 16 eid.toNat)) ∧
    Next .pldmGetTid s (s.pldm (.tid s.tid)) ∧
    (∀ tid : Byte, Next (.pldmSetTid tid) s ({ s with tid := tid.toNat }.pldm .done)) ∧
    (∀ ty, ∃ v, Next (.pldmGetVersion ty) s (s.pldm (.version v))) ∧
    Next .pldmGetTypes s (s.pldm (.types [.base, .platform, .fru, .firmware, .file])) ∧
    (∀ ty, Next (.pldmGetCommands ty) s (s.pldm (.commands ty.commands))) ∧
    (∀ h, ∃ d, Next (.pldmGetPdr h) s (s.pldm (.pdr d))) ∧
    (∀ d < 4, Next (.pldmGetSensorReading (0x10 + d)) s (s.pldm (.reading (s.rfld ⟨.pwrDieTemp, d, 0⟩ 11 0)))) ∧
    (∀ i < 24, Next (.pldmGetSensorReading (0x20 + i)) s (s.pldm (.reading (s.rfld ⟨.pwrHbmTemp, i / 6, i % 6⟩ 7 0)))) ∧
    Next (.pldmGetSensorReading 0x40) s (s.pldm (.reading (s.rfld ⟨.pwrIn, 0, 0⟩ 15 0))) ∧
    Next (.pldmGetSensorReading 0x41) s (s.pldm (.reading (s.rfld ⟨.pwrFloor, 0, 0⟩ 15 0))) ∧
    Next (.pldmGetEffecter 0x80) s (s.pldm (.reading (s.rfld ⟨.pwrCap, 0, 0⟩ 15 0))) ∧
    (∀ v ≤ 15000, s.cyc.cap = none → Next (.pldmSetEffecter 0x80 v) s
      ({ s.setReg ⟨.pwrCap, 0, 0⟩ (BitVec.ofNat 32 v) with cyc := { s.cyc with cap := some v } }.pldm .done)) ∧
    (∀ v ≤ 15000, ∀ c, s.cyc.cap = some c → Next (.pldmSetEffecter 0x80 v) s
      ({ s.setReg ⟨.pwrCap, 0, 0⟩ (BitVec.ofNat 32 (min c v)) with cyc := { s.cyc with cap := some (min c v) } }.pldm .done)) ∧
    (∀ v, 15000 < v → ∃ r, Next (.pldmSetEffecter 0x80 v) s (s.pldm r)) ∧
    (∀ eid : Byte, Next (.pldmSetEventReceiver eid) s { s with
      pldmRecv := some eid.toNat, pldmQueue := []
      msgs := s.msgs ++ [.pldmReply .done] ++ s.pldmQueue.map fun e => Msg.pldm e.1 e.2 }) ∧
    (∃ d, Next .pldmFruMetadata s (s.pldm (.fruMeta d))) ∧
    Next .pldmFruTable s (s.pldm (.fru "TVR-VT424-B0" "B0" Config.serial)) ∧
    Next .pldmFileTransfer s (s.pldm (.file (s.pkgRecord.take (2 ^ 24)))) ∧
    Next .pldmUnsupported s (s.pldm .unsupported) ∧
    (s.rbit kUpdCmd 3 = false →
      (∀ image ok, Next (.pldmUpdateComponent 1 image ok) s
        ((s.setReg kUpdCmd (BitVec.ofNat 32 9)).writeImage image ok).updReply) ∧
      Next .pldmActivateFirmware s (s.setReg kUpdCmd (BitVec.ofNat 32 10)).applyImage.updReply))

/-! ### The tray window and the JTAG port (11, 20) -/

/-- The tray-window messages complete (R24, R29, R339, R354): the oldest request is served with Welyar's rights and answered
with its data or done, with an error and its reason where it may not be, and not at all while the window is shut; a reply, or
none in 2^20 pt, ends the request of its tag.
It rests on the model's readings in logs 71, 72. -/
def Obligations.TrayWindowMessages : Prop :=
  (∀ (s s1 : State) (m : TwMsg), s.pkg = .on →
    (s.takeTw 1 = some (s1, m) →
      (s1.trayShut = true → Next .twRead s s1) ∧
      (s1.trayShut = false → s1.twReason m ≠ 0 → Next .twRead s (s1.sendTw (m.error (s1.twReason m)))) ∧
      (s1.trayShut = false → s1.twReason m = 0 → Next .twRead s ((s1.readPkg m.addr m.len).1.sendTw
        { m with op := 3, poison := anyPoison (s1.readPkg m.addr m.len).2, reason := 0, data := dataOf (s1.readPkg m.addr m.len).2 }))) ∧
    (s.takeTw 2 = some (s1, m) →
      (s1.trayShut = true → Next .twWrite s s1) ∧
      (s1.trayShut = false → s1.twReason m ≠ 0 → Next .twWrite s (s1.sendTw (m.error (s1.twReason m)))) ∧
      (s1.trayShut = false → s1.twReason m = 0 → Next .twWrite s ((s1.writePkg rankTray m.addr (m.data.take m.len)).sendTw
        { m with op := 4, poison := false, reason := 0, data := [] }))) ∧
    (∀ q, s1.twOut.find? (fun q => q.msg.tag == m.tag && q.msg.peer == m.peer) = some q →
      (s.takeTw 3 = some (s1, m) → Next .twReadData s (s1.endTw q (some m))) ∧
      (s.takeTw 4 = some (s1, m) → Next .twWriteDone s (s1.endTw q (some m))) ∧
      (s.takeTw 5 = some (s1, m) → Next .twError s (s1.endTw q (some m))))) ∧
  (∀ (s : State) (tag : Nat) (q : TwReq),
    s.twOut.find? (fun q => q.msg.tag == tag && decide (2 ^ 20 ≤ s.since q.t0)) = some q →
    Next (.twReplyTimeout tag) s (s.endTw q none))

/-- The JTAG instructions complete (R571 to R573): each loads its instruction and shifts its register; EXTEST, CLAMP and HIGHZ
need PKG_RESET_N low and DBGACC package debug, else the instruction is BYPASS; a debug access shows the previous access and
starts its own, in its own package where SLOT_ID says so, which is refused where a partition outside partition debug holds what
it reaches, or in the tray.
It rests on the model's readings in logs 73, 74. -/
def Obligations.JtagInstructions : Prop :=
  (∀ (s : State) (pins shift : BitVec 15),
    let load (ir : TapIr) : State := { s with tap := { s.tap with ir := ir } }
    Next .jtagReset s (load .idcode) ∧ Next .jtagIdcode s ((load .idcode).tdo 0x20424DCB) ∧
    Next .jtagBypass s ((load .bypass).tdo 0) ∧ Next (.jtagSamplePreload pins shift) s ((load .sample).boundary pins shift) ∧
    (s.resetPin = false → Next (.jtagExtest pins shift) s ((load .extest).boundary pins shift) ∧
      Next .jtagClamp s ((load .clamp).tdo 0) ∧ Next .jtagHighz s ((load .highz).tdo 0)) ∧
    (s.resetPin = true → Next (.jtagExtest pins shift) s ((load .bypass).tdo 0) ∧
      Next .jtagClamp s ((load .bypass).tdo 0) ∧ Next .jtagHighz s ((load .bypass).tdo 0))) ∧
  (∀ (s : State) (dr : BitVec 88),
    let s1 := { s with tap := { s.tap with ir := .dbgacc } }
    let s2 := { s1 with msgs := s.msgs ++ [Msg.dbg s.tap.st s.tap.data] }
    let op := bitsOf dr.toNat 1 0
    (s.pkgDebug = false → Next (.dbgacc dr) s ({ s with tap := { s.tap with ir := .bypass } }.tdo 0)) ∧
    (s.pkgDebug = true → op = 0 → Next (.dbgacc dr) s s2) ∧
    (s.pkgDebug = true → op ≠ 0 → s.tap.busy = true → Next (.dbgacc dr) s { s2 with tap := { s2.tap with st := 2 } }) ∧
    (s.pkgDebug = true → op = 3 → s.tap.busy = false → Next (.dbgacc dr) s (s2.dbgEnd 1 none)) ∧
    (s.pkgDebug = true → op = 1 ∨ op = 2 → s.tap.busy = false → dr.getLsbD 3 = true → bitsOf dr.toNat 5 4 ≠ s.ownSlot →
      (s.trayShut = true → Next (.dbgacc dr) s (s2.dbgEnd 1 none)) ∧
      (s.trayShut = false → ∃ t, Next (.dbgacc dr) s t ∧ t.tap.busy = true ∧ t.twOut.length = s.twOut.length + 1)) ∧
    (s.pkgDebug = true → op = 1 ∨ op = 2 → s.tap.busy = false → dr.getLsbD 3 = false ∨ bitsOf dr.toNat 5 4 = s.ownSlot →
      (∀ p, (∃ i < 4, s2.heldAt (dbgAddr dr + i) = some p) → s2.partDebug p = false → Next (.dbgacc dr) s (s2.dbgEnd 1 none)) ∧
      (s2.reachable (dbgAddr dr) 4 = true → (∀ i < 4, s2.heldAt (dbgAddr dr + i) = none) →
        (op = 2 → Next (.dbgacc dr) s
          ((s2.writePkg (Issuer.rank .welyar) (dbgAddr dr) (leBytes 4 (bitsOf dr.toNat 81 50 % 2 ^ 32))).dbgEnd 0 none)) ∧
        (op = 1 → Next (.dbgacc dr) s
          (let r := s2.readPkg (dbgAddr dr) 4
           r.1.dbgEnd (if anyPoison r.2 then 3 else 0) (some (BitVec.ofNat 32 (leNat (dataOf r.2)))))))))
/-! ### The block as a whole -/

/-- A step takes the command at the front of the queue and is its execution with the rest of the queue; with no command
waiting one spine cycle passes (DESIGN CHOICE of the model, log 3). -/
def Obligations.StepTakesTheFrontCommand : Prop :=
  (∀ (s : State) (c : Instr), step { s with pending := c :: s.pending } = exec c s) ∧
  (∀ (s : State), s.pending = [] → step s = .next s.tick)

/-- What power-up leaves (R11, R31, R486, R496): no command waits, the rails are off, PKG_RESET_N is low, plumb time is 0, no
partition is built, no context holds work, every register stands at the reset value of its table;
memory is canonical, the event queues and the rate lie within their bounds.
It rests on the model's readings in log 7. -/
def Obligations.ResetState : Prop :=
  State.reset.pending = [] ∧ State.reset.pkg = .off ∧ State.reset.resetPin = false ∧ State.reset.plumb = 0#64 ∧
  (∀ p < 8, (State.reset.part p).built = false) ∧ (∀ v, (State.reset.vf v).bound = none) ∧
  (∀ c x, (State.reset.ctx c x).st = .empty) ∧ (∀ n < 8, (State.reset.port n).st = .off) ∧
  (∀ k : RKey, State.reset.reg k = k.resetVal) ∧ Memory.wf State.reset.mem ∧
  (∀ d : Fin 4, (State.reset.evq.get d).length ≤ 1024) ∧ State.reset.pldmQueue.length ≤ 64 ∧
  rateMin ≤ (State.reset.reg kRate).toNat ∧ (State.reset.reg kRate).toNat ≤ rateMax

/-- Commands are served first in, first out, and no command's effect touches the queue (the block's command queue); no command
ends in a fault or a refusal, in any state.
It rests on the model's readings in log 1. -/
def Obligations.QueueIsFirstInFirstOut : Prop :=
  (∀ (s t : State) (c : Instr), Next c s t → t.pending = s.pending) ∧
  (∀ (s t : State) (c : Instr) (r : List Instr), s.pending = c :: r → step s = .next t → t.pending = r) ∧
  (∀ s : State, Safe s)

/-- Memory keeps its canonical form through every step (the model's form of memory; R250, R252): addresses strictly rising,
and no entry that equals what an unlisted address reads as.
It rests on the model's readings in log 6. -/
def Obligations.MemoryStaysCanonical : Prop :=
  ∀ (s t : State), Memory.wf s.mem → step s = .next t → Memory.wf t.mem

/-- The queues that the spec bounds stay within their bounds through every step (R533, R559): 1,024 entries in the event queue
of a spine, 64 queued PLDM events. -/
def Obligations.EventQueuesStayBounded : Prop :=
  ∀ (s t : State), (∀ d : Fin 4, (s.evq.get d).length ≤ 1024) → s.pldmQueue.length ≤ 64 → step s = .next t →
    (∀ d : Fin 4, (t.evq.get d).length ≤ 1024) ∧ t.pldmQueue.length ≤ 64

/-- The frame of the register instructions (R70, R155): ADD to SLTU, ADDI to SRAI and GETP leave all memory, every register of
the package, every partition, every other context, and in their own context every scalar register but the one they name, the
data memory, the parameters, the pegs, the flags, the mode and the state; the stream store is as before; x0 reads 0, also when
it is the register they name. -/
def Obligations.FrameOfRegisterInstructions : Prop :=
  ∀ (s t : State) (core : CoreAddr) (x op : Nat) (w : Word) (i : CoreAddr → Instr),
    (i, op) ∈ [(Instr.opAdd, 0x00), (.opSub, 0x01), (.opAnd, 0x02), (.opOr, 0x03), (.opXor, 0x04), (.opSll, 0x05), (.opSrl, 0x06),
      (.opSra, 0x07), (.opMul, 0x08), (.opSlt, 0x09), (.opSltu, 0x0A), (.opAddi, 0x10), (.opAndi, 0x11), (.opOri, 0x12),
      (.opXori, 0x13), (.opLui, 0x14), (.opSlli, 0x15), (.opSrli, 0x16), (.opSrai, 0x17), (.opGetp, 0x1A)] →
    Issues s core.toNat x w op → Next (i core) s t →
    let c := core.toNat
    let v := s.ctx c x
    let u := t.ctx c x
    t.mem = s.mem ∧ t.poison = s.poison ∧ t.regs = s.regs ∧ t.parts = s.parts ∧ t.msgs = s.msgs ∧
    (∀ a b, (a, b) ≠ (c, x) → t.ctx a b = s.ctx a b) ∧ (t.core c).imem = (s.core c).imem ∧
    (∀ r : BitVec 5, r ≠ fA w → u.sreg r = v.sreg r) ∧ u.sreg 0#5 = 0#32 ∧ u.dmem = v.dmem ∧ u.p = v.p ∧ u.cpeg = v.cpeg ∧
    u.flags = v.flags ∧ u.mode = v.mode ∧ u.st = v.st

end
end

