-- ==== Sys2Proof/Laws/Bytes.lean ====
section
/-! SUPPORT. Little-endian numbers and the CRC. -/
namespace Sys2Proof.Laws
open Sys2Proof Sys2Proof.Machine

@[simp] theorem length_leBytes (n v : Nat) : (leBytes n v).length = n := by
  induction n generalizing v with
  | zero => rfl
  | succ n ih => simp [leBytes, ih]

theorem leNat_leBytes (n v : Nat) : leNat (leBytes n v) = v % 256 ^ n := by
  induction n generalizing v with
  | zero => simp [leBytes, leNat, Nat.mod_one]
  | succ n ih =>
    rw [leBytes, leNat, ih, BitVec.toNat_ofNat, show 256 ^ (n + 1) = 256 * 256 ^ n from Nat.pow_succ']
    exact Nat.mod_mul.symm

theorem crcBit_lt (n c : Nat) (h : c < 2 ^ 32) : crcBit n c < 2 ^ 32 := by
  induction n generalizing c with
  | zero => exact h
  | succ n ih =>
    have h2 : c / 2 < 2 ^ 32 := Nat.lt_of_le_of_lt (Nat.div_le_self _ _) h
    rw [crcBit]
    split
    · exact ih _ (Nat.xor_lt_two_pow h2 (by decide))
    · exact ih _ h2

theorem crc32_lt (l : List Byte) : crc32 l < 2 ^ 32 := by
  have h : ∀ c, c < 2 ^ 32 → l.foldl crcStep c < 2 ^ 32 := by
    induction l with
    | nil => exact fun c h => h
    | cons b l ih =>
      exact fun c h => ih _ (crcBit_lt 8 _ (Nat.xor_lt_two_pow h (Nat.lt_of_lt_of_le b.isLt (by decide))))
  exact Nat.xor_lt_two_pow (h _ (by decide)) (by decide)

end Sys2Proof.Laws
end

