-- ==== Sys2Proof/Laws/Kept.lean ====
section
/-! SUPPORT. What every command keeps of the whole block, as one relation between the state before and the state after: the
command queue, the canonical form of memory, the committed security version, the bounds of the event queues. It is reflexive
and transitive, so each operation needs one lemma over those it calls. -/
namespace Sys2Proof.Laws
open Sys2Proof Sys2Proof.Machine

/-- What stands in these fields as in `s`, or no worse. -/
structure Keeps (s : State) (pend : List Instr) (m : List (Nat × Byte)) (fl : Flash) (ev : Vector (List Event) 4)
    (pq : List (Nat × Nat)) : Prop where
  pending : pend = s.pending
  mem : Memory.wf s.mem → Memory.wf m
  svn : s.flash.svnMin ≤ fl.svnMin
  evq : (∀ d : Fin 4, (s.evq.get d).length ≤ 1024) → ∀ d : Fin 4, (ev.get d).length ≤ 1024
  pldm : s.pldmQueue.length ≤ 64 → pq.length ≤ 64

/-- What stands in `t` as in `s`, or no worse. -/
def Kept (s t : State) : Prop := Keeps s t.pending t.mem t.flash t.evq t.pldmQueue

theorem Kept.refl {s : State} : Kept s s := ⟨rfl, id, Nat.le_refl _, id, id⟩

theorem Kept.trans {s t u : State} (a : Kept s t) (b : Kept t u) : Kept s u :=
  ⟨(Keeps.pending b).trans a.pending, b.mem ∘ a.mem, Nat.le_trans a.svn b.svn, b.evq ∘ a.evq, b.pldm ∘ a.pldm⟩

theorem Kept_mk {s : State}
    {x_pending x_regs x_plumb x_bentCyc x_isle x_spinePos x_isleHold x_draws x_mem x_poison x_starts x_configured
    x_classes x_cores x_xfers x_sends x_supplies x_ags x_trusses x_colrecs x_jctxs x_jprogs x_nextId x_waiters
    x_signals x_badPegs x_pools x_deck x_bays x_replies x_taken x_chanErr x_lastRead x_parts x_vfs x_evq x_evDrop
    x_suspects x_suspectT x_retired x_inspects x_pkgRecord x_engEpoch x_orders x_pendingSub x_resTimes x_latches
    x_msgs x_ports x_sflows x_rflows x_replay x_avoid x_pegMsgs x_twIn x_twOut x_twDone x_keys x_keySwitch x_trayIdx
    x_links x_mesh x_pkgFence x_pldmRecv x_pldmQueue x_maintRun x_maintQueue x_trayGen x_pkg x_resetPin x_pwrOk
    x_thermtripN x_worked x_power x_flash x_boot x_probePack x_unitProbed x_copies x_snapAt x_snapWelyar x_shadow
    x_evlog x_evMarks x_sessions x_tokens x_tid x_tap x_repairs x_zeroed x_cyc : _} :
    Kept s (State.mk
      x_pending x_regs x_plumb x_bentCyc x_isle x_spinePos x_isleHold x_draws x_mem x_poison x_starts x_configured
      x_classes x_cores x_xfers x_sends x_supplies x_ags x_trusses x_colrecs x_jctxs x_jprogs x_nextId x_waiters
      x_signals x_badPegs x_pools x_deck x_bays x_replies x_taken x_chanErr x_lastRead x_parts x_vfs x_evq x_evDrop
      x_suspects x_suspectT x_retired x_inspects x_pkgRecord x_engEpoch x_orders x_pendingSub x_resTimes x_latches
      x_msgs x_ports x_sflows x_rflows x_replay x_avoid x_pegMsgs x_twIn x_twOut x_twDone x_keys x_keySwitch x_trayIdx
      x_links x_mesh x_pkgFence x_pldmRecv x_pldmQueue x_maintRun x_maintQueue x_trayGen x_pkg x_resetPin x_pwrOk
      x_thermtripN x_worked x_power x_flash x_boot x_probePack x_unitProbed x_copies x_snapAt x_snapWelyar x_shadow
      x_evlog x_evMarks x_sessions x_tokens x_tid x_tap x_repairs x_zeroed x_cyc) = Keeps s x_pending x_mem x_flash x_evq x_pldmQueue := rfl

/-- A state with other fields changed, and the flash with no lower version. -/
theorem Keeps.of {s t : State} {fl : Flash} (h : Kept s t) (hf : t.flash.svnMin ≤ fl.svnMin) :
    Keeps s t.pending t.mem fl t.evq t.pldmQueue := 
  ⟨Keeps.pending h, Keeps.mem h, Nat.le_trans (Keeps.svn h) hf, Keeps.evq h, Keeps.pldm h⟩

/-- Event queues without an event. -/
theorem noEvents : ∀ d : Fin 4, ((Vector.replicate 4 [] : Vector (List Event) 4).get d).length ≤ 1024 := by decide

/-- The state in a pair, in an option, in an outcome. -/
structure KeptP {α : Type} (s : State) (p : State × α) : Prop where
  h : Kept s p.1
structure KeptO (s : State) (o : Option State) : Prop where
  h : ∀ t, o = some t → Kept s t
structure KeptOP {α : Type} (s : State) (o : Option (State × α)) : Prop where
  h : ∀ t a, o = some (t, a) → Kept s t
structure KeptN (s : State) (o : Host.Outcome State Fault Refusal) : Prop where
  h : ∀ t, o = .next t → Kept s t

theorem KeptP.mk_ {α : Type} {s t : State} {a : α} (h : Kept s t) : KeptP s (t, a) := ⟨h⟩
theorem KeptO.some_ {s t : State} (h : Kept s t) : KeptO s (some t) := ⟨fun _ e => by cases e; exact h⟩
theorem KeptO.none_ {s : State} : KeptO s none := ⟨fun _ e => by cases e⟩
theorem KeptOP.some_ {α : Type} {s t : State} {a : α} (h : Kept s t) : KeptOP s (some (t, a)) := ⟨fun _ _ e => by cases e; exact h⟩
theorem KeptOP.none_ {α : Type} {s : State} : KeptOP (α := α) s none := ⟨fun _ _ e => by cases e⟩
theorem KeptN.mk_ {s t : State} (h : Kept s t) : KeptN s (.next t) := ⟨fun _ e => by cases e; exact h⟩

/-- The outcome that a write has, when it has one of its own. -/
structure KeptOO (s : State) (o : Option (Host.Outcome State Fault Refusal)) : Prop where
  h : ∀ t, o = some t → KeptN s t
theorem KeptOO.some_ {s : State} {t : Host.Outcome State Fault Refusal} (h : KeptN s t) : KeptOO s (some t) :=
  ⟨fun _ e => by cases e; exact h⟩
theorem KeptOO.none_ {s : State} : KeptOO s none := ⟨fun _ e => by cases e⟩
theorem KeptOO.of {s : State} {o : Option (Host.Outcome State Fault Refusal)} {t : Host.Outcome State Fault Refusal}
    (e : o = some t) (h : KeptOO s o) : KeptN s t := h.h _ e
theorem KeptOO.ite {s : State} {a b : Option (Host.Outcome State Fault Refusal)} {c : Prop} [Decidable c] (h : KeptOO s a)
    (k : KeptOO s b) : KeptOO s (if c then a else b) := by split <;> assumption
theorem KeptN.trans {s t : State} {p : Host.Outcome State Fault Refusal} (a : Kept s t) (b : KeptN t p) : KeptN s p :=
  ⟨fun u e => a.trans (b.h u e)⟩

/-- The state that the collective engine accepts, and the one of a transfer in work. -/
structure KeptA (s : State) (o : Acc) : Prop where
  h : ∀ t, o = .ok t ∨ o = .asked t → Kept s t
structure KeptW (s : State) (w : Work) : Prop where
  h : Kept s w.s
theorem KeptA.ok_ {s t : State} (h : Kept s t) : KeptA s (.ok t) :=
  ⟨fun _ e => by rcases e with e | e <;> cases e; exact h⟩
theorem KeptA.asked_ {s t : State} (h : Kept s t) : KeptA s (.asked t) :=
  ⟨fun _ e => by rcases e with e | e <;> cases e; exact h⟩
theorem KeptA.held_ {s : State} : KeptA s .held := ⟨fun _ e => by rcases e with e | e <;> cases e⟩
theorem KeptA.of {s t : State} {o : Acc} (e : o = .ok t) (h : KeptA s o) : Kept s t := h.h _ (.inl e)
theorem KeptA.of' {s t : State} {o : Acc} (e : o = .asked t) (h : KeptA s o) : Kept s t := h.h _ (.inr e)
theorem KeptA.ite {s : State} {a b : Acc} {c : Prop} [Decidable c] (h : KeptA s a) (k : KeptA s b) :
    KeptA s (if c then a else b) := by split <;> assumption
theorem KeptA.trans {s t : State} {p : Acc} (a : Kept s t) (b : KeptA t p) : KeptA s p := ⟨fun u e => a.trans (b.h u e)⟩
theorem KeptW.mk_ {s t : State} {f : FpFlags} {b : Bool} (h : Kept s t) : KeptW s (Work.mk t f b) := ⟨h⟩
theorem KeptW.refl {w : Work} : KeptW w.s w := ⟨Kept.refl⟩
theorem KeptW.ite {s : State} {a b : Work} {c : Prop} [Decidable c] (h : KeptW s a) (k : KeptW s b) :
    KeptW s (if c then a else b) := by split <;> assumption
theorem KeptW.trans {s : State} {w v : Work} (a : KeptW s w) (b : KeptW w.s v) : KeptW s v := ⟨a.h.trans b.h⟩
theorem KeptW.foldl {α : Type} {f : Work → α → Work} {s : State} {i : Work} {l : List α} (hi : KeptW s i)
    (hf : ∀ x a, KeptW x.s (f x a)) : KeptW s (l.foldl f i) := by
  induction l generalizing i with
  | nil => exact hi
  | cons a l ih => exact ih (hi.trans (hf i a))

theorem KeptP.of {α : Type} {s t : State} {p : State × α} {a : α} (e : p = (t, a)) (h : KeptP s p) : Kept s t := by
  cases e; exact h.h
theorem KeptO.of {s t : State} {o : Option State} (e : o = some t) (h : KeptO s o) : Kept s t := h.h _ e
theorem KeptOP.of {α : Type} {s t : State} {o : Option (State × α)} {a : α} (e : o = some (t, a)) (h : KeptOP s o) : Kept s t :=
  h.h _ _ e
theorem KeptP.trans {α : Type} {s t : State} {p : State × α} (a : Kept s t) (b : KeptP t p) : KeptP s p := ⟨a.trans b.h⟩
theorem KeptO.trans {s t : State} {p : Option State} (a : Kept s t) (b : KeptO t p) : KeptO s p := ⟨fun u e => a.trans (b.h u e)⟩
theorem KeptOP.trans {α : Type} {s t : State} {p : Option (State × α)} (a : Kept s t) (b : KeptOP t p) : KeptOP s p :=
  ⟨fun u x e => a.trans (b.h u x e)⟩

theorem KeptOP.map {α β : Type} {s : State} {o : Option (State × α)} {f : State × α → State × β} (h : KeptOP s o)
    (hf : ∀ x a, (f (x, a)).1 = x) : KeptOP s (o.map f) := by
  refine ⟨fun t a e => ?_⟩
  cases o with
  | none => cases e
  | some p =>
    have h1 := h.h p.1 p.2 rfl
    have h2 := hf p.1 p.2
    have e2 : f (p.1, p.2) = (t, a) := Option.some.inj e
    rw [e2] at h2
    have h3 : t = p.1 := h2
    rw [h3]
    exact h1

theorem KeptOP.bind {α β : Type} {s : State} {o : Option (State × α)} {f : State × α → Option (State × β)} (h : KeptOP s o)
    (hf : ∀ x a, KeptOP x (f (x, a))) : KeptOP s (o.bind f) := by
  cases o with
  | none => exact KeptOP.none_
  | some p => exact KeptOP.trans (h.h p.1 p.2 rfl) (hf p.1 p.2)

theorem KeptO.bind {α : Type} {s : State} {o : Option α} {f : α → Option State} (hf : ∀ x, KeptO s (f x)) : KeptO s (o.bind f) := by
  cases o with
  | none => exact KeptO.none_
  | some p => exact hf p
theorem KeptO.map {α : Type} {s : State} {o : Option α} {f : α → State} (hf : ∀ x, Kept s (f x)) : KeptO s (o.map f) := by
  cases o with
  | none => exact KeptO.none_
  | some p => exact KeptO.some_ (hf p)

theorem KeptO.getD {s d : State} {o : Option State} (h : KeptO s o) (k : Kept s d) : Kept s (o.getD d) := by
  cases o with
  | none => exact k
  | some t => exact h.h t rfl

theorem Kept.ite {s a b : State} {c : Prop} [Decidable c] (h : Kept s a) (k : Kept s b) : Kept s (if c then a else b) := by
  split <;> assumption
theorem KeptP.ite {α : Type} {s : State} {a b : State × α} {c : Prop} [Decidable c] (h : KeptP s a) (k : KeptP s b) :
    KeptP s (if c then a else b) := by split <;> assumption
theorem KeptO.ite {s : State} {a b : Option State} {c : Prop} [Decidable c] (h : KeptO s a) (k : KeptO s b) :
    KeptO s (if c then a else b) := by split <;> assumption
theorem KeptOP.ite {α : Type} {s : State} {a b : Option (State × α)} {c : Prop} [Decidable c] (h : KeptOP s a) (k : KeptOP s b) :
    KeptOP s (if c then a else b) := by split <;> assumption
theorem KeptN.ite {s : State} {a b : Host.Outcome State Fault Refusal} {c : Prop} [Decidable c] (h : KeptN s a) (k : KeptN s b) :
    KeptN s (if c then a else b) := by split <;> assumption

theorem Kept.foldl {α : Type} {f : State → α → State} {s i : State} {l : List α} (hi : Kept s i) (hf : ∀ x a, Kept x (f x a)) :
    Kept s (l.foldl f i) := by
  induction l generalizing i with
  | nil => exact hi
  | cons a l ih => exact ih (hi.trans (hf i a))
theorem KeptP.foldl {α β : Type} {f : State × β → α → State × β} {s : State} {i : State × β} {l : List α} (hi : KeptP s i)
    (hf : ∀ (x : State) (b : β) a, KeptP x (f (x, b) a)) : KeptP s (l.foldl f i) := by
  induction l generalizing i with
  | nil => exact hi
  | cons a l ih => exact ih (KeptP.trans hi.h (hf i.1 i.2 a))
theorem Kept.foldl1 {α β : Type} {f : State × β → α → State × β} {s : State} {i : State × β} {l : List α} (hi : KeptP s i)
    (hf : ∀ (x : State) (b : β) a, KeptP x (f (x, b) a)) : Kept s (l.foldl f i).1 := (KeptP.foldl hi hf).h
theorem Kept.ite1 {α : Type} {s : State} {a b : State × α} {c : Prop} [Decidable c] (h : KeptP s a) (k : KeptP s b) :
    Kept s (if c then a else b).1 := (KeptP.ite h k).h
theorem KeptOP.foldl {α β : Type} {f : Option (State × β) → α → Option (State × β)} {s : State} {i : Option (State × β)}
    {l : List α} (hi : KeptOP s i) (hn : ∀ a, KeptOP s (f none a)) (hf : ∀ (x : State) (b : β) a, KeptOP x (f (some (x, b)) a)) :
    KeptOP s (l.foldl f i) := by
  induction l generalizing i with
  | nil => exact hi
  | cons a l ih =>
    refine ih ?_
    match i, hi with
    | none, _ => exact hn a
    | some (x, b), hi => exact KeptOP.trans (hi.h _ _ rfl) (hf x b a)
theorem KeptO.foldl {α : Type} {f : Option State → α → Option State} {s : State} {i : Option State}
    {l : List α} (hi : KeptO s i) (hn : ∀ a, KeptO s (f none a)) (hf : ∀ (x : State) a, KeptO x (f (some x) a)) :
    KeptO s (l.foldl f i) := by
  induction l generalizing i with
  | nil => exact hi
  | cons a l ih =>
    refine ih ?_
    match i, hi with
    | none, _ => exact hn a
    | some x, hi => exact KeptO.trans (hi.h _ rfl) (hf x a)

end Sys2Proof.Laws
end

