-- ==== Sys2Proof/Laws/KeptOps.lean ====
section
/-! SUPPORT. What the operations of Machine/Ops.lean keep. -/
namespace Sys2Proof.Laws
open Sys2Proof Sys2Proof.Machine

theorem State_setReg_kept {s : State} {k : RKey} {v : Sys2Proof.Word} : Kept s (@State.setReg s k v) := by
  unfold State.setReg
  try dsimp only
  dsimp only [Kept_mk]
  refine Keeps.of ?_ ?_
  exact Kept.refl
  first | exact Nat.le_refl _ | exact Nat.le_max_left _ _

theorem State_setFld_kept {s : State} {k : RKey} {hi : Nat} {lo : Nat} {v : Nat} : Kept s (@State.setFld s k hi lo v) := by
  unfold State.setFld
  try dsimp only
  refine Kept.trans ?_ State_setReg_kept
  exact Kept.refl

theorem State_count_kept {s : State} {r : Reg} {unit : Nat} {n : Nat} : Kept s (@State.count s r unit n) := by
  unfold State.count
  try dsimp only
  refine Kept.trans ?_ State_setReg_kept
  exact Kept.refl

theorem State_count64_kept {s : State} {lo : Reg} {hi : Reg} {unit : Nat} {n : Nat} : Kept s (@State.count64 s lo hi unit n) := by
  unfold State.count64
  try dsimp only
  refine Kept.trans ?_ State_setReg_kept
  refine Kept.trans ?_ State_setReg_kept
  exact Kept.refl

theorem State_setPart_kept {s : State} {p : Nat} {q : Part} : Kept s (@State.setPart s p q) := by
  unfold State.setPart
  try dsimp only
  dsimp only [Kept_mk]
  refine Keeps.of ?_ ?_
  exact Kept.refl
  first | exact Nat.le_refl _ | exact Nat.le_max_left _ _

theorem State_emit_kept {s : State} {spine : Fin 4} {e : Event} : Kept s (s.emit spine e) := by
  unfold State.emit
  split
  · next h =>
    refine ⟨rfl, id, Nat.le_refl _, fun hs d => ?_, id⟩
    show ((s.evq.set spine (s.evq.get spine ++ [e]) spine.isLt).get d).length ≤ 1024
    have hv : ∀ (v : Vector (List Event) 4) (i : Fin 4), v.get i = v[i.val] := fun _ _ => rfl
    rw [hv, Vector.getElem_set]
    split
    · next hi =>
      rw [List.length_append, List.length_singleton]
      exact h
    · exact hs d
  · exact (⟨rfl, id, Nat.le_refl _, id, id⟩ : Keeps _ _ _ _ _ _)

theorem State_event_kept {s : State} {d : Nat} {dom : Nat} {code : Nat} {part : Nat} {src : Sys2Proof.Word} {a0 : Nat} {a1 : Nat} : Kept s (@State.event s d dom code part src a0 a1) := by
  unfold State.event
  try dsimp only
  refine Kept.trans ?_ State_emit_kept
  exact Kept.refl

theorem State_pldmEvent_kept {s : State} {code arg : Nat} : Kept s (s.pldmEvent code arg) := by
  unfold State.pldmEvent
  split
  · exact ⟨rfl, id, Nat.le_refl _, id, id⟩
  · refine ⟨rfl, id, Nat.le_refl _, id, fun h => ?_⟩
    show (if _ then _ else _ : List (Nat × Nat)).length ≤ 64
    split
    · next h1 => simp only [List.length_append, List.length_drop, List.length_cons, List.length_nil] at h1 ⊢; omega
    · next h1 => omega

theorem State_setVf_kept {s : State} {v : Nat} {f : Vf} : Kept s (@State.setVf s v f) := by
  unfold State.setVf
  try dsimp only
  dsimp only [Kept_mk]
  refine Keeps.of ?_ ?_
  exact Kept.refl
  first | exact Nat.le_refl _ | exact Nat.le_max_left _ _

theorem State_msix_kept {s : State} {v : Nat} {vec : Nat} : Kept s (@State.msix s v vec) := by
  unfold State.msix
  try dsimp only
  refine Kept.ite ?_ ?_
  refine Kept.trans ?_ State_setVf_kept
  exact Kept.refl
  dsimp only [Kept_mk]
  refine Keeps.of ?_ ?_
  exact Kept.refl
  first | exact Nat.le_refl _ | exact Nat.le_max_left _ _

theorem State_vfCause_kept {s : State} {v : Nat} {c : Nat} : Kept s (@State.vfCause s v c) := by
  unfold State.vfCause
  try dsimp only
  refine Kept.ite ?_ ?_
  exact Kept.refl
  refine Kept.ite ?_ ?_
  refine Kept.trans ?_ State_setFld_kept
  exact Kept.refl
  refine Kept.trans ?_ State_msix_kept
  refine Kept.trans ?_ State_setFld_kept
  exact Kept.refl

theorem State_pfCause_kept {s : State} {c : Nat} : Kept s (@State.pfCause s c) := by
  unfold State.pfCause
  try dsimp only
  refine Kept.ite ?_ ?_
  exact Kept.refl
  refine Kept.ite ?_ ?_
  refine Kept.trans ?_ State_setFld_kept
  exact Kept.refl
  refine Kept.trans ?_ State_msix_kept
  refine Kept.trans ?_ State_setFld_kept
  exact Kept.refl

theorem State_cause_kept {s : State} {p : Nat} {c : Nat} : Kept s (@State.cause s p c) := by
  unfold State.cause
  try dsimp only
  split
  exact Kept.refl
  refine Kept.trans ?_ State_pfCause_kept
  refine Kept.foldl ?_ ?_
  exact Kept.refl
  intro _
  intro _
  refine Kept.trans ?_ State_vfCause_kept
  exact Kept.refl

theorem State_setCore_kept {s : State} {c : Nat} {k : Core} : Kept s (@State.setCore s c k) := by
  unfold State.setCore
  try dsimp only
  dsimp only [Kept_mk]
  refine Keeps.of ?_ ?_
  exact Kept.refl
  first | exact Nat.le_refl _ | exact Nat.le_max_left _ _

theorem State_setCtx_kept {s : State} {c : Nat} {x : Nat} {v : Ctx} : Kept s (@State.setCtx s c x v) := by
  unfold State.setCtx
  try dsimp only
  refine Kept.trans ?_ State_setCore_kept
  exact Kept.refl

theorem State_unwait_kept {s : State} {c : Nat} {x : Nat} : Kept s (@State.unwait s c x) := by
  unfold State.unwait
  try dsimp only
  dsimp only [Kept_mk]
  refine Keeps.of ?_ ?_
  exact Kept.refl
  first | exact Nat.le_refl _ | exact Nat.le_max_left _ _

theorem State_noteWork_kept {s : State} : Kept s (@State.noteWork s) := by
  unfold State.noteWork
  try dsimp only
  dsimp only [Kept_mk]
  refine Keeps.of ?_ ?_
  exact Kept.refl
  exact Nat.le_refl _

theorem State_depart_kept {s : State} {c : Nat} {x : Nat} : Kept s (@State.depart s c x) := by
  unfold State.depart
  try dsimp only
  refine Kept.ite ?_ ?_
  refine Kept.trans ?_ State_setCore_kept
  exact Kept.refl
  exact Kept.refl

theorem State_faultCtx_kept {s : State} {c : Nat} {x : Nat} {cause : BitVec 8} : Kept s (@State.faultCtx s c x cause) := by
  unfold State.faultCtx
  try dsimp only
  refine Kept.ite ?_ ?_
  exact Kept.refl
  refine Kept.trans ?_ State_cause_kept
  refine Kept.trans ?_ State_event_kept
  refine Kept.trans ?_ State_unwait_kept
  refine Kept.trans ?_ State_setCore_kept
  refine Kept.trans ?_ State_depart_kept
  exact Kept.refl

theorem State_latchBy_kept {s : State} {ov : Bool} {status : RKey} {rank : Nat} {st : Word} {others : List (RKey × Word)} : Kept s (@State.latchBy s ov status rank st others) := by
  unfold State.latchBy
  try dsimp only
  refine Kept.ite ?_ ?_
  refine Kept.trans ?_ State_setFld_kept
  refine Kept.ite ?_ ?_
  dsimp only [Kept_mk]
  refine Keeps.of ?_ ?_
  refine Kept.trans ?_ State_setReg_kept
  refine Kept.foldl ?_ ?_
  exact Kept.refl
  intro _
  intro _
  refine Kept.trans ?_ State_setReg_kept
  exact Kept.refl
  exact Nat.le_refl _
  exact Kept.refl
  refine Kept.ite ?_ ?_
  dsimp only [Kept_mk]
  refine Keeps.of ?_ ?_
  refine Kept.trans ?_ State_setReg_kept
  refine Kept.foldl ?_ ?_
  exact Kept.refl
  intro _
  intro _
  refine Kept.trans ?_ State_setReg_kept
  exact Kept.refl
  exact Nat.le_refl _
  exact Kept.refl

theorem State_latch_kept {s : State} {status : RKey} {st : Word} {others : List (RKey × Word)} : Kept s (@State.latch s status st others) := by
  unfold State.latch
  try dsimp only
  refine Kept.trans ?_ State_latchBy_kept
  exact Kept.refl

theorem State_illegal_kept {s : State} {c : Nat} {x : Nat} {pc : Nat} {reason : Nat} : Kept s (@State.illegal s c x pc reason) := by
  unfold State.illegal
  try dsimp only
  refine Kept.trans ?_ State_faultCtx_kept
  refine Kept.trans ?_ State_event_kept
  refine Kept.trans ?_ State_latchBy_kept
  exact Kept.refl

theorem State_idle_kept {s : State} {c : Nat} {cause : Nat} {n : Nat} : Kept s (@State.idle s c cause n) := by
  unfold State.idle
  try dsimp only
  refine Kept.trans ?_ State_count64_kept
  exact Kept.refl

theorem State_setPeg_kept {s : State} {h : PegHome} {v : Sys2Proof.Word} : Kept s (@State.setPeg s h v) := by
  unfold State.setPeg
  try dsimp only
  split
  refine Kept.trans ?_ State_setCtx_kept
  exact Kept.refl
  refine Kept.trans ?_ State_setReg_kept
  exact Kept.refl
  refine Kept.trans ?_ State_setReg_kept
  exact Kept.refl
  exact Kept.refl

theorem State_pegError_kept {s : State} {h : PegHome} {kind : Nat} {amount : Word} : Kept s (@State.pegError s h kind amount) := by
  unfold State.pegError
  try dsimp only
  refine Kept.trans ?_ State_cause_kept
  refine Kept.trans ?_ State_event_kept
  refine Kept.trans ?_ State_count_kept
  refine Kept.trans ?_ State_latchBy_kept
  exact Kept.refl

theorem State_wake_kept {s : State} {c : Nat} {x : Nat} : Kept s (@State.wake s c x) := by
  unfold State.wake
  try dsimp only
  refine Kept.ite ?_ ?_
  refine Kept.trans ?_ State_setCtx_kept
  exact Kept.refl
  exact Kept.refl

theorem State_grant_kept {s : State} {q : Nat × Nat} : Kept s (@State.grant s q) := by
  unfold State.grant
  try dsimp only
  split
  dsimp only [Kept_mk]
  refine Keeps.of ?_ ?_
  exact Kept.refl
  first | exact Nat.le_refl _ | exact Nat.le_max_left _ _
  exact Kept.refl

theorem State_walk_kept {h : PegHome} {l : List Waiter} {s : State} : KeptP s (State.walk h l s) := by
  induction l generalizing s with
  | nil => exact ⟨Kept.refl⟩
  | cons w r ih =>
    unfold State.walk
    split
    · refine KeptP.trans ?_ ih
      have h1 : Kept s (if w.sub then s.setPeg h (s.peg h - w.thr) else s) := Kept.ite State_setPeg_kept Kept.refl
      split
      · exact h1.trans State_grant_kept
      · exact h1.trans State_wake_kept
    · exact ⟨ih.h⟩

theorem State_walkPeg_kept {s : State} {h : PegHome} : Kept s (@State.walkPeg s h) := by
  unfold State.walkPeg
  try dsimp only
  dsimp only [Kept_mk]
  refine Keeps.of ?_ ?_
  refine Kept.trans ?_ (State_walk_kept).h
  exact Kept.refl
  first | exact Nat.le_refl _ | exact Nat.le_max_left _ _

theorem State_addPeg_kept {s : State} {h : PegHome} {v : Sys2Proof.Word} : Kept s (@State.addPeg s h v) := by
  unfold State.addPeg
  try dsimp only
  refine Kept.ite ?_ ?_
  refine Kept.trans ?_ State_setPeg_kept
  exact Kept.refl
  refine Kept.trans ?_ State_pegError_kept
  refine Kept.trans ?_ State_setPeg_kept
  exact Kept.refl

theorem State_sendSignal_kept {s : State} {g : Signal} : Kept s (@State.sendSignal s g) := by
  unfold State.sendSignal
  try dsimp only
  dsimp only [Kept_mk]
  refine Keeps.of ?_ ?_
  exact Kept.refl
  first | exact Nat.le_refl _ | exact Nat.le_max_left _ _

theorem State_signalDone_kept {s : State} {c : Nat} {x : Nat} {lc : Option Nat} {e : BitVec 8} {h_a : Option PegHome} : Kept s (@State.signalDone s c x lc e h_a) := by
  unfold State.signalDone
  try dsimp only
  split
  exact Kept.refl
  refine Kept.trans ?_ State_sendSignal_kept
  exact Kept.refl

theorem State_engineSignal_kept {s : State} {d : Nat} {p : Nat} {h : PegHome} {amount : Word} : Kept s (@State.engineSignal s d p h amount) := by
  unfold State.engineSignal
  try dsimp only
  refine Kept.ite ?_ ?_
  refine Kept.trans ?_ State_sendSignal_kept
  exact Kept.refl
  refine Kept.trans ?_ State_pegError_kept
  exact Kept.refl

theorem mdel_mem {α : Type} {m : List (Nat × α)} {k : Nat} {e : Nat × α} (h : e ∈ mdel m k) : e ∈ m := by
  induction m with
  | nil => cases h
  | cons x r ih =>
    obtain ⟨k', v⟩ := x
    unfold mdel at h
    split at h
    · exact List.mem_cons_of_mem _ h
    · rcases List.mem_cons.1 h with h | h
      · exact h ▸ List.mem_cons_self
      · exact List.mem_cons_of_mem _ (ih h)

theorem mput_mem {α : Type} {m : List (Nat × α)} {k : Nat} {v : α} {e : Nat × α} (h : e ∈ mput m k v) : e = (k, v) ∨ e ∈ m := by
  induction m with
  | nil => exact .inl (List.mem_singleton.1 h)
  | cons x r ih =>
    obtain ⟨k', v'⟩ := x
    unfold mput at h
    split at h
    · exact List.mem_cons.1 h
    · split at h
      · rcases List.mem_cons.1 h with h | h
        · exact .inl h
        · exact .inr (List.mem_cons_of_mem _ h)
      · rcases List.mem_cons.1 h with h | h
        · exact .inr (h ▸ List.mem_cons_self)
        · rcases ih h with h | h
          · exact .inl h
          · exact .inr (List.mem_cons_of_mem _ h)

theorem mdel_rising {α : Type} {m : List (Nat × α)} {k : Nat} (h : (m.map Prod.fst).Pairwise (· < ·)) :
    ((mdel m k).map Prod.fst).Pairwise (· < ·) := by
  induction m with
  | nil => exact h
  | cons x r ih =>
    obtain ⟨k', v⟩ := x
    have h' := List.pairwise_cons.1 h
    unfold mdel
    split
    · exact h'.2
    · refine List.pairwise_cons.2 ⟨fun a ha => ?_, ih h'.2⟩
      obtain ⟨e, he, rfl⟩ := List.mem_map.1 ha
      exact h'.1 _ (List.mem_map_of_mem (mdel_mem he))

theorem mput_rising {α : Type} {m : List (Nat × α)} {k : Nat} {v : α} (h : (m.map Prod.fst).Pairwise (· < ·)) :
    ((mput m k v).map Prod.fst).Pairwise (· < ·) := by
  induction m with
  | nil => exact List.pairwise_singleton _ _
  | cons x r ih =>
    obtain ⟨k', v'⟩ := x
    have h' := List.pairwise_cons.1 h
    unfold mput
    split
    · next hk =>
      refine List.pairwise_cons.2 ⟨fun a ha => ?_, h⟩
      rcases List.mem_cons.1 ha with rfl | ha
      · exact hk
      · exact Nat.lt_trans hk (h'.1 a ha)
    · split
      · next hk => subst hk; exact h
      · next hk hn =>
        refine List.pairwise_cons.2 ⟨fun a ha => ?_, ih h'.2⟩
        obtain ⟨e, he, rfl⟩ := List.mem_map.1 ha
        rcases mput_mem he with rfl | he
        · exact Nat.lt_of_le_of_ne (Nat.not_lt.1 hk) (Ne.symm hn)
        · exact h'.1 _ (List.mem_map_of_mem he)

/-- A write keeps memory canonical; so do deleting and filtering. -/
theorem Memory_write_wf {m : List (Nat × Byte)} {a : Nat} {b : Byte} (h : Memory.wf m) : Memory.wf (Memory.write m a b) := by
  unfold Memory.write
  split
  · exact ⟨mdel_rising h.1, fun e he => h.2 e (mdel_mem he)⟩
  · next hb =>
    refine ⟨mput_rising h.1, fun e he => ?_⟩
    rcases mput_mem he with rfl | he
    · exact hb
    · exact h.2 e he

theorem mdel_wf {m : List (Nat × Byte)} {a : Nat} (h : Memory.wf m) : Memory.wf (mdel m a) :=
  ⟨mdel_rising h.1, fun e he => h.2 e (mdel_mem he)⟩

theorem filter_wf {m : List (Nat × Byte)} {p : Nat × Byte → Bool} (h : Memory.wf m) : Memory.wf (m.filter p) :=
  ⟨List.Pairwise.sublist (List.Sublist.map _ List.filter_sublist) h.1, fun e he => h.2 e (List.mem_filter.1 he).1⟩

theorem State_pokeByte_kept {s : State} {a : Nat} {b : Byte} : Kept s (s.pokeByte a b) :=
  ⟨rfl, Memory_write_wf, Nat.le_refl _, id, id⟩

theorem State_pokeBytes_kept {s : State} {a : Nat} {l : List Byte} : Kept s (s.pokeBytes a l) := by
  induction l generalizing s a with
  | nil => exact Kept.refl
  | cons b l ih => exact State_pokeByte_kept.trans ih

theorem State_markGranule_kept {s : State} {g : Nat} {m : Bool} : Kept s (@State.markGranule s g m) := by
  unfold State.markGranule
  try dsimp only
  dsimp only [Kept_mk]
  refine Keeps.of ?_ ?_
  exact Kept.refl
  first | exact Nat.le_refl _ | exact Nat.le_max_left _ _

theorem State_markSlot_kept {s : State} {c : Nat} {slot16 : Nat} {m : Bool} : Kept s (@State.markSlot s c slot16 m) := by
  unfold State.markSlot
  try dsimp only
  refine Kept.trans ?_ State_setCore_kept
  exact Kept.refl

theorem markAfter_kept {a : Nat} {l : List PByte} {f : Nat → Bool} {lo hi : Nat} {mark : Bool → State → State} {s : State}
    (h : ∀ b s, Kept s (mark b s)) : Kept s (markAfter a l f lo hi mark s) := by
  unfold markAfter
  split
  · exact h _ _
  · split
    · exact h _ _
    · exact Kept.refl

theorem State_markGranules_kept {s : State} {a : Nat} {l : List PByte} {f : Nat → Bool} : Kept s (@State.markGranules s a l f) := by
  unfold State.markGranules
  try dsimp only
  refine Kept.foldl ?_ ?_
  exact Kept.refl
  intro _
  intro _
  refine Kept.trans ?_ (markAfter_kept ?_)
  exact Kept.refl
  intro _
  intro _
  refine Kept.trans ?_ State_markGranule_kept
  exact Kept.refl

theorem State_markSlots_kept {s : State} {c : Nat} {b : Nat} {a : Nat} {l : List PByte} {g : Ring} : Kept s (@State.markSlots s c b a l g) := by
  unfold State.markSlots
  try dsimp only
  refine Kept.foldl ?_ ?_
  exact Kept.refl
  intro _
  intro _
  refine Kept.ite ?_ ?_
  refine Kept.trans ?_ (markAfter_kept ?_)
  exact Kept.refl
  intro _
  intro _
  refine Kept.trans ?_ State_markSlot_kept
  exact Kept.refl
  exact Kept.refl

theorem State_markWrite_kept {s : State} {a : Nat} {l : List PByte} : Kept s (@State.markWrite s a l) := by
  unfold State.markWrite
  try dsimp only
  refine Kept.ite ?_ ?_
  exact Kept.refl
  split
  refine Kept.foldl ?_ ?_
  refine Kept.trans ?_ State_markGranules_kept
  exact Kept.refl
  intro _
  intro _
  refine Kept.trans ?_ State_markSlots_kept
  exact Kept.refl
  refine Kept.trans ?_ State_markGranules_kept
  exact Kept.refl

theorem State_pokeP_kept {s : State} {a : Nat} {l : List PByte} : Kept s (@State.pokeP s a l) := by
  unfold State.pokeP
  try dsimp only
  refine Kept.trans ?_ State_markWrite_kept
  refine Kept.trans ?_ State_pokeBytes_kept
  exact Kept.refl

theorem State_deckDrop_kept {s : State} {d : Nat} {line : Nat} : Kept s (@State.deckDrop s d line) := by
  unfold State.deckDrop
  try dsimp only
  dsimp only [Kept_mk]
  refine Keeps.of ?_ ?_
  exact Kept.refl
  first | exact Nat.le_refl _ | exact Nat.le_max_left _ _

theorem State_deckSetLine_kept {s : State} {n : DeckLine} : Kept s (@State.deckSetLine s n) := by
  unfold State.deckSetLine
  try dsimp only
  dsimp only [Kept_mk]
  refine Keeps.of ?_ ?_
  exact Kept.refl
  first | exact Nat.le_refl _ | exact Nat.le_max_left _ _

theorem State_deckTouch_kept {s : State} {d : Nat} {line : Nat} : Kept s (@State.deckTouch s d line) := by
  unfold State.deckTouch
  try dsimp only
  split
  dsimp only [Kept_mk]
  refine Keeps.of ?_ ?_
  exact Kept.refl
  first | exact Nat.le_refl _ | exact Nat.le_max_left _ _
  exact Kept.refl

theorem State_deckEvict_kept {s : State} {l : DeckLine} : Kept s (@State.deckEvict s l) := by
  unfold State.deckEvict
  try dsimp only
  refine Kept.ite ?_ ?_
  refine Kept.trans ?_ State_count_kept
  refine Kept.trans ?_ State_deckDrop_kept
  exact Kept.refl
  refine Kept.trans ?_ State_deckDrop_kept
  exact Kept.refl

theorem State_deckCap_kept {s : State} {d : Nat} {p : Nat} {set : Nat} : Kept s (@State.deckCap s d p set) := by
  unfold State.deckCap
  try dsimp only
  refine Kept.ite ?_ ?_
  split
  refine Kept.trans ?_ State_deckSetLine_kept
  exact Kept.refl
  exact Kept.refl
  exact Kept.refl

theorem State_deckAlloc_kept {s : State} {d : Nat} {p : Nat} {line : Nat} {keep : Bool} : KeptO s (@State.deckAlloc s d p line keep) := by
  unfold State.deckAlloc
  try dsimp only
  split
  refine KeptO.some_ ?_
  refine Kept.ite ?_ ?_
  refine Kept.trans ?_ State_deckCap_kept
  dsimp only [Kept_mk]
  refine Keeps.of ?_ ?_
  exact Kept.refl
  first | exact Nat.le_refl _ | exact Nat.le_max_left _ _
  dsimp only [Kept_mk]
  refine Keeps.of ?_ ?_
  exact Kept.refl
  first | exact Nat.le_refl _ | exact Nat.le_max_left _ _
  refine KeptO.ite ?_ ?_
  exact KeptO.none_
  split
  refine KeptO.some_ ?_
  refine Kept.ite ?_ ?_
  refine Kept.trans ?_ State_deckCap_kept
  dsimp only [Kept_mk]
  refine Keeps.of ?_ ?_
  refine Kept.trans ?_ State_deckEvict_kept
  exact Kept.refl
  first | exact Nat.le_refl _ | exact Nat.le_max_left _ _
  dsimp only [Kept_mk]
  refine Keeps.of ?_ ?_
  refine Kept.trans ?_ State_deckEvict_kept
  exact Kept.refl
  first | exact Nat.le_refl _ | exact Nat.le_max_left _ _
  refine KeptO.ite ?_ ?_
  split
  refine KeptO.some_ ?_
  refine Kept.ite ?_ ?_
  refine Kept.trans ?_ State_deckCap_kept
  dsimp only [Kept_mk]
  refine Keeps.of ?_ ?_
  refine Kept.trans ?_ State_count_kept
  refine Kept.trans ?_ State_deckEvict_kept
  exact Kept.refl
  first | exact Nat.le_refl _ | exact Nat.le_max_left _ _
  dsimp only [Kept_mk]
  refine Keeps.of ?_ ?_
  refine Kept.trans ?_ State_count_kept
  refine Kept.trans ?_ State_deckEvict_kept
  exact Kept.refl
  first | exact Nat.le_refl _ | exact Nat.le_max_left _ _
  exact KeptO.none_
  exact KeptO.none_

theorem State_deckDirty_kept {s : State} {d : Nat} {line : Nat} : Kept s (@State.deckDirty s d line) := by
  unfold State.deckDirty
  try dsimp only
  split
  refine Kept.ite ?_ ?_
  exact Kept.refl
  refine Kept.trans ?_ State_deckSetLine_kept
  exact Kept.refl
  exact Kept.refl

theorem State_deckRestore_kept {s : State} {l : DeckLine} : Kept s (s.deckRestore l) := by
  unfold State.deckRestore
  refine Kept.foldl (Kept.foldl Kept.refl fun x e => ?_) fun x e => State_markGranule_kept
  split
  · exact ⟨rfl, Memory_write_wf, Nat.le_refl _, id, id⟩
  · exact ⟨rfl, mdel_wf, Nat.le_refl _, id, id⟩

theorem State_deckRead_kept {s : State} {d : Nat} {p : Nat} {line : Nat} {hint : Nat} : Kept s (@State.deckRead s d p line hint) := by
  unfold State.deckRead
  try dsimp only
  split
  split
  refine Kept.trans ?_ State_deckTouch_kept
  refine Kept.trans ?_ State_count_kept
  exact Kept.refl
  refine Kept.trans ?_ State_count_kept
  exact Kept.refl
  refine Kept.trans ?_ State_deckCap_kept
  refine Kept.trans ?_ State_deckTouch_kept
  refine Kept.trans ?_ State_deckSetLine_kept
  refine Kept.trans ?_ State_count_kept
  exact Kept.refl
  refine Kept.ite ?_ ?_
  refine Kept.trans ?_ State_count_kept
  refine Kept.trans ?_ State_deckRestore_kept
  refine Kept.trans ?_ State_deckDrop_kept
  refine Kept.trans ?_ State_count_kept
  exact Kept.refl
  refine Kept.trans ?_ State_deckDrop_kept
  refine Kept.trans ?_ State_count_kept
  exact Kept.refl
  split
  refine KeptO.getD ?_ ?_
  refine KeptO.trans ?_ State_deckAlloc_kept
  refine Kept.trans ?_ State_count_kept
  exact Kept.refl
  refine Kept.trans ?_ State_count_kept
  exact Kept.refl
  refine KeptO.getD ?_ ?_
  refine KeptO.trans ?_ State_deckAlloc_kept
  refine Kept.trans ?_ State_count_kept
  exact Kept.refl
  refine Kept.trans ?_ State_count_kept
  exact Kept.refl
  refine Kept.trans ?_ State_count_kept
  exact Kept.refl

theorem State_deckWrite_kept {s : State} {d : Nat} {p : Nat} {line : Nat} {hint : Nat} : Kept s (@State.deckWrite s d p line hint) := by
  unfold State.deckWrite
  try dsimp only
  split
  split
  refine Kept.trans ?_ State_deckDirty_kept
  refine Kept.trans ?_ State_count_kept
  exact Kept.refl
  refine Kept.trans ?_ State_deckDirty_kept
  refine Kept.trans ?_ State_deckCap_kept
  refine Kept.trans ?_ State_deckTouch_kept
  refine Kept.trans ?_ State_deckSetLine_kept
  refine Kept.trans ?_ State_count_kept
  exact Kept.refl
  refine Kept.trans ?_ State_deckDirty_kept
  refine Kept.trans ?_ State_deckTouch_kept
  refine Kept.trans ?_ State_count_kept
  exact Kept.refl
  split
  refine Kept.trans ?_ State_count_kept
  exact Kept.refl
  refine Kept.trans ?_ State_deckDirty_kept
  refine KeptO.getD ?_ ?_
  refine KeptO.trans ?_ State_deckAlloc_kept
  refine Kept.trans ?_ State_count_kept
  exact Kept.refl
  refine Kept.trans ?_ State_count_kept
  exact Kept.refl
  refine Kept.trans ?_ State_deckDirty_kept
  refine KeptO.getD ?_ ?_
  refine KeptO.trans ?_ State_deckAlloc_kept
  refine Kept.trans ?_ State_count_kept
  exact Kept.refl
  refine Kept.trans ?_ State_count_kept
  exact Kept.refl

theorem State_loadP_kept {s : State} {p : Nat} {a : Nat} {n : Nat} {hint : Nat} : KeptP s (@State.loadP s p a n hint) := by
  unfold State.loadP
  try dsimp only
  refine KeptP.ite ?_ ?_
  refine KeptP.mk_ ?_
  refine Kept.foldl ?_ ?_
  exact Kept.refl
  intro _
  intro _
  refine Kept.trans ?_ State_deckRead_kept
  exact Kept.refl
  refine KeptP.mk_ ?_
  exact Kept.refl

theorem State_storeP_kept {s : State} {p : Nat} {a : Nat} {hint : Nat} {l : List PByte} : Kept s (@State.storeP s p a hint l) := by
  unfold State.storeP
  try dsimp only
  refine Kept.trans ?_ State_pokeP_kept
  refine Kept.ite ?_ ?_
  refine Kept.foldl ?_ ?_
  exact Kept.refl
  intro _
  intro _
  refine Kept.trans ?_ State_deckWrite_kept
  exact Kept.refl
  exact Kept.refl

theorem State_vload_kept {s : State} {p : Nat} {va : Nat} {n : Nat} {hint : Nat} : KeptOP s (@State.vload s p va n hint) := by
  unfold State.vload
  try dsimp only
  refine KeptOP.foldl ?_ ?_ ?_
  refine KeptOP.some_ ?_
  exact Kept.refl
  intro _; dsimp only
  exact KeptOP.none_
  intro _; dsimp only
  intro _
  intro _
  split
  refine KeptOP.some_ ?_
  refine Kept.trans ?_ (State_loadP_kept).h
  exact Kept.refl
  exact KeptOP.none_

theorem State_vstore_kept {s : State} {p : Nat} {va : Nat} {hint : Nat} {l : List PByte} : KeptP s (@State.vstore s p va hint l) := by
  unfold State.vstore
  try dsimp only
  refine KeptP.foldl ?_ ?_ <;> try dsimp only
  refine KeptP.mk_ ?_
  exact Kept.refl
  intro _
  intro _
  intro _
  refine KeptP.ite ?_ ?_
  split
  refine KeptP.mk_ ?_
  refine Kept.trans ?_ State_storeP_kept
  exact Kept.refl
  refine KeptP.mk_ ?_
  exact Kept.refl
  refine KeptP.mk_ ?_
  exact Kept.refl

theorem State_latMax_kept {s : State} {ch : Nat} {lat : Nat} : Kept s (@State.latMax s ch lat) := by
  unfold State.latMax
  try dsimp only
  refine Kept.trans ?_ State_setFld_kept
  exact Kept.refl

theorem State_latRange_kept {s : State} {p : Nat} {va : Nat} {n : Nat} : Kept s (@State.latRange s p va n) := by
  unfold State.latRange
  try dsimp only
  refine Kept.foldl ?_ ?_
  exact Kept.refl
  intro _
  intro _
  split
  split
  dsimp only [Kept_mk]
  refine Keeps.of ?_ ?_
  refine Kept.trans ?_ State_latMax_kept
  exact Kept.refl
  exact Nat.le_refl _
  exact Kept.refl
  exact Kept.refl

theorem State_setPool_kept {s : State} {d : Nat} {q : Nat} {v : Pool} : Kept s (@State.setPool s d q v) := by
  unfold State.setPool
  try dsimp only
  dsimp only [Kept_mk]
  refine Keeps.of ?_ ?_
  exact Kept.refl
  first | exact Nat.le_refl _ | exact Nat.le_max_left _ _

theorem State_poolTake_kept {s : State} {d : Nat} {q : Nat} {i : Nat} {tag : Sys2Proof.Word} : Kept s (@State.poolTake s d q i tag) := by
  unfold State.poolTake
  try dsimp only
  refine Kept.trans ?_ State_setPool_kept
  exact Kept.refl

theorem State_poolDrop_kept {s : State} {d : Nat} {q : Nat} {i : Nat} : Kept s (@State.poolDrop s d q i) := by
  unfold State.poolDrop
  try dsimp only
  refine Kept.trans ?_ State_setPool_kept
  exact Kept.refl

theorem State_stopBent_kept {s : State} {b : Nat} {why : Nat} : Kept s (@State.stopBent s b why) := by
  unfold State.stopBent
  try dsimp only
  refine Kept.ite ?_ ?_
  exact Kept.refl
  split
  refine Kept.ite ?_ ?_
  dsimp only [Kept_mk]
  refine Keeps.of ?_ ?_
  refine Kept.trans ?_ State_setFld_kept
  exact Kept.refl
  exact Nat.le_refl _
  refine Kept.trans ?_ State_setPart_kept
  dsimp only [Kept_mk]
  refine Keeps.of ?_ ?_
  refine Kept.trans ?_ State_setFld_kept
  exact Kept.refl
  exact Nat.le_refl _
  dsimp only [Kept_mk]
  refine Keeps.of ?_ ?_
  refine Kept.trans ?_ State_setFld_kept
  exact Kept.refl
  exact Nat.le_refl _

theorem State_parkPart_kept {s : State} {p : Nat} : Kept s (@State.parkPart s p) := by
  unfold State.parkPart
  try dsimp only
  refine Kept.trans ?_ State_setFld_kept
  refine Kept.trans ?_ State_setPart_kept
  refine Kept.foldl ?_ ?_
  exact Kept.refl
  intro _
  intro _
  refine Kept.trans ?_ State_stopBent_kept
  exact Kept.refl

theorem State_addRecord_kept {s : State} {ty : Nat} {src : Nat} {unit : Nat} {masks : List Sys2Proof.Byte} : Kept s (@State.addRecord s ty src unit masks) := by
  unfold State.addRecord
  try dsimp only
  dsimp only [Kept_mk]
  refine Keeps.of ?_ ?_
  exact Kept.refl
  first | exact Nat.le_refl _ | exact Nat.le_max_left _ _

theorem State_startRecord_kept {s : State} {ty : Nat} {unit : Nat} {masks : List Sys2Proof.Byte} : Kept s (@State.startRecord s ty unit masks) := by
  unfold State.startRecord
  try dsimp only
  split
  refine Kept.ite ?_ ?_
  exact Kept.refl
  refine Kept.trans ?_ State_addRecord_kept
  exact Kept.refl
  refine Kept.trans ?_ State_addRecord_kept
  exact Kept.refl

end Sys2Proof.Laws
end

