-- ==== Sys2Proof/Laws/KeptOperands.lean ====
section
/-! SUPPORT. What the operations of Machine/Operands.lean keep. -/
namespace Sys2Proof.Laws
open Sys2Proof Sys2Proof.Machine

theorem State_waitCheck_kept {s : State} {c : Nat} {x : Nat} {id : Nat} {h : PegHome} {thr : Sys2Proof.Word} {sub : Bool} : KeptP s (@State.waitCheck s c x id h thr sub) := by
  unfold State.waitCheck
  try dsimp only
  refine KeptP.ite ?_ ?_
  refine KeptP.mk_ ?_
  refine Kept.ite ?_ ?_
  refine Kept.trans ?_ State_setPeg_kept
  exact Kept.refl
  exact Kept.refl
  refine KeptP.mk_ ?_
  refine Kept.ite ?_ ?_
  dsimp only [Kept_mk]
  refine Keeps.of ?_ ?_
  refine Kept.trans ?_ State_setCtx_kept
  refine Kept.trans ?_ State_depart_kept
  exact Kept.refl
  first | exact Nat.le_refl _ | exact Nat.le_max_left _ _
  refine Kept.trans ?_ State_setCtx_kept
  refine Kept.trans ?_ State_depart_kept
  exact Kept.refl

theorem State_putXfer_kept {s : State} {x : Xfer} : Kept s (@State.putXfer s x) := by
  unfold State.putXfer
  try dsimp only
  dsimp only [Kept_mk]
  refine Keeps.of ?_ ?_
  exact Kept.refl
  first | exact Nat.le_refl _ | exact Nat.le_max_left _ _

theorem State_dropXfer_kept {s : State} {i : Nat} : Kept s (@State.dropXfer s i) := by
  unfold State.dropXfer
  try dsimp only
  dsimp only [Kept_mk]
  refine Keeps.of ?_ ?_
  exact Kept.refl
  first | exact Nat.le_refl _ | exact Nat.le_max_left _ _

theorem State_allocResult_kept {s : State} {x : Xfer} {va : Nat} : Kept s (@State.allocResult s x va) := by
  unfold State.allocResult
  try dsimp only
  refine Kept.trans ?_ State_putXfer_kept
  refine Kept.trans ?_ State_setCtx_kept
  exact Kept.refl

theorem State_poolServe_kept {s : State} {d : Nat} {q : Nat} : Kept s (@State.poolServe s d q) := by
  unfold State.poolServe
  try dsimp only
  split
  split
  refine Kept.trans ?_ State_setPool_kept
  exact Kept.refl
  refine Kept.trans ?_ State_allocResult_kept
  refine Kept.trans ?_ State_poolTake_kept
  refine Kept.trans ?_ State_setPool_kept
  exact Kept.refl
  exact Kept.refl

theorem State_poolDrain_kept {s : State} {d : Nat} {q : Nat} {a : Nat} : Kept s (@State.poolDrain s d q a) := by
  induction a generalizing s with
  | zero => exact Kept.refl
  | succ n ih =>
    unfold State.poolDrain
    exact State_poolServe_kept.trans ih

theorem State_poolRelease_kept {s : State} {d : Nat} {q : Nat} {i : Nat} : Kept s (@State.poolRelease s d q i) := by
  unfold State.poolRelease
  try dsimp only
  refine Kept.trans ?_ State_poolServe_kept
  refine Kept.trans ?_ State_poolDrop_kept
  exact Kept.refl

theorem State_poolReclaim_kept {s : State} {d : Nat} {q : Nat} {tag : Word} : Kept s (@State.poolReclaim s d q tag) := by
  unfold State.poolReclaim
  try dsimp only
  refine Kept.trans ?_ State_poolDrain_kept
  refine Kept.trans ?_ State_setPool_kept
  exact Kept.refl

end Sys2Proof.Laws
end

