-- ==== Sys2Proof/Laws/KeptScalar.lean ====
section
/-! SUPPORT. What the operations of Machine/Scalar.lean keep. -/
namespace Sys2Proof.Laws
open Sys2Proof Sys2Proof.Machine

theorem State_issue_kept {s : State} {c : Nat} {op : Nat} {f : State → Nat → Sys2Proof.Word → State} (hf : ∀ x a1 a2, Kept x (f x a1 a2)) : Kept s (@State.issue s c op f) := by
  unfold State.issue
  try dsimp only
  split
  exact Kept.refl
  refine Kept.trans ?_ State_illegal_kept
  exact Kept.refl
  refine Kept.trans ?_ State_faultCtx_kept
  exact Kept.refl
  refine Kept.ite ?_ ?_
  refine Kept.trans ?_ State_illegal_kept
  exact Kept.refl
  refine Kept.ite ?_ ?_
  exact Kept.refl
  refine Kept.trans ?_ (hf _ _ _)
  exact Kept.refl

theorem State_issueScalar_kept {s : State} {c : Nat} {op : Nat} {f : State → Nat → Sys2Proof.Word → State} (hf : ∀ x a1 a2, Kept x (f x a1 a2)) : Kept s (@State.issueScalar s c op f) := by
  unfold State.issueScalar
  try dsimp only
  refine Kept.trans ?_ (State_issue_kept ?_)
  exact Kept.refl
  intro _
  intro _
  intro _
  refine Kept.ite ?_ ?_
  refine Kept.trans ?_ (hf _ _ _)
  exact Kept.refl
  refine Kept.trans ?_ State_illegal_kept
  exact Kept.refl

theorem State_retire_kept {s : State} {c : Nat} {x : Nat} {v : Ctx} : Kept s (@State.retire s c x v) := by
  unfold State.retire
  try dsimp only
  refine Kept.trans ?_ State_setCtx_kept
  exact Kept.refl

theorem State_rr_kept {s : State} {c : Nat} {op : Nat} : Kept s (@State.rr s c op) := by
  unfold State.rr
  try dsimp only
  refine Kept.trans ?_ (State_issueScalar_kept ?_)
  exact Kept.refl
  intro _
  intro _
  intro _
  refine Kept.trans ?_ State_retire_kept
  exact Kept.refl

theorem State_ri_kept {s : State} {c : Nat} {op : Nat} {f : Sys2Proof.Word → Sys2Proof.Word → Sys2Proof.Word} : Kept s (@State.ri s c op f) := by
  unfold State.ri
  try dsimp only
  refine Kept.trans ?_ (State_issueScalar_kept ?_)
  exact Kept.refl
  intro _
  intro _
  intro _
  refine Kept.trans ?_ State_retire_kept
  exact Kept.refl

theorem State_jump_kept {s : State} {c : Nat} {x : Nat} {v : Ctx} {target : Sys2Proof.Word} : Kept s (@State.jump s c x v target) := by
  unfold State.jump
  try dsimp only
  refine Kept.ite ?_ ?_
  refine Kept.trans ?_ State_setCtx_kept
  exact Kept.refl
  refine Kept.trans ?_ State_illegal_kept
  exact Kept.refl

theorem State_branch_kept {s : State} {c : Nat} {op : Nat} {cond : Sys2Proof.Word → Sys2Proof.Word → Bool} : Kept s (@State.branch s c op cond) := by
  unfold State.branch
  try dsimp only
  refine Kept.trans ?_ (State_issueScalar_kept ?_)
  exact Kept.refl
  intro _
  intro _
  intro _
  refine Kept.ite ?_ ?_
  refine Kept.trans ?_ State_jump_kept
  exact Kept.refl
  refine Kept.trans ?_ State_retire_kept
  exact Kept.refl

theorem execOpAdd_kept {core : Sys2Proof.CoreAddr} {s : State} : KeptN s (@execOpAdd core s) := by
  unfold execOpAdd
  try dsimp only
  refine KeptN.mk_ ?_
  refine Kept.trans ?_ State_rr_kept
  exact Kept.refl

theorem execOpSub_kept {core : Sys2Proof.CoreAddr} {s : State} : KeptN s (@execOpSub core s) := by
  unfold execOpSub
  try dsimp only
  refine KeptN.mk_ ?_
  refine Kept.trans ?_ State_rr_kept
  exact Kept.refl

theorem execOpAnd_kept {core : Sys2Proof.CoreAddr} {s : State} : KeptN s (@execOpAnd core s) := by
  unfold execOpAnd
  try dsimp only
  refine KeptN.mk_ ?_
  refine Kept.trans ?_ State_rr_kept
  exact Kept.refl

theorem execOpOr_kept {core : Sys2Proof.CoreAddr} {s : State} : KeptN s (@execOpOr core s) := by
  unfold execOpOr
  try dsimp only
  refine KeptN.mk_ ?_
  refine Kept.trans ?_ State_rr_kept
  exact Kept.refl

theorem execOpXor_kept {core : Sys2Proof.CoreAddr} {s : State} : KeptN s (@execOpXor core s) := by
  unfold execOpXor
  try dsimp only
  refine KeptN.mk_ ?_
  refine Kept.trans ?_ State_rr_kept
  exact Kept.refl

theorem execOpSll_kept {core : Sys2Proof.CoreAddr} {s : State} : KeptN s (@execOpSll core s) := by
  unfold execOpSll
  try dsimp only
  refine KeptN.mk_ ?_
  refine Kept.trans ?_ State_rr_kept
  exact Kept.refl

theorem execOpSrl_kept {core : Sys2Proof.CoreAddr} {s : State} : KeptN s (@execOpSrl core s) := by
  unfold execOpSrl
  try dsimp only
  refine KeptN.mk_ ?_
  refine Kept.trans ?_ State_rr_kept
  exact Kept.refl

theorem execOpSra_kept {core : Sys2Proof.CoreAddr} {s : State} : KeptN s (@execOpSra core s) := by
  unfold execOpSra
  try dsimp only
  refine KeptN.mk_ ?_
  refine Kept.trans ?_ State_rr_kept
  exact Kept.refl

theorem execOpMul_kept {core : Sys2Proof.CoreAddr} {s : State} : KeptN s (@execOpMul core s) := by
  unfold execOpMul
  try dsimp only
  refine KeptN.mk_ ?_
  refine Kept.trans ?_ State_rr_kept
  exact Kept.refl

theorem execOpSlt_kept {core : Sys2Proof.CoreAddr} {s : State} : KeptN s (@execOpSlt core s) := by
  unfold execOpSlt
  try dsimp only
  refine KeptN.mk_ ?_
  refine Kept.trans ?_ State_rr_kept
  exact Kept.refl

theorem execOpSltu_kept {core : Sys2Proof.CoreAddr} {s : State} : KeptN s (@execOpSltu core s) := by
  unfold execOpSltu
  try dsimp only
  refine KeptN.mk_ ?_
  refine Kept.trans ?_ State_rr_kept
  exact Kept.refl

theorem execOpAddi_kept {core : Sys2Proof.CoreAddr} {s : State} : KeptN s (@execOpAddi core s) := by
  unfold execOpAddi
  try dsimp only
  refine KeptN.mk_ ?_
  refine Kept.trans ?_ State_ri_kept
  exact Kept.refl

theorem execOpAndi_kept {core : Sys2Proof.CoreAddr} {s : State} : KeptN s (@execOpAndi core s) := by
  unfold execOpAndi
  try dsimp only
  refine KeptN.mk_ ?_
  refine Kept.trans ?_ State_ri_kept
  exact Kept.refl

theorem execOpOri_kept {core : Sys2Proof.CoreAddr} {s : State} : KeptN s (@execOpOri core s) := by
  unfold execOpOri
  try dsimp only
  refine KeptN.mk_ ?_
  refine Kept.trans ?_ State_ri_kept
  exact Kept.refl

theorem execOpXori_kept {core : Sys2Proof.CoreAddr} {s : State} : KeptN s (@execOpXori core s) := by
  unfold execOpXori
  try dsimp only
  refine KeptN.mk_ ?_
  refine Kept.trans ?_ State_ri_kept
  exact Kept.refl

theorem execOpLui_kept {core : Sys2Proof.CoreAddr} {s : State} : KeptN s (@execOpLui core s) := by
  unfold execOpLui
  try dsimp only
  refine KeptN.mk_ ?_
  refine Kept.trans ?_ State_ri_kept
  exact Kept.refl

theorem execOpSlli_kept {core : Sys2Proof.CoreAddr} {s : State} : KeptN s (@execOpSlli core s) := by
  unfold execOpSlli
  try dsimp only
  refine KeptN.mk_ ?_
  refine Kept.trans ?_ State_ri_kept
  exact Kept.refl

theorem execOpSrli_kept {core : Sys2Proof.CoreAddr} {s : State} : KeptN s (@execOpSrli core s) := by
  unfold execOpSrli
  try dsimp only
  refine KeptN.mk_ ?_
  refine Kept.trans ?_ State_ri_kept
  exact Kept.refl

theorem execOpSrai_kept {core : Sys2Proof.CoreAddr} {s : State} : KeptN s (@execOpSrai core s) := by
  unfold execOpSrai
  try dsimp only
  refine KeptN.mk_ ?_
  refine Kept.trans ?_ State_ri_kept
  exact Kept.refl

theorem execOpLw_kept {core : Sys2Proof.CoreAddr} {s : State} : KeptN s (@execOpLw core s) := by
  unfold execOpLw
  try dsimp only
  refine KeptN.mk_ ?_
  refine Kept.trans ?_ (State_issueScalar_kept ?_)
  exact Kept.refl
  intro _
  intro _
  intro _
  refine Kept.ite ?_ ?_
  refine Kept.trans ?_ State_illegal_kept
  exact Kept.refl
  refine Kept.ite ?_ ?_
  refine Kept.trans ?_ State_faultCtx_kept
  exact Kept.refl
  refine Kept.trans ?_ State_retire_kept
  exact Kept.refl

theorem execOpSw_kept {core : Sys2Proof.CoreAddr} {s : State} : KeptN s (@execOpSw core s) := by
  unfold execOpSw
  try dsimp only
  refine KeptN.mk_ ?_
  refine Kept.trans ?_ (State_issueScalar_kept ?_)
  exact Kept.refl
  intro _
  intro _
  intro _
  refine Kept.ite ?_ ?_
  refine Kept.trans ?_ State_illegal_kept
  exact Kept.refl
  refine Kept.trans ?_ State_retire_kept
  exact Kept.refl

theorem execOpGetp_kept {core : Sys2Proof.CoreAddr} {s : State} : KeptN s (@execOpGetp core s) := by
  unfold execOpGetp
  try dsimp only
  refine KeptN.mk_ ?_
  refine Kept.trans ?_ (State_issueScalar_kept ?_)
  exact Kept.refl
  intro _
  intro _
  intro _
  refine Kept.trans ?_ State_retire_kept
  exact Kept.refl

theorem execOpGets_kept {core : Sys2Proof.CoreAddr} {s : State} : KeptN s (@execOpGets core s) := by
  unfold execOpGets
  try dsimp only
  refine KeptN.mk_ ?_
  refine Kept.trans ?_ (State_issueScalar_kept ?_)
  exact Kept.refl
  intro _
  intro _
  intro _
  refine Kept.trans ?_ State_retire_kept
  exact Kept.refl

theorem execOpClrf_kept {core : Sys2Proof.CoreAddr} {s : State} : KeptN s (@execOpClrf core s) := by
  unfold execOpClrf
  try dsimp only
  refine KeptN.mk_ ?_
  refine Kept.trans ?_ (State_issueScalar_kept ?_)
  exact Kept.refl
  intro _
  intro _
  intro _
  refine Kept.trans ?_ State_retire_kept
  exact Kept.refl

theorem execOpSetm_kept {core : Sys2Proof.CoreAddr} {s : State} : KeptN s (@execOpSetm core s) := by
  unfold execOpSetm
  try dsimp only
  refine KeptN.mk_ ?_
  refine Kept.trans ?_ (State_issueScalar_kept ?_)
  exact Kept.refl
  intro _
  intro _
  intro _
  refine Kept.trans ?_ State_retire_kept
  exact Kept.refl

theorem execOpBeq_kept {core : Sys2Proof.CoreAddr} {s : State} : KeptN s (@execOpBeq core s) := by
  unfold execOpBeq
  try dsimp only
  refine KeptN.mk_ ?_
  refine Kept.trans ?_ State_branch_kept
  exact Kept.refl

theorem execOpBne_kept {core : Sys2Proof.CoreAddr} {s : State} : KeptN s (@execOpBne core s) := by
  unfold execOpBne
  try dsimp only
  refine KeptN.mk_ ?_
  refine Kept.trans ?_ State_branch_kept
  exact Kept.refl

theorem execOpBlt_kept {core : Sys2Proof.CoreAddr} {s : State} : KeptN s (@execOpBlt core s) := by
  unfold execOpBlt
  try dsimp only
  refine KeptN.mk_ ?_
  refine Kept.trans ?_ State_branch_kept
  exact Kept.refl

theorem execOpBge_kept {core : Sys2Proof.CoreAddr} {s : State} : KeptN s (@execOpBge core s) := by
  unfold execOpBge
  try dsimp only
  refine KeptN.mk_ ?_
  refine Kept.trans ?_ State_branch_kept
  exact Kept.refl

theorem execOpBltu_kept {core : Sys2Proof.CoreAddr} {s : State} : KeptN s (@execOpBltu core s) := by
  unfold execOpBltu
  try dsimp only
  refine KeptN.mk_ ?_
  refine Kept.trans ?_ State_branch_kept
  exact Kept.refl

theorem execOpBgeu_kept {core : Sys2Proof.CoreAddr} {s : State} : KeptN s (@execOpBgeu core s) := by
  unfold execOpBgeu
  try dsimp only
  refine KeptN.mk_ ?_
  refine Kept.trans ?_ State_branch_kept
  exact Kept.refl

theorem execOpJal_kept {core : Sys2Proof.CoreAddr} {s : State} : KeptN s (@execOpJal core s) := by
  unfold execOpJal
  try dsimp only
  refine KeptN.mk_ ?_
  refine Kept.trans ?_ (State_issueScalar_kept ?_)
  exact Kept.refl
  intro _
  intro _
  intro _
  refine Kept.trans ?_ State_jump_kept
  exact Kept.refl

theorem execOpJr_kept {core : Sys2Proof.CoreAddr} {s : State} : KeptN s (@execOpJr core s) := by
  unfold execOpJr
  try dsimp only
  refine KeptN.mk_ ?_
  refine Kept.trans ?_ (State_issueScalar_kept ?_)
  exact Kept.refl
  intro _
  intro _
  intro _
  refine Kept.trans ?_ State_jump_kept
  exact Kept.refl

theorem execOpPwait_kept {core : Sys2Proof.CoreAddr} {s : State} : KeptN s (@execOpPwait core s) := by
  unfold execOpPwait
  try dsimp only
  refine KeptN.mk_ ?_
  refine Kept.trans ?_ (State_issueScalar_kept ?_)
  exact Kept.refl
  intro _
  intro _
  intro _
  split
  refine Kept.trans ?_ State_faultCtx_kept
  exact Kept.refl
  refine Kept.ite ?_ ?_
  refine Kept.trans ?_ State_faultCtx_kept
  exact Kept.refl
  refine Kept.ite ?_ ?_
  refine Kept.trans ?_ State_faultCtx_kept
  exact Kept.refl
  split
  refine Kept.trans ?_ State_retire_kept
  refine Kept.trans ?_ (KeptP.of (by assumption) State_waitCheck_kept)
  exact Kept.refl
  refine Kept.trans ?_ (KeptP.of (by assumption) State_waitCheck_kept)
  exact Kept.refl

theorem execOpPsig_kept {core : Sys2Proof.CoreAddr} {s : State} : KeptN s (@execOpPsig core s) := by
  unfold execOpPsig
  try dsimp only
  refine KeptN.mk_ ?_
  refine Kept.trans ?_ (State_issueScalar_kept ?_)
  exact Kept.refl
  intro _
  intro _
  intro _
  split
  refine Kept.trans ?_ State_faultCtx_kept
  exact Kept.refl
  refine Kept.trans ?_ State_retire_kept
  refine Kept.trans ?_ State_sendSignal_kept
  exact Kept.refl

theorem execOpPread_kept {core : Sys2Proof.CoreAddr} {s : State} : KeptN s (@execOpPread core s) := by
  unfold execOpPread
  try dsimp only
  refine KeptN.mk_ ?_
  refine Kept.trans ?_ (State_issueScalar_kept ?_)
  exact Kept.refl
  intro _
  intro _
  intro _
  split
  refine Kept.trans ?_ State_faultCtx_kept
  exact Kept.refl
  refine Kept.ite ?_ ?_
  refine Kept.trans ?_ State_faultCtx_kept
  exact Kept.refl
  refine Kept.ite ?_ ?_
  refine Kept.trans ?_ State_faultCtx_kept
  exact Kept.refl
  refine Kept.trans ?_ State_retire_kept
  exact Kept.refl

theorem execOpEnd_kept {core : Sys2Proof.CoreAddr} {s : State} : KeptN s (@execOpEnd core s) := by
  unfold execOpEnd
  try dsimp only
  refine KeptN.mk_ ?_
  refine Kept.trans ?_ (State_issueScalar_kept ?_)
  exact Kept.refl
  intro _
  intro _
  intro _
  refine Kept.trans ?_ State_retire_kept
  refine Kept.trans ?_ State_depart_kept
  exact Kept.refl

theorem execContextSwitch_kept {core : Sys2Proof.CoreAddr} {s : State} : KeptN s (@execContextSwitch core s) := by
  unfold execContextSwitch
  try dsimp only
  refine KeptN.mk_ ?_
  refine Kept.ite ?_ ?_
  exact Kept.refl
  split
  exact Kept.refl
  refine Kept.trans ?_ State_setCore_kept
  exact Kept.refl

end Sys2Proof.Laws
end

