-- ==== Sys2Proof/Laws/KeptRegs.lean ====
section
/-! SUPPORT. What the operations of Machine/Regs.lean keep. -/
namespace Sys2Proof.Laws
open Sys2Proof Sys2Proof.Machine

theorem State_denied_kept {s : State} {src : Sys2Proof.Src} : Kept s (@State.denied s src) := by
  unfold State.denied
  try dsimp only
  split
  refine Kept.ite ?_ ?_
  refine Kept.trans ?_ State_count_kept
  exact Kept.refl
  exact Kept.refl
  refine Kept.trans ?_ State_count_kept
  exact Kept.refl
  exact Kept.refl

theorem State_accessW_kept {s : State} {src : Sys2Proof.Src} {k : RKey} {f : State → State} (hf : ∀ x, Kept x (f x)) : Kept s (@State.accessW s src k f) := by
  unfold State.accessW
  try dsimp only
  refine Kept.ite ?_ ?_
  exact Kept.refl
  refine Kept.ite ?_ ?_
  refine Kept.trans ?_ (hf _)
  exact Kept.refl
  refine Kept.trans ?_ State_denied_kept
  exact Kept.refl

theorem State_writeFields_kept {s : State} {k : RKey} {v : Sys2Proof.Word} : Kept s (@State.writeFields s k v) := by
  unfold State.writeFields
  try dsimp only
  refine Kept.trans ?_ State_setReg_kept
  exact Kept.refl

theorem State_cmdDone_kept {s : State} {k : RKey} {result : Nat} {reason : Nat} {rlo : Nat} {p : Option Nat} : Kept s (@State.cmdDone s k result reason rlo p) := by
  unfold State.cmdDone
  try dsimp only
  split
  refine Kept.trans ?_ State_cause_kept
  refine Kept.trans ?_ State_setReg_kept
  exact Kept.refl
  refine Kept.trans ?_ State_setReg_kept
  exact Kept.refl

theorem State_spineEvent_kept {s : State} {d : Nat} {code : Nat} {p : Nat} {src : Sys2Proof.Word} {a0 : Nat} {a1 : Nat} : Kept s (@State.spineEvent s d code p src a0 a1) := by
  unfold State.spineEvent
  try dsimp only
  refine Kept.trans ?_ State_event_kept
  exact Kept.refl

end Sys2Proof.Laws
end

