-- ==== Sys2Proof/Laws/KeptMaint.lean ====
section
/-! SUPPORT. What the operations of Machine/Maint.lean keep. -/
namespace Sys2Proof.Laws
open Sys2Proof Sys2Proof.Machine

theorem State_maintEvent_kept {s : State} {a : Activity} {w : Nat} : Kept s (@State.maintEvent s a w) := by
  unfold State.maintEvent
  try dsimp only
  refine Kept.trans ?_ State_event_kept
  exact Kept.refl

theorem State_maintStart_kept {s : State} {a : Activity} : Kept s (@State.maintStart s a) := by
  unfold State.maintStart
  try dsimp only
  refine Kept.foldl ?_ ?_
  refine Kept.trans ?_ State_maintEvent_kept
  dsimp only [Kept_mk]
  refine Keeps.of ?_ ?_
  exact Kept.refl
  first | exact Nat.le_refl _ | exact Nat.le_max_left _ _
  intro _
  intro _
  refine Kept.trans ?_ State_cause_kept
  exact Kept.refl

theorem State_maintAsk_kept {s : State} {a : Activity} : KeptP s (@State.maintAsk s a) := by
  unfold State.maintAsk
  try dsimp only
  refine KeptP.ite ?_ ?_
  refine KeptP.mk_ ?_
  refine Kept.trans ?_ State_maintStart_kept
  exact Kept.refl
  refine KeptP.ite ?_ ?_
  refine KeptP.mk_ ?_
  exact Kept.refl
  refine KeptP.mk_ ?_
  refine Kept.trans ?_ State_maintEvent_kept
  refine Kept.trans ?_ State_pldmEvent_kept
  refine Kept.trans ?_ State_setReg_kept
  refine Kept.trans ?_ State_count_kept
  dsimp only [Kept_mk]
  refine Keeps.of ?_ ?_
  exact Kept.refl
  first | exact Nat.le_refl _ | exact Nat.le_max_left _ _

theorem State_maintScan_kept {before l : List Activity} {s : State} : Kept s (State.maintScan before l s) := by
  induction l generalizing before s with
  | nil => exact ⟨rfl, id, Nat.le_refl _, id, id⟩
  | cons a r ih =>
    unfold State.maintScan
    exact Kept.ite (State_maintStart_kept.trans ih) ih

theorem State_maintEnd_kept {s : State} {a : Activity} : Kept s (@State.maintEnd s a) := by
  unfold State.maintEnd
  try dsimp only
  refine Kept.ite ?_ ?_
  refine Kept.trans ?_ State_maintScan_kept
  refine Kept.trans ?_ State_maintEvent_kept
  refine Kept.trans ?_ State_count_kept
  dsimp only [Kept_mk]
  refine Keeps.of ?_ ?_
  exact Kept.refl
  first | exact Nat.le_refl _ | exact Nat.le_max_left _ _
  exact Kept.refl

theorem State_maintCancel_kept {s : State} {a : Activity} : Kept s (@State.maintCancel s a) := by
  unfold State.maintCancel
  try dsimp only
  dsimp only [Kept_mk]
  refine Keeps.of ?_ ?_
  exact Kept.refl
  first | exact Nat.le_refl _ | exact Nat.le_max_left _ _

theorem State_ineligible_kept {s : State} {bay : Nat} : Kept s (@State.ineligible s bay) := by
  unfold State.ineligible
  try dsimp only
  refine Kept.foldl ?_ ?_
  exact Kept.refl
  intro _
  intro _
  refine Kept.trans ?_ State_setPart_kept
  exact Kept.refl

theorem State_retireUnit_kept {s : State} {kind : Nat} {id : Nat} : Kept s (@State.retireUnit s kind id) := by
  unfold State.retireUnit
  try dsimp only
  refine Kept.ite ?_ ?_
  exact Kept.refl
  refine Kept.trans ?_ State_event_kept
  refine Kept.trans ?_ State_count_kept
  refine Kept.ite ?_ ?_
  refine Kept.trans ?_ State_ineligible_kept
  dsimp only [Kept_mk]
  refine Keeps.of ?_ ?_
  exact Kept.refl
  exact Nat.le_refl _
  dsimp only [Kept_mk]
  refine Keeps.of ?_ ?_
  exact Kept.refl
  exact Nat.le_refl _

theorem State_suspect_kept {s : State} {kind : Nat} {id : Nat} : Kept s (@State.suspect s kind id) := by
  unfold State.suspect
  try dsimp only
  refine Kept.ite ?_ ?_
  split
  refine Kept.ite ?_ ?_
  refine Kept.ite ?_ ?_
  refine Kept.trans ?_ State_retireUnit_kept
  refine Kept.trans ?_ State_event_kept
  dsimp only [Kept_mk]
  refine Keeps.of ?_ ?_
  refine Kept.trans ?_ State_count_kept
  refine Kept.trans ?_ State_latch_kept
  exact Kept.refl
  first | exact Nat.le_refl _ | exact Nat.le_max_left _ _
  refine Kept.trans ?_ State_event_kept
  dsimp only [Kept_mk]
  refine Keeps.of ?_ ?_
  refine Kept.trans ?_ State_count_kept
  refine Kept.trans ?_ State_latch_kept
  exact Kept.refl
  first | exact Nat.le_refl _ | exact Nat.le_max_left _ _
  refine Kept.trans ?_ (State_maintAsk_kept).h
  refine Kept.trans ?_ State_cause_kept
  dsimp only [Kept_mk]
  refine Keeps.of ?_ ?_
  refine Kept.ite ?_ ?_
  refine Kept.trans ?_ State_retireUnit_kept
  refine Kept.trans ?_ State_event_kept
  dsimp only [Kept_mk]
  refine Keeps.of ?_ ?_
  refine Kept.trans ?_ State_count_kept
  refine Kept.trans ?_ State_latch_kept
  exact Kept.refl
  first | exact Nat.le_refl _ | exact Nat.le_max_left _ _
  refine Kept.trans ?_ State_event_kept
  dsimp only [Kept_mk]
  refine Keeps.of ?_ ?_
  refine Kept.trans ?_ State_count_kept
  refine Kept.trans ?_ State_latch_kept
  exact Kept.refl
  first | exact Nat.le_refl _ | exact Nat.le_max_left _ _
  first | exact Nat.le_refl _ | exact Nat.le_max_left _ _
  refine Kept.ite ?_ ?_
  refine Kept.trans ?_ State_retireUnit_kept
  refine Kept.trans ?_ State_event_kept
  dsimp only [Kept_mk]
  refine Keeps.of ?_ ?_
  refine Kept.trans ?_ State_count_kept
  refine Kept.trans ?_ State_latch_kept
  exact Kept.refl
  first | exact Nat.le_refl _ | exact Nat.le_max_left _ _
  refine Kept.trans ?_ State_event_kept
  dsimp only [Kept_mk]
  refine Keeps.of ?_ ?_
  refine Kept.trans ?_ State_count_kept
  refine Kept.trans ?_ State_latch_kept
  exact Kept.refl
  first | exact Nat.le_refl _ | exact Nat.le_max_left _ _
  refine Kept.ite ?_ ?_
  refine Kept.trans ?_ State_retireUnit_kept
  refine Kept.trans ?_ State_event_kept
  dsimp only [Kept_mk]
  refine Keeps.of ?_ ?_
  refine Kept.trans ?_ State_count_kept
  refine Kept.trans ?_ State_latch_kept
  exact Kept.refl
  first | exact Nat.le_refl _ | exact Nat.le_max_left _ _
  refine Kept.trans ?_ State_event_kept
  dsimp only [Kept_mk]
  refine Keeps.of ?_ ?_
  refine Kept.trans ?_ State_count_kept
  refine Kept.trans ?_ State_latch_kept
  exact Kept.refl
  first | exact Nat.le_refl _ | exact Nat.le_max_left _ _

theorem execMaintRequest_kept {code : Nat} {unit : Nat} {s : State} : KeptN s (@execMaintRequest code unit s) := by
  unfold execMaintRequest
  try dsimp only
  refine KeptN.mk_ ?_
  refine Kept.ite ?_ ?_
  refine Kept.trans ?_ (State_maintAsk_kept).h
  exact Kept.refl
  exact Kept.refl

theorem execMaintHoldWrite_kept {src : Sys2Proof.Src} {hold : Bool} {s : State} : KeptN s (@execMaintHoldWrite src hold s) := by
  unfold execMaintHoldWrite
  try dsimp only
  refine KeptN.mk_ ?_
  refine Kept.trans ?_ (State_accessW_kept ?_)
  exact Kept.refl
  intro _
  refine Kept.ite ?_ ?_
  refine Kept.trans ?_ State_setFld_kept
  exact Kept.refl
  refine Kept.trans ?_ State_maintScan_kept
  refine Kept.trans ?_ State_setFld_kept
  exact Kept.refl

end Sys2Proof.Laws
end

