-- ==== Sys2Proof/Laws/KeptInspect.lean ====
section
/-! SUPPORT. What the operations of Machine/Inspect.lean keep. -/
namespace Sys2Proof.Laws
open Sys2Proof Sys2Proof.Machine

theorem State_vput_kept {s : State} {p : Nat} {va : Nat} {l : List Sys2Proof.Byte} : Kept s (@State.vput s p va l) := by
  unfold State.vput
  try dsimp only
  refine Kept.trans ?_ (State_vstore_kept).h
  exact Kept.refl

theorem State_inspect_kept {s : State} {p : Nat} {level : Nat} {trigger : Nat} : Kept s (@State.inspect s p level trigger) := by
  unfold State.inspect
  try dsimp only
  refine Kept.trans ?_ State_setReg_kept
  refine Kept.ite ?_ ?_
  dsimp only [Kept_mk]
  refine Keeps.of ?_ ?_
  exact Kept.refl
  first | exact Nat.le_refl _ | exact Nat.le_max_left _ _
  refine Kept.trans ?_ State_setPart_kept
  refine Kept.trans ?_ State_vput_kept
  split
  refine Kept.ite ?_ ?_
  refine Kept.trans ?_ State_vput_kept
  dsimp only [Kept_mk]
  refine Keeps.of ?_ ?_
  exact Kept.refl
  first | exact Nat.le_refl _ | exact Nat.le_max_left _ _
  dsimp only [Kept_mk]
  refine Keeps.of ?_ ?_
  exact Kept.refl
  first | exact Nat.le_refl _ | exact Nat.le_max_left _ _
  dsimp only [Kept_mk]
  refine Keeps.of ?_ ?_
  exact Kept.refl
  first | exact Nat.le_refl _ | exact Nat.le_max_left _ _

theorem State_inspectPkg_kept {s : State} {level : Nat} {trigger : Nat} : Kept s (@State.inspectPkg s level trigger) := by
  unfold State.inspectPkg
  try dsimp only
  refine Kept.trans ?_ State_pldmEvent_kept
  dsimp only [Kept_mk]
  refine Keeps.of ?_ ?_
  exact Kept.refl
  first | exact Nat.le_refl _ | exact Nat.le_max_left _ _

theorem State_rstLast_kept {s : State} {level : Nat} {trigger : Nat} {part : Nat} : Kept s (@State.rstLast s level trigger part) := by
  unfold State.rstLast
  try dsimp only
  refine Kept.trans ?_ State_setReg_kept
  refine Kept.trans ?_ State_setReg_kept
  refine Kept.trans ?_ State_setReg_kept
  exact Kept.refl

end Sys2Proof.Laws
end

