-- ==== Sys2Proof/Laws/KeptCollective.lean ====
section
/-! SUPPORT. What the operations of Machine/Collective.lean keep. -/
namespace Sys2Proof.Laws
open Sys2Proof Sys2Proof.Machine

theorem State_setTruss_kept {s : State} {p : Nat} {id : Nat} {t : Truss} : Kept s (@State.setTruss s p id t) := by
  unfold State.setTruss
  try dsimp only
  dsimp only [Kept_mk]
  refine Keeps.of ?_ ?_
  exact Kept.refl
  first | exact Nat.le_refl _ | exact Nat.le_max_left _ _

theorem State_colError_kept {s : State} {d : Nat} {kind : Nat} {p : Nat} {id : Nat} {b : Nat} : Kept s (@State.colError s d kind p id b) := by
  unfold State.colError
  try dsimp only
  refine Kept.trans ?_ State_cause_kept
  refine Kept.trans ?_ State_spineEvent_kept
  refine Kept.trans ?_ State_latchBy_kept
  exact Kept.refl

theorem State_colSend_kept {s : State} {r : ColRec} : Kept s (@State.colSend s r) := by
  unfold State.colSend
  try dsimp only
  dsimp only [Kept_mk]
  refine Keeps.of ?_ ?_
  exact Kept.refl
  first | exact Nat.le_refl _ | exact Nat.le_max_left _ _

theorem State_colDown_kept {s : State} {p : Nat} {t : Truss} {r : ColRec} : Kept s (@State.colDown s p t r) := by
  unfold State.colDown
  try dsimp only
  refine Kept.trans ?_ State_colSend_kept
  exact Kept.refl

theorem State_colForward_kept {s : State} {p : Nat} {t : Truss} {r : ColRec} : Kept s (@State.colForward s p t r) := by
  unfold State.colForward
  try dsimp only
  refine Kept.foldl ?_ ?_
  exact Kept.refl
  intro _
  intro _
  refine Kept.trans ?_ State_colSend_kept
  exact Kept.refl

theorem State_colTake_kept {s : State} {i : Nat} {kinds : List Nat} : KeptP s (@State.colTake s i kinds) := by
  unfold State.colTake
  try dsimp only
  split
  refine KeptP.mk_ ?_
  exact Kept.refl
  split
  refine KeptP.mk_ ?_
  refine Kept.trans ?_ State_colError_kept
  dsimp only [Kept_mk]
  refine Keeps.of ?_ ?_
  exact Kept.refl
  first | exact Nat.le_refl _ | exact Nat.le_max_left _ _
  refine KeptP.ite ?_ ?_
  refine KeptP.mk_ ?_
  exact Kept.refl
  refine KeptP.mk_ ?_
  dsimp only [Kept_mk]
  refine Keeps.of ?_ ?_
  exact Kept.refl
  first | exact Nat.le_refl _ | exact Nat.le_max_left _ _

theorem State_colResidue_kept {s : State} {d : Nat} {p : Nat} {id : Nat} {b : Nat} : Kept s (@State.colResidue s d p id b) := by
  unfold State.colResidue
  try dsimp only
  refine Kept.ite ?_ ?_
  refine Kept.trans ?_ State_suspect_kept
  dsimp only [Kept_mk]
  refine Keeps.of ?_ ?_
  refine Kept.trans ?_ State_setReg_kept
  refine Kept.trans ?_ State_colError_kept
  refine Kept.trans ?_ State_count_kept
  exact Kept.refl
  first | exact Nat.le_refl _ | exact Nat.le_max_left _ _
  dsimp only [Kept_mk]
  refine Keeps.of ?_ ?_
  refine Kept.trans ?_ State_setReg_kept
  refine Kept.trans ?_ State_colError_kept
  refine Kept.trans ?_ State_count_kept
  exact Kept.refl
  first | exact Nat.le_refl _ | exact Nat.le_max_left _ _

theorem State_sillSend_kept {s : State} {p : Nat} {id : Nat} {t : Truss} {u : RetBuf} {e : Int} {fb : Bool} {rt : Bool} : Kept s (@State.sillSend s p id t u e fb rt) := by
  unfold State.sillSend
  try dsimp only
  refine Kept.trans ?_ State_colSend_kept
  refine Kept.ite ?_ ?_
  refine Kept.trans ?_ State_count_kept
  refine Kept.ite ?_ ?_
  refine Kept.trans ?_ State_count_kept
  refine Kept.trans ?_ State_count_kept
  exact Kept.refl
  refine Kept.trans ?_ State_count_kept
  exact Kept.refl
  refine Kept.ite ?_ ?_
  refine Kept.trans ?_ State_count_kept
  refine Kept.trans ?_ State_count_kept
  exact Kept.refl
  refine Kept.trans ?_ State_count_kept
  exact Kept.refl

theorem State_estateRead_kept {s : State} {d : Nat} {p : Nat} {id : Nat} {t : Truss} {b : Nat} : KeptP s (@State.estateRead s d p id t b) := by
  unfold State.estateRead
  try dsimp only
  split
  refine KeptP.ite ?_ ?_
  refine KeptP.mk_ ?_
  refine Kept.trans ?_ State_colError_kept
  refine Kept.trans ?_ (KeptOP.of (by assumption) State_vload_kept)
  exact Kept.refl
  refine KeptP.mk_ ?_
  refine Kept.trans ?_ (KeptOP.of (by assumption) State_vload_kept)
  exact Kept.refl
  refine KeptP.mk_ ?_
  refine Kept.trans ?_ State_colError_kept
  exact Kept.refl

theorem State_estateWrite_kept {s : State} {d : Nat} {p : Nat} {id : Nat} {t : Truss} {b : Nat} {st : Nat} : Kept s (@State.estateWrite s d p id t b st) := by
  unfold State.estateWrite
  try dsimp only
  refine Kept.ite ?_ ?_
  exact Kept.refl
  split
  refine Kept.trans ?_ (KeptP.of (by assumption) State_vstore_kept)
  exact Kept.refl
  refine Kept.trans ?_ State_colError_kept
  exact Kept.refl

theorem State_estateSettle_kept {s : State} {p : Nat} {id : Nat} {t : Truss} {r : ColRec} : Kept s (@State.estateSettle s p id t r) := by
  unfold State.estateSettle
  try dsimp only
  refine Kept.foldl ?_ ?_
  exact Kept.refl
  intro _
  intro _
  refine Kept.trans ?_ State_estateWrite_kept
  exact Kept.refl

theorem State_colStore_kept {s : State} {p : Nat} {id : Nat} {t : Truss} {b : Nat} {va : Nat} {l : List PByte} : KeptP s (@State.colStore s p id t b va l) := by
  unfold State.colStore
  try dsimp only
  split
  refine KeptP.mk_ ?_
  refine Kept.trans ?_ (KeptP.of (by assumption) State_vstore_kept)
  exact Kept.refl
  refine KeptP.mk_ ?_
  refine Kept.trans ?_ State_colError_kept
  exact Kept.refl

theorem State_deliverBlock_kept {s : State} {p : Nat} {id : Nat} {t : Truss} {r : ColRec} : Kept s (@State.deliverBlock s p id t r) := by
  unfold State.deliverBlock
  try dsimp only
  refine Kept.foldl ?_ ?_
  exact Kept.refl
  intro _
  intro _
  refine Kept.ite ?_ ?_
  refine Kept.trans ?_ (State_colStore_kept).h
  exact Kept.refl
  exact Kept.refl

theorem State_colComplete_kept {s : State} {p : Nat} {id : Nat} : Kept s (@State.colComplete s p id) := by
  unfold State.colComplete
  try dsimp only
  split
  exact Kept.refl
  refine Kept.foldl ?_ ?_
  exact Kept.refl
  intro _
  intro _
  refine Kept.ite ?_ ?_
  split
  refine Kept.trans ?_ State_spineEvent_kept
  refine Kept.trans ?_ State_engineSignal_kept
  refine Kept.trans ?_ State_setTruss_kept
  exact Kept.refl
  exact Kept.refl
  exact Kept.refl

theorem State_settleHere_kept {s : State} {p : Nat} {id : Nat} {b : Nat} {step : BitVec 8} : Kept s (@State.settleHere s p id b step) := by
  unfold State.settleHere
  try dsimp only
  split
  exact Kept.refl
  refine Kept.trans ?_ State_colComplete_kept
  refine Kept.trans ?_ State_setTruss_kept
  refine Kept.foldl ?_ ?_
  exact Kept.refl
  intro _
  intro _
  refine Kept.trans ?_ State_poolRelease_kept
  exact Kept.refl

theorem State_settle_kept {s : State} {p : Nat} {id : Nat} {r : ColRec} {keepState : Bool} : Kept s (@State.settle s p id r keepState) := by
  unfold State.settle
  try dsimp only
  split
  exact Kept.refl
  refine Kept.trans ?_ State_colDown_kept
  refine Kept.trans ?_ State_setTruss_kept
  refine Kept.ite1 ?_ ?_
  refine KeptP.trans ?_ State_estateRead_kept
  exact Kept.refl
  refine KeptP.mk_ ?_
  exact Kept.refl

theorem State_deliver_kept {s : State} {p : Nat} {id : Nat} {t : Truss} {r : ColRec} {keepState : Bool} : Kept s (@State.deliver s p id t r keepState) := by
  unfold State.deliver
  try dsimp only
  refine Kept.ite ?_ ?_
  refine Kept.trans ?_ State_setTruss_kept
  exact Kept.refl
  refine Kept.ite ?_ ?_
  refine Kept.trans ?_ State_settle_kept
  exact Kept.refl
  refine Kept.trans ?_ State_colComplete_kept
  refine Kept.trans ?_ State_settle_kept
  refine Kept.trans ?_ State_deliverBlock_kept
  exact Kept.refl

theorem State_ownerDecide_kept {s : State} {p : Nat} {id : Nat} {r : ColRec} : Kept s (@State.ownerDecide s p id r) := by
  unfold State.ownerDecide
  try dsimp only
  split
  exact Kept.refl
  refine Kept.ite ?_ ?_
  refine Kept.trans ?_ State_deliver_kept
  exact Kept.refl
  refine Kept.ite ?_ ?_
  refine Kept.trans ?_ State_colDown_kept
  refine Kept.ite ?_ ?_
  refine Kept.trans ?_ State_colDown_kept
  refine Kept.trans ?_ State_setTruss_kept
  refine Kept.trans ?_ State_count_kept
  refine Kept.trans ?_ State_colError_kept
  refine Kept.ite ?_ ?_
  refine Kept.trans ?_ State_count_kept
  exact Kept.refl
  exact Kept.refl
  refine Kept.trans ?_ State_setTruss_kept
  refine Kept.trans ?_ State_count_kept
  refine Kept.trans ?_ State_colError_kept
  refine Kept.ite ?_ ?_
  refine Kept.trans ?_ State_count_kept
  exact Kept.refl
  exact Kept.refl
  refine Kept.ite ?_ ?_
  refine Kept.trans ?_ State_deliver_kept
  refine Kept.trans ?_ State_colError_kept
  refine Kept.ite ?_ ?_
  refine Kept.trans ?_ State_count_kept
  exact Kept.refl
  exact Kept.refl
  refine Kept.ite ?_ ?_
  refine Kept.trans ?_ State_deliver_kept
  exact Kept.refl
  refine Kept.ite ?_ ?_
  refine Kept.trans ?_ State_colDown_kept
  refine Kept.trans ?_ State_setTruss_kept
  refine Kept.trans ?_ State_count_kept
  exact Kept.refl
  refine Kept.ite ?_ ?_
  refine Kept.trans ?_ State_deliver_kept
  refine Kept.trans ?_ State_colError_kept
  exact Kept.refl
  refine Kept.trans ?_ State_deliver_kept
  exact Kept.refl

theorem execColPartial_kept {rec_ : Nat} {errs : List (Nat × Word)} {s : State} : KeptN s (@execColPartial rec_ errs s) := by
  unfold execColPartial
  try dsimp only
  refine KeptN.mk_ ?_
  split
  refine Kept.trans ?_ (KeptP.of (by assumption) State_colTake_kept)
  exact Kept.refl
  refine Kept.ite ?_ ?_
  refine Kept.trans ?_ State_colError_kept
  refine Kept.trans ?_ (KeptP.of (by assumption) State_colTake_kept)
  exact Kept.refl
  refine Kept.ite ?_ ?_
  refine Kept.trans ?_ State_ownerDecide_kept
  refine Kept.trans ?_ State_setTruss_kept
  refine Kept.trans ?_ (KeptP.of (by assumption) State_colTake_kept)
  exact Kept.refl
  refine Kept.ite ?_ ?_
  refine Kept.trans ?_ State_setTruss_kept
  refine Kept.foldl ?_ ?_
  refine Kept.trans ?_ (KeptP.of (by assumption) State_colTake_kept)
  exact Kept.refl
  intro _
  intro _
  refine Kept.trans ?_ State_colResidue_kept
  exact Kept.refl
  split
  refine Kept.trans ?_ State_colSend_kept
  refine Kept.trans ?_ State_setTruss_kept
  refine Kept.foldl ?_ ?_
  refine Kept.trans ?_ (KeptP.of (by assumption) State_colTake_kept)
  exact Kept.refl
  intro _
  intro _
  refine Kept.trans ?_ State_colResidue_kept
  exact Kept.refl
  refine Kept.ite ?_ ?_
  refine Kept.trans ?_ State_ownerDecide_kept
  refine Kept.trans ?_ State_setTruss_kept
  refine Kept.foldl ?_ ?_
  refine Kept.trans ?_ (KeptP.of (by assumption) State_colTake_kept)
  exact Kept.refl
  intro _
  intro _
  refine Kept.trans ?_ State_colResidue_kept
  exact Kept.refl
  refine Kept.trans ?_ State_colSend_kept
  refine Kept.trans ?_ State_setTruss_kept
  refine Kept.foldl ?_ ?_
  refine Kept.trans ?_ (KeptP.of (by assumption) State_colTake_kept)
  exact Kept.refl
  intro _
  intro _
  refine Kept.trans ?_ State_colResidue_kept
  exact Kept.refl

theorem State_sendExponent_kept {s : State} {p : Nat} {id : Nat} {t : Truss} {r : ColRec} {st : Nat} : Kept s (@State.sendExponent s p id t r st) := by
  unfold State.sendExponent
  try dsimp only
  refine Kept.trans ?_ State_colDown_kept
  refine Kept.trans ?_ State_setTruss_kept
  exact Kept.refl

theorem execColMaxReply_kept {rec_ : Nat} {s : State} : KeptN s (@execColMaxReply rec_ s) := by
  unfold execColMaxReply
  try dsimp only
  refine KeptN.mk_ ?_
  split
  refine Kept.trans ?_ (KeptP.of (by assumption) State_colTake_kept)
  exact Kept.refl
  refine Kept.ite ?_ ?_
  refine Kept.foldl ?_ ?_
  refine Kept.trans ?_ State_colForward_kept
  refine Kept.trans ?_ (KeptP.of (by assumption) State_colTake_kept)
  exact Kept.refl
  intro _
  intro _
  refine Kept.trans ?_ State_colSend_kept
  exact Kept.refl
  refine Kept.ite ?_ ?_
  refine Kept.trans ?_ State_colError_kept
  refine Kept.trans ?_ (KeptP.of (by assumption) State_colTake_kept)
  exact Kept.refl
  refine Kept.ite ?_ ?_
  refine Kept.trans ?_ State_setTruss_kept
  refine Kept.trans ?_ (KeptP.of (by assumption) State_colTake_kept)
  exact Kept.refl
  split
  refine Kept.ite ?_ ?_
  refine Kept.trans ?_ State_sendExponent_kept
  refine Kept.ite ?_ ?_
  refine Kept.trans ?_ (KeptP.of (by assumption) State_colTake_kept)
  exact Kept.refl
  refine Kept.trans ?_ State_count_kept
  refine Kept.trans ?_ (KeptP.of (by assumption) State_colTake_kept)
  exact Kept.refl
  refine Kept.trans ?_ State_colSend_kept
  refine Kept.trans ?_ State_setTruss_kept
  refine Kept.trans ?_ (KeptP.of (by assumption) State_colTake_kept)
  exact Kept.refl
  refine Kept.ite ?_ ?_
  refine Kept.trans ?_ State_sendExponent_kept
  refine Kept.ite ?_ ?_
  refine Kept.trans ?_ (KeptP.of (by assumption) State_colTake_kept)
  exact Kept.refl
  refine Kept.trans ?_ State_count_kept
  refine Kept.trans ?_ (KeptP.of (by assumption) State_colTake_kept)
  exact Kept.refl
  refine Kept.trans ?_ State_colSend_kept
  refine Kept.trans ?_ State_setTruss_kept
  refine Kept.trans ?_ (KeptP.of (by assumption) State_colTake_kept)
  exact Kept.refl

theorem State_resend_kept {s : State} {p : Nat} {id : Nat} {which : RetBuf → Bool} {rt : Bool} : Kept s (@State.resend s p id which rt) := by
  unfold State.resend
  try dsimp only
  split
  exact Kept.refl
  refine Kept.foldl ?_ ?_
  refine Kept.trans ?_ State_setTruss_kept
  exact Kept.refl
  intro _
  intro _
  refine Kept.trans ?_ State_sillSend_kept
  exact Kept.refl

theorem State_setExponent_kept {s : State} {p : Nat} {id : Nat} {r : ColRec} : Kept s (@State.setExponent s p id r) := by
  unfold State.setExponent
  try dsimp only
  split
  exact Kept.refl
  refine Kept.trans ?_ State_setTruss_kept
  exact Kept.refl

theorem execColExponent_kept {rec_ : Nat} {s : State} : KeptN s (@execColExponent rec_ s) := by
  unfold execColExponent
  try dsimp only
  refine KeptN.mk_ ?_
  split
  refine Kept.trans ?_ (KeptP.of (by assumption) State_colTake_kept)
  exact Kept.refl
  refine Kept.trans ?_ State_resend_kept
  refine Kept.trans ?_ State_setExponent_kept
  refine Kept.trans ?_ State_colForward_kept
  refine Kept.trans ?_ (KeptP.of (by assumption) State_colTake_kept)
  exact Kept.refl

theorem execColRetry_kept {rec_ : Nat} {s : State} : KeptN s (@execColRetry rec_ s) := by
  unfold execColRetry
  try dsimp only
  refine KeptN.mk_ ?_
  split
  refine Kept.trans ?_ (KeptP.of (by assumption) State_colTake_kept)
  exact Kept.refl
  refine Kept.ite ?_ ?_
  refine Kept.trans ?_ State_resend_kept
  refine Kept.trans ?_ State_colForward_kept
  refine Kept.trans ?_ (KeptP.of (by assumption) State_colTake_kept)
  exact Kept.refl
  split
  refine Kept.trans ?_ State_colSend_kept
  refine Kept.trans ?_ (KeptP.of (by assumption) State_colTake_kept)
  exact Kept.refl
  refine Kept.trans ?_ (KeptP.of (by assumption) State_colTake_kept)
  exact Kept.refl

theorem execColSettle_kept {rec_ : Nat} {s : State} : KeptN s (@execColSettle rec_ s) := by
  unfold execColSettle
  try dsimp only
  refine KeptN.mk_ ?_
  split
  refine Kept.trans ?_ (KeptP.of (by assumption) State_colTake_kept)
  exact Kept.refl
  refine Kept.trans ?_ State_settleHere_kept
  refine Kept.trans ?_ State_estateSettle_kept
  refine Kept.trans ?_ State_colForward_kept
  refine Kept.trans ?_ (KeptP.of (by assumption) State_colTake_kept)
  exact Kept.refl

theorem execColResult_kept {rec_ : Nat} {errs : List (Nat × Word)} {s : State} : KeptN s (@execColResult rec_ errs s) := by
  unfold execColResult
  try dsimp only
  refine KeptN.mk_ ?_
  split
  refine Kept.trans ?_ (KeptP.of (by assumption) State_colTake_kept)
  exact Kept.refl
  refine Kept.ite ?_ ?_
  refine Kept.trans ?_ State_colSend_kept
  refine Kept.trans ?_ State_setTruss_kept
  refine Kept.trans ?_ State_count_kept
  refine Kept.ite ?_ ?_
  refine Kept.trans ?_ (KeptP.of (by assumption) State_colTake_kept)
  exact Kept.refl
  refine Kept.trans ?_ State_colForward_kept
  refine Kept.trans ?_ (KeptP.of (by assumption) State_colTake_kept)
  exact Kept.refl
  refine Kept.trans ?_ State_settleHere_kept
  refine Kept.trans ?_ State_estateSettle_kept
  refine Kept.trans ?_ State_deliverBlock_kept
  refine Kept.trans ?_ State_setTruss_kept
  refine Kept.ite ?_ ?_
  refine Kept.trans ?_ State_colError_kept
  refine Kept.trans ?_ State_count_kept
  refine Kept.ite ?_ ?_
  refine Kept.trans ?_ (KeptP.of (by assumption) State_colTake_kept)
  exact Kept.refl
  refine Kept.trans ?_ State_colForward_kept
  refine Kept.trans ?_ (KeptP.of (by assumption) State_colTake_kept)
  exact Kept.refl
  refine Kept.ite ?_ ?_
  refine Kept.trans ?_ (KeptP.of (by assumption) State_colTake_kept)
  exact Kept.refl
  refine Kept.trans ?_ State_colForward_kept
  refine Kept.trans ?_ (KeptP.of (by assumption) State_colTake_kept)
  exact Kept.refl

theorem State_blockReady_kept {s : State} {p : Nat} {id : Nat} {u : RetBuf} : Kept s (@State.blockReady s p id u) := by
  unfold State.blockReady
  try dsimp only
  split
  exact Kept.refl
  refine Kept.ite ?_ ?_
  refine Kept.trans ?_ State_colSend_kept
  refine Kept.trans ?_ State_setTruss_kept
  refine Kept.trans ?_ (State_estateRead_kept).h
  exact Kept.refl
  refine Kept.trans ?_ State_sillSend_kept
  refine Kept.trans ?_ State_setTruss_kept
  refine Kept.trans ?_ (State_estateRead_kept).h
  exact Kept.refl

theorem State_addSup_kept {s : State} {e : ColSup} : Kept s (@State.addSup s e) := by
  unfold State.addSup
  try dsimp only
  dsimp only [Kept_mk]
  refine Keeps.of ?_ ?_
  exact Kept.refl
  exact Nat.le_refl _

theorem State_dupElem_kept {s : State} {d : Nat} {p : Nat} {id : Nat} {pos : Nat} {x : Nat} {c : Nat} {swap : ColSup → State → State} (hswap : ∀ a0 a1, Kept a1 (swap a0 a1)) : Kept s (@State.dupElem s d p id pos x c swap) := by
  unfold State.dupElem
  try dsimp only
  split
  refine Kept.ite ?_ ?_
  refine Kept.trans ?_ State_addSup_kept
  refine Kept.trans ?_ (hswap _ _)
  refine Kept.trans ?_ State_colError_kept
  exact Kept.refl
  refine Kept.trans ?_ State_colError_kept
  exact Kept.refl
  refine Kept.trans ?_ State_colError_kept
  exact Kept.refl

theorem State_gatherElem_kept {s : State} {d : Nat} {p : Nat} {id : Nat} {c : Nat} {t : Truss} {m : OwnMem} {x : Nat} {raw : List (Byte × Bool)} : Kept s (@State.gatherElem s d p id c t m x raw) := by
  unfold State.gatherElem
  try dsimp only
  refine Kept.ite ?_ ?_
  refine Kept.trans ?_ (State_dupElem_kept ?_)
  exact Kept.refl
  intro _
  intro _
  dsimp only [Kept_mk]
  refine Keeps.of ?_ ?_
  exact Kept.refl
  exact Nat.le_refl _
  refine Kept.foldl ?_ ?_
  refine Kept.trans ?_ State_addSup_kept
  refine Kept.trans ?_ State_setTruss_kept
  exact Kept.refl
  intro _
  intro _
  refine Kept.trans ?_ State_colSend_kept
  exact Kept.refl

theorem State_reduceElem_kept {s : State} {d : Nat} {p : Nat} {id : Nat} {c : Nat} {t : Truss} {m : OwnMem} {x : Nat} {v : Word × Bool} : KeptA s (@State.reduceElem s d p id c t m x v) := by
  unfold State.reduceElem
  try dsimp only
  split
  refine KeptA.ite ?_ ?_
  exact KeptA.held_
  split
  refine KeptA.ok_ ?_
  refine Kept.trans ?_ (State_dupElem_kept ?_)
  exact Kept.refl
  intro _
  intro _
  split
  refine Kept.trans ?_ State_setTruss_kept
  exact Kept.refl
  exact Kept.refl
  refine KeptA.ok_ ?_
  refine Kept.trans ?_ State_addSup_kept
  refine Kept.trans ?_ State_setTruss_kept
  exact Kept.refl
  refine KeptA.ite ?_ ?_
  exact KeptA.held_
  refine KeptA.ite ?_ ?_
  refine KeptA.asked_ ?_
  exact Kept.refl
  refine KeptA.asked_ ?_
  refine Kept.trans ?_ State_setPool_kept
  exact Kept.refl

theorem State_supplyElem_kept {s : State} {p : Nat} {id : Nat} {c : Nat} {lc : Option Nat} {ep : BitVec 8} {x : Nat} {v : Word × Bool} {raw : List (Byte × Bool)} : KeptA s (@State.supplyElem s p id c lc ep x v raw) := by
  unfold State.supplyElem
  try dsimp only
  refine KeptA.ite ?_ ?_
  refine KeptA.ok_ ?_
  refine Kept.trans ?_ State_count_kept
  exact Kept.refl
  split
  refine KeptA.ok_ ?_
  refine Kept.trans ?_ State_colError_kept
  exact Kept.refl
  refine KeptA.ite ?_ ?_
  refine KeptA.ok_ ?_
  refine Kept.trans ?_ State_colError_kept
  exact Kept.refl
  split
  refine KeptA.ok_ ?_
  refine Kept.trans ?_ State_colError_kept
  exact Kept.refl
  refine KeptA.ite ?_ ?_
  exact KeptA.held_
  refine KeptA.ite ?_ ?_
  refine KeptA.ok_ ?_
  refine Kept.trans ?_ State_gatherElem_kept
  exact Kept.refl
  refine KeptA.trans ?_ State_reduceElem_kept
  exact Kept.refl

theorem State_engGrant_kept {s : State} {d : Nat} {q : Nat} {e : EngAlloc} : Kept s (@State.engGrant s d q e) := by
  unfold State.engGrant
  try dsimp only
  split
  split
  exact Kept.refl
  refine Kept.ite ?_ ?_
  exact Kept.refl
  refine Kept.trans ?_ State_setTruss_kept
  refine Kept.trans ?_ State_poolTake_kept
  exact Kept.refl
  exact Kept.refl

theorem State_colReady_kept {s : State} : Kept s (@State.colReady s) := by
  unfold State.colReady
  try dsimp only
  refine Kept.foldl ?_ ?_
  exact Kept.refl
  intro _
  intro _
  refine Kept.foldl ?_ ?_
  exact Kept.refl
  intro _
  intro _
  refine Kept.trans ?_ State_blockReady_kept
  exact Kept.refl

theorem State_supplyAll_kept {p id_ c : Nat} {lc : Option Nat} {ep : BitVec 8}
    {l : List (Nat × (Word × Bool) × List (Byte × Bool))} {s : State} : KeptP s (s.supplyAll p id_ c lc ep l) := by
  induction l generalizing s with
  | nil => exact ⟨Kept.refl⟩
  | cons a r ih =>
    unfold State.supplyAll
    split
    · exact ⟨Kept.refl⟩
    · next h => exact ⟨KeptA.of' h State_supplyElem_kept⟩
    · next h => exact ⟨(KeptA.of h State_supplyElem_kept).trans ih.h⟩

theorem State_colHold_kept {s : State} {c : Nat} : Kept s (@State.colHold s c) := by
  unfold State.colHold
  try dsimp only
  refine Kept.ite ?_ ?_
  exact Kept.refl
  dsimp only [Kept_mk]
  refine Keeps.of ?_ ?_
  refine Kept.trans ?_ State_count_kept
  exact Kept.refl
  exact Nat.le_refl _

theorem execColSupply_kept {send : Bool} {unit : Nat} {s : State} : KeptN s (@execColSupply send unit s) := by
  unfold execColSupply
  try dsimp only
  refine KeptN.mk_ ?_
  refine Kept.ite ?_ ?_
  split
  exact Kept.refl
  refine Kept.ite ?_ ?_
  exact Kept.refl
  refine Kept.ite ?_ ?_
  refine Kept.trans ?_ State_colHold_kept
  exact Kept.refl
  refine Kept.ite ?_ ?_
  refine Kept.trans ?_ State_colHold_kept
  dsimp only [Kept_mk]
  refine Keeps.of ?_ ?_
  refine Kept.trans ?_ (State_supplyAll_kept).h
  exact Kept.refl
  exact Nat.le_refl _
  dsimp only [Kept_mk]
  refine Keeps.of ?_ ?_
  refine Kept.trans ?_ (State_supplyAll_kept).h
  exact Kept.refl
  exact Nat.le_refl _
  split
  exact Kept.refl
  refine Kept.ite ?_ ?_
  refine Kept.trans ?_ State_colHold_kept
  exact Kept.refl
  refine Kept.ite ?_ ?_
  dsimp only [Kept_mk]
  refine Keeps.of ?_ ?_
  refine Kept.trans ?_ (State_supplyAll_kept).h
  exact Kept.refl
  exact Nat.le_refl _
  refine Kept.ite ?_ ?_
  refine Kept.trans ?_ State_colHold_kept
  dsimp only [Kept_mk]
  refine Keeps.of ?_ ?_
  refine Kept.trans ?_ (State_supplyAll_kept).h
  exact Kept.refl
  exact Nat.le_refl _
  dsimp only [Kept_mk]
  refine Keeps.of ?_ ?_
  refine Kept.trans ?_ (State_supplyAll_kept).h
  exact Kept.refl
  exact Nat.le_refl _

theorem State_agLine_kept {s : State} {i : Nat} : KeptO s (@State.agLine s i) := by
  unfold State.agLine
  try dsimp only
  split
  exact KeptO.none_
  split
  exact KeptO.none_
  refine KeptO.ite ?_ ?_
  exact KeptO.none_
  split
  exact KeptO.none_
  refine KeptO.ite ?_ ?_
  exact KeptO.none_
  refine KeptO.some_ ?_
  dsimp only [Kept_mk]
  refine Keeps.of ?_ ?_
  refine Kept.trans ?_ State_setCore_kept
  refine Kept.trans ?_ State_markSlot_kept
  refine Kept.trans ?_ State_pokeBytes_kept
  exact Kept.refl
  first | exact Nat.le_refl _ | exact Nat.le_max_left _ _

theorem State_agRun_kept {i n : Nat} {s : State} : Kept s (State.agRun i n s) := by
  induction n generalizing s with
  | zero => exact Kept.refl
  | succ n ih =>
    unfold State.agRun
    split
    · next h => exact (KeptO.of h State_agLine_kept).trans ih
    · exact Kept.refl

theorem execColGatherData_kept {rec_ : Nat} {s : State} : KeptN s (@execColGatherData rec_ s) := by
  unfold execColGatherData
  try dsimp only
  refine KeptN.mk_ ?_
  split
  refine Kept.trans ?_ (KeptP.of (by assumption) State_colTake_kept)
  exact Kept.refl
  split
  refine Kept.trans ?_ State_colError_kept
  refine Kept.trans ?_ (KeptP.of (by assumption) State_colTake_kept)
  exact Kept.refl
  refine Kept.foldl ?_ ?_
  refine Kept.trans ?_ State_colComplete_kept
  refine Kept.trans ?_ State_setTruss_kept
  refine Kept.foldl1 ?_ ?_ <;> try dsimp only
  refine KeptP.mk_ ?_
  refine Kept.trans ?_ (KeptP.of (by assumption) State_colTake_kept)
  exact Kept.refl
  intro _
  intro _
  intro _
  refine KeptP.ite ?_ ?_
  refine KeptP.mk_ ?_
  refine Kept.trans ?_ (State_colStore_kept).h
  exact Kept.refl
  refine KeptP.mk_ ?_
  exact Kept.refl
  intro _
  intro _
  refine Kept.trans ?_ State_agRun_kept
  exact Kept.refl

theorem State_trsCmd_kept {s : State} {p : Nat} {id : Nat} {op : Nat} : Kept s (@State.trsCmd s p id op) := by
  unfold State.trsCmd
  try dsimp only
  refine Kept.trans ?_ State_setReg_kept
  exact Kept.refl

theorem execTrussInstall_kept {p : BitVec 3} {src : Sys2Proof.Src} {id : BitVec 12} {s : State} : KeptN s (@execTrussInstall p src id s) := by
  unfold execTrussInstall
  try dsimp only
  refine KeptN.mk_ ?_
  refine Kept.trans ?_ (State_accessW_kept ?_)
  exact Kept.refl
  intro _
  refine Kept.ite ?_ ?_
  refine Kept.trans ?_ State_trsCmd_kept
  exact Kept.refl
  refine Kept.ite ?_ ?_
  refine Kept.trans ?_ State_cmdDone_kept
  refine Kept.trans ?_ State_trsCmd_kept
  exact Kept.refl
  split
  refine Kept.trans ?_ State_cmdDone_kept
  refine Kept.trans ?_ State_trsCmd_kept
  exact Kept.refl
  refine Kept.ite ?_ ?_
  refine Kept.trans ?_ State_cmdDone_kept
  refine Kept.trans ?_ (KeptOP.of (by assumption) State_vload_kept)
  refine Kept.trans ?_ State_trsCmd_kept
  exact Kept.refl
  split
  refine Kept.trans ?_ State_cmdDone_kept
  refine Kept.trans ?_ (KeptOP.of (by assumption) State_vload_kept)
  refine Kept.trans ?_ State_trsCmd_kept
  exact Kept.refl
  refine Kept.ite ?_ ?_
  refine Kept.trans ?_ State_cmdDone_kept
  refine Kept.trans ?_ (KeptOP.of (by assumption) State_vload_kept)
  refine Kept.trans ?_ (KeptOP.of (by assumption) State_vload_kept)
  refine Kept.trans ?_ State_trsCmd_kept
  exact Kept.refl
  split
  refine Kept.trans ?_ State_cmdDone_kept
  refine Kept.trans ?_ (KeptOP.of (by assumption) State_vload_kept)
  refine Kept.trans ?_ (KeptOP.of (by assumption) State_vload_kept)
  refine Kept.trans ?_ State_trsCmd_kept
  exact Kept.refl
  refine Kept.ite ?_ ?_
  refine Kept.trans ?_ State_cmdDone_kept
  refine Kept.trans ?_ State_setTruss_kept
  refine Kept.trans ?_ (KeptOP.of (by assumption) State_vload_kept)
  refine Kept.trans ?_ (KeptOP.of (by assumption) State_vload_kept)
  refine Kept.trans ?_ State_trsCmd_kept
  exact Kept.refl
  refine Kept.trans ?_ State_cmdDone_kept
  refine Kept.trans ?_ (KeptOP.of (by assumption) State_vload_kept)
  refine Kept.trans ?_ (KeptOP.of (by assumption) State_vload_kept)
  refine Kept.trans ?_ State_trsCmd_kept
  exact Kept.refl

theorem execTrussRetire_kept {p : BitVec 3} {src : Sys2Proof.Src} {id : BitVec 12} {s : State} : KeptN s (@execTrussRetire p src id s) := by
  unfold execTrussRetire
  try dsimp only
  refine KeptN.mk_ ?_
  refine Kept.trans ?_ (State_accessW_kept ?_)
  exact Kept.refl
  intro _
  split
  refine Kept.trans ?_ State_cmdDone_kept
  refine Kept.trans ?_ State_trsCmd_kept
  exact Kept.refl
  refine Kept.ite ?_ ?_
  refine Kept.trans ?_ State_cmdDone_kept
  refine Kept.trans ?_ State_trsCmd_kept
  exact Kept.refl
  refine Kept.trans ?_ State_cmdDone_kept
  dsimp only [Kept_mk]
  refine Keeps.of ?_ ?_
  refine Kept.trans ?_ State_trsCmd_kept
  exact Kept.refl
  first | exact Nat.le_refl _ | exact Nat.le_max_left _ _

theorem State_endStep_kept {s : State} {P : Nat} {i : Nat} {pos : Nat} : Kept s (@State.endStep s P i pos) := by
  unfold State.endStep
  try dsimp only
  split
  exact Kept.refl
  split
  exact Kept.refl
  split
  refine Kept.foldl ?_ ?_
  exact Kept.refl
  intro _
  intro _
  split
  exact Kept.refl
  refine Kept.ite ?_ ?_
  refine Kept.trans ?_ State_setTruss_kept
  exact Kept.refl
  refine Kept.trans ?_ State_setTruss_kept
  refine Kept.trans ?_ State_deliverBlock_kept
  exact Kept.refl
  refine Kept.trans ?_ State_spineEvent_kept
  refine Kept.trans ?_ State_engineSignal_kept
  refine Kept.trans ?_ State_setTruss_kept
  refine Kept.foldl ?_ ?_
  refine Kept.foldl ?_ ?_
  exact Kept.refl
  intro _
  intro _
  split
  exact Kept.refl
  refine Kept.ite ?_ ?_
  refine Kept.trans ?_ State_setTruss_kept
  exact Kept.refl
  refine Kept.trans ?_ State_setTruss_kept
  refine Kept.trans ?_ State_deliverBlock_kept
  exact Kept.refl
  intro _
  intro _
  refine Kept.trans ?_ State_poolRelease_kept
  exact Kept.refl

theorem execColTimeout_kept {p : BitVec 3} {id : BitVec 12} {pos : Nat} {s : State} : KeptN s (@execColTimeout p id pos s) := by
  unfold execColTimeout
  try dsimp only
  refine KeptN.mk_ ?_
  split
  exact Kept.refl
  split
  exact Kept.refl
  refine Kept.ite ?_ ?_
  exact Kept.refl
  refine Kept.trans ?_ State_inspect_kept
  refine Kept.trans ?_ State_count_kept
  refine Kept.trans ?_ State_endStep_kept
  exact Kept.refl

end Sys2Proof.Laws
end

