-- ==== Sys2Proof/Laws/KeptTile.lean ====
section
/-! SUPPORT. What the operations of Machine/Tile.lean keep. -/
namespace Sys2Proof.Laws
open Sys2Proof Sys2Proof.Machine

theorem State_issueLong_kept {s : State} {c : Nat} {op : Nat} {legal0 : Sys2Proof.Word → Bool} {legal : Sys2Proof.Word → Words3 → Bool} {f : State → Nat → Sys2Proof.Word → Words3 → State} (hf : ∀ x a1 a2 a3, Kept x (f x a1 a2 a3)) : Kept s (@State.issueLong s c op legal0 legal f) := by
  unfold State.issueLong
  try dsimp only
  refine Kept.trans ?_ (State_issue_kept ?_)
  exact Kept.refl
  intro _
  intro _
  intro _
  refine Kept.ite ?_ ?_
  refine Kept.trans ?_ State_illegal_kept
  exact Kept.refl
  refine Kept.ite ?_ ?_
  refine Kept.trans ?_ State_faultCtx_kept
  exact Kept.refl
  refine Kept.ite ?_ ?_
  refine Kept.trans ?_ State_illegal_kept
  exact Kept.refl
  refine Kept.ite ?_ ?_
  refine Kept.trans ?_ State_illegal_kept
  exact Kept.refl
  refine Kept.trans ?_ (hf _ _ _ _)
  exact Kept.refl

theorem State_addAg_kept {s : State} {c : Nat} {a : TileArgs} {ring : Nat} : Kept s (@State.addAg s c a ring) := by
  unfold State.addAg
  try dsimp only
  split
  exact Kept.refl
  split
  exact Kept.refl
  dsimp only [Kept_mk]
  refine Keeps.of ?_ ?_
  exact Kept.refl
  first | exact Nat.le_refl _ | exact Nat.le_max_left _ _

theorem State_tileIssued_kept {s : State} {c : Nat} {x : Nat} : Kept s (@State.tileIssued s c x) := by
  unfold State.tileIssued
  try dsimp only
  refine Kept.ite ?_ ?_
  refine Kept.trans ?_ State_setCtx_kept
  refine Kept.trans ?_ State_depart_kept
  exact Kept.refl
  refine Kept.trans ?_ State_setCtx_kept
  exact Kept.refl

theorem State_tile_kept {s : State} {c : Nat} {opc : Nat} {op : TileOp} : Kept s (@State.tile s c opc op) := by
  unfold State.tile
  try dsimp only
  refine Kept.trans ?_ (State_issueLong_kept ?_)
  exact Kept.refl
  intro _
  intro _
  intro _
  intro _
  refine Kept.ite ?_ ?_
  refine Kept.trans ?_ State_illegal_kept
  exact Kept.refl
  refine Kept.ite ?_ ?_
  refine Kept.trans ?_ State_illegal_kept
  exact Kept.refl
  split
  refine Kept.trans ?_ State_faultCtx_kept
  exact Kept.refl
  refine Kept.ite ?_ ?_
  exact Kept.refl
  refine Kept.trans ?_ State_tileIssued_kept
  refine Kept.ite ?_ ?_
  refine Kept.trans ?_ State_addAg_kept
  refine Kept.trans ?_ State_setCore_kept
  exact Kept.refl
  refine Kept.trans ?_ State_setCore_kept
  exact Kept.refl

theorem execMmul_kept {core : Sys2Proof.CoreAddr} {s : State} : KeptN s (@execMmul core s) := by
  unfold execMmul
  try dsimp only
  refine KeptN.mk_ ?_
  refine Kept.trans ?_ State_tile_kept
  exact Kept.refl

theorem execMmulRs_kept {core : Sys2Proof.CoreAddr} {s : State} : KeptN s (@execMmulRs core s) := by
  unfold execMmulRs
  try dsimp only
  refine KeptN.mk_ ?_
  refine Kept.trans ?_ State_tile_kept
  exact Kept.refl

theorem execMmulAg_kept {core : Sys2Proof.CoreAddr} {s : State} : KeptN s (@execMmulAg core s) := by
  unfold execMmulAg
  try dsimp only
  refine KeptN.mk_ ?_
  refine Kept.trans ?_ State_tile_kept
  exact Kept.refl

theorem execMmulAr_kept {core : Sys2Proof.CoreAddr} {s : State} : KeptN s (@execMmulAr core s) := by
  unfold execMmulAr
  try dsimp only
  refine KeptN.mk_ ?_
  refine Kept.trans ?_ State_tile_kept
  exact Kept.refl

theorem execCsend_kept {core : Sys2Proof.CoreAddr} {s : State} : KeptN s (@execCsend core s) := by
  unfold execCsend
  try dsimp only
  refine KeptN.mk_ ?_
  refine Kept.trans ?_ (State_issueLong_kept ?_)
  exact Kept.refl
  intro _
  intro _
  intro _
  intro _
  refine Kept.ite ?_ ?_
  refine Kept.trans ?_ State_illegal_kept
  exact Kept.refl
  split
  refine Kept.trans ?_ State_illegal_kept
  exact Kept.refl
  split
  refine Kept.trans ?_ State_illegal_kept
  exact Kept.refl
  refine Kept.ite ?_ ?_
  refine Kept.trans ?_ State_illegal_kept
  exact Kept.refl
  split
  refine Kept.trans ?_ State_faultCtx_kept
  exact Kept.refl
  refine Kept.ite ?_ ?_
  exact Kept.refl
  refine Kept.trans ?_ State_setCtx_kept
  dsimp only [Kept_mk]
  refine Keeps.of ?_ ?_
  exact Kept.refl
  first | exact Nat.le_refl _ | exact Nat.le_max_left _ _

theorem State_ringRead_kept {s : State} {c : Nat} {ring : Nat} {lf : Nat} : KeptOP s (@State.ringRead s c ring lf) := by
  unfold State.ringRead
  try dsimp only
  refine KeptOP.ite ?_ ?_
  exact KeptOP.none_
  refine KeptOP.some_ ?_
  refine Kept.trans ?_ State_setCore_kept
  exact Kept.refl

theorem State_sqMismatch_kept {s : State} {c : Nat} {t : Tile} {src : Nat} {row : Nat} {npass : Nat} {kpass : Nat} : Kept s (@State.sqMismatch s c t src row npass kpass) := by
  unfold State.sqMismatch
  try dsimp only
  refine Kept.trans ?_ State_suspect_kept
  refine Kept.trans ?_ State_cause_kept
  refine Kept.trans ?_ State_event_kept
  refine Kept.trans ?_ State_latchBy_kept
  refine Kept.trans ?_ State_count_kept
  exact Kept.refl

theorem State_foldRow_kept {s : State} {c : Nat} {r : Run} {q : Nat} {i : Nat} {al : List Line} {wl0 : List Line} {errs : List ArrayFault} : KeptP s (@State.foldRow s c r q i al wl0 errs) := by
  unfold State.foldRow
  try dsimp only
  refine KeptP.ite ?_ ?_
  refine KeptP.mk_ ?_
  refine Kept.ite ?_ ?_
  refine Kept.trans ?_ State_count_kept
  exact Kept.refl
  exact Kept.refl
  split
  refine KeptP.mk_ ?_
  exact Kept.refl
  refine KeptP.mk_ ?_
  refine Kept.foldl ?_ ?_
  refine Kept.ite ?_ ?_
  refine Kept.trans ?_ State_sqMismatch_kept
  refine Kept.ite ?_ ?_
  refine Kept.trans ?_ State_count_kept
  exact Kept.refl
  exact Kept.refl
  refine Kept.ite ?_ ?_
  refine Kept.trans ?_ State_count_kept
  exact Kept.refl
  exact Kept.refl
  intro _
  intro _
  refine Kept.ite ?_ ?_
  refine Kept.trans ?_ State_sqMismatch_kept
  exact Kept.refl
  exact Kept.refl

theorem State_rowLeaves_kept {s : State} {c : Nat} {r : Run} {q : Nat} {i : Nat} {al : List Line} {wl : List Line} {errs : List ArrayFault} : KeptP s (@State.rowLeaves s c r q i al wl errs) := by
  unfold State.rowLeaves
  try dsimp only
  refine KeptP.ite ?_ ?_
  refine KeptP.mk_ ?_
  refine Kept.trans ?_ (State_foldRow_kept).h
  exact Kept.refl
  refine KeptP.mk_ ?_
  refine Kept.trans ?_ (State_foldRow_kept).h
  exact Kept.refl

theorem execTileStart_kept {core : Sys2Proof.CoreAddr} {s : State} : KeptN s (@execTileStart core s) := by
  unfold execTileStart
  try dsimp only
  refine KeptN.mk_ ?_
  refine Kept.ite ?_ ?_
  exact Kept.refl
  split
  exact Kept.refl
  refine Kept.ite ?_ ?_
  refine Kept.trans ?_ State_idle_kept
  exact Kept.refl
  refine Kept.trans ?_ State_setCore_kept
  exact Kept.refl

theorem State_arrayFirst_kept {s : State} {c : Nat} {r : Run} : Kept s (@State.arrayFirst s c r) := by
  unfold State.arrayFirst
  try dsimp only
  split
  refine Kept.trans ?_ State_idle_kept
  exact Kept.refl
  refine Kept.trans ?_ State_setCore_kept
  refine Kept.trans ?_ (KeptOP.of (by assumption) State_ringRead_kept)
  exact Kept.refl

theorem State_passEnd_kept {s : State} {c : Nat} {r : Run} {w : Option Line} : Kept s (@State.passEnd s c r w) := by
  unfold State.passEnd
  try dsimp only
  refine Kept.ite ?_ ?_
  refine Kept.trans ?_ State_setCore_kept
  exact Kept.refl
  refine Kept.ite ?_ ?_
  refine Kept.trans ?_ State_setCore_kept
  exact Kept.refl
  refine Kept.trans ?_ State_setCore_kept
  exact Kept.refl

theorem State_busy_kept {s : State} {c : Nat} {t : Tile} : Kept s (@State.busy s c t) := by
  unfold State.busy
  try dsimp only
  refine Kept.trans ?_ State_count64_kept
  exact Kept.refl

theorem State_arrayLine_kept {s : State} {c : Nat} {r : Run} {errs : List ArrayFault} : Kept s (@State.arrayLine s c r errs) := by
  unfold State.arrayLine
  try dsimp only
  refine Kept.ite ?_ ?_
  refine Kept.trans ?_ State_idle_kept
  exact Kept.refl
  split
  refine Kept.trans ?_ State_idle_kept
  exact Kept.refl
  split
  refine Kept.trans ?_ State_idle_kept
  exact Kept.refl
  refine Kept.ite ?_ ?_
  refine Kept.trans ?_ State_passEnd_kept
  refine Kept.ite1 ?_ ?_
  refine KeptP.trans ?_ State_rowLeaves_kept
  refine Kept.ite ?_ ?_
  refine Kept.trans ?_ State_busy_kept
  refine KeptOP.of (by assumption) ?_
  refine KeptOP.ite ?_ ?_
  refine KeptOP.trans ?_ State_ringRead_kept
  refine Kept.trans ?_ (KeptOP.of (by assumption) State_ringRead_kept)
  exact Kept.refl
  refine KeptOP.some_ ?_
  refine Kept.trans ?_ (KeptOP.of (by assumption) State_ringRead_kept)
  exact Kept.refl
  refine KeptOP.of (by assumption) ?_
  refine KeptOP.ite ?_ ?_
  refine KeptOP.trans ?_ State_ringRead_kept
  refine Kept.trans ?_ (KeptOP.of (by assumption) State_ringRead_kept)
  exact Kept.refl
  refine KeptOP.some_ ?_
  refine Kept.trans ?_ (KeptOP.of (by assumption) State_ringRead_kept)
  exact Kept.refl
  refine KeptP.ite ?_ ?_
  refine KeptP.trans ?_ State_rowLeaves_kept
  refine Kept.ite ?_ ?_
  refine Kept.trans ?_ State_busy_kept
  refine KeptOP.of (by assumption) ?_
  refine KeptOP.ite ?_ ?_
  refine KeptOP.trans ?_ State_ringRead_kept
  refine Kept.trans ?_ (KeptOP.of (by assumption) State_ringRead_kept)
  exact Kept.refl
  refine KeptOP.some_ ?_
  refine Kept.trans ?_ (KeptOP.of (by assumption) State_ringRead_kept)
  exact Kept.refl
  refine KeptOP.of (by assumption) ?_
  refine KeptOP.ite ?_ ?_
  refine KeptOP.trans ?_ State_ringRead_kept
  refine Kept.trans ?_ (KeptOP.of (by assumption) State_ringRead_kept)
  exact Kept.refl
  refine KeptOP.some_ ?_
  refine Kept.trans ?_ (KeptOP.of (by assumption) State_ringRead_kept)
  exact Kept.refl
  refine KeptP.mk_ ?_
  refine Kept.ite ?_ ?_
  refine Kept.trans ?_ State_busy_kept
  refine KeptOP.of (by assumption) ?_
  refine KeptOP.ite ?_ ?_
  refine KeptOP.trans ?_ State_ringRead_kept
  refine Kept.trans ?_ (KeptOP.of (by assumption) State_ringRead_kept)
  exact Kept.refl
  refine KeptOP.some_ ?_
  refine Kept.trans ?_ (KeptOP.of (by assumption) State_ringRead_kept)
  exact Kept.refl
  refine KeptOP.of (by assumption) ?_
  refine KeptOP.ite ?_ ?_
  refine KeptOP.trans ?_ State_ringRead_kept
  refine Kept.trans ?_ (KeptOP.of (by assumption) State_ringRead_kept)
  exact Kept.refl
  refine KeptOP.some_ ?_
  refine Kept.trans ?_ (KeptOP.of (by assumption) State_ringRead_kept)
  exact Kept.refl
  refine Kept.ite ?_ ?_
  refine Kept.trans ?_ State_setCore_kept
  refine Kept.ite1 ?_ ?_
  refine KeptP.trans ?_ State_rowLeaves_kept
  refine Kept.ite ?_ ?_
  refine Kept.trans ?_ State_busy_kept
  refine KeptOP.of (by assumption) ?_
  refine KeptOP.ite ?_ ?_
  refine KeptOP.trans ?_ State_ringRead_kept
  refine Kept.trans ?_ (KeptOP.of (by assumption) State_ringRead_kept)
  exact Kept.refl
  refine KeptOP.some_ ?_
  refine Kept.trans ?_ (KeptOP.of (by assumption) State_ringRead_kept)
  exact Kept.refl
  refine KeptOP.of (by assumption) ?_
  refine KeptOP.ite ?_ ?_
  refine KeptOP.trans ?_ State_ringRead_kept
  refine Kept.trans ?_ (KeptOP.of (by assumption) State_ringRead_kept)
  exact Kept.refl
  refine KeptOP.some_ ?_
  refine Kept.trans ?_ (KeptOP.of (by assumption) State_ringRead_kept)
  exact Kept.refl
  refine KeptP.ite ?_ ?_
  refine KeptP.trans ?_ State_rowLeaves_kept
  refine Kept.ite ?_ ?_
  refine Kept.trans ?_ State_busy_kept
  refine KeptOP.of (by assumption) ?_
  refine KeptOP.ite ?_ ?_
  refine KeptOP.trans ?_ State_ringRead_kept
  refine Kept.trans ?_ (KeptOP.of (by assumption) State_ringRead_kept)
  exact Kept.refl
  refine KeptOP.some_ ?_
  refine Kept.trans ?_ (KeptOP.of (by assumption) State_ringRead_kept)
  exact Kept.refl
  refine KeptOP.of (by assumption) ?_
  refine KeptOP.ite ?_ ?_
  refine KeptOP.trans ?_ State_ringRead_kept
  refine Kept.trans ?_ (KeptOP.of (by assumption) State_ringRead_kept)
  exact Kept.refl
  refine KeptOP.some_ ?_
  refine Kept.trans ?_ (KeptOP.of (by assumption) State_ringRead_kept)
  exact Kept.refl
  refine KeptP.mk_ ?_
  refine Kept.ite ?_ ?_
  refine Kept.trans ?_ State_busy_kept
  refine KeptOP.of (by assumption) ?_
  refine KeptOP.ite ?_ ?_
  refine KeptOP.trans ?_ State_ringRead_kept
  refine Kept.trans ?_ (KeptOP.of (by assumption) State_ringRead_kept)
  exact Kept.refl
  refine KeptOP.some_ ?_
  refine Kept.trans ?_ (KeptOP.of (by assumption) State_ringRead_kept)
  exact Kept.refl
  refine KeptOP.of (by assumption) ?_
  refine KeptOP.ite ?_ ?_
  refine KeptOP.trans ?_ State_ringRead_kept
  refine Kept.trans ?_ (KeptOP.of (by assumption) State_ringRead_kept)
  exact Kept.refl
  refine KeptOP.some_ ?_
  refine Kept.trans ?_ (KeptOP.of (by assumption) State_ringRead_kept)
  exact Kept.refl
  refine Kept.trans ?_ State_setCore_kept
  refine Kept.ite1 ?_ ?_
  refine KeptP.trans ?_ State_rowLeaves_kept
  refine Kept.ite ?_ ?_
  refine Kept.trans ?_ State_busy_kept
  refine KeptOP.of (by assumption) ?_
  refine KeptOP.ite ?_ ?_
  refine KeptOP.trans ?_ State_ringRead_kept
  refine Kept.trans ?_ (KeptOP.of (by assumption) State_ringRead_kept)
  exact Kept.refl
  refine KeptOP.some_ ?_
  refine Kept.trans ?_ (KeptOP.of (by assumption) State_ringRead_kept)
  exact Kept.refl
  refine KeptOP.of (by assumption) ?_
  refine KeptOP.ite ?_ ?_
  refine KeptOP.trans ?_ State_ringRead_kept
  refine Kept.trans ?_ (KeptOP.of (by assumption) State_ringRead_kept)
  exact Kept.refl
  refine KeptOP.some_ ?_
  refine Kept.trans ?_ (KeptOP.of (by assumption) State_ringRead_kept)
  exact Kept.refl
  refine KeptP.ite ?_ ?_
  refine KeptP.trans ?_ State_rowLeaves_kept
  refine Kept.ite ?_ ?_
  refine Kept.trans ?_ State_busy_kept
  refine KeptOP.of (by assumption) ?_
  refine KeptOP.ite ?_ ?_
  refine KeptOP.trans ?_ State_ringRead_kept
  refine Kept.trans ?_ (KeptOP.of (by assumption) State_ringRead_kept)
  exact Kept.refl
  refine KeptOP.some_ ?_
  refine Kept.trans ?_ (KeptOP.of (by assumption) State_ringRead_kept)
  exact Kept.refl
  refine KeptOP.of (by assumption) ?_
  refine KeptOP.ite ?_ ?_
  refine KeptOP.trans ?_ State_ringRead_kept
  refine Kept.trans ?_ (KeptOP.of (by assumption) State_ringRead_kept)
  exact Kept.refl
  refine KeptOP.some_ ?_
  refine Kept.trans ?_ (KeptOP.of (by assumption) State_ringRead_kept)
  exact Kept.refl
  refine KeptP.mk_ ?_
  refine Kept.ite ?_ ?_
  refine Kept.trans ?_ State_busy_kept
  refine KeptOP.of (by assumption) ?_
  refine KeptOP.ite ?_ ?_
  refine KeptOP.trans ?_ State_ringRead_kept
  refine Kept.trans ?_ (KeptOP.of (by assumption) State_ringRead_kept)
  exact Kept.refl
  refine KeptOP.some_ ?_
  refine Kept.trans ?_ (KeptOP.of (by assumption) State_ringRead_kept)
  exact Kept.refl
  refine KeptOP.of (by assumption) ?_
  refine KeptOP.ite ?_ ?_
  refine KeptOP.trans ?_ State_ringRead_kept
  refine Kept.trans ?_ (KeptOP.of (by assumption) State_ringRead_kept)
  exact Kept.refl
  refine KeptOP.some_ ?_
  refine Kept.trans ?_ (KeptOP.of (by assumption) State_ringRead_kept)
  exact Kept.refl

theorem State_arrayClose_kept {s : State} {c : Nat} {r : Run} {errs : List ArrayFault} : Kept s (@State.arrayClose s c r errs) := by
  unfold State.arrayClose
  try dsimp only
  refine Kept.ite ?_ ?_
  refine Kept.trans ?_ State_setCore_kept
  refine Kept.trans ?_ (State_rowLeaves_kept).h
  refine Kept.ite ?_ ?_
  refine Kept.trans ?_ State_busy_kept
  exact Kept.refl
  exact Kept.refl
  refine Kept.ite ?_ ?_
  refine Kept.trans ?_ State_setCore_kept
  refine Kept.trans ?_ (State_rowLeaves_kept).h
  refine Kept.ite ?_ ?_
  refine Kept.trans ?_ State_busy_kept
  exact Kept.refl
  exact Kept.refl
  refine Kept.ite ?_ ?_
  refine Kept.trans ?_ State_setCore_kept
  refine Kept.trans ?_ (State_rowLeaves_kept).h
  refine Kept.ite ?_ ?_
  refine Kept.trans ?_ State_busy_kept
  exact Kept.refl
  exact Kept.refl
  refine Kept.trans ?_ State_setCore_kept
  refine Kept.trans ?_ (State_rowLeaves_kept).h
  refine Kept.ite ?_ ?_
  refine Kept.trans ?_ State_busy_kept
  exact Kept.refl
  exact Kept.refl

theorem execArrayLineRead_kept {core : CoreAddr} {errs : List ArrayFault} {s : State} : KeptN s (@execArrayLineRead core errs s) := by
  unfold execArrayLineRead
  try dsimp only
  refine KeptN.mk_ ?_
  refine Kept.ite ?_ ?_
  exact Kept.refl
  split
  exact Kept.refl
  refine Kept.ite ?_ ?_
  refine Kept.trans ?_ State_arrayClose_kept
  exact Kept.refl
  refine Kept.ite ?_ ?_
  refine Kept.trans ?_ State_arrayLine_kept
  exact Kept.refl
  refine Kept.trans ?_ State_arrayFirst_kept
  exact Kept.refl

theorem State_nanLatch_kept {s : State} {c : Nat} {t : Tile} {b : Bank} {row : Nat} {col : Nat} : Kept s (@State.nanLatch s c t b row col) := by
  unfold State.nanLatch
  try dsimp only
  refine Kept.trans ?_ State_latchBy_kept
  exact Kept.refl

theorem State_rowSupply_kept {s : State} {c : Nat} {t : Tile} {m : Nat} {n0 : Nat} {enc : List (Nat × Bool)} : Kept s (@State.rowSupply s c t m n0 enc) := by
  unfold State.rowSupply
  try dsimp only
  dsimp only [Kept_mk]
  refine Keeps.of ?_ ?_
  exact Kept.refl
  first | exact Nat.le_refl _ | exact Nat.le_max_left _ _

theorem execRowDrain_kept {core : CoreAddr} {s : State} : KeptN s (@execRowDrain core s) := by
  unfold execRowDrain
  try dsimp only
  refine KeptN.mk_ ?_
  refine Kept.ite ?_ ?_
  exact Kept.refl
  split
  exact Kept.refl
  refine Kept.ite ?_ ?_
  exact Kept.refl
  refine Kept.trans ?_ State_setCore_kept
  refine Kept.ite ?_ ?_
  refine Kept.trans ?_ State_rowSupply_kept
  refine Kept.ite ?_ ?_
  refine Kept.trans ?_ State_pokeP_kept
  refine Kept.ite ?_ ?_
  refine Kept.trans ?_ State_nanLatch_kept
  exact Kept.refl
  exact Kept.refl
  refine Kept.ite ?_ ?_
  refine Kept.trans ?_ State_nanLatch_kept
  exact Kept.refl
  exact Kept.refl
  refine Kept.ite ?_ ?_
  refine Kept.trans ?_ State_pokeP_kept
  refine Kept.ite ?_ ?_
  refine Kept.trans ?_ State_nanLatch_kept
  exact Kept.refl
  exact Kept.refl
  refine Kept.ite ?_ ?_
  refine Kept.trans ?_ State_nanLatch_kept
  exact Kept.refl
  exact Kept.refl

theorem State_tileEnd_kept {s : State} {c : Nat} {r : Run} : Kept s (@State.tileEnd s c r) := by
  unfold State.tileEnd
  try dsimp only
  refine Kept.ite ?_ ?_
  refine Kept.trans ?_ State_faultCtx_kept
  refine Kept.trans ?_ State_event_kept
  exact Kept.refl
  refine Kept.ite ?_ ?_
  refine Kept.trans ?_ State_cause_kept
  refine Kept.trans ?_ State_event_kept
  refine Kept.trans ?_ State_setCtx_kept
  exact Kept.refl
  exact Kept.refl

theorem execTileComplete_kept {core : Sys2Proof.CoreAddr} {s : State} : KeptN s (@execTileComplete core s) := by
  unfold execTileComplete
  try dsimp only
  refine KeptN.mk_ ?_
  refine Kept.ite ?_ ?_
  exact Kept.refl
  split
  exact Kept.refl
  refine Kept.ite ?_ ?_
  exact Kept.refl
  refine Kept.ite ?_ ?_
  refine Kept.trans ?_ State_setCore_kept
  exact Kept.refl
  refine Kept.trans ?_ State_tileEnd_kept
  refine Kept.trans ?_ State_signalDone_kept
  refine Kept.trans ?_ State_setCtx_kept
  refine Kept.trans ?_ State_setCore_kept
  exact Kept.refl

end Sys2Proof.Laws
end

