-- ==== Sys2Proof/Laws/KeptLoader.lean ====
section
/-! SUPPORT. What the operations of Machine/Loader.lean keep. -/
namespace Sys2Proof.Laws
open Sys2Proof Sys2Proof.Machine

theorem State_readRow_kept {s : State} {p : Nat} {base : Nat} {stride : Nat} {fmt : Nat} {kcol : Bool} {nmax : Nat} {len : Nat} {v : Nat} {hint : Nat} : KeptOP s (@State.readRow s p base stride fmt kcol nmax len v hint) := by
  unfold State.readRow
  try dsimp only
  refine KeptOP.map ?_ fun _ _ => rfl
  refine KeptOP.foldl ?_ ?_ ?_
  refine KeptOP.some_ ?_
  exact Kept.refl
  intro _; dsimp only
  exact KeptOP.none_
  intro _; dsimp only
  intro _
  intro _
  split
  refine KeptOP.some_ ?_
  refine Kept.trans ?_ (KeptOP.of (by assumption) State_vload_kept)
  exact Kept.refl
  exact KeptOP.none_

theorem State_ldrCount_kept {s : State} {c : Nat} {bytes : Nat} {clamps : Nat} : Kept s (@State.ldrCount s c bytes clamps) := by
  unfold State.ldrCount
  try dsimp only
  refine Kept.trans ?_ State_count_kept
  refine Kept.trans ?_ State_count64_kept
  exact Kept.refl

theorem Work_put_kept {w : Work} {x : Xfer} {va : Nat} {hint : Nat} {l : List PByte} : KeptW w.s (@Work.put w x va hint l) := by
  unfold Work.put
  try dsimp only
  refine KeptW.ite ?_ ?_
  exact KeptW.refl
  refine KeptW.mk_ ?_
  refine Kept.trans ?_ State_ldrCount_kept
  refine Kept.trans ?_ (State_vstore_kept).h
  exact Kept.refl

theorem Work_putRow_kept {w : Work} {x : Xfer} {base : Nat} {stride : Nat} {fmt : Nat} {kcol : Bool} {nmax : Nat} {v : Nat} {hint : Nat} {a : RowData} : KeptW w.s (@Work.putRow w x base stride fmt kcol nmax v hint a) := by
  unfold Work.putRow
  try dsimp only
  split
  refine KeptW.trans ?_ Work_put_kept
  exact KeptW.refl
  refine KeptW.trans ?_ Work_put_kept
  exact KeptW.refl
  refine KeptW.ite ?_ ?_
  refine KeptW.foldl ?_ ?_ <;> try dsimp only
  exact KeptW.refl
  intro _
  intro _
  refine KeptW.trans ?_ Work_put_kept
  exact KeptW.refl
  refine KeptW.trans ?_ Work_put_kept
  exact KeptW.refl

theorem State_latRow_kept {s : State} {lat : Bool} {p : Nat} {base : Nat} {stride : Nat} {fmt : Nat} {kcol : Bool} {nmax : Nat} {len : Nat} {v : Nat} : Kept s (@State.latRow s lat p base stride fmt kcol nmax len v) := by
  unfold State.latRow
  try dsimp only
  refine Kept.ite ?_ ?_
  refine Kept.foldl ?_ ?_
  exact Kept.refl
  intro _
  intro _
  refine Kept.trans ?_ State_latRange_kept
  exact Kept.refl
  exact Kept.refl

theorem State_slotRow_kept {s : State} {p : Nat} {base : Nat} {stride : Nat} {nmax : Nat} {len : Nat} {v : Nat} {hint : Nat} : KeptOP s (@State.slotRow s p base stride nmax len v hint) := by
  unfold State.slotRow
  try dsimp only
  refine KeptOP.trans ?_ State_vload_kept
  exact Kept.refl

theorem State_srcRow_kept {s : State} {x : Xfer} {d : Desc} {kcol : Bool} {v : Nat} : KeptOP s (@State.srcRow s x d kcol v) := by
  unfold State.srcRow
  try dsimp only
  refine KeptOP.ite ?_ ?_
  refine KeptOP.map ?_ fun _ _ => rfl
  refine KeptOP.trans ?_ State_slotRow_kept
  refine Kept.trans ?_ State_latRow_kept
  exact Kept.refl
  refine KeptOP.trans ?_ State_readRow_kept
  refine Kept.trans ?_ State_latRow_kept
  exact Kept.refl

theorem Work_copyRow_kept {w : Work} {x : Xfer} {d : Desc} {v : Nat} : KeptW w.s (@Work.copyRow w x d v) := by
  unfold Work.copyRow
  try dsimp only
  refine KeptW.ite ?_ ?_
  exact KeptW.refl
  split
  refine KeptW.mk_ ?_
  exact Kept.refl
  refine KeptW.trans ?_ Work_putRow_kept
  refine KeptW.mk_ ?_
  refine Kept.trans ?_ State_ldrCount_kept
  refine Kept.trans ?_ (KeptOP.of (by assumption) State_srcRow_kept)
  exact Kept.refl

theorem Work_fillRow_kept {w : Work} {x : Xfer} {d : Desc} {v : Nat} : KeptW w.s (@Work.fillRow w x d v) := by
  unfold Work.fillRow
  try dsimp only
  refine KeptW.ite ?_ ?_
  exact KeptW.refl
  refine KeptW.mk_ ?_
  refine Kept.trans ?_ State_ldrCount_kept
  refine Kept.trans ?_ (State_vstore_kept).h
  exact Kept.refl

theorem Work_requantRow_kept {w : Work} {x : Xfer} {d : Desc} {v : Nat} : KeptW w.s (@Work.requantRow w x d v) := by
  unfold Work.requantRow
  try dsimp only
  refine KeptW.ite ?_ ?_
  exact KeptW.refl
  split
  split
  refine KeptW.mk_ ?_
  exact Kept.refl
  split
  refine KeptW.mk_ ?_
  exact Kept.refl
  refine KeptW.ite ?_ ?_
  refine KeptW.trans ?_ Work_putRow_kept
  refine KeptW.mk_ ?_
  refine Kept.trans ?_ State_count_kept
  refine Kept.trans ?_ State_ldrCount_kept
  refine KeptOP.of (by assumption) ?_
  refine KeptOP.ite ?_ ?_
  refine KeptOP.some_ ?_
  refine Kept.trans ?_ (KeptOP.of (by assumption) State_slotRow_kept)
  refine Kept.trans ?_ (KeptOP.of (by assumption) State_srcRow_kept)
  exact Kept.refl
  refine KeptOP.trans ?_ State_vload_kept
  refine Kept.trans ?_ (KeptOP.of (by assumption) State_slotRow_kept)
  refine Kept.trans ?_ (KeptOP.of (by assumption) State_srcRow_kept)
  exact Kept.refl
  refine KeptW.trans ?_ Work_put_kept
  refine KeptW.trans ?_ Work_putRow_kept
  refine KeptW.mk_ ?_
  refine Kept.trans ?_ State_count_kept
  refine Kept.trans ?_ State_ldrCount_kept
  refine KeptOP.of (by assumption) ?_
  refine KeptOP.ite ?_ ?_
  refine KeptOP.some_ ?_
  refine Kept.trans ?_ (KeptOP.of (by assumption) State_slotRow_kept)
  refine Kept.trans ?_ (KeptOP.of (by assumption) State_srcRow_kept)
  exact Kept.refl
  refine KeptOP.trans ?_ State_vload_kept
  refine Kept.trans ?_ (KeptOP.of (by assumption) State_slotRow_kept)
  refine Kept.trans ?_ (KeptOP.of (by assumption) State_srcRow_kept)
  exact Kept.refl
  refine KeptW.mk_ ?_
  exact Kept.refl

theorem Prep_vec_kept {q : Prep} {x : Xfer} {d : Desc} {kcol : Bool} {v : Nat} : Kept q.w.s (q.vec x d kcol v).w.s := by
  unfold Prep.vec
  split
  · exact Kept.refl
  · split
    · exact Kept.refl
    · next h => exact (KeptOP.of h State_srcRow_kept).trans State_ldrCount_kept

theorem State_endXfer_kept {s : State} {x : Xfer} : Kept s (@State.endXfer s x) := by
  unfold State.endXfer
  try dsimp only
  refine Kept.trans ?_ State_faultCtx_kept
  refine Kept.trans ?_ State_dropXfer_kept
  exact Kept.refl

theorem Prep_fold_kept {q : Prep} {x : Xfer} {d : Desc} {kcol : Bool} {l : List Nat} {s : State} (h : Kept s q.w.s) :
    Kept s (l.foldl (fun q v => q.vec x d kcol v) q).w.s := by
  induction l generalizing q with
  | nil => exact h
  | cons a l ih => exact ih (h.trans Prep_vec_kept)

theorem State_beginXfer_kept {s : State} {x : Xfer} : Kept s (s.beginXfer x) := by
  have hd : ∀ (w : Work) (y : Xfer), Kept s w.s →
      Kept s (if w.bad then w.s.endXfer x else w.s.putXfer y) := fun w y h =>
    Kept.ite (h.trans State_endXfer_kept) (h.trans State_putXfer_kept)
  have hs : ∀ (q : Prep) (y : Xfer), Kept s q.w.s →
      Kept s (if q.w.bad then q.w.s.endXfer x else q.w.s.putXfer y) := fun q y h =>
    Kept.ite (h.trans State_endXfer_kept) (h.trans State_putXfer_kept)
  unfold State.beginXfer
  dsimp only
  split
  · exact hd _ _ (KeptW.h (KeptW.foldl (KeptW.mk_ Kept.refl) fun _ _ => Work_copyRow_kept))
  · exact hd _ _ (KeptW.h (KeptW.foldl (KeptW.mk_ Kept.refl) fun _ _ => Work_requantRow_kept))
  · exact hd _ _ (KeptW.h (KeptW.foldl (KeptW.mk_ Kept.refl) fun _ _ => Work_fillRow_kept))
  · exact hs _ _ (Prep_fold_kept Kept.refl)
  · exact hs _ _ (Prep_fold_kept Kept.refl)
  · exact Kept.refl

theorem State_beginAll_kept {bay n : Nat} {s : State} : Kept s (State.beginAll bay n s) := by
  induction n generalizing s with
  | zero => exact Kept.refl
  | succ n ih =>
    unfold State.beginAll
    dsimp only
    split
    · split
      · exact State_beginXfer_kept.trans ih
      · exact Kept.refl
    · exact Kept.refl

theorem State_xfer_kept {s : State} {c : Nat} {kind : Nat} {f : State → Xfer → Nat → State} (hf : ∀ x a1 a2, Kept x (f x a1 a2)) : Kept s (@State.xfer s c kind f) := by
  unfold State.xfer
  try dsimp only
  refine Kept.trans ?_ (State_issueLong_kept ?_)
  exact Kept.refl
  intro _
  intro _
  intro _
  intro _
  refine Kept.ite ?_ ?_
  refine Kept.trans ?_ State_illegal_kept
  exact Kept.refl
  refine Kept.ite ?_ ?_
  refine Kept.trans ?_ State_faultCtx_kept
  exact Kept.refl
  refine Kept.ite ?_ ?_
  exact Kept.refl
  split
  refine Kept.trans ?_ State_faultCtx_kept
  exact Kept.refl
  split
  refine Kept.trans ?_ State_illegal_kept
  exact Kept.refl
  refine Kept.trans ?_ State_faultCtx_kept
  exact Kept.refl
  refine Kept.trans ?_ State_faultCtx_kept
  exact Kept.refl
  refine Kept.ite ?_ ?_
  exact Kept.refl
  refine Kept.trans ?_ (hf _ _ _)
  refine Kept.trans ?_ State_setCtx_kept
  dsimp only [Kept_mk]
  refine Keeps.of ?_ ?_
  exact Kept.refl
  first | exact Nat.le_refl _ | exact Nat.le_max_left _ _

theorem State_queueXfer_kept {s : State} {t : Xfer} {h_x : Nat} : Kept s (@State.queueXfer s t h_x) := by
  unfold State.queueXfer
  try dsimp only
  refine Kept.trans ?_ State_beginAll_kept
  dsimp only [Kept_mk]
  refine Keeps.of ?_ ?_
  exact Kept.refl
  first | exact Nat.le_refl _ | exact Nat.le_max_left _ _

theorem execCopy_kept {core : Sys2Proof.CoreAddr} {s : State} : KeptN s (@execCopy core s) := by
  unfold execCopy
  try dsimp only
  refine KeptN.mk_ ?_
  refine Kept.trans ?_ (State_xfer_kept ?_)
  exact Kept.refl
  intro _
  intro _
  intro _
  refine Kept.trans ?_ State_queueXfer_kept
  exact Kept.refl

theorem execAstream_kept {core : Sys2Proof.CoreAddr} {s : State} : KeptN s (@execAstream core s) := by
  unfold execAstream
  try dsimp only
  refine KeptN.mk_ ?_
  refine Kept.trans ?_ (State_xfer_kept ?_)
  exact Kept.refl
  intro _
  intro _
  intro _
  refine Kept.trans ?_ State_queueXfer_kept
  exact Kept.refl

theorem execWstream_kept {core : Sys2Proof.CoreAddr} {s : State} : KeptN s (@execWstream core s) := by
  unfold execWstream
  try dsimp only
  refine KeptN.mk_ ?_
  refine Kept.trans ?_ (State_xfer_kept ?_)
  exact Kept.refl
  intro _
  intro _
  intro _
  refine Kept.trans ?_ State_queueXfer_kept
  exact Kept.refl

theorem execRequant_kept {core : Sys2Proof.CoreAddr} {s : State} : KeptN s (@execRequant core s) := by
  unfold execRequant
  try dsimp only
  refine KeptN.mk_ ?_
  refine Kept.trans ?_ (State_xfer_kept ?_)
  exact Kept.refl
  intro _
  intro _
  intro _
  refine Kept.trans ?_ State_queueXfer_kept
  exact Kept.refl

theorem execFill_kept {core : Sys2Proof.CoreAddr} {s : State} : KeptN s (@execFill core s) := by
  unfold execFill
  try dsimp only
  refine KeptN.mk_ ?_
  refine Kept.trans ?_ (State_xfer_kept ?_)
  exact Kept.refl
  intro _
  intro _
  intro _
  refine Kept.trans ?_ State_queueXfer_kept
  exact Kept.refl

theorem execRingOpen_kept {core : Sys2Proof.CoreAddr} {s : State} : KeptN s (@execRingOpen core s) := by
  unfold execRingOpen
  try dsimp only
  refine KeptN.mk_ ?_
  refine Kept.trans ?_ (State_xfer_kept ?_)
  exact Kept.refl
  intro _
  intro _
  intro _
  dsimp only [Kept_mk]
  refine Keeps.of ?_ ?_
  refine Kept.trans ?_ State_setCore_kept
  exact Kept.refl
  first | exact Nat.le_refl _ | exact Nat.le_max_left _ _

theorem execRingClose_kept {core : Sys2Proof.CoreAddr} {s : State} : KeptN s (@execRingClose core s) := by
  unfold execRingClose
  try dsimp only
  refine KeptN.mk_ ?_
  refine Kept.trans ?_ (State_xfer_kept ?_)
  exact Kept.refl
  intro _
  intro _
  intro _
  dsimp only [Kept_mk]
  refine Keeps.of ?_ ?_
  refine Kept.trans ?_ State_setCore_kept
  exact Kept.refl
  first | exact Nat.le_refl _ | exact Nat.le_max_left _ _

theorem State_ringMarks_kept {s : State} {c : Nat} {g : Ring} {slots : List Nat} : Kept s (@State.ringMarks s c g slots) := by
  unfold State.ringMarks
  try dsimp only
  refine Kept.foldl ?_ ?_
  exact Kept.refl
  intro _
  intro _
  refine Kept.trans ?_ State_markGranule_kept
  exact Kept.refl

theorem execRingCloseComplete_kept {core : Sys2Proof.CoreAddr} {ring : BitVec 3} {s : State} : KeptN s (@execRingCloseComplete core ring s) := by
  unfold execRingCloseComplete
  try dsimp only
  refine KeptN.mk_ ?_
  refine Kept.ite ?_ ?_
  exact Kept.refl
  dsimp only [Kept_mk]
  refine Keeps.of ?_ ?_
  refine Kept.trans ?_ State_ringMarks_kept
  refine Kept.trans ?_ State_setCore_kept
  exact Kept.refl
  first | exact Nat.le_refl _ | exact Nat.le_max_left _ _

theorem State_fmtError_kept {s : State} {x : Xfer} {e : Nat × Nat × Nat} : Kept s (@State.fmtError s x e) := by
  unfold State.fmtError
  try dsimp only
  refine Kept.trans ?_ State_event_kept
  refine Kept.trans ?_ State_latch_kept
  refine Kept.trans ?_ State_count_kept
  exact Kept.refl

theorem State_layVec_kept {s : State} {x : Xfer} {lf : Nat} {nmax : Nat} {v : Vec} {p : Nat} : Kept s (@State.layVec s x lf nmax v p) := by
  unfold State.layVec
  try dsimp only
  refine Kept.foldl ?_ ?_
  refine Kept.trans ?_ State_count_kept
  exact Kept.refl
  intro _
  intro _
  refine Kept.trans ?_ State_fmtError_kept
  exact Kept.refl

theorem execLineProduce_kept {xfer : Nat} {s : State} : KeptN s (@execLineProduce xfer s) := by
  unfold execLineProduce
  try dsimp only
  refine KeptN.mk_ ?_
  split
  refine KeptO.getD ?_ ?_
  refine KeptO.trans ?_ State_agLine_kept
  exact Kept.refl
  exact Kept.refl
  refine Kept.ite ?_ ?_
  exact Kept.refl
  refine Kept.ite ?_ ?_
  refine Kept.trans ?_ State_idle_kept
  exact Kept.refl
  refine Kept.trans ?_ State_putXfer_kept
  refine Kept.foldl ?_ ?_
  refine Kept.trans ?_ State_ldrCount_kept
  refine Kept.trans ?_ State_setCore_kept
  refine Kept.trans ?_ State_markSlot_kept
  refine Kept.trans ?_ State_pokeBytes_kept
  exact Kept.refl
  intro _
  intro _
  refine Kept.trans ?_ State_layVec_kept
  exact Kept.refl

theorem State_vword_kept {s : State} {p : Nat} {a : Nat} {hint : Nat} : KeptOP s (@State.vword s p a hint) := by
  unfold State.vword
  try dsimp only
  refine KeptOP.map ?_ fun _ _ => rfl
  refine KeptOP.trans ?_ State_vload_kept
  exact Kept.refl

theorem State_bagEntries_kept {s : State} {p : Nat} {g : Gather} {b : Nat} {c : Nat} : KeptOP s (@State.bagEntries s p g b c) := by
  unfold State.bagEntries
  try dsimp only
  refine KeptOP.foldl ?_ ?_ ?_
  refine KeptOP.some_ ?_
  exact Kept.refl
  intro _; dsimp only
  exact KeptOP.none_
  intro _; dsimp only
  intro _
  intro _
  split
  exact KeptOP.none_
  refine KeptOP.ite ?_ ?_
  split
  exact KeptOP.none_
  refine KeptOP.some_ ?_
  refine Kept.trans ?_ (KeptOP.of (by assumption) State_vword_kept)
  refine Kept.trans ?_ (KeptOP.of (by assumption) State_vword_kept)
  exact Kept.refl
  refine KeptOP.some_ ?_
  refine Kept.trans ?_ (KeptOP.of (by assumption) State_vword_kept)
  exact Kept.refl

theorem State_bagRows_kept {s : State} {p : Nat} {g : Gather} {es : List (Nat × Word × Bool)} : KeptOP s (@State.bagRows s p g es) := by
  unfold State.bagRows
  try dsimp only
  refine KeptOP.foldl ?_ ?_ ?_
  refine KeptOP.some_ ?_
  exact Kept.refl
  intro _
  split
  exact KeptOP.none_
  split
  exact KeptOP.none_
  refine KeptOP.some_ ?_
  refine Kept.trans ?_ (KeptOP.of (by assumption) State_vload_kept)
  refine Kept.ite ?_ ?_
  refine Kept.trans ?_ State_latRange_kept
  refine KeptOP.of (by assumption) ?_
  exact KeptOP.none_
  refine KeptOP.of (by assumption) ?_
  exact KeptOP.none_
  intro _
  intro _
  intro _
  split
  exact KeptOP.none_
  split
  exact KeptOP.none_
  refine KeptOP.some_ ?_
  refine Kept.trans ?_ (KeptOP.of (by assumption) State_vload_kept)
  refine Kept.ite ?_ ?_
  refine Kept.trans ?_ State_latRange_kept
  refine KeptOP.of (by assumption) ?_
  refine KeptOP.some_ ?_
  exact Kept.refl
  refine KeptOP.of (by assumption) ?_
  refine KeptOP.some_ ?_
  exact Kept.refl

theorem State_badBag_kept {s : State} {x : Xfer} {d : Nat} {reason : Nat} {o : Nat} : Kept s (@State.badBag s x d reason o) := by
  unfold State.badBag
  try dsimp only
  refine Kept.trans ?_ State_cause_kept
  refine Kept.trans ?_ State_spineEvent_kept
  refine Kept.trans ?_ State_latch_kept
  refine Kept.trans ?_ State_count_kept
  exact Kept.refl

theorem Work_gatherRow_kept {w : Work} {x : Xfer} {g : Gather} {d : Nat} {o : Nat} : KeptW w.s (@Work.gatherRow w x g d o) := by
  unfold Work.gatherRow
  try dsimp only
  refine KeptW.ite ?_ ?_
  exact KeptW.refl
  split
  refine KeptW.mk_ ?_
  exact Kept.refl
  split
  refine KeptW.mk_ ?_
  exact Kept.refl
  refine KeptW.ite ?_ ?_
  refine KeptW.mk_ ?_
  refine Kept.trans ?_ (State_vstore_kept).h
  refine Kept.trans ?_ (KeptOP.of (by assumption) State_vword_kept)
  refine Kept.trans ?_ (KeptOP.of (by assumption) State_vword_kept)
  exact Kept.refl
  refine KeptW.ite ?_ ?_
  refine KeptW.mk_ ?_
  refine Kept.trans ?_ (State_vstore_kept).h
  refine Kept.trans ?_ State_badBag_kept
  refine Kept.trans ?_ (KeptOP.of (by assumption) State_vword_kept)
  refine Kept.trans ?_ (KeptOP.of (by assumption) State_vword_kept)
  exact Kept.refl
  refine KeptW.ite ?_ ?_
  refine KeptW.mk_ ?_
  refine Kept.trans ?_ (State_vstore_kept).h
  refine Kept.trans ?_ State_badBag_kept
  refine Kept.trans ?_ (KeptOP.of (by assumption) State_vword_kept)
  refine Kept.trans ?_ (KeptOP.of (by assumption) State_vword_kept)
  exact Kept.refl
  split
  refine KeptW.mk_ ?_
  exact Kept.refl
  refine KeptW.ite ?_ ?_
  refine KeptW.mk_ ?_
  refine Kept.trans ?_ (State_vstore_kept).h
  refine Kept.trans ?_ State_badBag_kept
  refine Kept.trans ?_ (KeptOP.of (by assumption) State_bagEntries_kept)
  refine Kept.trans ?_ (KeptOP.of (by assumption) State_vword_kept)
  refine Kept.trans ?_ (KeptOP.of (by assumption) State_vword_kept)
  exact Kept.refl
  refine KeptW.ite ?_ ?_
  refine KeptW.mk_ ?_
  refine Kept.trans ?_ (State_vstore_kept).h
  refine Kept.trans ?_ (KeptOP.of (by assumption) State_bagEntries_kept)
  refine Kept.trans ?_ (KeptOP.of (by assumption) State_vword_kept)
  refine Kept.trans ?_ (KeptOP.of (by assumption) State_vword_kept)
  exact Kept.refl
  split
  refine KeptW.mk_ ?_
  exact Kept.refl
  refine KeptW.ite ?_ ?_
  refine KeptW.mk_ ?_
  refine Kept.trans ?_ (State_vstore_kept).h
  refine Kept.trans ?_ (KeptOP.of (by assumption) State_bagRows_kept)
  refine Kept.trans ?_ (KeptOP.of (by assumption) State_bagEntries_kept)
  refine Kept.trans ?_ (KeptOP.of (by assumption) State_vword_kept)
  refine Kept.trans ?_ (KeptOP.of (by assumption) State_vword_kept)
  exact Kept.refl
  refine KeptW.mk_ ?_
  refine Kept.trans ?_ (State_vstore_kept).h
  refine Kept.trans ?_ (KeptOP.of (by assumption) State_bagRows_kept)
  refine Kept.trans ?_ (KeptOP.of (by assumption) State_bagEntries_kept)
  refine Kept.trans ?_ (KeptOP.of (by assumption) State_vword_kept)
  refine Kept.trans ?_ (KeptOP.of (by assumption) State_vword_kept)
  exact Kept.refl

theorem execGather_kept {core : CoreAddr} {s : State} : KeptN s (@execGather core s) := by
  unfold execGather
  try dsimp only
  refine KeptN.mk_ ?_
  refine Kept.trans ?_ (State_xfer_kept ?_)
  exact Kept.refl
  intro _
  intro _
  intro _
  split
  refine Kept.trans ?_ State_faultCtx_kept
  refine Kept.trans ?_ State_setCtx_kept
  exact Kept.refl
  refine Kept.trans ?_ State_faultCtx_kept
  refine Kept.trans ?_ State_setCtx_kept
  exact Kept.refl
  refine Kept.ite ?_ ?_
  refine Kept.trans ?_ State_faultCtx_kept
  refine Kept.trans ?_ State_setCtx_kept
  exact Kept.refl
  dsimp only [Kept_mk]
  refine Keeps.of ?_ ?_
  refine KeptW.h ?_
  refine KeptW.foldl ?_ ?_ <;> try dsimp only
  refine KeptW.mk_ ?_
  exact Kept.refl
  intro _
  intro _
  refine KeptW.trans ?_ Work_gatherRow_kept
  exact KeptW.refl
  exact Nat.le_refl _

theorem State_poolRecord_kept {s : State} {d : Nat} {q : Nat} {x : Xfer} {kind : Nat} {buf : Nat} : Kept s (@State.poolRecord s d q x kind buf) := by
  unfold State.poolRecord
  try dsimp only
  refine Kept.trans ?_ State_cause_kept
  refine Kept.trans ?_ State_event_kept
  refine Kept.ite ?_ ?_
  exact Kept.refl
  refine Kept.trans ?_ State_setReg_kept
  exact Kept.refl

theorem State_poolReq_kept {s : State} {c : Nat} {kind : Nat} : Kept s (@State.poolReq s c kind) := by
  unfold State.poolReq
  try dsimp only
  refine Kept.trans ?_ (State_xfer_kept ?_)
  exact Kept.refl
  intro _
  intro _
  intro _
  refine Kept.ite ?_ ?_
  refine Kept.trans ?_ State_setPool_kept
  dsimp only [Kept_mk]
  refine Keeps.of ?_ ?_
  exact Kept.refl
  exact Nat.le_refl _
  refine Kept.trans ?_ State_faultCtx_kept
  refine Kept.trans ?_ State_setCtx_kept
  exact Kept.refl

theorem execPoolAlloc_kept {core : CoreAddr} {s : State} : KeptN s (@execPoolAlloc core s) := by
  unfold execPoolAlloc
  try dsimp only
  refine KeptN.mk_ ?_
  refine Kept.trans ?_ State_poolReq_kept
  exact Kept.refl

theorem execPoolFree_kept {core : CoreAddr} {s : State} : KeptN s (@execPoolFree core s) := by
  unfold execPoolFree
  try dsimp only
  refine KeptN.mk_ ?_
  refine Kept.trans ?_ State_poolReq_kept
  exact Kept.refl

theorem execPoolGive_kept {core : CoreAddr} {s : State} : KeptN s (@execPoolGive core s) := by
  unfold execPoolGive
  try dsimp only
  refine KeptN.mk_ ?_
  refine Kept.trans ?_ State_poolReq_kept
  exact Kept.refl

theorem State_poolAlloc_kept {s : State} {d : Nat} {q : Nat} {t : Xfer} : Kept s (@State.poolAlloc s d q t) := by
  unfold State.poolAlloc
  try dsimp only
  split
  refine Kept.trans ?_ State_allocResult_kept
  refine Kept.trans ?_ State_poolTake_kept
  exact Kept.refl
  refine Kept.ite ?_ ?_
  refine Kept.trans ?_ State_allocResult_kept
  exact Kept.refl
  refine Kept.ite ?_ ?_
  refine Kept.trans ?_ State_setPool_kept
  exact Kept.refl
  refine Kept.trans ?_ State_idle_kept
  refine Kept.trans ?_ State_setPool_kept
  exact Kept.refl

theorem State_poolPut_kept {s : State} {d : Nat} {q : Nat} {t : Xfer} {new : Option Sys2Proof.Word} : Kept s (@State.poolPut s d q t new) := by
  unfold State.poolPut
  try dsimp only
  refine Kept.ite ?_ ?_
  refine Kept.trans ?_ State_faultCtx_kept
  refine Kept.trans ?_ State_dropXfer_kept
  refine Kept.trans ?_ State_poolRecord_kept
  exact Kept.refl
  split
  split
  refine Kept.trans ?_ State_putXfer_kept
  refine Kept.trans ?_ State_poolRecord_kept
  refine Kept.trans ?_ State_count_kept
  exact Kept.refl
  refine Kept.trans ?_ State_faultCtx_kept
  refine Kept.trans ?_ State_dropXfer_kept
  refine Kept.trans ?_ State_poolRecord_kept
  exact Kept.refl
  refine Kept.ite ?_ ?_
  refine Kept.trans ?_ State_faultCtx_kept
  refine Kept.trans ?_ State_dropXfer_kept
  refine Kept.trans ?_ State_poolRecord_kept
  exact Kept.refl
  split
  refine Kept.trans ?_ State_poolServe_kept
  refine Kept.trans ?_ State_poolDrop_kept
  refine Kept.trans ?_ State_putXfer_kept
  exact Kept.refl
  refine Kept.ite ?_ ?_
  refine Kept.trans ?_ State_poolServe_kept
  refine Kept.trans ?_ State_poolDrop_kept
  refine Kept.trans ?_ State_putXfer_kept
  exact Kept.refl
  refine Kept.trans ?_ State_poolTake_kept
  refine Kept.trans ?_ State_putXfer_kept
  exact Kept.refl

theorem State_poolOne_kept {s : State} {d : Nat} {q : Nat} {t : Xfer} : Kept s (@State.poolOne s d q t) := by
  unfold State.poolOne
  try dsimp only
  split
  refine Kept.trans ?_ State_poolAlloc_kept
  exact Kept.refl
  refine Kept.trans ?_ State_poolPut_kept
  exact Kept.refl
  refine Kept.trans ?_ State_poolPut_kept
  exact Kept.refl

theorem State_poolServeAll_kept {d q n : Nat} {l : List Xfer} {s : State} : Kept s (State.poolServeAll d q n l s) := by
  induction n generalizing l s with
  | zero => unfold State.poolServeAll; exact Kept.refl
  | succ n ih =>
    cases l with
    | nil => exact Kept.refl
    | cons x r =>
      unfold State.poolServeAll
      split
      · split
        · exact State_poolOne_kept.trans ih
        · exact State_poolOne_kept.trans ih
      · exact State_poolOne_kept.trans ih

theorem State_poolCycle_kept {s : State} {d : Nat} {q : Nat} : Kept s (@State.poolCycle s d q) := by
  unfold State.poolCycle
  try dsimp only
  refine Kept.ite ?_ ?_
  refine Kept.trans ?_ State_poolReclaim_kept
  refine Kept.trans ?_ State_setFld_kept
  refine Kept.foldl ?_ ?_
  refine Kept.trans ?_ State_poolServeAll_kept
  refine Kept.trans ?_ State_setPool_kept
  exact Kept.refl
  intro _
  intro _
  refine Kept.trans ?_ State_engGrant_kept
  exact Kept.refl
  refine Kept.foldl ?_ ?_
  refine Kept.trans ?_ State_poolServeAll_kept
  refine Kept.trans ?_ State_setPool_kept
  exact Kept.refl
  intro _
  intro _
  refine Kept.trans ?_ State_engGrant_kept
  exact Kept.refl

theorem State_reclaimTag_kept {s : State} {p : Nat} {tag : Word} : Kept s (@State.reclaimTag s p tag) := by
  unfold State.reclaimTag
  try dsimp only
  refine Kept.foldl ?_ ?_
  exact Kept.refl
  intro _
  intro _
  refine Kept.ite ?_ ?_
  refine Kept.trans ?_ State_poolReclaim_kept
  exact Kept.refl
  exact Kept.refl

theorem State_ctxReclaim_kept {s : State} {c : Nat} {x : Nat} : Kept s (@State.ctxReclaim s c x) := by
  unfold State.ctxReclaim
  try dsimp only
  refine Kept.ite ?_ ?_
  split
  refine Kept.trans ?_ State_reclaimTag_kept
  refine Kept.trans ?_ State_setCtx_kept
  exact Kept.refl
  refine Kept.trans ?_ State_setCtx_kept
  exact Kept.refl
  exact Kept.refl

theorem execTransferComplete_kept {send : Bool} {xfer : Nat} {s : State} : KeptN s (@execTransferComplete send xfer s) := by
  unfold execTransferComplete
  try dsimp only
  refine KeptN.mk_ ?_
  refine Kept.ite ?_ ?_
  split
  exact Kept.refl
  refine Kept.ite ?_ ?_
  exact Kept.refl
  refine Kept.trans ?_ State_ctxReclaim_kept
  refine Kept.trans ?_ State_signalDone_kept
  dsimp only [Kept_mk]
  refine Keeps.of ?_ ?_
  exact Kept.refl
  exact Nat.le_refl _
  split
  exact Kept.refl
  refine Kept.ite ?_ ?_
  exact Kept.refl
  refine Kept.trans ?_ State_beginAll_kept
  refine Kept.trans ?_ State_ctxReclaim_kept
  refine Kept.trans ?_ State_signalDone_kept
  refine Kept.ite ?_ ?_
  refine Kept.trans ?_ State_count_kept
  refine Kept.trans ?_ State_count_kept
  refine Kept.trans ?_ State_setCtx_kept
  refine Kept.trans ?_ State_dropXfer_kept
  exact Kept.refl
  refine Kept.trans ?_ State_count_kept
  refine Kept.trans ?_ State_setCtx_kept
  refine Kept.trans ?_ State_dropXfer_kept
  exact Kept.refl

end Sys2Proof.Laws
end

