-- ==== Sys2Proof/Laws/KeptBay.lean ====
section
/-! SUPPORT. What the operations of Machine/Bay.lean keep. -/
namespace Sys2Proof.Laws
open Sys2Proof Sys2Proof.Machine

theorem State_bayGo_kept {s : State} {bay : Nat} {src : Sys2Proof.Src} {cmd : Nat} {ctxs : BitVec 4} {f : State → State × Nat} (hf : ∀ x, KeptP x (f x)) : Kept s (@State.bayGo s bay src cmd ctxs f) := by
  unfold State.bayGo
  try dsimp only
  refine Kept.trans ?_ (State_accessW_kept ?_)
  exact Kept.refl
  intro _
  refine Kept.ite ?_ ?_
  refine Kept.trans ?_ State_count_kept
  exact Kept.refl
  dsimp only [Kept_mk]
  refine Keeps.of ?_ ?_
  refine Kept.ite1 ?_ ?_
  refine KeptP.mk_ ?_
  refine Kept.trans ?_ State_setReg_kept
  exact Kept.refl
  refine KeptP.ite ?_ ?_
  refine KeptP.mk_ ?_
  refine Kept.trans ?_ State_setReg_kept
  exact Kept.refl
  refine KeptP.trans ?_ (hf _)
  refine Kept.trans ?_ State_setReg_kept
  exact Kept.refl
  first | exact Nat.le_refl _ | exact Nat.le_max_left _ _

theorem State_bayLoad_kept {s : State} {bay : Nat} {m : BitVec 4} : KeptP s (@State.bayLoad s bay m) := by
  unfold State.bayLoad
  try dsimp only
  split
  refine KeptP.mk_ ?_
  exact Kept.refl
  split
  refine KeptP.mk_ ?_
  exact Kept.refl
  split
  refine KeptP.mk_ ?_
  refine Kept.trans ?_ (KeptOP.of (by assumption) State_vload_kept)
  exact Kept.refl
  refine KeptP.ite ?_ ?_
  refine KeptP.mk_ ?_
  refine Kept.trans ?_ (KeptOP.of (by assumption) State_vload_kept)
  refine Kept.trans ?_ (KeptOP.of (by assumption) State_vload_kept)
  exact Kept.refl
  refine KeptP.ite ?_ ?_
  refine KeptP.mk_ ?_
  refine Kept.trans ?_ (KeptOP.of (by assumption) State_vload_kept)
  refine Kept.trans ?_ (KeptOP.of (by assumption) State_vload_kept)
  exact Kept.refl
  refine KeptP.mk_ ?_
  refine Kept.foldl ?_ ?_
  refine Kept.foldl ?_ ?_
  refine Kept.trans ?_ (KeptOP.of (by assumption) State_vload_kept)
  refine Kept.trans ?_ (KeptOP.of (by assumption) State_vload_kept)
  exact Kept.refl
  intro _
  intro _
  refine Kept.trans ?_ State_setCore_kept
  exact Kept.refl
  intro _
  intro _
  refine Kept.trans ?_ State_setCtx_kept
  exact Kept.refl

theorem State_startCtx_kept {s : State} {c : Nat} {x : Nat} : Kept s (@State.startCtx s c x) := by
  unfold State.startCtx
  try dsimp only
  refine Kept.ite ?_ ?_
  refine Kept.trans ?_ State_setCtx_kept
  exact Kept.refl
  refine Kept.trans ?_ State_setCtx_kept
  exact Kept.refl

theorem State_resumeCtx_kept {s : State} {c : Nat} {x : Nat} : Kept s (@State.resumeCtx s c x) := by
  unfold State.resumeCtx
  try dsimp only
  refine Kept.ite ?_ ?_
  refine Kept.trans ?_ State_setCtx_kept
  exact Kept.refl
  refine Kept.trans ?_ State_setCtx_kept
  exact Kept.refl

theorem State_startAll_kept {s : State} {prs : List (Nat × Nat)} : Kept s (@State.startAll s prs) := by
  unfold State.startAll
  try dsimp only
  refine Kept.foldl ?_ ?_
  exact Kept.refl
  intro _
  intro _
  refine Kept.trans ?_ State_startCtx_kept
  exact Kept.refl

theorem State_patchRead_kept {s : State} {bay : Nat} : KeptP s (@State.patchRead s bay) := by
  unfold State.patchRead
  try dsimp only
  split
  refine KeptP.mk_ ?_
  exact Kept.refl
  split
  refine KeptP.mk_ ?_
  exact Kept.refl
  refine KeptP.ite ?_ ?_
  refine KeptP.mk_ ?_
  refine Kept.trans ?_ (KeptOP.of (by assumption) State_vload_kept)
  exact Kept.refl
  refine KeptP.mk_ ?_
  refine Kept.trans ?_ (KeptOP.of (by assumption) State_vload_kept)
  exact Kept.refl

theorem State_patchApply_kept {s : State} {bay : Nat} {rs : List Patch} : Kept s (@State.patchApply s bay rs) := by
  unfold State.patchApply
  try dsimp only
  refine Kept.foldl ?_ ?_
  exact Kept.refl
  intro _
  intro _
  refine Kept.foldl ?_ ?_
  exact Kept.refl
  intro _
  intro _
  refine Kept.trans ?_ State_setCtx_kept
  exact Kept.refl

theorem execBayLoad_kept {bay : Nat} {src : Sys2Proof.Src} {ctxs : BitVec 4} {s : State} : KeptN s (@execBayLoad bay src ctxs s) := by
  unfold execBayLoad
  try dsimp only
  refine KeptN.mk_ ?_
  refine Kept.trans ?_ (State_bayGo_kept ?_)
  exact Kept.refl
  intro _
  refine KeptP.trans ?_ State_bayLoad_kept
  exact Kept.refl

theorem execBayPatch_kept {bay : Nat} {src : Src} {ctxs : BitVec 4} {s : State} : KeptN s (@execBayPatch bay src ctxs s) := by
  unfold execBayPatch
  try dsimp only
  refine KeptN.mk_ ?_
  refine Kept.trans ?_ (State_bayGo_kept ?_)
  exact Kept.refl
  intro _
  split
  refine KeptP.mk_ ?_
  refine Kept.trans ?_ (KeptP.of (by assumption) State_patchRead_kept)
  exact Kept.refl
  refine KeptP.ite ?_ ?_
  refine KeptP.mk_ ?_
  refine Kept.trans ?_ (KeptP.of (by assumption) State_patchRead_kept)
  exact Kept.refl
  refine KeptP.mk_ ?_
  refine Kept.trans ?_ State_patchApply_kept
  refine Kept.trans ?_ (KeptP.of (by assumption) State_patchRead_kept)
  exact Kept.refl

theorem execBayStart_kept {bay : Nat} {src : Sys2Proof.Src} {ctxs : BitVec 4} {s : State} : KeptN s (@execBayStart bay src ctxs s) := by
  unfold execBayStart
  try dsimp only
  refine KeptN.mk_ ?_
  refine Kept.trans ?_ (State_bayGo_kept ?_)
  exact Kept.refl
  intro _
  refine KeptP.ite ?_ ?_
  refine KeptP.mk_ ?_
  refine Kept.trans ?_ State_startAll_kept
  exact Kept.refl
  refine KeptP.mk_ ?_
  exact Kept.refl

theorem execBayPatchAndStart_kept {bay : Nat} {src : Sys2Proof.Src} {ctxs : BitVec 4} {s : State} : KeptN s (@execBayPatchAndStart bay src ctxs s) := by
  unfold execBayPatchAndStart
  try dsimp only
  refine KeptN.mk_ ?_
  refine Kept.trans ?_ (State_bayGo_kept ?_)
  exact Kept.refl
  intro _
  split
  refine KeptP.mk_ ?_
  refine Kept.trans ?_ (KeptP.of (by assumption) State_patchRead_kept)
  exact Kept.refl
  refine KeptP.ite ?_ ?_
  refine KeptP.mk_ ?_
  refine Kept.trans ?_ (KeptP.of (by assumption) State_patchRead_kept)
  exact Kept.refl
  refine KeptP.ite ?_ ?_
  refine KeptP.mk_ ?_
  refine Kept.trans ?_ (KeptP.of (by assumption) State_patchRead_kept)
  exact Kept.refl
  refine KeptP.mk_ ?_
  refine Kept.trans ?_ State_startAll_kept
  refine Kept.trans ?_ State_patchApply_kept
  refine Kept.trans ?_ (KeptP.of (by assumption) State_patchRead_kept)
  exact Kept.refl

theorem execBayResume_kept {bay : Nat} {src : Sys2Proof.Src} {ctxs : BitVec 4} {s : State} : KeptN s (@execBayResume bay src ctxs s) := by
  unfold execBayResume
  try dsimp only
  refine KeptN.mk_ ?_
  refine Kept.trans ?_ (State_bayGo_kept ?_)
  exact Kept.refl
  intro _
  refine KeptP.ite ?_ ?_
  refine KeptP.mk_ ?_
  exact Kept.refl
  refine KeptP.mk_ ?_
  refine Kept.foldl ?_ ?_
  exact Kept.refl
  intro _
  intro _
  refine Kept.trans ?_ State_resumeCtx_kept
  exact Kept.refl

theorem execBayCmdUndefined_kept {bay : Nat} {src : Src} {cmd : BitVec 3} {ctxs : BitVec 4} {s : State} : KeptN s (@execBayCmdUndefined bay src cmd ctxs s) := by
  unfold execBayCmdUndefined
  try dsimp only
  refine KeptN.mk_ ?_
  refine Kept.ite ?_ ?_
  exact Kept.refl
  refine Kept.trans ?_ (State_bayGo_kept ?_)
  exact Kept.refl
  intro _
  refine KeptP.mk_ ?_
  exact Kept.refl

theorem execBayCommandDone_kept {bay : Nat} {s : State} : KeptN s (@execBayCommandDone bay s) := by
  unfold execBayCommandDone
  try dsimp only
  refine KeptN.mk_ ?_
  split
  exact Kept.refl
  refine Kept.ite ?_ ?_
  exact Kept.refl
  refine Kept.trans ?_ State_cmdDone_kept
  refine Kept.ite ?_ ?_
  refine Kept.trans ?_ State_setFld_kept
  dsimp only [Kept_mk]
  refine Keeps.of ?_ ?_
  exact Kept.refl
  exact Nat.le_refl _
  refine Kept.trans ?_ State_count_kept
  refine Kept.trans ?_ State_setFld_kept
  dsimp only [Kept_mk]
  refine Keeps.of ?_ ?_
  exact Kept.refl
  exact Nat.le_refl _

theorem execHeldStartRelease_kept {core : Sys2Proof.CoreAddr} {ctx : BitVec 2} {s : State} : KeptN s (@execHeldStartRelease core ctx s) := by
  unfold execHeldStartRelease
  try dsimp only
  refine KeptN.mk_ ?_
  refine Kept.ite ?_ ?_
  exact Kept.refl
  split
  refine Kept.trans ?_ State_setCtx_kept
  exact Kept.refl
  refine Kept.trans ?_ State_setCtx_kept
  exact Kept.refl
  exact Kept.refl

theorem State_window_kept {s : State} {bay : Nat} {src : Src} {k : RKey} {f : State → Nat → Ctx → Option Ctx} :
    Kept s (s.window bay src k f) := by
  unfold State.window
  refine State_accessW_kept fun x => ?_
  split
  · exact State_count_kept
  · split
    · exact State_setCtx_kept
    · exact State_count_kept

theorem execBayCtxPWrite_kept {bay : Nat} {src : Sys2Proof.Src} {i : BitVec 6} {value : Sys2Proof.Word} {s : State} : KeptN s (@execBayCtxPWrite bay src i value s) := by
  unfold execBayCtxPWrite
  try dsimp only
  refine KeptN.mk_ ?_
  refine Kept.trans ?_ State_window_kept
  exact Kept.refl

theorem execBayCtxStopatWrite_kept {bay : Nat} {src : Sys2Proof.Src} {value : Sys2Proof.Word} {s : State} : KeptN s (@execBayCtxStopatWrite bay src value s) := by
  unfold execBayCtxStopatWrite
  try dsimp only
  refine KeptN.mk_ ?_
  refine Kept.trans ?_ State_window_kept
  exact Kept.refl

theorem execBayCtxPsegWrite_kept {bay : Nat} {src : Sys2Proof.Src} {seg : BitVec 2} {hi : Bool} {value : Sys2Proof.Word} {s : State} : KeptN s (@execBayCtxPsegWrite bay src seg hi value s) := by
  unfold execBayCtxPsegWrite
  try dsimp only
  refine KeptN.mk_ ?_
  refine Kept.trans ?_ State_window_kept
  exact Kept.refl

theorem execCoreCtxModeWrite_kept {core : Sys2Proof.CoreAddr} {src : Sys2Proof.Src} {value : Sys2Proof.Word} {s : State} : KeptN s (@execCoreCtxModeWrite core src value s) := by
  unfold execCoreCtxModeWrite
  try dsimp only
  refine KeptN.mk_ ?_
  refine Kept.trans ?_ (State_accessW_kept ?_)
  exact Kept.refl
  intro _
  refine Kept.foldl ?_ ?_
  exact Kept.refl
  intro _
  intro _
  refine Kept.trans ?_ State_setCtx_kept
  exact Kept.refl

theorem State_stopCtx_kept {s : State} {c : Nat} {x : Nat} : Kept s (@State.stopCtx s c x) := by
  unfold State.stopCtx
  try dsimp only
  refine Kept.ite ?_ ?_
  refine Kept.trans ?_ State_setCore_kept
  refine Kept.trans ?_ State_unwait_kept
  refine Kept.trans ?_ State_depart_kept
  exact Kept.refl
  exact Kept.refl

theorem execCtxStop_kept {core : Sys2Proof.CoreAddr} {src : Sys2Proof.Src} {stops : BitVec 4} {s : State} : KeptN s (@execCtxStop core src stops s) := by
  unfold execCtxStop
  try dsimp only
  refine KeptN.mk_ ?_
  refine Kept.trans ?_ (State_accessW_kept ?_)
  exact Kept.refl
  intro _
  refine Kept.foldl ?_ ?_
  exact Kept.refl
  intro _
  intro _
  refine Kept.trans ?_ State_stopCtx_kept
  exact Kept.refl

theorem State_cutTiles_kept {s : State} {c : Nat} {x : Nat} {now : Bool} : Kept s (@State.cutTiles s c x now) := by
  unfold State.cutTiles
  try dsimp only
  split
  refine Kept.ite ?_ ?_
  refine Kept.trans ?_ State_setCore_kept
  exact Kept.refl
  refine Kept.ite ?_ ?_
  refine Kept.trans ?_ State_setCore_kept
  exact Kept.refl
  refine Kept.trans ?_ State_setCore_kept
  exact Kept.refl
  refine Kept.trans ?_ State_setCore_kept
  exact Kept.refl

theorem State_endAllocs_kept {s : State} {c : Nat} {x : Nat} : Kept s (@State.endAllocs s c x) := by
  unfold State.endAllocs
  try dsimp only
  refine Kept.foldl ?_ ?_
  exact Kept.refl
  intro _
  intro _
  refine Kept.ite ?_ ?_
  refine Kept.trans ?_ State_allocResult_kept
  refine Kept.trans ?_ State_setPool_kept
  exact Kept.refl
  exact Kept.refl

theorem State_resetCtx_kept {s : State} {c : Nat} {x : Nat} : Kept s (@State.resetCtx s c x) := by
  unfold State.resetCtx
  try dsimp only
  refine Kept.trans ?_ State_ctxReclaim_kept
  refine Kept.trans ?_ State_setCore_kept
  refine Kept.trans ?_ State_endAllocs_kept
  refine Kept.trans ?_ State_cutTiles_kept
  refine Kept.trans ?_ State_unwait_kept
  refine Kept.trans ?_ State_depart_kept
  exact Kept.refl

end Sys2Proof.Laws
end

