-- ==== Sys2Proof/Laws/KeptPegs.lean ====
section
/-! SUPPORT. What the operations of Machine/Pegs.lean keep. -/
namespace Sys2Proof.Laws
open Sys2Proof Sys2Proof.Machine

theorem State_takeSigs_kept {s : State} {home : PegHome} {ids : List Nat} : KeptP s (@State.takeSigs s home ids) := by
  unfold State.takeSigs
  try dsimp only
  refine KeptP.mk_ ?_
  refine Kept.foldl ?_ ?_
  dsimp only [Kept_mk]
  refine Keeps.of ?_ ?_
  exact Kept.refl
  exact Nat.le_refl _
  intro _
  intro _
  refine Kept.trans ?_ State_count_kept
  exact Kept.refl

theorem State_applySig_kept {s : State} {g : Signal} : Kept s (@State.applySig s g) := by
  unfold State.applySig
  try dsimp only
  refine Kept.ite ?_ ?_
  refine Kept.trans ?_ State_count_kept
  exact Kept.refl
  refine Kept.trans ?_ State_addPeg_kept
  exact Kept.refl

theorem execPegSignalArrive_kept {home : PegHome} {ids : List Nat} {s : State} : KeptN s (@execPegSignalArrive home ids s) := by
  unfold execPegSignalArrive
  try dsimp only
  refine KeptN.mk_ ?_
  refine Kept.ite ?_ ?_
  exact Kept.refl
  refine Kept.ite ?_ ?_
  refine Kept.trans ?_ State_walkPeg_kept
  refine Kept.foldl ?_ ?_
  refine Kept.trans ?_ (State_takeSigs_kept).h
  exact Kept.refl
  intro _
  intro _
  refine Kept.trans ?_ State_applySig_kept
  exact Kept.refl
  refine Kept.foldl ?_ ?_
  refine Kept.trans ?_ (State_takeSigs_kept).h
  exact Kept.refl
  intro _
  intro _
  refine Kept.trans ?_ State_applySig_kept
  exact Kept.refl

theorem State_pegLoad_kept {s : State} {home : PegHome} {value : Sys2Proof.Word} {lost : List Nat} : Kept s (@State.pegLoad s home value lost) := by
  unfold State.pegLoad
  try dsimp only
  refine Kept.trans ?_ State_walkPeg_kept
  dsimp only [Kept_mk]
  refine Keeps.of ?_ ?_
  refine Kept.trans ?_ State_setPeg_kept
  refine Kept.foldl ?_ ?_
  refine Kept.trans ?_ (State_takeSigs_kept).h
  exact Kept.refl
  intro _
  intro _
  refine Kept.ite ?_ ?_
  refine Kept.trans ?_ State_count_kept
  exact Kept.refl
  refine Kept.trans ?_ State_pegError_kept
  exact Kept.refl
  first | exact Nat.le_refl _ | exact Nat.le_max_left _ _

theorem State_pegReach_kept {s : State} {home : PegHome} : KeptP s (@State.pegReach s home) := by
  unfold State.pegReach
  try dsimp only
  split
  split
  refine KeptP.mk_ ?_
  refine Kept.trans ?_ State_count_kept
  exact Kept.refl
  refine KeptP.mk_ ?_
  exact Kept.refl
  refine KeptP.mk_ ?_
  exact Kept.refl

theorem State_pegWrite_kept {home : PegHome} {k : RKey} {b : Option Word} {w : Src × Word} {s : State} :
    KeptP s (State.pegWrite home k (s, b) w) := by
  unfold State.pegWrite
  split
  · exact ⟨State_pegReach_kept.h⟩
  · exact ⟨State_accessW_kept fun _ => Kept.refl⟩

theorem execPegHostWrite_kept {home : PegHome} {src : Src} {value : Word} {more : List (Src × Word)} {lost : List Nat} {s : State} : KeptN s (@execPegHostWrite home src value more lost s) := by
  unfold execPegHostWrite
  try dsimp only
  refine KeptN.mk_ ?_
  split
  exact Kept.refl
  split
  refine Kept.trans ?_ State_pegLoad_kept
  refine KeptP.of (by assumption) ?_
  refine KeptP.foldl ?_ ?_ <;> try dsimp only
  refine KeptP.mk_ ?_
  exact Kept.refl
  intro _
  intro _
  intro _
  refine KeptP.trans ?_ State_pegWrite_kept
  exact Kept.refl
  refine KeptP.of (by assumption) ?_
  refine KeptP.foldl ?_ ?_ <;> try dsimp only
  refine KeptP.mk_ ?_
  exact Kept.refl
  intro _
  intro _
  intro _
  refine KeptP.trans ?_ State_pegWrite_kept
  exact Kept.refl

theorem execPegPoll_kept {core : Sys2Proof.CoreAddr} {ctx : BitVec 2} {s : State} : KeptN s (@execPegPoll core ctx s) := by
  unfold execPegPoll
  try dsimp only
  refine KeptN.mk_ ?_
  refine Kept.ite ?_ ?_
  exact Kept.refl
  split
  refine Kept.ite ?_ ?_
  refine Kept.trans ?_ State_faultCtx_kept
  refine Kept.trans ?_ State_count_kept
  exact Kept.refl
  refine Kept.ite ?_ ?_
  refine Kept.trans ?_ State_wake_kept
  refine Kept.ite ?_ ?_
  refine Kept.trans ?_ State_setPeg_kept
  refine Kept.trans ?_ State_count_kept
  exact Kept.refl
  refine Kept.trans ?_ State_count_kept
  exact Kept.refl
  refine Kept.ite ?_ ?_
  dsimp only [Kept_mk]
  refine Keeps.of ?_ ?_
  refine Kept.trans ?_ State_setCtx_kept
  refine Kept.trans ?_ State_count_kept
  exact Kept.refl
  first | exact Nat.le_refl _ | exact Nat.le_max_left _ _
  refine Kept.trans ?_ State_count_kept
  exact Kept.refl
  exact Kept.refl

theorem State_dldTick_kept {s : State} {p : Nat} : Kept s (@State.dldTick s p) := by
  unfold State.dldTick
  try dsimp only
  refine Kept.ite ?_ ?_
  split
  refine Kept.trans ?_ State_setPart_kept
  exact Kept.refl
  refine Kept.ite ?_ ?_
  exact Kept.refl
  refine Kept.trans ?_ State_setPart_kept
  exact Kept.refl
  refine Kept.ite ?_ ?_
  refine Kept.trans ?_ State_setPart_kept
  exact Kept.refl
  exact Kept.refl

theorem execDeadlockFire_kept {p : BitVec 3} {s : State} : KeptN s (@execDeadlockFire p s) := by
  unfold execDeadlockFire
  try dsimp only
  refine KeptN.mk_ ?_
  split
  exact Kept.refl
  refine Kept.ite ?_ ?_
  exact Kept.refl
  refine Kept.trans ?_ State_inspect_kept
  refine Kept.trans ?_ State_cause_kept
  refine Kept.trans ?_ State_event_kept
  refine Kept.trans ?_ State_setPart_kept
  refine Kept.trans ?_ State_count_kept
  refine Kept.trans ?_ State_latch_kept
  exact Kept.refl

theorem execPoolReclaim_kept {die : BitVec 2} {pool : BitVec 6} {src : Src} {s : State} : KeptN s (@execPoolReclaim die pool src s) := by
  unfold execPoolReclaim
  try dsimp only
  refine KeptN.mk_ ?_
  refine Kept.trans ?_ (State_accessW_kept ?_)
  exact Kept.refl
  intro _
  refine Kept.trans ?_ State_setFld_kept
  exact Kept.refl

theorem poolCfg_kept {s : State} {d : Nat} {q : Nat} {src : Sys2Proof.Src} {r : PoolReg} {value : Sys2Proof.Word} : Kept s (@poolCfg s d q src r value) := by
  unfold poolCfg
  try dsimp only
  split
  refine Kept.ite ?_ ?_
  exact Kept.refl
  refine Kept.trans ?_ State_setReg_kept
  exact Kept.refl
  refine Kept.ite ?_ ?_
  exact Kept.refl
  refine Kept.trans ?_ State_setReg_kept
  exact Kept.refl
  refine Kept.ite ?_ ?_
  refine Kept.ite ?_ ?_
  exact Kept.refl
  refine Kept.trans ?_ State_setReg_kept
  exact Kept.refl
  refine Kept.ite ?_ ?_
  refine Kept.trans ?_ State_setPool_kept
  refine Kept.trans ?_ State_setReg_kept
  exact Kept.refl
  refine Kept.trans ?_ State_setReg_kept
  exact Kept.refl

theorem execPoolCfgWrite_kept {die : BitVec 2} {pool : BitVec 6} {src : Sys2Proof.Src} {reg : PoolReg} {value : Sys2Proof.Word} {s : State} : KeptN s (@execPoolCfgWrite die pool src reg value s) := by
  unfold execPoolCfgWrite
  try dsimp only
  refine KeptN.mk_ ?_
  refine Kept.trans ?_ (State_accessW_kept ?_)
  exact Kept.refl
  intro _
  refine Kept.trans ?_ poolCfg_kept
  exact Kept.refl

end Sys2Proof.Laws
end

