-- ==== Sys2Proof/Laws/KeptMemory.lean ====
section
/-! SUPPORT. What the operations of Machine/Memory.lean keep. -/
namespace Sys2Proof.Laws
open Sys2Proof Sys2Proof.Machine

theorem State_chanCe_kept {s : State} {ch : Nat} : Kept s (@State.chanCe s ch) := by
  unfold State.chanCe
  try dsimp only
  refine Kept.ite ?_ ?_
  refine Kept.ite ?_ ?_
  refine Kept.trans ?_ State_retireUnit_kept
  refine Kept.trans ?_ State_suspect_kept
  dsimp only [Kept_mk]
  refine Keeps.of ?_ ?_
  refine Kept.trans ?_ State_count_kept
  exact Kept.refl
  first | exact Nat.le_refl _ | exact Nat.le_max_left _ _
  refine Kept.trans ?_ State_suspect_kept
  dsimp only [Kept_mk]
  refine Keeps.of ?_ ?_
  refine Kept.trans ?_ State_count_kept
  exact Kept.refl
  first | exact Nat.le_refl _ | exact Nat.le_max_left _ _
  dsimp only [Kept_mk]
  refine Keeps.of ?_ ?_
  refine Kept.trans ?_ State_count_kept
  exact Kept.refl
  first | exact Nat.le_refl _ | exact Nat.le_max_left _ _

theorem State_chanUe_kept {s : State} {ch : Nat} {off : Nat} : Kept s (@State.chanUe s ch off) := by
  unfold State.chanUe
  try dsimp only
  refine Kept.ite ?_ ?_
  refine Kept.trans ?_ State_retireUnit_kept
  refine Kept.trans ?_ State_suspect_kept
  dsimp only [Kept_mk]
  refine Keeps.of ?_ ?_
  refine Kept.trans ?_ State_setReg_kept
  refine Kept.trans ?_ State_count_kept
  exact Kept.refl
  first | exact Nat.le_refl _ | exact Nat.le_max_left _ _
  refine Kept.trans ?_ State_suspect_kept
  dsimp only [Kept_mk]
  refine Keeps.of ?_ ?_
  refine Kept.trans ?_ State_setReg_kept
  refine Kept.trans ?_ State_count_kept
  exact Kept.refl
  first | exact Nat.le_refl _ | exact Nat.le_max_left _ _

theorem State_deckPoison_kept {s : State} {l : DeckLine} : Kept s (@State.deckPoison s l) := by
  unfold State.deckPoison
  try dsimp only
  refine Kept.trans ?_ State_count_kept
  refine Kept.foldl ?_ ?_
  exact Kept.refl
  intro _
  intro _
  refine Kept.trans ?_ State_markGranule_kept
  exact Kept.refl

theorem State_memErr_kept {s : State} {e : MemErr} : Kept s (@State.memErr s e) := by
  unfold State.memErr
  try dsimp only
  split
  split
  split
  refine Kept.trans ?_ State_count_kept
  exact Kept.refl
  refine Kept.trans ?_ State_chanCe_kept
  exact Kept.refl
  refine Kept.trans ?_ State_count_kept
  exact Kept.refl
  refine Kept.trans ?_ State_count_kept
  exact Kept.refl
  exact Kept.refl
  split
  split
  refine Kept.ite ?_ ?_
  refine Kept.trans ?_ State_deckPoison_kept
  exact Kept.refl
  refine Kept.trans ?_ State_deckDrop_kept
  exact Kept.refl
  refine Kept.trans ?_ State_markGranule_kept
  refine Kept.trans ?_ State_chanUe_kept
  exact Kept.refl
  split
  refine Kept.trans ?_ State_markSlot_kept
  refine Kept.trans ?_ State_count_kept
  exact Kept.refl
  refine Kept.trans ?_ State_markGranule_kept
  refine Kept.trans ?_ State_count_kept
  exact Kept.refl
  refine Kept.trans ?_ State_markGranule_kept
  refine Kept.trans ?_ State_count_kept
  exact Kept.refl
  exact Kept.refl
  refine Kept.ite ?_ ?_
  refine Kept.trans ?_ State_setCore_kept
  exact Kept.refl
  exact Kept.refl
  refine Kept.ite ?_ ?_
  refine Kept.trans ?_ State_setCtx_kept
  exact Kept.refl
  exact Kept.refl

theorem State_reply_kept {s : State} {p : Nat} {e : BitVec 8} {by_ : Issuer} {data : List PByte} {err : Bool} {latency : Option Nat} {t0 : Sys2Proof.Time} : Kept s (@State.reply s p e by_ data err latency t0) := by
  unfold State.reply
  try dsimp only
  dsimp only [Kept_mk]
  refine Keeps.of ?_ ?_
  exact Kept.refl
  first | exact Nat.le_refl _ | exact Nat.le_max_left _ _

theorem State_memRead_kept {s : State} {P : Nat} {pepoch : BitVec 8} {by_ : Issuer} {pa : Nat} {len : Nat} {hint : BitVec 2} {lat : Bool} {issued : Time} {errs : List MemErr} : Kept s (@State.memRead s P pepoch by_ pa len hint lat issued errs) := by
  unfold State.memRead
  try dsimp only
  refine Kept.ite ?_ ?_
  refine Kept.trans ?_ State_count_kept
  exact Kept.refl
  refine Kept.ite ?_ ?_
  refine Kept.trans ?_ State_reply_kept
  exact Kept.refl
  refine Kept.trans ?_ State_reply_kept
  refine Kept.trans ?_ (State_loadP_kept).h
  refine Kept.foldl ?_ ?_
  exact Kept.refl
  intro _
  intro _
  refine Kept.trans ?_ State_memErr_kept
  exact Kept.refl

theorem State_storeBy_kept {s : State} {rank : Nat} {p : Nat} {a : Nat} {hint : Nat} {l : List PByte} : Kept s (@State.storeBy s rank p a hint l) := by
  unfold State.storeBy
  try dsimp only
  dsimp only [Kept_mk]
  refine Keeps.of ?_ ?_
  refine Kept.trans ?_ State_storeP_kept
  exact Kept.refl
  exact Nat.le_refl _

theorem State_windowBytes_kept {s : State} {a : Nat} {n : Nat} : Kept s (@State.windowBytes s a n) := by
  unfold State.windowBytes
  try dsimp only
  split
  refine Kept.trans ?_ State_count64_kept
  exact Kept.refl
  exact Kept.refl

theorem State_memWrite_kept {s : State} {P : Nat} {pepoch : BitVec 8} {by_ : Issuer} {pa : Nat} {hint : BitVec 2} {data : List (Byte × Bool)} {errs : List MemErr} : Kept s (@State.memWrite s P pepoch by_ pa hint data errs) := by
  unfold State.memWrite
  try dsimp only
  refine Kept.ite ?_ ?_
  refine Kept.trans ?_ State_count_kept
  exact Kept.refl
  refine Kept.ite ?_ ?_
  refine Kept.trans ?_ State_reply_kept
  exact Kept.refl
  refine Kept.ite ?_ ?_
  refine Kept.trans ?_ State_count_kept
  exact Kept.refl
  refine Kept.trans ?_ State_reply_kept
  refine Kept.trans ?_ State_windowBytes_kept
  refine Kept.trans ?_ State_storeBy_kept
  refine Kept.foldl ?_ ?_
  exact Kept.refl
  intro _
  intro _
  refine Kept.trans ?_ State_memErr_kept
  exact Kept.refl

theorem State_takeReply_kept {s : State} {r : Reply} : Kept s (@State.takeReply s r) := by
  unfold State.takeReply
  try dsimp only
  split
  dsimp only [Kept_mk]
  refine Keeps.of ?_ ?_
  exact Kept.refl
  first | exact Nat.le_refl _ | exact Nat.le_max_left _ _
  refine Kept.trans ?_ State_setFld_kept
  dsimp only [Kept_mk]
  refine Keeps.of ?_ ?_
  exact Kept.refl
  first | exact Nat.le_refl _ | exact Nat.le_max_left _ _

theorem execMemReplyArrive_kept {reply : Nat} {s : State} : KeptN s (@execMemReplyArrive reply s) := by
  unfold execMemReplyArrive
  try dsimp only
  refine KeptN.mk_ ?_
  split
  exact Kept.refl
  split
  refine Kept.ite ?_ ?_
  refine Kept.trans ?_ State_count_kept
  dsimp only [Kept_mk]
  refine Keeps.of ?_ ?_
  exact Kept.refl
  exact Nat.le_refl _
  refine Kept.trans ?_ State_takeReply_kept
  dsimp only [Kept_mk]
  refine Keeps.of ?_ ?_
  exact Kept.refl
  exact Nat.le_refl _
  refine Kept.trans ?_ State_takeReply_kept
  dsimp only [Kept_mk]
  refine Keeps.of ?_ ?_
  exact Kept.refl
  exact Nat.le_refl _
  refine Kept.ite ?_ ?_
  refine Kept.trans ?_ State_count_kept
  dsimp only [Kept_mk]
  refine Keeps.of ?_ ?_
  exact Kept.refl
  exact Nat.le_refl _
  refine Kept.ite ?_ ?_
  refine Kept.trans ?_ State_count_kept
  dsimp only [Kept_mk]
  refine Keeps.of ?_ ?_
  exact Kept.refl
  exact Nat.le_refl _
  refine Kept.trans ?_ State_takeReply_kept
  dsimp only [Kept_mk]
  refine Keeps.of ?_ ?_
  exact Kept.refl
  exact Nat.le_refl _

theorem execBulkPromote_kept {chan : Nat} {waited : Nat} {s : State} : KeptN s (@execBulkPromote chan waited s) := by
  unfold execBulkPromote
  try dsimp only
  refine KeptN.mk_ ?_
  split
  exact Kept.refl
  refine Kept.ite ?_ ?_
  refine Kept.trans ?_ State_count_kept
  exact Kept.refl
  exact Kept.refl

theorem execHbmScrubPass_kept {chan : Nat} {errs : List MemErr} {s : State} : KeptN s (@execHbmScrubPass chan errs s) := by
  unfold execHbmScrubPass
  try dsimp only
  refine KeptN.mk_ ?_
  refine Kept.ite ?_ ?_
  refine Kept.foldl ?_ ?_
  exact Kept.refl
  intro _
  intro _
  split
  refine Kept.trans ?_ State_chanCe_kept
  exact Kept.refl
  refine Kept.trans ?_ State_markGranule_kept
  refine Kept.trans ?_ State_chanUe_kept
  exact Kept.refl
  exact Kept.refl
  exact Kept.refl

theorem execDeckScrubPass_kept {die : BitVec 2} {errs : List MemErr} {s : State} : KeptN s (@execDeckScrubPass die errs s) := by
  unfold execDeckScrubPass
  try dsimp only
  refine KeptN.mk_ ?_
  refine Kept.ite ?_ ?_
  refine Kept.foldl ?_ ?_
  exact Kept.refl
  intro _
  intro _
  refine Kept.ite ?_ ?_
  refine Kept.trans ?_ State_memErr_kept
  exact Kept.refl
  exact Kept.refl
  exact Kept.refl

theorem execHbmLatMaxRead_kept {chan : Nat} {src : Sys2Proof.Src} {s : State} : KeptN s (@execHbmLatMaxRead chan src s) := by
  unfold execHbmLatMaxRead
  try dsimp only
  refine KeptN.mk_ ?_
  refine Kept.ite ?_ ?_
  dsimp only [Kept_mk]
  refine Keeps.of ?_ ?_
  refine Kept.trans ?_ State_setReg_kept
  exact Kept.refl
  first | exact Nat.le_refl _ | exact Nat.le_max_left _ _
  dsimp only [Kept_mk]
  refine Keeps.of ?_ ?_
  exact Kept.refl
  first | exact Nat.le_refl _ | exact Nat.le_max_left _ _

theorem State_deckFlush_kept {s : State} {d : Nat} {p : Nat} : Kept s (@State.deckFlush s d p) := by
  unfold State.deckFlush
  try dsimp only
  refine Kept.foldl ?_ ?_
  exact Kept.refl
  intro _
  intro _
  refine Kept.trans ?_ State_deckEvict_kept
  exact Kept.refl

theorem execDeckFlush_kept {die : BitVec 2} {p : BitVec 3} {src : Sys2Proof.Src} {s : State} : KeptN s (@execDeckFlush die p src s) := by
  unfold execDeckFlush
  try dsimp only
  refine KeptN.mk_ ?_
  refine Kept.trans ?_ (State_accessW_kept ?_)
  exact Kept.refl
  intro _
  refine Kept.ite ?_ ?_
  exact Kept.refl
  refine Kept.trans ?_ State_setFld_kept
  refine Kept.trans ?_ State_deckFlush_kept
  exact Kept.refl

theorem execDeckFlushComplete_kept {die : BitVec 2} {p : BitVec 3} {s : State} : KeptN s (@execDeckFlushComplete die p s) := by
  unfold execDeckFlushComplete
  try dsimp only
  refine KeptN.mk_ ?_
  refine Kept.ite ?_ ?_
  refine Kept.trans ?_ State_setFld_kept
  refine Kept.trans ?_ State_setFld_kept
  exact Kept.refl
  exact Kept.refl

theorem execDeckUnkeep_kept {die : BitVec 2} {p : BitVec 3} {src : Sys2Proof.Src} {s : State} : KeptN s (@execDeckUnkeep die p src s) := by
  unfold execDeckUnkeep
  try dsimp only
  refine KeptN.mk_ ?_
  refine Kept.trans ?_ (State_accessW_kept ?_)
  exact Kept.refl
  intro _
  dsimp only [Kept_mk]
  refine Keeps.of ?_ ?_
  exact Kept.refl
  first | exact Nat.le_refl _ | exact Nat.le_max_left _ _

end Sys2Proof.Laws
end

