-- ==== Sys2Proof/Laws/KeptJoiner.lean ====
section
/-! SUPPORT. What the operations of Machine/Joiner.lean keep. -/
namespace Sys2Proof.Laws
open Sys2Proof Sys2Proof.Machine

theorem State_jnrError_kept {s : State} {d : Nat} {kind : Nat} {p : Nat} {ctx : Nat} {wh : Nat} : Kept s (@State.jnrError s d kind p ctx wh) := by
  unfold State.jnrError
  try dsimp only
  refine Kept.trans ?_ State_cause_kept
  refine Kept.trans ?_ State_spineEvent_kept
  refine Kept.trans ?_ State_latchBy_kept
  exact Kept.refl

theorem State_jnrFlags_kept {s : State} {p : Nat} {f : FpFlags} : Kept s (@State.jnrFlags s p f) := by
  unfold State.jnrFlags
  try dsimp only
  refine Kept.trans ?_ State_setReg_kept
  exact Kept.refl

theorem State_setJctx_kept {s : State} {p : Nat} {i : Nat} {j : JCtx} : Kept s (@State.setJctx s p i j) := by
  unfold State.setJctx
  try dsimp only
  dsimp only [Kept_mk]
  refine Keeps.of ?_ ?_
  exact Kept.refl
  first | exact Nat.le_refl _ | exact Nat.le_max_left _ _

theorem State_readElems_kept {s : State} {p : Nat} {va : Nat} {n : Nat} {sz : Nat} {hint : Nat} : KeptP s (@State.readElems s p va n sz hint) := by
  unfold State.readElems
  try dsimp only
  split
  refine KeptP.mk_ ?_
  refine Kept.trans ?_ (KeptOP.of (by assumption) State_vload_kept)
  exact Kept.refl
  refine KeptP.foldl ?_ ?_ <;> try dsimp only
  refine KeptP.mk_ ?_
  exact Kept.refl
  intro _
  intro _
  intro _
  split
  refine KeptP.mk_ ?_
  refine Kept.trans ?_ (KeptOP.of (by assumption) State_vload_kept)
  exact Kept.refl
  refine KeptP.mk_ ?_
  exact Kept.refl

theorem State_readLath_kept {s : State} {p : Nat} {plane : Nat} {u : Nat} {n : Nat} {hint : Nat} : KeptP s (@State.readLath s p plane u n hint) := by
  unfold State.readLath
  try dsimp only
  refine KeptP.foldl ?_ ?_ <;> try dsimp only
  refine KeptP.mk_ ?_
  exact Kept.refl
  intro _
  intro _
  intro _
  split
  refine KeptP.mk_ ?_
  refine Kept.trans ?_ (KeptOP.of (by assumption) State_vload_kept)
  exact Kept.refl
  refine KeptP.mk_ ?_
  exact Kept.refl

theorem State_readMoment_kept {s : State} {p : Nat} {plane : Nat} {mfmt : Nat} {u : Nat} {n : Nat} {hint : Nat} : KeptP s (@State.readMoment s p plane mfmt u n hint) := by
  unfold State.readMoment
  try dsimp only
  refine KeptP.ite ?_ ?_
  refine KeptP.mk_ ?_
  exact Kept.refl
  refine KeptP.ite ?_ ?_
  refine KeptP.trans ?_ State_readLath_kept
  exact Kept.refl
  refine KeptP.mk_ ?_
  refine Kept.trans ?_ (State_readElems_kept).h
  exact Kept.refl

theorem State_readWeights_kept {s : State} {p : Nat} {j : JCtx} {c : Coord} {n : Nat} : KeptP s (@State.readWeights s p j c n) := by
  unfold State.readWeights
  try dsimp only
  refine KeptP.ite ?_ ?_
  refine KeptP.mk_ ?_
  exact Kept.refl
  refine KeptP.mk_ ?_
  refine Kept.trans ?_ (State_readElems_kept).h
  exact Kept.refl

theorem State_storeRuns_kept {s : State} {p : Nat} {hint : Nat} {l : List (Nat × List PByte)} : KeptP s (@State.storeRuns s p hint l) := by
  unfold State.storeRuns
  try dsimp only
  refine KeptP.mk_ ?_
  refine Kept.foldl ?_ ?_
  exact Kept.refl
  intro _
  intro _
  refine Kept.trans ?_ (State_vstore_kept).h
  exact Kept.refl

theorem State_writeMoment_kept {s : State} {p : Nat} {plane : Nat} {mfmt : Nat} {u : Nat} {hint : Nat} {l : List (Word × Bool)} : KeptP s (@State.writeMoment s p plane mfmt u hint l) := by
  unfold State.writeMoment
  try dsimp only
  refine KeptP.ite ?_ ?_
  refine KeptP.mk_ ?_
  exact Kept.refl
  refine KeptP.ite ?_ ?_
  refine KeptP.mk_ ?_
  refine Kept.trans ?_ (State_storeRuns_kept).h
  exact Kept.refl
  refine KeptP.mk_ ?_
  refine Kept.trans ?_ (State_storeRuns_kept).h
  exact Kept.refl

theorem State_readGroup_kept {s : State} {p : Nat} {j : JCtx} {c : Coord} {gs : List Sys2Proof.Word} : KeptP s (@State.readGroup s p j c gs) := by
  unfold State.readGroup
  try dsimp only
  refine KeptP.mk_ ?_
  refine Kept.trans ?_ (State_readMoment_kept).h
  refine Kept.trans ?_ (State_readMoment_kept).h
  refine Kept.trans ?_ (State_readWeights_kept).h
  exact Kept.refl

theorem State_pubSupply_kept {s : State} {d : Nat} {p : Nat} {id : Nat} {pos : Nat} {x : Nat} {raw : List PByte} : Kept s (@State.pubSupply s d p id pos x raw) := by
  unfold State.pubSupply
  try dsimp only
  split
  refine Kept.trans ?_ State_colError_kept
  exact Kept.refl
  split
  refine Kept.trans ?_ State_colError_kept
  exact Kept.refl
  refine Kept.ite ?_ ?_
  refine Kept.trans ?_ State_colError_kept
  exact Kept.refl
  refine Kept.trans ?_ State_gatherElem_kept
  exact Kept.refl

theorem State_pubList_kept {s : State} {d : Nat} {p : Nat} {j : JCtx} {pos : Nat} {x0 : Nat} {l : List (Nat × Bool)} : Kept s (@State.pubList s d p j pos x0 l) := by
  unfold State.pubList
  try dsimp only
  split
  exact Kept.refl
  refine Kept.foldl ?_ ?_
  exact Kept.refl
  intro _
  intro _
  refine Kept.trans ?_ State_pubSupply_kept
  exact Kept.refl

theorem State_writeGroup_kept {s : State} {jb : JJob} {c : Coord} {x0 : Nat} {ins : List JIn} {outs : List JLane} {all : Bool} {dup : SrDup} : Kept s (@State.writeGroup s jb c x0 ins outs all dup) := by
  unfold State.writeGroup
  try dsimp only
  refine Kept.trans ?_ State_pubList_kept
  refine Kept.ite ?_ ?_
  refine Kept.ite ?_ ?_
  refine Kept.trans ?_ State_jnrError_kept
  refine Kept.foldl ?_ ?_
  refine Kept.trans ?_ State_count_kept
  refine Kept.trans ?_ State_count_kept
  refine Kept.trans ?_ State_count_kept
  refine Kept.trans ?_ State_jnrFlags_kept
  refine Kept.trans ?_ (State_writeMoment_kept).h
  refine Kept.trans ?_ (State_writeMoment_kept).h
  refine Kept.ite ?_ ?_
  exact Kept.refl
  refine Kept.trans ?_ (State_storeRuns_kept).h
  exact Kept.refl
  intro _
  intro _
  refine Kept.trans ?_ State_jnrError_kept
  exact Kept.refl
  refine Kept.foldl ?_ ?_
  refine Kept.trans ?_ State_count_kept
  refine Kept.trans ?_ State_count_kept
  refine Kept.trans ?_ State_count_kept
  refine Kept.trans ?_ State_jnrFlags_kept
  refine Kept.trans ?_ (State_writeMoment_kept).h
  refine Kept.trans ?_ (State_writeMoment_kept).h
  refine Kept.ite ?_ ?_
  exact Kept.refl
  refine Kept.trans ?_ (State_storeRuns_kept).h
  exact Kept.refl
  intro _
  intro _
  refine Kept.trans ?_ State_jnrError_kept
  exact Kept.refl
  refine Kept.trans ?_ State_suspect_kept
  refine Kept.ite ?_ ?_
  refine Kept.trans ?_ State_jnrError_kept
  refine Kept.foldl ?_ ?_
  refine Kept.trans ?_ State_count_kept
  refine Kept.trans ?_ State_count_kept
  refine Kept.trans ?_ State_count_kept
  refine Kept.trans ?_ State_jnrFlags_kept
  refine Kept.trans ?_ (State_writeMoment_kept).h
  refine Kept.trans ?_ (State_writeMoment_kept).h
  refine Kept.ite ?_ ?_
  exact Kept.refl
  refine Kept.trans ?_ (State_storeRuns_kept).h
  exact Kept.refl
  intro _
  intro _
  refine Kept.trans ?_ State_jnrError_kept
  exact Kept.refl
  refine Kept.foldl ?_ ?_
  refine Kept.trans ?_ State_count_kept
  refine Kept.trans ?_ State_count_kept
  refine Kept.trans ?_ State_count_kept
  refine Kept.trans ?_ State_jnrFlags_kept
  refine Kept.trans ?_ (State_writeMoment_kept).h
  refine Kept.trans ?_ (State_writeMoment_kept).h
  refine Kept.ite ?_ ?_
  exact Kept.refl
  refine Kept.trans ?_ (State_storeRuns_kept).h
  exact Kept.refl
  intro _
  intro _
  refine Kept.trans ?_ State_jnrError_kept
  exact Kept.refl

theorem State_jnrSlot_kept {s : State} {p : Nat} {j : JCtx} : KeptP s (@State.jnrSlot s p j) := by
  unfold State.jnrSlot
  try dsimp only
  split
  refine KeptP.mk_ ?_
  refine Kept.trans ?_ (KeptOP.of (by assumption) State_vload_kept)
  exact Kept.refl
  refine KeptP.mk_ ?_
  exact Kept.refl

theorem State_vloads_kept {s : State} {p : Nat} {hint : Nat} {l : List (Nat × Nat)} : KeptOP s (@State.vloads s p hint l) := by
  unfold State.vloads
  try dsimp only
  refine KeptOP.foldl ?_ ?_ ?_
  refine KeptOP.some_ ?_
  exact Kept.refl
  intro _
  refine KeptOP.bind ?_ ?_
  exact KeptOP.none_
  intro _; dsimp only
  intro _
  refine KeptOP.map ?_ fun _ _ => rfl
  refine KeptOP.trans ?_ State_vload_kept
  exact Kept.refl
  intro _
  intro _
  intro _
  refine KeptOP.bind ?_ ?_
  refine KeptOP.some_ ?_
  exact Kept.refl
  intro _; dsimp only
  intro _
  refine KeptOP.map ?_ fun _ _ => rfl
  refine KeptOP.trans ?_ State_vload_kept
  exact Kept.refl

theorem State_xpBytes_kept {s : State} {p : Nat} {n : Nat} : Kept s (@State.xpBytes s p n) := by
  unfold State.xpBytes
  try dsimp only
  refine Kept.trans ?_ State_setReg_kept
  refine Kept.trans ?_ State_setReg_kept
  exact Kept.refl

theorem State_jnrExport_kept {s : State} {p : Nat} {d : List Byte} {j : JCtx} {t : JExt} : KeptP s (@State.jnrExport s p d j t) := by
  unfold State.jnrExport
  try dsimp only
  split
  refine KeptP.mk_ ?_
  refine Kept.trans ?_ State_xpBytes_kept
  exact Kept.refl
  refine KeptP.ite ?_ ?_
  refine KeptP.mk_ ?_
  refine Kept.trans ?_ State_xpBytes_kept
  refine KeptOP.of (by assumption) ?_
  refine KeptOP.foldl ?_ ?_ ?_
  refine KeptOP.some_ ?_
  exact Kept.refl
  intro _
  refine KeptOP.bind ?_ ?_
  exact KeptOP.none_
  intro _
  intro _
  refine KeptOP.map ?_ fun _ _ => rfl
  refine KeptOP.trans ?_ State_vloads_kept
  dsimp only
  exact Kept.refl
  intro _
  intro _
  intro _
  refine KeptOP.bind ?_ ?_
  refine KeptOP.some_ ?_
  exact Kept.refl
  intro _
  intro _
  refine KeptOP.map ?_ fun _ _ => rfl
  refine KeptOP.trans ?_ State_vloads_kept
  dsimp only
  exact Kept.refl
  refine KeptP.mk_ ?_
  refine Kept.trans ?_ State_xpBytes_kept
  refine Kept.trans ?_ (State_vstore_kept).h
  refine KeptOP.of (by assumption) ?_
  refine KeptOP.foldl ?_ ?_ ?_
  refine KeptOP.some_ ?_
  exact Kept.refl
  intro _
  refine KeptOP.bind ?_ ?_
  exact KeptOP.none_
  intro _
  intro _
  refine KeptOP.map ?_ fun _ _ => rfl
  refine KeptOP.trans ?_ State_vloads_kept
  dsimp only
  exact Kept.refl
  intro _
  intro _
  intro _
  refine KeptOP.bind ?_ ?_
  refine KeptOP.some_ ?_
  exact Kept.refl
  intro _
  intro _
  refine KeptOP.map ?_ fun _ _ => rfl
  refine KeptOP.trans ?_ State_vloads_kept
  dsimp only
  exact Kept.refl

theorem State_importLath_kept {s : State} {p : Nat} {j : JCtx} {t : JExt} {plane : Nat} {l : List (Coord × Word × Bool)} : KeptP s (@State.importLath s p j t plane l) := by
  unfold State.importLath
  try dsimp only
  refine KeptP.foldl ?_ ?_ <;> try dsimp only
  refine KeptP.mk_ ?_
  exact Kept.refl
  intro _
  intro _
  intro _
  refine KeptP.mk_ ?_
  refine Kept.trans ?_ (State_writeMoment_kept).h
  refine Kept.ite1 ?_ ?_
  refine KeptP.mk_ ?_
  exact Kept.refl
  refine KeptP.trans ?_ State_readLath_kept
  exact Kept.refl

theorem State_importRec_kept {s : State} {p : Nat} {j : JCtx} {t : JExt} {d : List Byte} {r : StRec} : KeptP s (@State.importRec s p j t d r) := by
  unfold State.importRec
  try dsimp only
  refine KeptP.ite ?_ ?_
  refine KeptP.mk_ ?_
  exact Kept.refl
  refine KeptP.ite ?_ ?_
  refine KeptP.ite ?_ ?_
  refine KeptP.mk_ ?_
  exact Kept.refl
  refine KeptP.mk_ ?_
  refine Kept.trans ?_ (State_storeRuns_kept).h
  exact Kept.refl
  refine KeptP.ite ?_ ?_
  refine KeptP.mk_ ?_
  exact Kept.refl
  refine KeptP.ite ?_ ?_
  refine KeptP.trans ?_ State_importLath_kept
  exact Kept.refl
  refine KeptP.mk_ ?_
  refine Kept.trans ?_ (State_storeRuns_kept).h
  exact Kept.refl

theorem State_jnrImport_kept {s : State} {p : Nat} {d : List Byte} {j : JCtx} {t : JExt} : KeptP s (@State.jnrImport s p d j t) := by
  unfold State.jnrImport
  try dsimp only
  split
  refine KeptP.mk_ ?_
  exact Kept.refl
  split
  refine KeptP.mk_ ?_
  refine Kept.trans ?_ (KeptOP.of (by assumption) State_vload_kept)
  exact Kept.refl
  refine KeptP.mk_ ?_
  refine Kept.trans ?_ State_jnrFlags_kept
  refine Kept.foldl1 ?_ ?_ <;> try dsimp only
  refine KeptP.mk_ ?_
  refine Kept.trans ?_ (KeptOP.of (by assumption) State_vload_kept)
  exact Kept.refl
  intro _
  intro _
  intro _
  refine KeptP.mk_ ?_
  refine Kept.trans ?_ (State_importRec_kept).h
  exact Kept.refl

theorem State_xpDone_kept {s : State} {p : Nat} {result : Nat} : Kept s (@State.xpDone s p result) := by
  unfold State.xpDone
  try dsimp only
  refine Kept.trans ?_ State_cmdDone_kept
  refine Kept.trans ?_ State_setFld_kept
  exact Kept.refl

theorem State_xpServe_kept {s : State} {p : Nat} {d : List Byte} : Kept s (@State.xpServe s p d) := by
  unfold State.xpServe
  try dsimp only
  split
  refine Kept.trans ?_ State_xpDone_kept
  exact Kept.refl
  refine Kept.ite ?_ ?_
  refine Kept.trans ?_ State_xpDone_kept
  refine Kept.ite ?_ ?_
  refine Kept.trans ?_ State_xpBytes_kept
  exact Kept.refl
  exact Kept.refl
  refine Kept.trans ?_ State_xpDone_kept
  refine Kept.ite1 ?_ ?_
  refine KeptP.trans ?_ State_jnrExport_kept
  exact Kept.refl
  refine KeptP.trans ?_ State_jnrImport_kept
  exact Kept.refl

theorem State_xpGo_kept {s : State} {p : Nat} {src : Sys2Proof.Src} {op : Nat} : Kept s (@State.xpGo s p src op) := by
  unfold State.xpGo
  try dsimp only
  refine Kept.trans ?_ (State_accessW_kept ?_)
  exact Kept.refl
  intro _
  refine Kept.ite ?_ ?_
  exact Kept.refl
  split
  refine Kept.trans ?_ State_xpDone_kept
  refine Kept.trans ?_ State_setFld_kept
  exact Kept.refl
  refine Kept.ite ?_ ?_
  exact Kept.refl
  refine Kept.ite ?_ ?_
  refine Kept.trans ?_ State_xpDone_kept
  refine Kept.trans ?_ State_setFld_kept
  refine Kept.trans ?_ (KeptOP.of (by assumption) State_vload_kept)
  exact Kept.refl
  split
  refine Kept.trans ?_ State_xpDone_kept
  refine Kept.trans ?_ State_setFld_kept
  refine Kept.trans ?_ (KeptOP.of (by assumption) State_vload_kept)
  exact Kept.refl
  refine Kept.ite ?_ ?_
  refine Kept.trans ?_ State_setJctx_kept
  refine Kept.trans ?_ State_setFld_kept
  refine Kept.trans ?_ (KeptOP.of (by assumption) State_vload_kept)
  exact Kept.refl
  refine Kept.trans ?_ State_xpServe_kept
  refine Kept.trans ?_ State_setFld_kept
  refine Kept.trans ?_ (KeptOP.of (by assumption) State_vload_kept)
  exact Kept.refl

theorem execStateExport_kept {p : BitVec 3} {src : Sys2Proof.Src} {s : State} : KeptN s (@execStateExport p src s) := by
  unfold execStateExport
  try dsimp only
  refine KeptN.mk_ ?_
  refine Kept.trans ?_ State_xpGo_kept
  exact Kept.refl

theorem execStateImport_kept {p : BitVec 3} {src : Sys2Proof.Src} {s : State} : KeptN s (@execStateImport p src s) := by
  unfold execStateImport
  try dsimp only
  refine KeptN.mk_ ?_
  refine Kept.trans ?_ State_xpGo_kept
  exact Kept.refl

theorem State_jnrComplete_kept {s : State} {p : Nat} {i : Nat} : Kept s (@State.jnrComplete s p i) := by
  unfold State.jnrComplete
  try dsimp only
  split
  exact Kept.refl
  split
  exact Kept.refl
  refine Kept.ite ?_ ?_
  exact Kept.refl
  split
  refine Kept.trans ?_ State_xpServe_kept
  refine Kept.trans ?_ State_spineEvent_kept
  refine Kept.trans ?_ State_engineSignal_kept
  refine Kept.trans ?_ State_setJctx_kept
  exact Kept.refl
  refine Kept.trans ?_ State_spineEvent_kept
  refine Kept.trans ?_ State_engineSignal_kept
  refine Kept.trans ?_ State_setJctx_kept
  exact Kept.refl

theorem State_jnrBlockDone_kept {s : State} {p : Nat} {i : Nat} {b : Nat} {skip : Bool} : Kept s (@State.jnrBlockDone s p i b skip) := by
  unfold State.jnrBlockDone
  try dsimp only
  split
  exact Kept.refl
  refine Kept.trans ?_ State_jnrComplete_kept
  refine Kept.trans ?_ State_setJctx_kept
  exact Kept.refl

theorem State_skipPub_kept {s : State} {jb : JJob} {t : JExt} {b : Nat} : Kept s (@State.skipPub s jb t b) := by
  unfold State.skipPub
  try dsimp only
  refine Kept.ite ?_ ?_
  exact Kept.refl
  refine Kept.trans ?_ State_pubList_kept
  refine Kept.trans ?_ (State_readWeights_kept).h
  exact Kept.refl

theorem State_skipBlock_kept {s : State} {jb : JJob} {t : JExt} {b : Nat} {kind : Nat} : Kept s (@State.skipBlock s jb t b kind) := by
  unfold State.skipBlock
  try dsimp only
  refine Kept.trans ?_ State_jnrBlockDone_kept
  refine Kept.trans ?_ State_skipPub_kept
  refine Kept.trans ?_ State_jnrError_kept
  refine Kept.trans ?_ State_count_kept
  exact Kept.refl

theorem State_applyElems_kept {s : State} {jb : JJob} {t : JExt} {r : ColRec} {a : JLatch} {g : JProg} {dup : SrDup} : Kept s (@State.applyElems s jb t r a g dup) := by
  unfold State.applyElems
  try dsimp only
  refine Kept.trans ?_ State_jnrBlockDone_kept
  refine Kept.trans ?_ State_count_kept
  refine Kept.trans ?_ State_count_kept
  refine Kept.ite ?_ ?_
  refine Kept.trans ?_ State_count_kept
  refine Kept.foldl ?_ ?_
  exact Kept.refl
  intro _
  intro _
  refine Kept.ite ?_ ?_
  exact Kept.refl
  refine Kept.trans ?_ State_writeGroup_kept
  refine Kept.trans ?_ (State_readGroup_kept).h
  exact Kept.refl
  refine Kept.foldl ?_ ?_
  exact Kept.refl
  intro _
  intro _
  refine Kept.ite ?_ ?_
  exact Kept.refl
  refine Kept.trans ?_ State_writeGroup_kept
  refine Kept.trans ?_ (State_readGroup_kept).h
  exact Kept.refl

theorem State_runRow_kept {s : State} {jb : JJob} {t : JExt} {a : JLatch} {g : JProg} {row : Nat} {tr : Nat} {dup : SrDup} : Kept s (@State.runRow s jb t a g row tr dup) := by
  unfold State.runRow
  try dsimp only
  refine Kept.trans ?_ State_count_kept
  refine Kept.foldl ?_ ?_
  refine Kept.ite ?_ ?_
  refine Kept.trans ?_ State_count_kept
  refine Kept.ite ?_ ?_
  refine Kept.trans ?_ State_jnrFlags_kept
  refine Kept.ite1 ?_ ?_
  refine KeptP.mk_ ?_
  refine Kept.foldl1 ?_ ?_ <;> try dsimp only
  refine KeptP.mk_ ?_
  exact Kept.refl
  intro _
  intro _
  intro _
  refine KeptP.mk_ ?_
  refine Kept.trans ?_ (State_readGroup_kept).h
  exact Kept.refl
  refine KeptP.mk_ ?_
  refine Kept.trans ?_ (State_readElems_kept).h
  refine Kept.foldl1 ?_ ?_ <;> try dsimp only
  refine KeptP.mk_ ?_
  exact Kept.refl
  intro _
  intro _
  intro _
  refine KeptP.mk_ ?_
  refine Kept.trans ?_ (State_readGroup_kept).h
  exact Kept.refl
  refine Kept.ite ?_ ?_
  refine Kept.trans ?_ State_jnrError_kept
  refine Kept.trans ?_ (State_vstore_kept).h
  refine Kept.trans ?_ State_jnrFlags_kept
  refine Kept.ite1 ?_ ?_
  refine KeptP.mk_ ?_
  refine Kept.foldl1 ?_ ?_ <;> try dsimp only
  refine KeptP.mk_ ?_
  exact Kept.refl
  intro _
  intro _
  intro _
  refine KeptP.mk_ ?_
  refine Kept.trans ?_ (State_readGroup_kept).h
  exact Kept.refl
  refine KeptP.mk_ ?_
  refine Kept.trans ?_ (State_readElems_kept).h
  refine Kept.foldl1 ?_ ?_ <;> try dsimp only
  refine KeptP.mk_ ?_
  exact Kept.refl
  intro _
  intro _
  intro _
  refine KeptP.mk_ ?_
  refine Kept.trans ?_ (State_readGroup_kept).h
  exact Kept.refl
  refine Kept.trans ?_ (State_vstore_kept).h
  refine Kept.trans ?_ State_jnrFlags_kept
  refine Kept.ite1 ?_ ?_
  refine KeptP.mk_ ?_
  refine Kept.foldl1 ?_ ?_ <;> try dsimp only
  refine KeptP.mk_ ?_
  exact Kept.refl
  intro _
  intro _
  intro _
  refine KeptP.mk_ ?_
  refine Kept.trans ?_ (State_readGroup_kept).h
  exact Kept.refl
  refine KeptP.mk_ ?_
  refine Kept.trans ?_ (State_readElems_kept).h
  refine Kept.foldl1 ?_ ?_ <;> try dsimp only
  refine KeptP.mk_ ?_
  exact Kept.refl
  intro _
  intro _
  intro _
  refine KeptP.mk_ ?_
  refine Kept.trans ?_ (State_readGroup_kept).h
  exact Kept.refl
  refine Kept.ite ?_ ?_
  refine Kept.trans ?_ State_jnrFlags_kept
  refine Kept.ite1 ?_ ?_
  refine KeptP.mk_ ?_
  refine Kept.foldl1 ?_ ?_ <;> try dsimp only
  refine KeptP.mk_ ?_
  exact Kept.refl
  intro _
  intro _
  intro _
  refine KeptP.mk_ ?_
  refine Kept.trans ?_ (State_readGroup_kept).h
  exact Kept.refl
  refine KeptP.mk_ ?_
  refine Kept.trans ?_ (State_readElems_kept).h
  refine Kept.foldl1 ?_ ?_ <;> try dsimp only
  refine KeptP.mk_ ?_
  exact Kept.refl
  intro _
  intro _
  intro _
  refine KeptP.mk_ ?_
  refine Kept.trans ?_ (State_readGroup_kept).h
  exact Kept.refl
  refine Kept.ite ?_ ?_
  refine Kept.trans ?_ State_jnrError_kept
  refine Kept.trans ?_ (State_vstore_kept).h
  refine Kept.trans ?_ State_jnrFlags_kept
  refine Kept.ite1 ?_ ?_
  refine KeptP.mk_ ?_
  refine Kept.foldl1 ?_ ?_ <;> try dsimp only
  refine KeptP.mk_ ?_
  exact Kept.refl
  intro _
  intro _
  intro _
  refine KeptP.mk_ ?_
  refine Kept.trans ?_ (State_readGroup_kept).h
  exact Kept.refl
  refine KeptP.mk_ ?_
  refine Kept.trans ?_ (State_readElems_kept).h
  refine Kept.foldl1 ?_ ?_ <;> try dsimp only
  refine KeptP.mk_ ?_
  exact Kept.refl
  intro _
  intro _
  intro _
  refine KeptP.mk_ ?_
  refine Kept.trans ?_ (State_readGroup_kept).h
  exact Kept.refl
  refine Kept.trans ?_ (State_vstore_kept).h
  refine Kept.trans ?_ State_jnrFlags_kept
  refine Kept.ite1 ?_ ?_
  refine KeptP.mk_ ?_
  refine Kept.foldl1 ?_ ?_ <;> try dsimp only
  refine KeptP.mk_ ?_
  exact Kept.refl
  intro _
  intro _
  intro _
  refine KeptP.mk_ ?_
  refine Kept.trans ?_ (State_readGroup_kept).h
  exact Kept.refl
  refine KeptP.mk_ ?_
  refine Kept.trans ?_ (State_readElems_kept).h
  refine Kept.foldl1 ?_ ?_ <;> try dsimp only
  refine KeptP.mk_ ?_
  exact Kept.refl
  intro _
  intro _
  intro _
  refine KeptP.mk_ ?_
  refine Kept.trans ?_ (State_readGroup_kept).h
  exact Kept.refl
  intro _
  intro _
  refine Kept.trans ?_ State_writeGroup_kept
  exact Kept.refl

theorem State_rowBlocksDone_kept {s : State} {jb : JJob} {t : JExt} : Kept s (@State.rowBlocksDone s jb t) := by
  unfold State.rowBlocksDone
  try dsimp only
  split
  exact Kept.refl
  refine Kept.ite ?_ ?_
  exact Kept.refl
  refine Kept.foldl ?_ ?_
  exact Kept.refl
  intro _
  intro _
  refine Kept.trans ?_ State_jnrBlockDone_kept
  refine Kept.trans ?_ State_count_kept
  refine Kept.ite ?_ ?_
  refine Kept.trans ?_ State_count_kept
  exact Kept.refl
  exact Kept.refl

theorem State_applyRow_kept {s : State} {jb0 : JJob} {t : JExt} {a : JLatch} {g : JProg} {row : Nat} {dup : SrDup} : Kept s (@State.applyRow s jb0 t a g row dup) := by
  unfold State.applyRow
  try dsimp only
  split
  exact Kept.refl
  refine Kept.ite ?_ ?_
  exact Kept.refl
  refine Kept.trans ?_ State_rowBlocksDone_kept
  split
  refine Kept.trans ?_ State_jnrError_kept
  refine Kept.trans ?_ State_jnrError_kept
  refine Kept.trans ?_ State_setJctx_kept
  exact Kept.refl
  refine Kept.ite ?_ ?_
  refine Kept.trans ?_ State_jnrError_kept
  refine Kept.trans ?_ (KeptOP.of (by assumption) State_vload_kept)
  refine Kept.trans ?_ State_setJctx_kept
  exact Kept.refl
  refine Kept.trans ?_ State_runRow_kept
  refine Kept.trans ?_ (KeptOP.of (by assumption) State_vload_kept)
  refine Kept.trans ?_ State_setJctx_kept
  exact Kept.refl

theorem execJoinerBlockApply_kept {p : BitVec 3} {jctx : BitVec 10} {num : BitVec 4} {block : Nat} {dup : List (Nat × Bool)} {s : State} : KeptN s (@execJoinerBlockApply p jctx num block dup s) := by
  unfold execJoinerBlockApply
  try dsimp only
  refine KeptN.mk_ ?_
  split
  exact Kept.refl
  refine Kept.ite ?_ ?_
  exact Kept.refl
  refine Kept.ite ?_ ?_
  refine Kept.trans ?_ State_rowBlocksDone_kept
  refine Kept.trans ?_ State_skipBlock_kept
  exact Kept.refl
  refine Kept.ite ?_ ?_
  refine Kept.trans ?_ State_rowBlocksDone_kept
  refine Kept.trans ?_ State_skipBlock_kept
  exact Kept.refl
  split
  refine Kept.trans ?_ State_skipBlock_kept
  exact Kept.refl
  refine Kept.ite ?_ ?_
  refine Kept.trans ?_ State_applyElems_kept
  exact Kept.refl
  refine Kept.trans ?_ State_rowBlocksDone_kept
  refine Kept.foldl ?_ ?_
  exact Kept.refl
  intro _
  intro _
  refine Kept.trans ?_ State_applyRow_kept
  exact Kept.refl

theorem execJoinerRowApply_kept {p : BitVec 3} {jctx : BitVec 10} {num : BitVec 4} {row : Nat} {dup : List (Nat × Bool)} {s : State} : KeptN s (@execJoinerRowApply p jctx num row dup s) := by
  unfold execJoinerRowApply
  try dsimp only
  refine KeptN.mk_ ?_
  split
  exact Kept.refl
  split
  exact Kept.refl
  split
  exact Kept.refl
  refine Kept.trans ?_ State_applyRow_kept
  exact Kept.refl

theorem execJoinerBlockOffer_kept {p : BitVec 3} {entry : BitVec 12} {block : Nat} {s : State} : KeptN s (@execJoinerBlockOffer p entry block s) := by
  unfold execJoinerBlockOffer
  try dsimp only
  refine KeptN.mk_ ?_
  split
  exact Kept.refl
  split
  exact Kept.refl
  refine Kept.ite ?_ ?_
  refine Kept.trans ?_ State_count_kept
  exact Kept.refl
  refine Kept.trans ?_ State_colComplete_kept
  refine Kept.trans ?_ State_settle_kept
  refine Kept.trans ?_ State_setJctx_kept
  exact Kept.refl

theorem execJoinerStepLatch_kept {p : BitVec 3} {jctx : BitVec 10} {s : State} : KeptN s (@execJoinerStepLatch p jctx s) := by
  unfold execJoinerStepLatch
  try dsimp only
  refine KeptN.mk_ ?_
  split
  exact Kept.refl
  split
  exact Kept.refl
  refine Kept.ite ?_ ?_
  exact Kept.refl
  split
  refine Kept.ite ?_ ?_
  refine Kept.trans ?_ State_setJctx_kept
  refine Kept.trans ?_ (State_jnrSlot_kept).h
  exact Kept.refl
  exact Kept.refl
  refine Kept.ite ?_ ?_
  refine Kept.trans ?_ State_setJctx_kept
  refine Kept.trans ?_ (State_jnrSlot_kept).h
  exact Kept.refl
  refine Kept.ite ?_ ?_
  refine Kept.trans ?_ State_count_kept
  exact Kept.refl
  refine Kept.ite ?_ ?_
  exact Kept.refl
  refine Kept.ite ?_ ?_
  refine Kept.trans ?_ State_setJctx_kept
  refine Kept.trans ?_ (State_jnrSlot_kept).h
  refine Kept.trans ?_ State_setPeg_kept
  exact Kept.refl
  dsimp only [Kept_mk]
  refine Keeps.of ?_ ?_
  refine Kept.trans ?_ State_setJctx_kept
  exact Kept.refl
  first | exact Nat.le_refl _ | exact Nat.le_max_left _ _

theorem State_jnrCmd_kept {s : State} {p : Nat} {id : Nat} {op : Nat} : Kept s (@State.jnrCmd s p id op) := by
  unfold State.jnrCmd
  try dsimp only
  refine Kept.trans ?_ State_setReg_kept
  exact Kept.refl

theorem execJoinerCtxInstall_kept {p : BitVec 3} {src : Sys2Proof.Src} {id : BitVec 10} {s : State} : KeptN s (@execJoinerCtxInstall p src id s) := by
  unfold execJoinerCtxInstall
  try dsimp only
  refine KeptN.mk_ ?_
  refine Kept.trans ?_ (State_accessW_kept ?_)
  exact Kept.refl
  intro _
  refine Kept.ite ?_ ?_
  refine Kept.trans ?_ State_jnrCmd_kept
  exact Kept.refl
  refine Kept.ite ?_ ?_
  refine Kept.trans ?_ State_cmdDone_kept
  refine Kept.trans ?_ State_jnrCmd_kept
  exact Kept.refl
  split
  refine Kept.trans ?_ State_cmdDone_kept
  refine Kept.trans ?_ State_jnrCmd_kept
  exact Kept.refl
  refine Kept.ite ?_ ?_
  refine Kept.trans ?_ State_cmdDone_kept
  refine Kept.trans ?_ State_setJctx_kept
  refine Kept.trans ?_ (KeptOP.of (by assumption) State_vload_kept)
  refine Kept.trans ?_ State_jnrCmd_kept
  exact Kept.refl
  refine Kept.trans ?_ State_cmdDone_kept
  refine Kept.trans ?_ (KeptOP.of (by assumption) State_vload_kept)
  refine Kept.trans ?_ State_jnrCmd_kept
  exact Kept.refl

theorem execJoinerCtxRetire_kept {p : BitVec 3} {src : Sys2Proof.Src} {id : BitVec 10} {s : State} : KeptN s (@execJoinerCtxRetire p src id s) := by
  unfold execJoinerCtxRetire
  try dsimp only
  refine KeptN.mk_ ?_
  refine Kept.trans ?_ (State_accessW_kept ?_)
  exact Kept.refl
  intro _
  split
  refine Kept.trans ?_ State_cmdDone_kept
  refine Kept.trans ?_ State_jnrCmd_kept
  exact Kept.refl
  refine Kept.ite ?_ ?_
  refine Kept.trans ?_ State_cmdDone_kept
  refine Kept.trans ?_ State_jnrCmd_kept
  exact Kept.refl
  refine Kept.trans ?_ State_cmdDone_kept
  dsimp only [Kept_mk]
  refine Keeps.of ?_ ?_
  refine Kept.trans ?_ State_jnrCmd_kept
  exact Kept.refl
  first | exact Nat.le_refl _ | exact Nat.le_max_left _ _

theorem State_progCmd_kept {s : State} {slot : Nat} {p : Nat} {op : Nat} : Kept s (@State.progCmd s slot p op) := by
  unfold State.progCmd
  try dsimp only
  refine Kept.trans ?_ State_setReg_kept
  exact Kept.refl

theorem execJoinerProgLoad_kept {src : Sys2Proof.Src} {p : BitVec 3} {slot : BitVec 6} {s : State} : KeptN s (@execJoinerProgLoad src p slot s) := by
  unfold execJoinerProgLoad
  try dsimp only
  refine KeptN.mk_ ?_
  refine Kept.trans ?_ (State_accessW_kept ?_)
  exact Kept.refl
  intro _
  refine Kept.ite ?_ ?_
  refine Kept.trans ?_ State_cmdDone_kept
  refine Kept.trans ?_ State_progCmd_kept
  exact Kept.refl
  refine Kept.ite ?_ ?_
  refine Kept.trans ?_ State_cmdDone_kept
  refine Kept.trans ?_ State_progCmd_kept
  exact Kept.refl
  split
  refine Kept.trans ?_ State_cmdDone_kept
  refine Kept.trans ?_ State_progCmd_kept
  exact Kept.refl
  split
  refine Kept.trans ?_ State_cmdDone_kept
  refine Kept.trans ?_ (KeptOP.of (by assumption) State_vload_kept)
  refine Kept.trans ?_ State_progCmd_kept
  exact Kept.refl
  split
  refine Kept.ite ?_ ?_
  refine Kept.trans ?_ State_cmdDone_kept
  refine Kept.trans ?_ (KeptOP.of (by assumption) State_vload_kept)
  refine Kept.trans ?_ (KeptOP.of (by assumption) State_vload_kept)
  refine Kept.trans ?_ State_progCmd_kept
  exact Kept.refl
  refine Kept.trans ?_ State_cmdDone_kept
  dsimp only [Kept_mk]
  refine Keeps.of ?_ ?_
  refine Kept.trans ?_ (KeptOP.of (by assumption) State_vload_kept)
  refine Kept.trans ?_ (KeptOP.of (by assumption) State_vload_kept)
  refine Kept.trans ?_ State_progCmd_kept
  exact Kept.refl
  first | exact Nat.le_refl _ | exact Nat.le_max_left _ _
  refine Kept.trans ?_ State_cmdDone_kept
  refine Kept.trans ?_ (KeptOP.of (by assumption) State_vload_kept)
  refine Kept.trans ?_ (KeptOP.of (by assumption) State_vload_kept)
  refine Kept.trans ?_ State_progCmd_kept
  exact Kept.refl

theorem execJoinerProgFree_kept {src : Sys2Proof.Src} {p : BitVec 3} {slot : BitVec 6} {s : State} : KeptN s (@execJoinerProgFree src p slot s) := by
  unfold execJoinerProgFree
  try dsimp only
  refine KeptN.mk_ ?_
  refine Kept.trans ?_ (State_accessW_kept ?_)
  exact Kept.refl
  intro _
  split
  refine Kept.trans ?_ State_cmdDone_kept
  refine Kept.trans ?_ State_progCmd_kept
  exact Kept.refl
  refine Kept.ite ?_ ?_
  refine Kept.trans ?_ State_cmdDone_kept
  refine Kept.trans ?_ State_progCmd_kept
  exact Kept.refl
  refine Kept.ite ?_ ?_
  refine Kept.trans ?_ State_cmdDone_kept
  refine Kept.trans ?_ State_progCmd_kept
  exact Kept.refl
  refine Kept.trans ?_ State_cmdDone_kept
  dsimp only [Kept_mk]
  refine Keeps.of ?_ ?_
  refine Kept.trans ?_ State_progCmd_kept
  exact Kept.refl
  first | exact Nat.le_refl _ | exact Nat.le_max_left _ _

end Sys2Proof.Laws
end

