-- ==== Sys2Proof/Laws/KeptFabric.lean ====
section
/-! SUPPORT. What the operations of Machine/Fabric.lean keep. -/
namespace Sys2Proof.Laws
open Sys2Proof Sys2Proof.Machine

theorem State_setPort_kept {s : State} {n : Nat} {q : Port} : Kept s (@State.setPort s n q) := by
  unfold State.setPort
  try dsimp only
  dsimp only [Kept_mk]
  refine Keeps.of ?_ ?_
  exact Kept.refl
  first | exact Nat.le_refl _ | exact Nat.le_max_left _ _

theorem State_portEvent_kept {s : State} {n : Nat} {code : Nat} {part : Nat} {a0 : Nat} {a1 : Nat} : Kept s (@State.portEvent s n code part a0 a1) := by
  unfold State.portEvent
  try dsimp only
  refine Kept.trans ?_ State_emit_kept
  exact Kept.refl

theorem State_installKey_kept {s : State} {owner : Nat} {k : List Sys2Proof.Byte} : Kept s (@State.installKey s owner k) := by
  unfold State.installKey
  try dsimp only
  refine Kept.ite ?_ ?_
  dsimp only [Kept_mk]
  refine Keeps.of ?_ ?_
  exact Kept.refl
  first | exact Nat.le_refl _ | exact Nat.le_max_left _ _
  dsimp only [Kept_mk]
  refine Keeps.of ?_ ?_
  refine Kept.trans ?_ State_setFld_kept
  dsimp only [Kept_mk]
  refine Keeps.of ?_ ?_
  exact Kept.refl
  first | exact Nat.le_refl _ | exact Nat.le_max_left _ _
  first | exact Nat.le_refl _ | exact Nat.le_max_left _ _

theorem State_switchKey_kept {s : State} {owner : Nat} : Kept s (@State.switchKey s owner) := by
  unfold State.switchKey
  try dsimp only
  refine Kept.ite ?_ ?_
  dsimp only [Kept_mk]
  refine Keeps.of ?_ ?_
  exact Kept.refl
  first | exact Nat.le_refl _ | exact Nat.le_max_left _ _
  refine Kept.trans ?_ State_setFld_kept
  refine Kept.trans ?_ State_setFld_kept
  dsimp only [Kept_mk]
  refine Keeps.of ?_ ?_
  exact Kept.refl
  first | exact Nat.le_refl _ | exact Nat.le_max_left _ _

theorem execNextKeyInstall_kept {owner : Nat} {s : State} : KeptN s (@execNextKeyInstall owner s) := by
  unfold execNextKeyInstall
  try dsimp only
  refine KeptN.mk_ ?_
  split
  exact Kept.refl
  refine Kept.ite ?_ ?_
  exact Kept.refl
  split
  exact Kept.refl
  dsimp only [Kept_mk]
  refine Keeps.of ?_ ?_
  exact Kept.refl
  first | exact Nat.le_refl _ | exact Nat.le_max_left _ _

theorem State_queueFrame_kept {s : State} {n : Nat} {f : Frame} : Kept s (@State.queueFrame s n f) := by
  unfold State.queueFrame
  try dsimp only
  refine Kept.trans ?_ State_setPort_kept
  exact Kept.refl

theorem State_sendCtl_kept {s : State} {n : Nat} {m : LinkCtl} : Kept s (@State.sendCtl s n m) := by
  unfold State.sendCtl
  try dsimp only
  refine Kept.trans ?_ State_queueFrame_kept
  exact Kept.refl

theorem State_emitFrame_kept {s : State} {n : Nat} {f : Frame} : Kept s (@State.emitFrame s n f) := by
  unfold State.emitFrame
  try dsimp only
  refine Kept.trans ?_ State_queueFrame_kept
  refine Kept.ite ?_ ?_
  refine Kept.trans ?_ State_sendCtl_kept
  refine Kept.trans ?_ State_setPort_kept
  exact Kept.refl
  refine Kept.trans ?_ State_setPort_kept
  exact Kept.refl

theorem State_lineTick_kept {s : State} {n : Nat} : Kept s (@State.lineTick s n) := by
  unfold State.lineTick
  try dsimp only
  refine Kept.ite ?_ ?_
  exact Kept.refl
  refine Kept.ite ?_ ?_
  refine Kept.trans ?_ State_setPort_kept
  exact Kept.refl
  refine Kept.ite ?_ ?_
  refine Kept.trans ?_ State_setPort_kept
  exact Kept.refl
  dsimp only [Kept_mk]
  refine Keeps.of ?_ ?_
  refine Kept.trans ?_ State_setPort_kept
  exact Kept.refl
  exact Nat.le_refl _

theorem State_replayTick_kept {s : State} {n : Nat} : Kept s (@State.replayTick s n) := by
  unfold State.replayTick
  try dsimp only
  refine Kept.ite ?_ ?_
  exact Kept.refl
  refine Kept.trans ?_ State_count_kept
  exact Kept.refl

theorem State_setSflow_kept {s : State} {k : FlowKey} {f : SFlow} : Kept s (@State.setSflow s k f) := by
  unfold State.setSflow
  try dsimp only
  dsimp only [Kept_mk]
  refine Keeps.of ?_ ?_
  exact Kept.refl
  first | exact Nat.le_refl _ | exact Nat.le_max_left _ _

theorem State_seqSwitch_kept {s : State} {k : FlowKey} {seq : Nat} : Kept s (@State.seqSwitch s k seq) := by
  unfold State.seqSwitch
  try dsimp only
  refine Kept.ite ?_ ?_
  refine Kept.trans ?_ State_switchKey_kept
  exact Kept.refl
  exact Kept.refl

theorem State_sendFrame_kept {s : State} {k : FlowKey} {epoch : BitVec 8} {payload : List Sys2Proof.Byte} : KeptO s (@State.sendFrame s k epoch payload) := by
  unfold State.sendFrame
  try dsimp only
  refine KeptO.bind ?_
  intro _
  refine KeptO.map ?_
  intro _
  refine Kept.trans ?_ State_emitFrame_kept
  dsimp only [Kept_mk]
  refine Keeps.of ?_ ?_
  refine Kept.trans ?_ State_setSflow_kept
  refine Kept.trans ?_ State_seqSwitch_kept
  exact Kept.refl
  first | exact Nat.le_refl _ | exact Nat.le_max_left _ _

theorem State_resendFrame_kept {s : State} {nak : Bool} {r : Replay} : Kept s (@State.resendFrame s nak r) := by
  unfold State.resendFrame
  try dsimp only
  refine Kept.ite ?_ ?_
  exact Kept.refl
  split
  exact Kept.refl
  split
  exact Kept.refl
  refine Kept.trans ?_ State_emitFrame_kept
  dsimp only [Kept_mk]
  refine Keeps.of ?_ ?_
  refine Kept.trans ?_ State_count_kept
  exact Kept.refl
  exact Nat.le_refl _

theorem State_resendPort_kept {s : State} {n : Nat} : Kept s (@State.resendPort s n) := by
  unfold State.resendPort
  try dsimp only
  refine Kept.foldl ?_ ?_
  exact Kept.refl
  intro _
  intro _
  refine Kept.trans ?_ State_resendFrame_kept
  exact Kept.refl

theorem State_portStep_kept {s : State} {n : Nat} {q : Port} {st : PortSt} : Kept s (@State.portStep s n q st) := by
  unfold State.portStep
  try dsimp only
  refine Kept.ite ?_ ?_
  refine Kept.trans ?_ State_setPort_kept
  exact Kept.refl
  refine Kept.ite ?_ ?_
  refine Kept.trans ?_ State_portEvent_kept
  refine Kept.trans ?_ State_setPort_kept
  exact Kept.refl
  split
  refine Kept.trans ?_ State_cause_kept
  refine Kept.trans ?_ State_portEvent_kept
  refine Kept.trans ?_ State_setPort_kept
  exact Kept.refl
  refine Kept.trans ?_ State_portEvent_kept
  refine Kept.trans ?_ State_setPort_kept
  exact Kept.refl

theorem State_portsStep_kept {s : State} {ports : List Nat} {f : State → Nat → State} (hf : ∀ a0 a1, Kept a0 (f a0 a1)) : Kept s (@State.portsStep s ports f) := by
  unfold State.portsStep
  try dsimp only
  refine Kept.foldl ?_ ?_
  refine Kept.foldl ?_ ?_
  exact Kept.refl
  intro _
  intro _
  refine Kept.trans ?_ (hf _ _)
  exact Kept.refl
  intro _
  intro _
  refine Kept.trans ?_ State_resendPort_kept
  exact Kept.refl

theorem State_portTo_kept {s : State} {n : Nat} {q : Port} {st : PortSt} : Kept s (@State.portTo s n q st) := by
  unfold State.portTo
  try dsimp only
  refine Kept.trans ?_ (State_portsStep_kept ?_)
  exact Kept.refl
  intro _
  intro _
  refine Kept.trans ?_ State_portStep_kept
  exact Kept.refl

theorem State_wakeFor_kept {s : State} {k : FlowKey} : Kept s (@State.wakeFor s k) := by
  unfold State.wakeFor
  try dsimp only
  split
  refine Kept.trans ?_ State_portTo_kept
  exact Kept.refl
  exact Kept.refl

theorem State_swapsEnd_kept {s : State} {n : Nat} : Kept s (@State.swapsEnd s n) := by
  unfold State.swapsEnd
  try dsimp only
  refine Kept.ite ?_ ?_
  exact Kept.refl
  refine Kept.trans ?_ State_maintEnd_kept
  refine Kept.trans ?_ State_maintCancel_kept
  exact Kept.refl

theorem State_trainStep_kept {s0 : State} {n : Nat} : Kept s0 (@State.trainStep s0 n) := by
  unfold State.trainStep
  try dsimp only
  refine Kept.trans ?_ State_portStep_kept
  refine Kept.ite ?_ ?_
  refine Kept.trans ?_ State_count_kept
  refine Kept.trans ?_ State_swapsEnd_kept
  exact Kept.refl
  refine Kept.trans ?_ State_swapsEnd_kept
  exact Kept.refl

theorem State_startTrain_kept {s : State} {n : Nat} : Kept s (@State.startTrain s n) := by
  unfold State.startTrain
  try dsimp only
  refine Kept.trans ?_ (State_portsStep_kept ?_)
  exact Kept.refl
  intro _
  intro _
  refine Kept.trans ?_ State_trainStep_kept
  exact Kept.refl

theorem State_offStep_kept {s0 : State} {n : Nat} : Kept s0 (@State.offStep s0 n) := by
  unfold State.offStep
  try dsimp only
  refine Kept.trans ?_ State_portStep_kept
  refine Kept.trans ?_ State_setFld_kept
  refine Kept.trans ?_ State_swapsEnd_kept
  exact Kept.refl

theorem State_assignTrain_kept {s : State} {n : Nat} : Kept s (@State.assignTrain s n) := by
  unfold State.assignTrain
  try dsimp only
  refine Kept.ite ?_ ?_
  exact Kept.refl
  refine Kept.ite ?_ ?_
  refine Kept.trans ?_ State_setPort_kept
  exact Kept.refl
  refine Kept.trans ?_ State_startTrain_kept
  exact Kept.refl

theorem execPortTrainingDelayExpire_kept {port : BitVec 3} {s : State} : KeptN s (@execPortTrainingDelayExpire port s) := by
  unfold execPortTrainingDelayExpire
  try dsimp only
  refine KeptN.mk_ ?_
  refine Kept.ite ?_ ?_
  refine Kept.trans ?_ State_startTrain_kept
  exact Kept.refl
  exact Kept.refl

theorem State_sendTime_kept {s : State} {n : Nat} {rtt : Nat} : Kept s (@State.sendTime s n rtt) := by
  unfold State.sendTime
  try dsimp only
  refine Kept.trans ?_ State_sendCtl_kept
  exact Kept.refl

theorem State_trainUp_kept {s : State} {n : Nat} {errs : List (Option Nat)} {p : Partner} {k : Nat} : Kept s (@State.trainUp s n errs p k) := by
  unfold State.trainUp
  try dsimp only
  refine Kept.trans ?_ State_sendCtl_kept
  refine Kept.trans ?_ State_sendTime_kept
  refine Kept.trans ?_ State_portTo_kept
  refine Kept.trans ?_ State_setReg_kept
  refine Kept.trans ?_ State_setFld_kept
  refine Kept.trans ?_ State_startRecord_kept
  exact Kept.refl

theorem execPortTrainDone_kept {port : BitVec 3} {errs : List (Option Nat)} {partner : Option Partner} {s : State} : KeptN s (@execPortTrainDone port errs partner s) := by
  unfold execPortTrainDone
  try dsimp only
  refine KeptN.mk_ ?_
  refine Kept.ite ?_ ?_
  exact Kept.refl
  split
  refine Kept.ite ?_ ?_
  refine Kept.trans ?_ State_setPort_kept
  exact Kept.refl
  refine Kept.trans ?_ State_pldmEvent_kept
  refine Kept.trans ?_ State_portTo_kept
  refine Kept.trans ?_ State_setFld_kept
  exact Kept.refl
  refine Kept.ite ?_ ?_
  refine Kept.trans ?_ State_trainUp_kept
  exact Kept.refl
  refine Kept.ite ?_ ?_
  refine Kept.trans ?_ State_trainUp_kept
  exact Kept.refl
  refine Kept.ite ?_ ?_
  refine Kept.trans ?_ State_setPort_kept
  exact Kept.refl
  refine Kept.trans ?_ State_pldmEvent_kept
  refine Kept.trans ?_ State_portTo_kept
  refine Kept.trans ?_ State_setFld_kept
  exact Kept.refl

theorem execPortRetrain_kept {port : BitVec 3} {src : Sys2Proof.Src} {s : State} : KeptN s (@execPortRetrain port src s) := by
  unfold execPortRetrain
  try dsimp only
  refine KeptN.mk_ ?_
  refine Kept.trans ?_ (State_accessW_kept ?_)
  exact Kept.refl
  intro _
  refine Kept.ite ?_ ?_
  exact Kept.refl
  refine Kept.trans ?_ State_setFld_kept
  refine Kept.trans ?_ State_startTrain_kept
  exact Kept.refl

theorem execPartnerSilent_kept {port : BitVec 3} {s : State} : KeptN s (@execPartnerSilent port s) := by
  unfold execPartnerSilent
  try dsimp only
  refine KeptN.mk_ ?_
  refine Kept.ite ?_ ?_
  refine Kept.trans ?_ State_startTrain_kept
  exact Kept.refl
  exact Kept.refl

theorem State_askSwap_kept {s : State} {n : Nat} {lane : Nat} : Kept s (@State.askSwap s n lane) := by
  unfold State.askSwap
  try dsimp only
  refine Kept.ite ?_ ?_
  refine Kept.trans ?_ (State_maintAsk_kept).h
  exact Kept.refl
  refine Kept.trans ?_ State_setPort_kept
  refine Kept.trans ?_ (State_maintAsk_kept).h
  exact Kept.refl

theorem execLumderLaneSwapRequest_kept {port : BitVec 3} {lane : Nat} {s : State} : KeptN s (@execLumderLaneSwapRequest port lane s) := by
  unfold execLumderLaneSwapRequest
  try dsimp only
  refine KeptN.mk_ ?_
  refine Kept.ite ?_ ?_
  exact Kept.refl
  refine Kept.trans ?_ State_askSwap_kept
  exact Kept.refl

theorem State_portRecord_kept {s : State} {n : Nat} {src : Nat} : Kept s (@State.portRecord s n src) := by
  unfold State.portRecord
  try dsimp only
  refine Kept.trans ?_ State_addRecord_kept
  exact Kept.refl

theorem State_laneSwapped_kept {s : State} {n : Nat} {lane : Nat} : Kept s (@State.laneSwapped s n lane) := by
  unfold State.laneSwapped
  try dsimp only
  refine Kept.trans ?_ State_portRecord_kept
  refine Kept.trans ?_ State_count_kept
  refine Kept.trans ?_ State_setPort_kept
  exact Kept.refl

theorem execLumderLaneSwap_kept {port : BitVec 3} {lane : Nat} {boundary : Nat} {s : State} : KeptN s (@execLumderLaneSwap port lane boundary s) := by
  unfold execLumderLaneSwap
  try dsimp only
  refine KeptN.mk_ ?_
  refine Kept.ite ?_ ?_
  exact Kept.refl
  refine Kept.ite ?_ ?_
  refine Kept.trans ?_ State_laneSwapped_kept
  exact Kept.refl
  refine Kept.ite ?_ ?_
  refine Kept.trans ?_ State_maintEnd_kept
  refine Kept.trans ?_ State_laneSwapped_kept
  exact Kept.refl
  refine Kept.ite ?_ ?_
  refine Kept.trans ?_ State_sendCtl_kept
  refine Kept.trans ?_ State_setPort_kept
  exact Kept.refl
  exact Kept.refl

theorem execLumderLaneFail_kept {port : BitVec 3} {lane : Nat} {s : State} : KeptN s (@execLumderLaneFail port lane s) := by
  unfold execLumderLaneFail
  try dsimp only
  refine KeptN.mk_ ?_
  refine Kept.ite ?_ ?_
  exact Kept.refl
  refine Kept.ite ?_ ?_
  refine Kept.trans ?_ State_startTrain_kept
  exact Kept.refl
  refine Kept.trans ?_ State_portRecord_kept
  refine Kept.trans ?_ State_count_kept
  refine Kept.trans ?_ State_setPort_kept
  refine Kept.ite ?_ ?_
  refine Kept.trans ?_ State_maintEnd_kept
  refine Kept.trans ?_ State_maintCancel_kept
  exact Kept.refl
  exact Kept.refl

theorem execSleepRequest_kept {port : BitVec 3} {boundary : Nat} {s : State} : KeptN s (@execSleepRequest port boundary s) := by
  unfold execSleepRequest
  try dsimp only
  refine KeptN.mk_ ?_
  refine Kept.ite ?_ ?_
  refine Kept.trans ?_ State_setPort_kept
  exact Kept.refl
  exact Kept.refl

theorem State_goSleep_kept {s : State} {n : Nat} : Kept s (@State.goSleep s n) := by
  unfold State.goSleep
  try dsimp only
  refine Kept.ite ?_ ?_
  refine Kept.trans ?_ State_count_kept
  refine Kept.trans ?_ State_portTo_kept
  exact Kept.refl
  refine Kept.trans ?_ State_maintEnd_kept
  refine Kept.trans ?_ State_count_kept
  refine Kept.trans ?_ State_portTo_kept
  exact Kept.refl

theorem execSleepEnter_kept {port : BitVec 3} {s : State} : KeptN s (@execSleepEnter port s) := by
  unfold execSleepEnter
  try dsimp only
  refine KeptN.mk_ ?_
  split
  exact Kept.refl
  refine Kept.ite ?_ ?_
  refine Kept.trans ?_ State_goSleep_kept
  exact Kept.refl
  exact Kept.refl

theorem State_sleepAbort_kept {s : State} {n : Nat} : Kept s (@State.sleepAbort s n) := by
  unfold State.sleepAbort
  try dsimp only
  refine Kept.ite ?_ ?_
  refine Kept.trans ?_ State_sendCtl_kept
  refine Kept.trans ?_ State_setPort_kept
  exact Kept.refl
  exact Kept.refl

theorem execWakeTrigger_kept {port : BitVec 3} {tone : Bool} {s : State} : KeptN s (@execWakeTrigger port tone s) := by
  unfold execWakeTrigger
  try dsimp only
  refine KeptN.mk_ ?_
  refine Kept.ite ?_ ?_
  refine Kept.trans ?_ State_portTo_kept
  exact Kept.refl
  refine Kept.ite ?_ ?_
  refine Kept.trans ?_ State_sleepAbort_kept
  exact Kept.refl
  exact Kept.refl

theorem State_unalign_kept {s : State} {n : Nat} : Kept s (@State.unalign s n) := by
  unfold State.unalign
  try dsimp only
  refine Kept.trans ?_ State_portEvent_kept
  refine Kept.trans ?_ State_startTrain_kept
  refine Kept.trans ?_ State_setPort_kept
  exact Kept.refl

theorem State_wakeUp_kept {s : State} {n : Nat} {rtt : Nat} : Kept s (@State.wakeUp s n rtt) := by
  unfold State.wakeUp
  try dsimp only
  refine Kept.foldl ?_ ?_
  refine Kept.trans ?_ State_sendTime_kept
  refine Kept.trans ?_ State_portTo_kept
  refine Kept.trans ?_ State_setReg_kept
  exact Kept.refl
  intro _
  intro _
  refine Kept.trans ?_ State_askSwap_kept
  exact Kept.refl

theorem execFastWakeDone_kept {port : BitVec 3} {lock : Bool} {partner : Time} {rtt : Nat} {s : State} : KeptN s (@execFastWakeDone port lock partner rtt s) := by
  unfold execFastWakeDone
  try dsimp only
  refine KeptN.mk_ ?_
  refine Kept.ite ?_ ?_
  exact Kept.refl
  refine Kept.ite ?_ ?_
  refine Kept.trans ?_ State_wakeUp_kept
  refine Kept.ite ?_ ?_
  refine Kept.trans ?_ State_setReg_kept
  exact Kept.refl
  exact Kept.refl
  refine Kept.trans ?_ State_unalign_kept
  refine Kept.ite ?_ ?_
  refine Kept.trans ?_ State_setReg_kept
  exact Kept.refl
  exact Kept.refl

theorem execWakeToneTimeout_kept {port : BitVec 3} {s : State} : KeptN s (@execWakeToneTimeout port s) := by
  unfold execWakeToneTimeout
  try dsimp only
  refine KeptN.mk_ ?_
  refine Kept.ite ?_ ?_
  refine Kept.trans ?_ State_startTrain_kept
  exact Kept.refl
  exact Kept.refl

theorem State_putMsg_kept {s : State} {k : FlowKey} {cls : Nat} {body : List Sys2Proof.Byte} : Kept s (@State.putMsg s k cls body) := by
  unfold State.putMsg
  try dsimp only
  refine Kept.trans ?_ State_setSflow_kept
  exact Kept.refl

theorem State_pump_kept {s : State} {k : FlowKey} : Kept s (@State.pump s k) := by
  unfold State.pump
  try dsimp only
  refine Kept.ite ?_ ?_
  exact Kept.refl
  dsimp only [Kept_mk]
  refine Keeps.of ?_ ?_
  refine Kept.foldl ?_ ?_
  refine Kept.foldl ?_ ?_
  dsimp only [Kept_mk]
  refine Keeps.of ?_ ?_
  exact Kept.refl
  first | exact Nat.le_refl _ | exact Nat.le_max_left _ _
  intro _
  intro _
  refine Kept.trans ?_ State_putMsg_kept
  exact Kept.refl
  intro _
  intro _
  split
  refine Kept.trans ?_ State_putMsg_kept
  exact Kept.refl
  exact Kept.refl
  first | exact Nat.le_refl _ | exact Nat.le_max_left _ _

theorem State_closeFrame_kept {s : State} {k : FlowKey} {n : Nat} : KeptO s (s.closeFrame k n) := by
  unfold State.closeFrame
  refine ⟨fun t e => ?_⟩
  obtain ⟨s1, h, rfl⟩ := Option.map_eq_some_iff.mp e
  exact (KeptO.of h State_sendFrame_kept).trans State_setSflow_kept

theorem State_flushFlow_kept {k : FlowKey} {n : Nat} {s : State} : Kept s (State.flushFlow k n s) := by
  induction n generalizing s with
  | zero => exact Kept.refl
  | succ n ih =>
    unfold State.flushFlow
    split
    · exact Kept.refl
    · split
      · next h => exact (KeptO.of h State_closeFrame_kept).trans ih
      · exact Kept.refl

theorem State_flushFlows_kept {s : State} {p : Nat} : Kept s (@State.flushFlows s p) := by
  unfold State.flushFlows
  try dsimp only
  refine Kept.foldl ?_ ?_
  exact Kept.refl
  intro _
  intro _
  refine Kept.trans ?_ State_flushFlow_kept
  refine Kept.trans ?_ State_pump_kept
  exact Kept.refl

theorem execFrameClose_kept {key : FlowKey} {s0 : State} : KeptN s0 (@execFrameClose key s0) := by
  unfold execFrameClose
  try dsimp only
  refine KeptN.mk_ ?_
  refine Kept.ite ?_ ?_
  refine Kept.trans ?_ State_pump_kept
  exact Kept.refl
  refine Kept.ite ?_ ?_
  refine Kept.trans ?_ State_pump_kept
  exact Kept.refl
  refine Kept.ite ?_ ?_
  refine Kept.trans ?_ State_wakeFor_kept
  refine Kept.trans ?_ State_pump_kept
  exact Kept.refl
  refine KeptO.getD ?_ ?_
  refine KeptO.trans ?_ State_closeFrame_kept
  refine Kept.trans ?_ State_pump_kept
  exact Kept.refl
  refine Kept.trans ?_ State_pump_kept
  exact Kept.refl

theorem State_flowBreak_kept {s : State} {k : FlowKey} {n : Nat} : Kept s (@State.flowBreak s k n) := by
  unfold State.flowBreak
  try dsimp only
  split
  exact Kept.refl
  refine Kept.trans ?_ State_cause_kept
  refine Kept.trans ?_ State_portEvent_kept
  refine Kept.trans ?_ State_count_kept
  refine Kept.trans ?_ State_latchBy_kept
  dsimp only [Kept_mk]
  refine Keeps.of ?_ ?_
  exact Kept.refl
  exact Nat.le_refl _

theorem State_takeMsg_kept {s : State} {k : FlowKey} {n : Nat} {epoch : Nat} {cls : Nat} {body : List Sys2Proof.Byte} : KeptO s (@State.takeMsg s k n epoch cls body) := by
  unfold State.takeMsg
  try dsimp only
  split
  refine KeptO.ite ?_ ?_
  exact KeptO.none_
  refine KeptO.some_ ?_
  refine Kept.foldl ?_ ?_
  exact Kept.refl
  intro _
  intro _
  dsimp only [Kept_mk]
  refine Keeps.of ?_ ?_
  exact Kept.refl
  first | exact Nat.le_refl _ | exact Nat.le_max_left _ _
  refine KeptO.ite ?_ ?_
  exact KeptO.none_
  refine KeptO.some_ ?_
  dsimp only [Kept_mk]
  refine Keeps.of ?_ ?_
  exact Kept.refl
  first | exact Nat.le_refl _ | exact Nat.le_max_left _ _
  refine KeptO.ite ?_ ?_
  refine KeptO.some_ ?_
  dsimp only [Kept_mk]
  refine Keeps.of ?_ ?_
  exact Kept.refl
  first | exact Nat.le_refl _ | exact Nat.le_max_left _ _
  exact KeptO.none_
  exact KeptO.none_

theorem State_takeMsgs_kept {k : FlowKey} {n epoch f : Nat} {s : State} {l : List Byte} :
    KeptP s (State.takeMsgs k n epoch f s l) := by
  induction f generalizing s l with
  | zero => exact ⟨Kept.refl⟩
  | succ f ih =>
    unfold State.takeMsgs
    dsimp only
    split
    · exact ⟨Kept.refl⟩
    · split
      · exact ⟨Kept.refl⟩
      · next h => exact KeptP.trans (KeptO.of h State_takeMsg_kept) ih

theorem State_sendAck_kept {s : State} {k : FlowKey} {nak : Bool} {seq : Nat} {cnt : Nat} : KeptO s (@State.sendAck s k nak seq cnt) := by
  unfold State.sendAck
  try dsimp only
  refine KeptO.bind ?_
  intro _
  refine KeptO.bind ?_
  intro _
  refine KeptO.map ?_
  intro _
  refine Kept.trans ?_ State_emitFrame_kept
  dsimp only [Kept_mk]
  refine Keeps.of ?_ ?_
  exact Kept.refl
  exact Nat.le_refl _

theorem State_ackRecord_kept {s : State} {k : FlowKey} {seq : Nat} : Kept s (@State.ackRecord s k seq) := by
  unfold State.ackRecord
  try dsimp only
  refine KeptO.getD ?_ ?_
  refine KeptO.trans ?_ State_sendAck_kept
  exact Kept.refl
  exact Kept.refl

theorem State_reorder_kept {s : State} {k : FlowKey} {n : Nat} {f : RFlow} {seq : Nat} {payload : List Byte} : Kept s (@State.reorder s k n f seq payload) := by
  unfold State.reorder
  try dsimp only
  refine Kept.ite ?_ ?_
  dsimp only [Kept_mk]
  refine Keeps.of ?_ ?_
  exact Kept.refl
  exact Nat.le_refl _
  refine Kept.ite ?_ ?_
  refine Kept.trans ?_ State_ackRecord_kept
  refine Kept.trans ?_ State_count_kept
  dsimp only [Kept_mk]
  refine Keeps.of ?_ ?_
  exact Kept.refl
  exact Nat.le_refl _
  refine Kept.ite ?_ ?_
  refine Kept.ite ?_ ?_
  refine Kept.trans ?_ State_count_kept
  dsimp only [Kept_mk]
  refine Keeps.of ?_ ?_
  exact Kept.refl
  exact Nat.le_refl _
  dsimp only [Kept_mk]
  refine Keeps.of ?_ ?_
  exact Kept.refl
  exact Nat.le_refl _
  refine Kept.ite ?_ ?_
  refine Kept.trans ?_ State_flowBreak_kept
  dsimp only [Kept_mk]
  refine Keeps.of ?_ ?_
  refine Kept.trans ?_ (State_takeMsgs_kept).h
  dsimp only [Kept_mk]
  refine Keeps.of ?_ ?_
  exact Kept.refl
  exact Nat.le_refl _
  exact Nat.le_refl _
  dsimp only [Kept_mk]
  refine Keeps.of ?_ ?_
  refine Kept.trans ?_ (State_takeMsgs_kept).h
  dsimp only [Kept_mk]
  refine Keeps.of ?_ ?_
  exact Kept.refl
  exact Nat.le_refl _
  exact Nat.le_refl _

theorem State_touchPort_kept {s : State} {n : Nat} : Kept s (@State.touchPort s n) := by
  unfold State.touchPort
  try dsimp only
  refine Kept.trans ?_ State_setPort_kept
  exact Kept.refl

theorem State_receive_kept {s : State} {n : Nat} {cws : List (List Nat)} : KeptP s (@State.receive s n cws) := by
  unfold State.receive
  try dsimp only
  refine KeptP.mk_ ?_
  refine Kept.trans ?_ State_count_kept
  refine Kept.trans ?_ State_count_kept
  refine Kept.trans ?_ State_setPort_kept
  exact Kept.refl

theorem State_followKey_kept {s : State} {k : FlowKey} {kidx : Nat} : Kept s (@State.followKey s k kidx) := by
  unfold State.followKey
  try dsimp only
  refine Kept.ite ?_ ?_
  exact Kept.refl
  refine Kept.trans ?_ State_switchKey_kept
  exact Kept.refl

theorem State_sliceReject_kept {s : State} {n : Nat} {h : Head} {frame : Frame} : Kept s (@State.sliceReject s n h frame) := by
  unfold State.sliceReject
  try dsimp only
  refine Kept.ite ?_ ?_
  refine Kept.trans ?_ State_count_kept
  exact Kept.refl
  split
  refine Kept.trans ?_ State_count_kept
  refine Kept.trans ?_ State_count_kept
  exact Kept.refl
  refine Kept.trans ?_ State_count_kept
  exact Kept.refl

theorem execDataFrame_kept {port : BitVec 3} {cws : List (List Nat)} {frame : Frame} {s0 : State} : KeptN s0 (@execDataFrame port cws frame s0) := by
  unfold execDataFrame
  try dsimp only
  refine KeptN.mk_ ?_
  refine Kept.ite ?_ ?_
  exact Kept.refl
  refine Kept.ite ?_ ?_
  refine Kept.trans ?_ (State_receive_kept).h
  exact Kept.refl
  refine Kept.ite ?_ ?_
  refine Kept.trans ?_ State_touchPort_kept
  refine Kept.trans ?_ (State_receive_kept).h
  exact Kept.refl
  refine Kept.ite ?_ ?_
  refine Kept.trans ?_ State_count_kept
  refine Kept.trans ?_ State_touchPort_kept
  refine Kept.trans ?_ (State_receive_kept).h
  exact Kept.refl
  refine Kept.ite ?_ ?_
  refine Kept.trans ?_ State_sliceReject_kept
  refine Kept.trans ?_ State_touchPort_kept
  refine Kept.trans ?_ (State_receive_kept).h
  exact Kept.refl
  refine Kept.ite ?_ ?_
  refine Kept.trans ?_ State_touchPort_kept
  refine Kept.trans ?_ (State_receive_kept).h
  exact Kept.refl
  split
  refine Kept.trans ?_ State_count_kept
  refine Kept.trans ?_ State_touchPort_kept
  refine Kept.trans ?_ (State_receive_kept).h
  exact Kept.refl
  split
  refine Kept.trans ?_ State_count_kept
  refine Kept.trans ?_ State_followKey_kept
  refine Kept.trans ?_ State_touchPort_kept
  refine Kept.trans ?_ (State_receive_kept).h
  exact Kept.refl
  refine Kept.trans ?_ State_reorder_kept
  refine Kept.trans ?_ State_followKey_kept
  refine Kept.trans ?_ State_touchPort_kept
  refine Kept.trans ?_ (State_receive_kept).h
  exact Kept.refl

theorem execTrayWindowFrame_kept {port : BitVec 3} {cws : List (List Nat)} {frame : Frame} {s0 : State} : KeptN s0 (@execTrayWindowFrame port cws frame s0) := by
  unfold execTrayWindowFrame
  try dsimp only
  refine KeptN.mk_ ?_
  refine Kept.ite ?_ ?_
  exact Kept.refl
  refine Kept.ite ?_ ?_
  refine Kept.trans ?_ (State_receive_kept).h
  exact Kept.refl
  refine Kept.ite ?_ ?_
  refine Kept.trans ?_ State_touchPort_kept
  refine Kept.trans ?_ (State_receive_kept).h
  exact Kept.refl
  refine Kept.ite ?_ ?_
  refine Kept.trans ?_ State_count_kept
  refine Kept.trans ?_ State_touchPort_kept
  refine Kept.trans ?_ (State_receive_kept).h
  exact Kept.refl
  refine Kept.ite ?_ ?_
  refine Kept.trans ?_ State_count_kept
  refine Kept.trans ?_ State_touchPort_kept
  refine Kept.trans ?_ (State_receive_kept).h
  exact Kept.refl
  split
  refine Kept.trans ?_ State_count_kept
  refine Kept.trans ?_ State_touchPort_kept
  refine Kept.trans ?_ (State_receive_kept).h
  exact Kept.refl
  split
  refine Kept.trans ?_ State_count_kept
  refine Kept.trans ?_ State_followKey_kept
  refine Kept.trans ?_ State_touchPort_kept
  refine Kept.trans ?_ (State_receive_kept).h
  exact Kept.refl
  refine Kept.trans ?_ State_reorder_kept
  refine Kept.trans ?_ State_followKey_kept
  refine Kept.trans ?_ State_touchPort_kept
  refine Kept.trans ?_ (State_receive_kept).h
  exact Kept.refl

theorem State_countNak_kept {s : State} {addr : Nat} {n : Nat} : Kept s (@State.countNak s addr n) := by
  unfold State.countNak
  try dsimp only
  dsimp only [Kept_mk]
  refine Keeps.of ?_ ?_
  exact Kept.refl
  first | exact Nat.le_refl _ | exact Nat.le_max_left _ _

theorem State_ackOne_kept {s : State} {tray : Bool} {peer : Nat} {d : List Sys2Proof.Byte} : Kept s (@State.ackOne s tray peer d) := by
  unfold State.ackOne
  try dsimp only
  split
  dsimp only [Kept_mk]
  refine Keeps.of ?_ ?_
  exact Kept.refl
  first | exact Nat.le_refl _ | exact Nat.le_max_left _ _
  refine Kept.foldl ?_ ?_
  exact Kept.refl
  intro _
  intro _
  refine Kept.trans ?_ State_resendFrame_kept
  refine Kept.trans ?_ State_countNak_kept
  exact Kept.refl
  exact Kept.refl

theorem execAckFrame_kept {port : BitVec 3} {cws : List (List Nat)} {frame : Frame} {s0 : State} : KeptN s0 (@execAckFrame port cws frame s0) := by
  unfold execAckFrame
  try dsimp only
  refine KeptN.mk_ ?_
  refine Kept.ite ?_ ?_
  exact Kept.refl
  refine Kept.ite ?_ ?_
  refine Kept.trans ?_ (State_receive_kept).h
  exact Kept.refl
  refine Kept.ite ?_ ?_
  refine Kept.trans ?_ State_count_kept
  refine Kept.trans ?_ State_touchPort_kept
  refine Kept.trans ?_ (State_receive_kept).h
  exact Kept.refl
  refine Kept.ite ?_ ?_
  refine Kept.trans ?_ State_count_kept
  refine Kept.trans ?_ State_touchPort_kept
  refine Kept.trans ?_ (State_receive_kept).h
  exact Kept.refl
  refine Kept.ite ?_ ?_
  refine Kept.trans ?_ State_count_kept
  refine Kept.trans ?_ State_touchPort_kept
  refine Kept.trans ?_ (State_receive_kept).h
  exact Kept.refl
  split
  refine Kept.ite ?_ ?_
  refine Kept.trans ?_ State_count_kept
  refine Kept.trans ?_ State_touchPort_kept
  refine Kept.trans ?_ (State_receive_kept).h
  exact Kept.refl
  refine Kept.trans ?_ State_count_kept
  refine Kept.trans ?_ State_touchPort_kept
  refine Kept.trans ?_ (State_receive_kept).h
  exact Kept.refl
  refine Kept.ite ?_ ?_
  refine Kept.ite ?_ ?_
  refine Kept.trans ?_ State_count_kept
  refine Kept.trans ?_ State_followKey_kept
  refine Kept.trans ?_ State_touchPort_kept
  refine Kept.trans ?_ (State_receive_kept).h
  exact Kept.refl
  refine Kept.trans ?_ State_count_kept
  refine Kept.trans ?_ State_followKey_kept
  refine Kept.trans ?_ State_touchPort_kept
  refine Kept.trans ?_ (State_receive_kept).h
  exact Kept.refl
  refine Kept.foldl ?_ ?_
  refine Kept.trans ?_ State_setSflow_kept
  refine Kept.trans ?_ State_followKey_kept
  refine Kept.trans ?_ State_touchPort_kept
  refine Kept.trans ?_ (State_receive_kept).h
  exact Kept.refl
  intro _
  intro _
  refine Kept.trans ?_ State_ackOne_kept
  exact Kept.refl

theorem execAckSend_kept {key : FlowKey} {s : State} : KeptN s (@execAckSend key s) := by
  unfold execAckSend
  try dsimp only
  refine KeptN.mk_ ?_
  split
  exact Kept.refl
  refine Kept.ite ?_ ?_
  exact Kept.refl
  refine Kept.trans ?_ State_ackRecord_kept
  exact Kept.refl

theorem execNakTimeout_kept {key : FlowKey} {s : State} : KeptN s (@execNakTimeout key s) := by
  unfold execNakTimeout
  try dsimp only
  refine KeptN.mk_ ?_
  split
  exact Kept.refl
  split
  exact Kept.refl
  refine Kept.ite ?_ ?_
  exact Kept.refl
  refine Kept.ite ?_ ?_
  refine Kept.trans ?_ State_flowBreak_kept
  exact Kept.refl
  split
  exact Kept.refl
  split
  refine Kept.trans ?_ (KeptO.of (by assumption) State_sendAck_kept)
  exact Kept.refl
  dsimp only [Kept_mk]
  refine Keeps.of ?_ ?_
  refine Kept.trans ?_ (KeptO.of (by assumption) State_sendAck_kept)
  exact Kept.refl
  exact Nat.le_refl _

theorem execFrameResendTimeout_kept {key : FlowKey} {seq : Nat} {s : State} : KeptN s (@execFrameResendTimeout key seq s) := by
  unfold execFrameResendTimeout
  try dsimp only
  refine KeptN.mk_ ?_
  split
  refine Kept.ite ?_ ?_
  refine Kept.trans ?_ State_resendFrame_kept
  exact Kept.refl
  exact Kept.refl
  exact Kept.refl

theorem execFlowDormant_kept {key : FlowKey} {s : State} : KeptN s (@execFlowDormant key s) := by
  unfold execFlowDormant
  try dsimp only
  refine KeptN.mk_ ?_
  split
  refine Kept.ite ?_ ?_
  dsimp only [Kept_mk]
  refine Keeps.of ?_ ?_
  exact Kept.refl
  first | exact Nat.le_refl _ | exact Nat.le_max_left _ _
  exact Kept.refl
  exact Kept.refl

theorem execPortAvoidExpire_kept {addr : Nat} {port : BitVec 3} {s : State} : KeptN s (@execPortAvoidExpire addr port s) := by
  unfold execPortAvoidExpire
  try dsimp only
  refine KeptN.mk_ ?_
  split
  refine Kept.ite ?_ ?_
  dsimp only [Kept_mk]
  refine Keeps.of ?_ ?_
  exact Kept.refl
  first | exact Nat.le_refl _ | exact Nat.le_max_left _ _
  exact Kept.refl
  exact Kept.refl

theorem execIdleFrame_kept {port : BitVec 3} {cws : List (List Nat)} {frame : Frame} {s0 : State} : KeptN s0 (@execIdleFrame port cws frame s0) := by
  unfold execIdleFrame
  try dsimp only
  refine KeptN.mk_ ?_
  refine Kept.ite ?_ ?_
  exact Kept.refl
  refine Kept.ite ?_ ?_
  refine Kept.trans ?_ (State_receive_kept).h
  exact Kept.refl
  refine Kept.trans ?_ State_count_kept
  refine Kept.trans ?_ (State_receive_kept).h
  exact Kept.refl

theorem State_linkCtl_kept {s : State} {n : Nat} {m : LinkCtl} : Kept s (@State.linkCtl s n m) := by
  unfold State.linkCtl
  try dsimp only
  split
  exact Kept.refl
  refine Kept.ite ?_ ?_
  refine Kept.trans ?_ State_sendCtl_kept
  refine Kept.trans ?_ State_setPort_kept
  exact Kept.refl
  refine Kept.trans ?_ State_sendCtl_kept
  exact Kept.refl
  refine Kept.ite ?_ ?_
  refine Kept.trans ?_ State_setPort_kept
  exact Kept.refl
  exact Kept.refl
  refine Kept.trans ?_ State_setPort_kept
  exact Kept.refl
  refine Kept.ite ?_ ?_
  exact Kept.refl
  refine Kept.trans ?_ State_setPort_kept
  exact Kept.refl
  refine Kept.trans ?_ State_setReg_kept
  exact Kept.refl

theorem execLinkControlFrame_kept {port : BitVec 3} {cws : List (List Nat)} {frame : Frame} {msg : LinkCtl} {s0 : State} : KeptN s0 (@execLinkControlFrame port cws frame msg s0) := by
  unfold execLinkControlFrame
  try dsimp only
  refine KeptN.mk_ ?_
  refine Kept.ite ?_ ?_
  exact Kept.refl
  refine Kept.ite ?_ ?_
  refine Kept.trans ?_ (State_receive_kept).h
  exact Kept.refl
  refine Kept.ite ?_ ?_
  refine Kept.trans ?_ State_count_kept
  refine Kept.trans ?_ (State_receive_kept).h
  exact Kept.refl
  refine Kept.trans ?_ State_linkCtl_kept
  refine Kept.trans ?_ State_setPort_kept
  refine Kept.trans ?_ (State_receive_kept).h
  exact Kept.refl

theorem execPegMessage_kept {s : State} : KeptN s (@execPegMessage s) := by
  unfold execPegMessage
  try dsimp only
  refine KeptN.mk_ ?_
  split
  exact Kept.refl
  refine Kept.ite ?_ ?_
  refine Kept.trans ?_ State_walkPeg_kept
  refine Kept.trans ?_ State_addPeg_kept
  dsimp only [Kept_mk]
  refine Keeps.of ?_ ?_
  exact Kept.refl
  first | exact Nat.le_refl _ | exact Nat.le_max_left _ _
  refine Kept.trans ?_ State_count_kept
  dsimp only [Kept_mk]
  refine Keeps.of ?_ ?_
  exact Kept.refl
  first | exact Nat.le_refl _ | exact Nat.le_max_left _ _

end Sys2Proof.Laws
end

