-- ==== Sys2Proof/Laws/KeptPartition.lean ====
section
/-! SUPPORT. What the operations of Machine/Partition.lean keep. -/
namespace Sys2Proof.Laws
open Sys2Proof Sys2Proof.Machine

theorem State_setLink_kept {s : State} {l : Nat} {v : Link} : Kept s (@State.setLink s l v) := by
  unfold State.setLink
  try dsimp only
  dsimp only [Kept_mk]
  refine Keeps.of ?_ ?_
  exact Kept.refl
  first | exact Nat.le_refl _ | exact Nat.le_max_left _ _

theorem State_giveBundles_kept {s : State} {l : Nat} {p : Nat} {n : Nat} : Kept s (@State.giveBundles s l p n) := by
  unfold State.giveBundles
  try dsimp only
  refine Kept.trans ?_ State_setLink_kept
  exact Kept.refl

theorem State_drainFlits_kept {s : State} {p : Nat} : Kept s (@State.drainFlits s p) := by
  unfold State.drainFlits
  try dsimp only
  refine Kept.foldl ?_ ?_
  exact Kept.refl
  intro _
  intro _
  refine Kept.trans ?_ State_setLink_kept
  exact Kept.refl

theorem State_freeBundles_kept {s : State} {p : Nat} : Kept s (@State.freeBundles s p) := by
  unfold State.freeBundles
  try dsimp only
  refine Kept.foldl ?_ ?_
  exact Kept.refl
  intro _
  intro _
  refine Kept.trans ?_ State_setLink_kept
  exact Kept.refl

theorem State_forget_kept {s : State} {f : Nat → Bool} : Kept s (s.forget f) := ⟨rfl, filter_wf, Nat.le_refl _, id, id⟩

theorem State_endWork_kept {s : State} {p : Nat} : Kept s (@State.endWork s p) := by
  unfold State.endWork
  try dsimp only
  refine Kept.foldl ?_ ?_
  dsimp only [Kept_mk]
  refine Keeps.of ?_ ?_
  exact Kept.refl
  first | exact Nat.le_refl _ | exact Nat.le_max_left _ _
  intro _
  intro _
  refine Kept.ite ?_ ?_
  refine Kept.trans ?_ State_setPool_kept
  exact Kept.refl
  exact Kept.refl

theorem State_zeroPegs_kept {s : State} {p : Nat} : Kept s (@State.zeroPegs s p) := by
  unfold State.zeroPegs
  try dsimp only
  dsimp only [Kept_mk]
  refine Keeps.of ?_ ?_
  exact Kept.refl
  first | exact Nat.le_refl _ | exact Nat.le_max_left _ _

theorem State_zeroPools_kept {s : State} {p : Nat} : Kept s (@State.zeroPools s p) := by
  unfold State.zeroPools
  try dsimp only
  refine Kept.foldl ?_ ?_
  exact Kept.refl
  intro _
  intro _
  refine Kept.ite ?_ ?_
  refine Kept.trans ?_ State_setPool_kept
  refine Kept.trans ?_ State_setFld_kept
  exact Kept.refl
  exact Kept.refl

theorem State_retireTables_kept {s : State} {p : Nat} : Kept s (@State.retireTables s p) := by
  unfold State.retireTables
  try dsimp only
  dsimp only [Kept_mk]
  refine Keeps.of ?_ ?_
  refine Kept.ite ?_ ?_
  refine Kept.trans ?_ State_cmdDone_kept
  refine Kept.trans ?_ State_setFld_kept
  exact Kept.refl
  exact Kept.refl
  first | exact Nat.le_refl _ | exact Nat.le_max_left _ _

theorem State_zeroUnits_kept {s : State} {p : Nat} : Kept s (@State.zeroUnits s p) := by
  unfold State.zeroUnits
  try dsimp only
  dsimp only [Kept_mk]
  refine Keeps.of ?_ ?_
  refine Kept.trans ?_ State_forget_kept
  refine Kept.trans ?_ State_zeroPegs_kept
  exact Kept.refl
  first | exact Nat.le_refl _ | exact Nat.le_max_left _ _

theorem State_dropDeck_kept {s : State} {p : Nat} : Kept s (@State.dropDeck s p) := by
  unfold State.dropDeck
  try dsimp only
  dsimp only [Kept_mk]
  refine Keeps.of ?_ ?_
  exact Kept.refl
  first | exact Nat.le_refl _ | exact Nat.le_max_left _ _

theorem State_vfReset_kept {s : State} {v : Nat} : Kept s (@State.vfReset s v) := by
  unfold State.vfReset
  try dsimp only
  refine Kept.trans ?_ State_vfCause_kept
  refine Kept.trans ?_ State_setVf_kept
  dsimp only [Kept_mk]
  refine Keeps.of ?_ ?_
  exact Kept.refl
  first | exact Nat.le_refl _ | exact Nat.le_max_left _ _

theorem State_setClass_kept {s : State} {c : Nat} {cls : Nat × Nat} : Kept s (@State.setClass s c cls) := by
  unfold State.setClass
  try dsimp only
  refine Kept.ite ?_ ?_
  refine Kept.trans ?_ State_pldmEvent_kept
  refine Kept.ite ?_ ?_
  refine Kept.trans ?_ State_pldmEvent_kept
  dsimp only [Kept_mk]
  refine Keeps.of ?_ ?_
  exact Kept.refl
  first | exact Nat.le_refl _ | exact Nat.le_max_left _ _
  dsimp only [Kept_mk]
  refine Keeps.of ?_ ?_
  exact Kept.refl
  first | exact Nat.le_refl _ | exact Nat.le_max_left _ _
  refine Kept.ite ?_ ?_
  refine Kept.trans ?_ State_pldmEvent_kept
  dsimp only [Kept_mk]
  refine Keeps.of ?_ ?_
  exact Kept.refl
  first | exact Nat.le_refl _ | exact Nat.le_max_left _ _
  dsimp only [Kept_mk]
  refine Keeps.of ?_ ?_
  exact Kept.refl
  first | exact Nat.le_refl _ | exact Nat.le_max_left _ _

theorem State_applyClasses_kept {s : State} {bents : List Nat} : Kept s (@State.applyClasses s bents) := by
  unfold State.applyClasses
  try dsimp only
  refine Kept.foldl ?_ ?_
  exact Kept.refl
  intro _
  intro _
  refine Kept.ite ?_ ?_
  exact Kept.refl
  refine Kept.ite ?_ ?_
  refine Kept.trans ?_ State_setClass_kept
  exact Kept.refl
  refine Kept.ite ?_ ?_
  refine Kept.trans ?_ State_setClass_kept
  exact Kept.refl
  exact Kept.refl

theorem State_clearCounters_kept {s : State} {mine : RKey → Bool} : Kept s (@State.clearCounters s mine) := by
  unfold State.clearCounters
  try dsimp only
  dsimp only [Kept_mk]
  refine Keeps.of ?_ ?_
  exact Kept.refl
  first | exact Nat.le_refl _ | exact Nat.le_max_left _ _

theorem State_buildUnits_kept {s : State} {p : Nat} {q : Part} : Kept s (@State.buildUnits s p q) := by
  unfold State.buildUnits
  try dsimp only
  refine Kept.trans ?_ State_setFld_kept
  refine Kept.trans ?_ State_forget_kept
  dsimp only [Kept_mk]
  refine Keeps.of ?_ ?_
  refine Kept.trans ?_ State_dropDeck_kept
  refine Kept.trans ?_ State_zeroUnits_kept
  refine Kept.trans ?_ State_clearCounters_kept
  refine Kept.trans ?_ State_setPart_kept
  exact Kept.refl
  exact Nat.le_refl _

theorem State_setMesh_kept {s : State} : Kept s (@State.setMesh s) := by
  unfold State.setMesh
  try dsimp only
  dsimp only [Kept_mk]
  refine Keeps.of ?_ ?_
  exact Kept.refl
  exact Nat.le_refl _

theorem State_buildLinks_kept {s : State} {p : Nat} {q : Part} : Kept s (@State.buildLinks s p q) := by
  unfold State.buildLinks
  try dsimp only
  refine Kept.foldl ?_ ?_
  refine Kept.foldl ?_ ?_
  exact Kept.refl
  intro _
  intro _
  refine Kept.trans ?_ State_setFld_kept
  exact Kept.refl
  intro _
  intro _
  refine Kept.trans ?_ State_giveBundles_kept
  exact Kept.refl

theorem State_dropFlows_kept {s : State} {p : Nat} : Kept s (@State.dropFlows s p) := by
  unfold State.dropFlows
  try dsimp only
  dsimp only [Kept_mk]
  refine Keeps.of ?_ ?_
  exact Kept.refl
  first | exact Nat.le_refl _ | exact Nat.le_max_left _ _

theorem State_buildPorts_kept {s : State} {p : Nat} {q : Part} : Kept s (@State.buildPorts s p q) := by
  unfold State.buildPorts
  try dsimp only
  refine Kept.foldl ?_ ?_
  refine Kept.trans ?_ State_setReg_kept
  exact Kept.refl
  intro _
  intro _
  refine Kept.trans ?_ State_assignTrain_kept
  exact Kept.refl

theorem State_build_kept {s : State} {p : Nat} {d : List Byte} : Kept s (@State.build s p d) := by
  unfold State.build
  try dsimp only
  refine Kept.ite ?_ ?_
  refine Kept.trans ?_ State_parkPart_kept
  refine Kept.trans ?_ State_buildPorts_kept
  refine Kept.trans ?_ State_setMesh_kept
  refine Kept.trans ?_ State_dropFlows_kept
  refine Kept.trans ?_ State_retireTables_kept
  refine Kept.trans ?_ State_zeroPools_kept
  refine Kept.trans ?_ State_buildLinks_kept
  refine Kept.trans ?_ State_buildUnits_kept
  exact Kept.refl
  refine Kept.trans ?_ State_buildPorts_kept
  refine Kept.trans ?_ State_setMesh_kept
  refine Kept.trans ?_ State_dropFlows_kept
  refine Kept.trans ?_ State_retireTables_kept
  refine Kept.trans ?_ State_zeroPools_kept
  refine Kept.trans ?_ State_buildLinks_kept
  refine Kept.trans ?_ State_buildUnits_kept
  exact Kept.refl

theorem State_prtGo_kept {s : State} {src : Sys2Proof.Src} {p : Nat} {op : Nat} {vf : Nat} {f : State → State} (hf : ∀ x, Kept x (f x)) : Kept s (@State.prtGo s src p op vf f) := by
  unfold State.prtGo
  try dsimp only
  refine Kept.trans ?_ (State_accessW_kept ?_)
  exact Kept.refl
  intro _
  refine Kept.ite ?_ ?_
  exact Kept.refl
  refine Kept.trans ?_ (hf _)
  refine Kept.trans ?_ State_setReg_kept
  exact Kept.refl

theorem State_prtDone_kept {s : State} {result : Nat} {reason : Nat} : Kept s (@State.prtDone s result reason) := by
  unfold State.prtDone
  try dsimp only
  refine Kept.trans ?_ State_pfCause_kept
  refine Kept.trans ?_ State_cmdDone_kept
  exact Kept.refl

theorem execPartitionBuild_kept {src : Src} {p : BitVec 3} {s : State} : KeptN s (@execPartitionBuild src p s) := by
  unfold execPartitionBuild
  try dsimp only
  refine KeptN.mk_ ?_
  refine Kept.trans ?_ (State_prtGo_kept ?_)
  exact Kept.refl
  intro _
  split
  refine Kept.ite ?_ ?_
  refine Kept.trans ?_ State_prtDone_kept
  exact Kept.refl
  refine Kept.ite ?_ ?_
  refine Kept.trans ?_ State_prtDone_kept
  dsimp only [Kept_mk]
  refine Keeps.of ?_ ?_
  refine Kept.trans ?_ State_noteWork_kept
  refine Kept.trans ?_ State_build_kept
  refine Kept.trans ?_ State_applyClasses_kept
  exact Kept.refl
  exact Nat.le_refl _
  refine Kept.trans ?_ State_prtDone_kept
  exact Kept.refl
  refine Kept.trans ?_ State_prtDone_kept
  exact Kept.refl

theorem State_dissolveVfs_kept {s : State} {p : Nat} : Kept s (@State.dissolveVfs s p) := by
  unfold State.dissolveVfs
  try dsimp only
  refine Kept.foldl ?_ ?_
  exact Kept.refl
  intro _
  intro _
  refine Kept.trans ?_ State_setVf_kept
  refine Kept.trans ?_ State_vfReset_kept
  exact Kept.refl

theorem State_dissolveUnits_kept {s : State} {p : Nat} {chans : List Nat} : Kept s (@State.dissolveUnits s p chans) := by
  unfold State.dissolveUnits
  try dsimp only
  refine Kept.trans ?_ State_forget_kept
  refine Kept.trans ?_ State_freeBundles_kept
  refine Kept.trans ?_ State_retireTables_kept
  refine Kept.trans ?_ State_zeroPools_kept
  refine Kept.trans ?_ State_dropDeck_kept
  refine Kept.trans ?_ State_zeroUnits_kept
  exact Kept.refl

theorem State_dissolveKeys_kept {s : State} {p : Nat} {bents : List Nat} : Kept s (@State.dissolveKeys s p bents) := by
  unfold State.dissolveKeys
  try dsimp only
  refine Kept.trans ?_ State_setFld_kept
  dsimp only [Kept_mk]
  refine Keeps.of ?_ ?_
  exact Kept.refl
  first | exact Nat.le_refl _ | exact Nat.le_max_left _ _

theorem State_dissolvePorts_kept {s : State} {ports : List Nat} : Kept s (@State.dissolvePorts s ports) := by
  unfold State.dissolvePorts
  try dsimp only
  refine Kept.trans ?_ (State_portsStep_kept ?_)
  exact Kept.refl
  intro _
  intro _
  refine Kept.trans ?_ State_setPort_kept
  refine Kept.trans ?_ State_offStep_kept
  exact Kept.refl

theorem State_dissolve_kept {s : State} {p : Nat} : Kept s (@State.dissolve s p) := by
  unfold State.dissolve
  try dsimp only
  dsimp only [Kept_mk]
  refine Keeps.of ?_ ?_
  refine Kept.trans ?_ State_setMesh_kept
  refine Kept.trans ?_ State_setPart_kept
  refine Kept.trans ?_ State_dissolvePorts_kept
  refine Kept.trans ?_ State_dissolveKeys_kept
  refine Kept.trans ?_ State_dissolveUnits_kept
  refine Kept.trans ?_ State_dissolveVfs_kept
  refine Kept.trans ?_ State_endWork_kept
  refine Kept.trans ?_ State_setPart_kept
  refine Kept.trans ?_ State_cause_kept
  refine Kept.ite ?_ ?_
  exact Kept.refl
  refine Kept.trans ?_ State_flushFlows_kept
  exact Kept.refl
  exact Nat.le_refl _

theorem execPartitionDissolve_kept {src : Sys2Proof.Src} {p : BitVec 3} {s : State} : KeptN s (@execPartitionDissolve src p s) := by
  unfold execPartitionDissolve
  try dsimp only
  refine KeptN.mk_ ?_
  refine Kept.trans ?_ (State_prtGo_kept ?_)
  exact Kept.refl
  intro _
  refine Kept.ite ?_ ?_
  refine Kept.trans ?_ State_prtDone_kept
  refine Kept.trans ?_ State_dissolve_kept
  exact Kept.refl
  refine Kept.trans ?_ State_prtDone_kept
  exact Kept.refl

theorem execSharesSet_kept {src : Sys2Proof.Src} {p : BitVec 3} {s : State} : KeptN s (@execSharesSet src p s) := by
  unfold execSharesSet
  try dsimp only
  refine KeptN.mk_ ?_
  refine Kept.trans ?_ (State_prtGo_kept ?_)
  exact Kept.refl
  intro _
  refine Kept.ite ?_ ?_
  refine Kept.trans ?_ State_prtDone_kept
  exact Kept.refl
  refine Kept.ite ?_ ?_
  refine Kept.trans ?_ State_prtDone_kept
  exact Kept.refl
  refine Kept.trans ?_ State_prtDone_kept
  refine Kept.trans ?_ State_setPart_kept
  exact Kept.refl

theorem State_bindVf_kept {s : State} {p : Nat} {v : Nat} {h : Nat} : Kept s (@State.bindVf s p v h) := by
  unfold State.bindVf
  try dsimp only
  refine Kept.trans ?_ State_setVf_kept
  refine Kept.trans ?_ State_clearCounters_kept
  exact Kept.refl

theorem execVfBind_kept {src : Sys2Proof.Src} {p : BitVec 3} {vf : BitVec 6} {s : State} : KeptN s (@execVfBind src p vf s) := by
  unfold execVfBind
  try dsimp only
  refine KeptN.mk_ ?_
  refine Kept.trans ?_ (State_prtGo_kept ?_)
  exact Kept.refl
  intro _
  refine Kept.ite ?_ ?_
  refine Kept.trans ?_ State_prtDone_kept
  refine Kept.trans ?_ State_bindVf_kept
  exact Kept.refl
  refine Kept.trans ?_ State_prtDone_kept
  exact Kept.refl

theorem execVfUnbind_kept {src : Sys2Proof.Src} {vf : BitVec 6} {s : State} : KeptN s (@execVfUnbind src vf s) := by
  unfold execVfUnbind
  try dsimp only
  refine KeptN.mk_ ?_
  refine Kept.trans ?_ (State_prtGo_kept ?_)
  exact Kept.refl
  intro _
  refine Kept.ite ?_ ?_
  refine Kept.trans ?_ State_prtDone_kept
  exact Kept.refl
  refine Kept.trans ?_ State_prtDone_kept
  refine Kept.trans ?_ State_setVf_kept
  refine Kept.trans ?_ State_vfReset_kept
  exact Kept.refl

theorem State_copySpad_kept {s : State} {a : Nat} {b : Nat} : Kept s (@State.copySpad s a b) := by
  unfold State.copySpad
  try dsimp only
  refine Kept.foldl ?_ ?_
  refine Kept.foldl ?_ ?_
  refine Kept.trans ?_ State_forget_kept
  exact Kept.refl
  intro _
  intro _
  refine Kept.trans ?_ State_pokeByte_kept
  exact Kept.refl
  intro _
  intro _
  refine Kept.trans ?_ State_markGranule_kept
  exact Kept.refl

theorem State_moveCore_kept {s : State} {p : Nat} {l : Nat} {a : Nat} {b : Nat} : Kept s (@State.moveCore s p l a b) := by
  unfold State.moveCore
  try dsimp only
  refine Kept.trans ?_ State_event_kept
  refine Kept.trans ?_ State_count_kept
  refine Kept.trans ?_ State_setPart_kept
  dsimp only [Kept_mk]
  refine Keeps.of ?_ ?_
  refine Kept.trans ?_ State_setCore_kept
  refine Kept.trans ?_ State_setCore_kept
  refine Kept.trans ?_ State_copySpad_kept
  exact Kept.refl
  first | exact Nat.le_refl _ | exact Nat.le_max_left _ _

theorem State_stopAll_kept {s : State} {a : Nat} : Kept s (@State.stopAll s a) := by
  unfold State.stopAll
  try dsimp only
  refine Kept.foldl ?_ ?_
  exact Kept.refl
  intro _
  intro _
  refine Kept.trans ?_ State_stopCtx_kept
  exact Kept.refl

theorem execCoreMigrate_kept {src : Sys2Proof.Src} {p : BitVec 3} {s0 : State} : KeptN s0 (@execCoreMigrate src p s0) := by
  unfold execCoreMigrate
  try dsimp only
  refine KeptN.mk_ ?_
  refine Kept.ite ?_ ?_
  split
  refine Kept.trans ?_ State_prtDone_kept
  refine Kept.trans ?_ State_setFld_kept
  exact Kept.refl
  refine Kept.ite ?_ ?_
  exact Kept.refl
  refine Kept.trans ?_ State_prtDone_kept
  refine Kept.trans ?_ State_setFld_kept
  refine Kept.trans ?_ State_moveCore_kept
  exact Kept.refl
  refine Kept.trans ?_ (State_prtGo_kept ?_)
  exact Kept.refl
  intro _
  split
  refine Kept.trans ?_ State_prtDone_kept
  exact Kept.refl
  refine Kept.ite ?_ ?_
  refine Kept.trans ?_ State_prtDone_kept
  exact Kept.refl
  refine Kept.ite ?_ ?_
  refine Kept.trans ?_ State_prtDone_kept
  exact Kept.refl
  split
  refine Kept.trans ?_ State_prtDone_kept
  refine Kept.trans ?_ State_setFld_kept
  refine Kept.trans ?_ State_setFld_kept
  refine Kept.trans ?_ State_stopAll_kept
  exact Kept.refl
  refine Kept.ite ?_ ?_
  refine Kept.trans ?_ State_setFld_kept
  refine Kept.trans ?_ State_stopAll_kept
  exact Kept.refl
  refine Kept.trans ?_ State_prtDone_kept
  refine Kept.trans ?_ State_setFld_kept
  refine Kept.trans ?_ State_moveCore_kept
  refine Kept.trans ?_ State_setFld_kept
  refine Kept.trans ?_ State_stopAll_kept
  exact Kept.refl

theorem State_mapDone_kept {s : State} {v : Nat} {result : Nat} {reason : Nat} : Kept s (@State.mapDone s v result reason) := by
  unfold State.mapDone
  try dsimp only
  refine Kept.trans ?_ State_cmdDone_kept
  refine Kept.trans ?_ State_setFld_kept
  exact Kept.refl

theorem State_mapPages_kept {s : State} {v : Nat} {w : Bool} {lg : Bool} {count : Nat} : Kept s (@State.mapPages s v w lg count) := by
  unfold State.mapPages
  try dsimp only
  split
  exact Kept.refl
  refine Kept.ite ?_ ?_
  exact Kept.refl
  split
  refine Kept.trans ?_ State_mapDone_kept
  refine Kept.trans ?_ State_setReg_kept
  exact Kept.refl
  refine Kept.trans ?_ State_mapDone_kept
  refine Kept.trans ?_ State_setPart_kept
  refine Kept.trans ?_ State_setReg_kept
  exact Kept.refl

theorem State_unmapPages_kept {s : State} {v : Nat} {count : Nat} : Kept s (@State.unmapPages s v count) := by
  unfold State.unmapPages
  try dsimp only
  split
  exact Kept.refl
  refine Kept.ite ?_ ?_
  exact Kept.refl
  refine Kept.ite ?_ ?_
  refine Kept.trans ?_ State_mapDone_kept
  refine Kept.trans ?_ State_setReg_kept
  exact Kept.refl
  refine Kept.ite ?_ ?_
  refine Kept.trans ?_ State_mapDone_kept
  refine Kept.trans ?_ State_setReg_kept
  exact Kept.refl
  refine Kept.trans ?_ State_setFld_kept
  refine Kept.trans ?_ State_setPart_kept
  refine Kept.trans ?_ State_setReg_kept
  exact Kept.refl

theorem execPageMap_kept {vf : BitVec 6} {w : Bool} {lg : Bool} {count : BitVec 9} {s : State} : KeptN s (@execPageMap vf w lg count s) := by
  unfold execPageMap
  try dsimp only
  refine KeptN.mk_ ?_
  refine Kept.trans ?_ (State_accessW_kept ?_)
  exact Kept.refl
  intro _
  refine Kept.trans ?_ State_mapPages_kept
  exact Kept.refl

theorem execPageUnmap_kept {vf : BitVec 6} {count : BitVec 9} {s : State} : KeptN s (@execPageUnmap vf count s) := by
  unfold execPageUnmap
  try dsimp only
  refine KeptN.mk_ ?_
  refine Kept.trans ?_ (State_accessW_kept ?_)
  exact Kept.refl
  intro _
  refine Kept.trans ?_ State_unmapPages_kept
  exact Kept.refl

theorem execPageUnmapComplete_kept {vf : BitVec 6} {s : State} : KeptN s (@execPageUnmapComplete vf s) := by
  unfold execPageUnmapComplete
  try dsimp only
  refine KeptN.mk_ ?_
  refine Kept.ite ?_ ?_
  refine Kept.trans ?_ State_mapDone_kept
  exact Kept.refl
  exact Kept.refl

theorem State_maskVf_kept {s : State} {v : Nat} {value : Sys2Proof.Word} : Kept s (@State.maskVf s v value) := by
  unfold State.maskVf
  try dsimp only
  refine Kept.foldl ?_ ?_
  refine Kept.trans ?_ State_setReg_kept
  exact Kept.refl
  intro _
  intro _
  refine Kept.ite ?_ ?_
  refine Kept.trans ?_ State_msix_kept
  exact Kept.refl
  exact Kept.refl

theorem execVfMaskWrite_kept {vf : BitVec 6} {value : Sys2Proof.Word} {s : State} : KeptN s (@execVfMaskWrite vf value s) := by
  unfold execVfMaskWrite
  try dsimp only
  refine KeptN.mk_ ?_
  refine Kept.trans ?_ (State_accessW_kept ?_)
  exact Kept.refl
  intro _
  refine Kept.trans ?_ State_maskVf_kept
  exact Kept.refl

end Sys2Proof.Laws
end

