-- ==== Sys2Proof/Laws/KeptRecovery.lean ====
section
/-! SUPPORT. What the operations of Machine/Recovery.lean keep. -/
namespace Sys2Proof.Laws
open Sys2Proof Sys2Proof.Machine

theorem State_ordered_kept {s : State} {level : Nat} {unit : Nat} : KeptP s (@State.ordered s level unit) := by
  unfold State.ordered
  try dsimp only
  refine KeptP.mk_ ?_
  dsimp only [Kept_mk]
  refine Keeps.of ?_ ?_
  exact Kept.refl
  first | exact Nat.le_refl _ | exact Nat.le_max_left _ _

theorem State_rstBegin_kept {s : State} {d : Nat} {part : Nat} {src : Sys2Proof.Word} {level : Nat} {trigger : Nat} : Kept s (@State.rstBegin s d part src level trigger) := by
  unfold State.rstBegin
  try dsimp only
  refine Kept.trans ?_ State_spineEvent_kept
  exact Kept.refl

theorem State_rstDone_kept {s : State} {d : Nat} {part : Nat} {src : Sys2Proof.Word} {level : Nat} {dur : Nat} : Kept s (@State.rstDone s d part src level dur) := by
  unfold State.rstDone
  try dsimp only
  refine Kept.trans ?_ State_spineEvent_kept
  exact Kept.refl

theorem State_askCycle_kept {s : State} {trigger : Nat} {arg : Nat} : Kept s (@State.askCycle s trigger arg) := by
  unfold State.askCycle
  try dsimp only
  refine Kept.trans ?_ State_pldmEvent_kept
  refine Kept.trans ?_ State_inspectPkg_kept
  exact Kept.refl

theorem execPowerCycleRequest_kept {src : Sys2Proof.Src} {s : State} : KeptN s (@execPowerCycleRequest src s) := by
  unfold execPowerCycleRequest
  try dsimp only
  refine KeptN.mk_ ?_
  refine Kept.ite ?_ ?_
  exact Kept.refl
  refine Kept.trans ?_ (State_accessW_kept ?_)
  exact Kept.refl
  intro _
  refine Kept.trans ?_ State_askCycle_kept
  exact Kept.refl

theorem State_dieReset_kept {s : State} : Kept s s.dieReset :=
  ⟨rfl, filter_wf, Nat.le_refl _, fun _ => noEvents, id⟩

theorem State_packageReset_kept {s : State} {trigger : Nat} : Kept s (@State.packageReset s trigger) := by
  unfold State.packageReset
  try dsimp only
  refine Kept.ite ?_ ?_
  exact Kept.refl
  refine Kept.ite ?_ ?_
  refine Kept.trans ?_ State_setFld_kept
  exact Kept.refl
  refine Kept.trans ?_ State_dieReset_kept
  refine Kept.trans ?_ State_count_kept
  refine Kept.trans ?_ State_rstLast_kept
  refine Kept.trans ?_ State_inspectPkg_kept
  refine Kept.trans ?_ State_rstBegin_kept
  refine Kept.trans ?_ State_pfCause_kept
  refine Kept.foldl ?_ ?_
  exact Kept.refl
  intro _
  intro _
  refine Kept.trans ?_ State_vfCause_kept
  exact Kept.refl

theorem State_orderPackage_kept {s : State} {trigger : Nat} : Kept s (@State.orderPackage s trigger) := by
  unfold State.orderPackage
  try dsimp only
  refine Kept.ite ?_ ?_
  refine Kept.trans ?_ State_askCycle_kept
  refine Kept.trans ?_ (State_ordered_kept).h
  exact Kept.refl
  refine Kept.trans ?_ State_packageReset_kept
  refine Kept.trans ?_ (State_ordered_kept).h
  exact Kept.refl

theorem execPackageReset_kept {src : Sys2Proof.Src} {s : State} : KeptN s (@execPackageReset src s) := by
  unfold execPackageReset
  try dsimp only
  refine KeptN.mk_ ?_
  split
  refine Kept.trans ?_ State_orderPackage_kept
  exact Kept.refl
  refine Kept.trans ?_ (State_accessW_kept ?_)
  exact Kept.refl
  intro _
  refine Kept.trans ?_ State_packageReset_kept
  exact Kept.refl

theorem execPkgResetAssert_kept {s : State} : KeptN s (@execPkgResetAssert s) := by
  unfold execPkgResetAssert
  try dsimp only
  refine KeptN.mk_ ?_
  dsimp only [Kept_mk]
  refine Keeps.of ?_ ?_
  split
  refine Kept.trans ?_ State_packageReset_kept
  exact Kept.refl
  refine Kept.trans ?_ State_dieReset_kept
  exact Kept.refl
  refine Kept.trans ?_ State_dieReset_kept
  exact Kept.refl
  exact Kept.refl
  first | exact Nat.le_refl _ | exact Nat.le_max_left _ _

theorem State_endWindow_kept {s : State} {p : Nat} {ended : Bool} : Kept s (@State.endWindow s p ended) := by
  unfold State.endWindow
  try dsimp only
  split
  exact Kept.refl
  refine Kept.trans ?_ State_cause_kept
  refine Kept.trans ?_ State_setFld_kept
  refine Kept.trans ?_ State_setReg_kept
  refine Kept.trans ?_ State_setPart_kept
  exact Kept.refl

theorem State_endPert_kept {s : State} {p : Nat} : Kept s (@State.endPert s p) := by
  unfold State.endPert
  try dsimp only
  dsimp only [Kept_mk]
  refine Keeps.of ?_ ?_
  exact Kept.refl
  first | exact Nat.le_refl _ | exact Nat.le_max_left _ _

theorem State_fencePart_kept {s : State} {p : Nat} {trigger : Nat} : Kept s (@State.fencePart s p trigger) := by
  unfold State.fencePart
  try dsimp only
  dsimp only [Kept_mk]
  refine Keeps.of ?_ ?_
  refine Kept.trans ?_ State_setFld_kept
  refine Kept.trans ?_ State_rstLast_kept
  refine Kept.foldl ?_ ?_
  refine Kept.trans ?_ State_endPert_kept
  refine Kept.trans ?_ State_setPart_kept
  refine Kept.ite ?_ ?_
  refine Kept.trans ?_ State_switchKey_kept
  refine Kept.trans ?_ State_flushFlows_kept
  refine Kept.trans ?_ State_inspect_kept
  refine Kept.trans ?_ State_endWindow_kept
  refine Kept.trans ?_ State_rstBegin_kept
  refine Kept.trans ?_ State_count_kept
  refine Kept.trans ?_ State_cause_kept
  exact Kept.refl
  refine Kept.trans ?_ State_flushFlows_kept
  refine Kept.trans ?_ State_inspect_kept
  refine Kept.trans ?_ State_endWindow_kept
  refine Kept.trans ?_ State_rstBegin_kept
  refine Kept.trans ?_ State_count_kept
  refine Kept.trans ?_ State_cause_kept
  exact Kept.refl
  intro _
  intro _
  refine Kept.trans ?_ State_setVf_kept
  exact Kept.refl
  exact Nat.le_refl _

theorem State_partitionReset_kept {s : State} {p : Nat} {trigger : Nat} : Kept s (@State.partitionReset s p trigger) := by
  unfold State.partitionReset
  try dsimp only
  refine Kept.ite ?_ ?_
  exact Kept.refl
  refine Kept.ite ?_ ?_
  refine Kept.trans ?_ State_setFld_kept
  refine Kept.trans ?_ State_setPart_kept
  exact Kept.refl
  refine Kept.trans ?_ State_fencePart_kept
  exact Kept.refl

theorem State_waitingReset_kept {s : State} {p : Nat} : Kept s (@State.waitingReset s p) := by
  unfold State.waitingReset
  try dsimp only
  split
  refine Kept.ite ?_ ?_
  exact Kept.refl
  refine Kept.trans ?_ State_fencePart_kept
  exact Kept.refl
  exact Kept.refl

theorem execMaintActivityEnd_kept {code : Nat} {unit : Nat} {s : State} : KeptN s (@execMaintActivityEnd code unit s) := by
  unfold execMaintActivityEnd
  try dsimp only
  refine KeptN.mk_ ?_
  refine Kept.foldl ?_ ?_
  refine Kept.trans ?_ State_maintEnd_kept
  exact Kept.refl
  intro _
  intro _
  refine Kept.trans ?_ State_waitingReset_kept
  exact Kept.refl

theorem State_orderPart_kept {s : State} {p : Nat} {trigger : Nat} : Kept s (@State.orderPart s p trigger) := by
  unfold State.orderPart
  try dsimp only
  refine Kept.ite ?_ ?_
  exact Kept.refl
  refine Kept.ite ?_ ?_
  refine Kept.trans ?_ State_orderPackage_kept
  refine Kept.trans ?_ (State_ordered_kept).h
  exact Kept.refl
  refine Kept.trans ?_ State_partitionReset_kept
  refine Kept.trans ?_ (State_ordered_kept).h
  exact Kept.refl

theorem execPartitionReset_kept {p : BitVec 3} {src : Sys2Proof.Src} {s : State} : KeptN s (@execPartitionReset p src s) := by
  unfold execPartitionReset
  try dsimp only
  refine KeptN.mk_ ?_
  split
  refine Kept.trans ?_ State_orderPart_kept
  exact Kept.refl
  refine Kept.trans ?_ (State_accessW_kept ?_)
  exact Kept.refl
  intro _
  refine Kept.trans ?_ State_partitionReset_kept
  exact Kept.refl

theorem State_resetUnits_kept {s : State} {p : Nat} : Kept s (@State.resetUnits s p) := by
  unfold State.resetUnits
  try dsimp only
  refine Kept.trans ?_ (State_portsStep_kept ?_)
  refine Kept.trans ?_ State_drainFlits_kept
  refine Kept.foldl ?_ ?_
  refine Kept.trans ?_ State_dropDeck_kept
  refine Kept.foldl ?_ ?_
  refine Kept.trans ?_ State_zeroPools_kept
  refine Kept.trans ?_ State_retireTables_kept
  refine Kept.trans ?_ State_zeroPegs_kept
  dsimp only [Kept_mk]
  refine Keeps.of ?_ ?_
  refine Kept.trans ?_ State_endWork_kept
  exact Kept.refl
  exact Nat.le_refl _
  intro _
  intro _
  refine Kept.trans ?_ State_deckFlush_kept
  exact Kept.refl
  intro _
  intro _
  refine Kept.trans ?_ State_setVf_kept
  exact Kept.refl
  intro _
  intro _
  refine Kept.trans ?_ State_trainStep_kept
  exact Kept.refl

theorem execFenceDeadline_kept {p : BitVec 3} {s : State} : KeptN s (@execFenceDeadline p s) := by
  unfold execFenceDeadline
  try dsimp only
  refine KeptN.mk_ ?_
  split
  exact Kept.refl
  refine Kept.ite ?_ ?_
  exact Kept.refl
  refine Kept.trans ?_ State_cause_kept
  refine Kept.trans ?_ State_rstDone_kept
  refine Kept.trans ?_ State_setFld_kept
  refine Kept.trans ?_ State_setPart_kept
  refine Kept.trans ?_ State_resetUnits_kept
  exact Kept.refl

theorem State_poisonBlock_kept {s : State} {jb : JJob} {t : JExt} {b : Nat} : Kept s (@State.poisonBlock s jb t b) := by
  unfold State.poisonBlock
  try dsimp only
  refine Kept.ite ?_ ?_
  refine Kept.trans ?_ State_count_kept
  refine Kept.foldl ?_ ?_
  exact Kept.refl
  intro _
  intro _
  refine Kept.ite ?_ ?_
  exact Kept.refl
  refine Kept.trans ?_ State_writeGroup_kept
  exact Kept.refl
  refine Kept.foldl ?_ ?_
  exact Kept.refl
  intro _
  intro _
  refine Kept.ite ?_ ?_
  exact Kept.refl
  split
  exact Kept.refl
  refine Kept.ite ?_ ?_
  refine Kept.trans ?_ (KeptOP.of (by assumption) State_vload_kept)
  exact Kept.refl
  refine Kept.trans ?_ State_count_kept
  refine Kept.trans ?_ State_writeGroup_kept
  refine Kept.trans ?_ (KeptOP.of (by assumption) State_vload_kept)
  exact Kept.refl

theorem State_endJoiner_kept {s : State} {d : Nat} {p : Option Nat} : Kept s (@State.endJoiner s d p) := by
  unfold State.endJoiner
  try dsimp only
  refine Kept.foldl ?_ ?_
  exact Kept.refl
  intro _
  intro _
  split
  exact Kept.refl
  refine Kept.ite ?_ ?_
  exact Kept.refl
  refine Kept.foldl ?_ ?_
  exact Kept.refl
  intro _
  intro _
  split
  exact Kept.refl
  refine Kept.trans ?_ State_jnrBlockDone_kept
  refine Kept.trans ?_ State_poisonBlock_kept
  exact Kept.refl

theorem State_endItems_kept {s : State} {k : EngKind} {unit : Nat} {p : Option Nat} : Kept s (@State.endItems s k unit p) := by
  unfold State.endItems
  try dsimp only
  split
  dsimp only [Kept_mk]
  refine Keeps.of ?_ ?_
  exact Kept.refl
  exact Nat.le_refl _
  refine Kept.foldl ?_ ?_
  exact Kept.refl
  intro _
  intro _
  refine Kept.foldl ?_ ?_
  exact Kept.refl
  intro _
  intro _
  refine Kept.trans ?_ State_inspect_kept
  refine Kept.trans ?_ State_endStep_kept
  exact Kept.refl
  refine Kept.trans ?_ State_endJoiner_kept
  exact Kept.refl
  refine Kept.foldl ?_ ?_
  exact Kept.refl
  intro _
  intro _
  refine Kept.trans ?_ State_xpDone_kept
  refine Kept.trans ?_ State_setJctx_kept
  exact Kept.refl
  refine Kept.foldl ?_ ?_
  exact Kept.refl
  intro _
  intro _
  refine Kept.trans ?_ State_faultCtx_kept
  refine Kept.trans ?_ State_dropXfer_kept
  exact Kept.refl

theorem State_engineReset_kept {s : State} {k : EngKind} {unit : Nat} {p : Option Nat} {trigger : Nat} : Kept s (@State.engineReset s k unit p trigger) := by
  unfold State.engineReset
  try dsimp only
  refine Kept.trans ?_ State_rstDone_kept
  refine Kept.trans ?_ State_rstLast_kept
  refine Kept.trans ?_ State_count_kept
  refine Kept.ite ?_ ?_
  refine Kept.foldl ?_ ?_
  refine Kept.trans ?_ State_endItems_kept
  dsimp only [Kept_mk]
  refine Keeps.of ?_ ?_
  refine Kept.foldl ?_ ?_
  refine Kept.trans ?_ State_rstBegin_kept
  exact Kept.refl
  intro _
  intro _
  refine Kept.trans ?_ State_inspect_kept
  exact Kept.refl
  first | exact Nat.le_refl _ | exact Nat.le_max_left _ _
  intro _
  intro _
  refine Kept.trans ?_ State_reclaimTag_kept
  exact Kept.refl
  refine Kept.trans ?_ State_endItems_kept
  dsimp only [Kept_mk]
  refine Keeps.of ?_ ?_
  refine Kept.foldl ?_ ?_
  refine Kept.trans ?_ State_rstBegin_kept
  exact Kept.refl
  intro _
  intro _
  refine Kept.trans ?_ State_inspect_kept
  exact Kept.refl
  first | exact Nat.le_refl _ | exact Nat.le_max_left _ _

theorem State_orderEngine_kept {s : State} {k : EngKind} {unit : Nat} {p : Option Nat} {trigger : Nat} : Kept s (@State.orderEngine s k unit p trigger) := by
  unfold State.orderEngine
  try dsimp only
  refine Kept.ite ?_ ?_
  refine Kept.trans ?_ State_engineReset_kept
  refine Kept.trans ?_ (State_ordered_kept).h
  exact Kept.refl
  refine Kept.ite ?_ ?_
  split
  refine Kept.trans ?_ State_orderPart_kept
  refine Kept.trans ?_ (State_ordered_kept).h
  exact Kept.refl
  refine Kept.trans ?_ (State_ordered_kept).h
  exact Kept.refl
  refine Kept.trans ?_ State_orderPackage_kept
  refine Kept.trans ?_ (State_ordered_kept).h
  exact Kept.refl

theorem execEngineReset_kept {kind : EngKind} {unit : Nat} {p : Option Nat} {s : State} : KeptN s (@execEngineReset kind unit p s) := by
  unfold execEngineReset
  try dsimp only
  refine KeptN.mk_ ?_
  refine Kept.trans ?_ State_orderEngine_kept
  exact Kept.refl

theorem execCtxWatchdog_kept {core : Sys2Proof.CoreAddr} {ctx : BitVec 2} {s : State} : KeptN s (@execCtxWatchdog core ctx s) := by
  unfold execCtxWatchdog
  try dsimp only
  refine KeptN.mk_ ?_
  split
  exact Kept.refl
  refine Kept.ite ?_ ?_
  exact Kept.refl
  refine Kept.ite ?_ ?_
  refine Kept.trans ?_ State_faultCtx_kept
  refine Kept.trans ?_ State_count_kept
  refine Kept.trans ?_ State_cutTiles_kept
  exact Kept.refl
  refine Kept.ite ?_ ?_
  refine Kept.trans ?_ State_faultCtx_kept
  refine Kept.trans ?_ State_count_kept
  exact Kept.refl
  exact Kept.refl

theorem execEngineWatchdog_kept {kind : EngKind} {unit : Nat} {p : BitVec 3} {waited : Nat} {others : Bool} {s : State} : KeptN s (@execEngineWatchdog kind unit p waited others s) := by
  unfold execEngineWatchdog
  try dsimp only
  refine KeptN.mk_ ?_
  refine Kept.ite ?_ ?_
  exact Kept.refl
  refine Kept.trans ?_ State_orderEngine_kept
  refine Kept.trans ?_ State_count_kept
  exact Kept.refl

theorem State_ctxResetOne_kept {s : State} {c : Nat} {x : Nat} {trigger : Nat} : Kept s (@State.ctxResetOne s c x trigger) := by
  unfold State.ctxResetOne
  try dsimp only
  split
  refine Kept.trans ?_ State_resetCtx_kept
  exact Kept.refl
  refine Kept.ite ?_ ?_
  exact Kept.refl
  refine Kept.trans ?_ State_rstDone_kept
  refine Kept.trans ?_ State_resetCtx_kept
  refine Kept.trans ?_ State_inspect_kept
  refine Kept.trans ?_ State_rstBegin_kept
  exact Kept.refl

theorem execCtxReset_kept {core : Sys2Proof.CoreAddr} {src : Sys2Proof.Src} {resets : BitVec 4} {s : State} : KeptN s (@execCtxReset core src resets s) := by
  unfold execCtxReset
  try dsimp only
  refine KeptN.mk_ ?_
  refine Kept.trans ?_ (State_accessW_kept ?_)
  exact Kept.refl
  intro _
  refine Kept.foldl ?_ ?_
  exact Kept.refl
  intro _
  intro _
  refine Kept.ite ?_ ?_
  refine Kept.ite ?_ ?_
  split
  refine Kept.trans ?_ State_orderPart_kept
  refine Kept.trans ?_ (State_ordered_kept).h
  exact Kept.refl
  refine Kept.trans ?_ (State_ordered_kept).h
  exact Kept.refl
  refine Kept.trans ?_ State_ctxResetOne_kept
  refine Kept.trans ?_ (State_ordered_kept).h
  exact Kept.refl
  refine Kept.trans ?_ State_ctxResetOne_kept
  exact Kept.refl

theorem execResetBudgetExpire_kept {unit : RstUnit} {s : State} : KeptN s (@execResetBudgetExpire unit s) := by
  unfold execResetBudgetExpire
  try dsimp only
  refine KeptN.mk_ ?_
  split
  exact Kept.refl
  exact Kept.refl
  split
  refine Kept.ite ?_ ?_
  exact Kept.refl
  refine Kept.trans ?_ State_orderPackage_kept
  exact Kept.refl
  exact Kept.refl
  split
  refine Kept.ite ?_ ?_
  exact Kept.refl
  refine Kept.trans ?_ State_askCycle_kept
  exact Kept.refl
  exact Kept.refl

end Sys2Proof.Laws
end

