-- ==== Sys2Proof/Laws/KeptD2d.lean ====
section
/-! SUPPORT. What the operations of Machine/D2d.lean keep. -/
namespace Sys2Proof.Laws
open Sys2Proof Sys2Proof.Machine

theorem State_setBundle_kept {s : State} {l : Nat} {i : Nat} {f : Bundle → Bundle} : Kept s (@State.setBundle s l i f) := by
  unfold State.setBundle
  try dsimp only
  refine Kept.trans ?_ State_setLink_kept
  exact Kept.refl

theorem State_flitArrive_kept {s : State} {l : Nat} {bundle : Nat} {o : Nat} {u : Nat} {errs : List Nat} : Kept s (@State.flitArrive s l bundle o u errs) := by
  unfold State.flitArrive
  try dsimp only
  split
  exact Kept.refl
  split
  refine Kept.trans ?_ State_setBundle_kept
  exact Kept.refl
  refine Kept.ite ?_ ?_
  refine Kept.trans ?_ State_count_kept
  refine Kept.trans ?_ State_setBundle_kept
  exact Kept.refl
  refine Kept.ite ?_ ?_
  refine Kept.trans ?_ State_setLink_kept
  refine Kept.trans ?_ State_setBundle_kept
  exact Kept.refl
  refine Kept.trans ?_ State_count_kept
  refine Kept.trans ?_ State_setLink_kept
  refine Kept.trans ?_ State_setBundle_kept
  exact Kept.refl

theorem execD2dFlitReceive_kept {die : BitVec 2} {e : Bool} {bundle : Nat} {new : Option Flit} {errs : List Nat} {s : State} : KeptN s (@execD2dFlitReceive die e bundle new errs s) := by
  unfold execD2dFlitReceive
  try dsimp only
  refine KeptN.mk_ ?_
  refine Kept.ite ?_ ?_
  exact Kept.refl
  refine Kept.trans ?_ State_flitArrive_kept
  refine Kept.trans ?_ State_setBundle_kept
  exact Kept.refl

theorem execD2dAcknowledgement_kept {die : BitVec 2} {e : Bool} {bundle : Nat} {seq : Nat} {s : State} : KeptN s (@execD2dAcknowledgement die e bundle seq s) := by
  unfold execD2dAcknowledgement
  try dsimp only
  refine KeptN.mk_ ?_
  refine Kept.ite ?_ ?_
  exact Kept.refl
  refine Kept.trans ?_ State_setBundle_kept
  exact Kept.refl

theorem State_reroute_kept {s : State} {l : Nat} {b : Bundle} : Kept s (@State.reroute s l b) := by
  unfold State.reroute
  try dsimp only
  refine Kept.trans ?_ State_count_kept
  refine Kept.trans ?_ State_count_kept
  exact Kept.refl

theorem State_giveFlits_kept {s : State} {t : Option (Nat × Nat × Nat)} {fs : List Flit} : Kept s (@State.giveFlits s t fs) := by
  unfold State.giveFlits
  try dsimp only
  split
  refine Kept.trans ?_ State_setBundle_kept
  exact Kept.refl
  exact Kept.refl

theorem State_refillReserve_kept {s : State} {l : Nat} : Kept s (@State.refillReserve s l) := by
  unfold State.refillReserve
  try dsimp only
  split
  refine Kept.trans ?_ State_setBundle_kept
  exact Kept.refl
  exact Kept.refl

theorem State_moveFlits_kept {s : State} {l : Nat} {b : Bundle} : Kept s (@State.moveFlits s l b) := by
  unfold State.moveFlits
  try dsimp only
  refine Kept.foldl ?_ ?_
  exact Kept.refl
  intro _
  intro _
  refine Kept.trans ?_ State_giveFlits_kept
  exact Kept.refl

theorem State_detour_kept {s : State} {l : Nat} {b : Bundle} : Kept s (@State.detour s l b) := by
  unfold State.detour
  try dsimp only
  refine Kept.trans ?_ State_giveFlits_kept
  refine Kept.trans ?_ State_giveFlits_kept
  exact Kept.refl

theorem State_findBundle_kept {s : State} {l : Nat} {p : Nat} : KeptP s (@State.findBundle s l p) := by
  unfold State.findBundle
  try dsimp only
  refine KeptP.ite ?_ ?_
  refine KeptP.mk_ ?_
  exact Kept.refl
  split
  refine KeptP.mk_ ?_
  refine Kept.trans ?_ State_setBundle_kept
  exact Kept.refl
  refine KeptP.mk_ ?_
  refine Kept.trans ?_ State_setBundle_kept
  exact Kept.refl
  split
  refine KeptP.mk_ ?_
  refine Kept.trans ?_ State_moveFlits_kept
  refine Kept.trans ?_ State_setBundle_kept
  refine Kept.trans ?_ State_reroute_kept
  exact Kept.refl
  refine KeptP.mk_ ?_
  exact Kept.refl

theorem State_retireLink_kept {s : State} {l : Nat} : Kept s (@State.retireLink s l) := by
  unfold State.retireLink
  try dsimp only
  refine Kept.ite ?_ ?_
  refine Kept.trans ?_ State_orderPackage_kept
  refine Kept.trans ?_ State_setLink_kept
  refine Kept.foldl ?_ ?_
  exact Kept.refl
  intro _
  intro _
  refine Kept.trans ?_ State_reroute_kept
  exact Kept.refl
  refine Kept.ite ?_ ?_
  refine Kept.foldl ?_ ?_
  refine Kept.foldl1 ?_ ?_ <;> try dsimp only
  refine KeptP.mk_ ?_
  refine Kept.trans ?_ State_setLink_kept
  refine Kept.foldl ?_ ?_
  exact Kept.refl
  intro _
  intro _
  refine Kept.trans ?_ State_reroute_kept
  exact Kept.refl
  intro _
  intro _
  intro _
  refine KeptP.foldl ?_ ?_ <;> try dsimp only
  refine KeptP.mk_ ?_
  exact Kept.refl
  intro _
  intro _
  intro _
  refine KeptP.mk_ ?_
  refine Kept.trans ?_ (State_findBundle_kept).h
  exact Kept.refl
  intro _
  intro _
  refine Kept.trans ?_ State_detour_kept
  exact Kept.refl
  refine Kept.trans ?_ State_orderPackage_kept
  refine Kept.foldl1 ?_ ?_ <;> try dsimp only
  refine KeptP.mk_ ?_
  refine Kept.trans ?_ State_setLink_kept
  refine Kept.foldl ?_ ?_
  exact Kept.refl
  intro _
  intro _
  refine Kept.trans ?_ State_reroute_kept
  exact Kept.refl
  intro _
  intro _
  intro _
  refine KeptP.foldl ?_ ?_ <;> try dsimp only
  refine KeptP.mk_ ?_
  exact Kept.refl
  intro _
  intro _
  intro _
  refine KeptP.mk_ ?_
  refine Kept.trans ?_ (State_findBundle_kept).h
  exact Kept.refl

theorem State_bundleFail_kept {s : State} {l : Nat} {i : Nat} : Kept s (@State.bundleFail s l i) := by
  unfold State.bundleFail
  try dsimp only
  refine Kept.ite ?_ ?_
  exact Kept.refl
  refine Kept.ite ?_ ?_
  refine Kept.trans ?_ State_retireLink_kept
  refine Kept.trans ?_ State_setBundle_kept
  split
  split
  refine Kept.trans ?_ State_refillReserve_kept
  refine Kept.trans ?_ State_setBundle_kept
  refine Kept.trans ?_ State_setBundle_kept
  refine Kept.trans ?_ State_addRecord_kept
  refine Kept.trans ?_ State_count_kept
  refine Kept.trans ?_ State_count_kept
  refine Kept.ite ?_ ?_
  refine Kept.trans ?_ State_maintEnd_kept
  refine Kept.trans ?_ State_maintCancel_kept
  exact Kept.refl
  exact Kept.refl
  split
  refine Kept.trans ?_ State_setBundle_kept
  refine Kept.trans ?_ State_setBundle_kept
  refine Kept.trans ?_ State_addRecord_kept
  refine Kept.trans ?_ State_count_kept
  refine Kept.trans ?_ State_count_kept
  refine Kept.ite ?_ ?_
  refine Kept.trans ?_ State_maintEnd_kept
  refine Kept.trans ?_ State_maintCancel_kept
  exact Kept.refl
  exact Kept.refl
  refine Kept.trans ?_ State_setBundle_kept
  refine Kept.trans ?_ State_addRecord_kept
  refine Kept.trans ?_ State_count_kept
  refine Kept.trans ?_ State_count_kept
  refine Kept.ite ?_ ?_
  refine Kept.trans ?_ State_maintEnd_kept
  refine Kept.trans ?_ State_maintCancel_kept
  exact Kept.refl
  exact Kept.refl
  refine Kept.trans ?_ State_refillReserve_kept
  refine Kept.trans ?_ State_setBundle_kept
  refine Kept.trans ?_ State_addRecord_kept
  refine Kept.trans ?_ State_count_kept
  refine Kept.trans ?_ State_count_kept
  refine Kept.ite ?_ ?_
  refine Kept.trans ?_ State_maintEnd_kept
  refine Kept.trans ?_ State_maintCancel_kept
  exact Kept.refl
  exact Kept.refl
  refine Kept.ite ?_ ?_
  refine Kept.trans ?_ State_setBundle_kept
  refine Kept.trans ?_ State_addRecord_kept
  refine Kept.trans ?_ State_count_kept
  refine Kept.trans ?_ State_count_kept
  refine Kept.ite ?_ ?_
  refine Kept.trans ?_ State_maintEnd_kept
  refine Kept.trans ?_ State_maintCancel_kept
  exact Kept.refl
  exact Kept.refl
  split
  refine Kept.trans ?_ State_refillReserve_kept
  refine Kept.trans ?_ State_setBundle_kept
  refine Kept.trans ?_ State_setBundle_kept
  refine Kept.trans ?_ State_addRecord_kept
  refine Kept.trans ?_ State_count_kept
  refine Kept.trans ?_ State_count_kept
  refine Kept.ite ?_ ?_
  refine Kept.trans ?_ State_maintEnd_kept
  refine Kept.trans ?_ State_maintCancel_kept
  exact Kept.refl
  exact Kept.refl
  split
  refine Kept.trans ?_ State_setBundle_kept
  refine Kept.trans ?_ State_setBundle_kept
  refine Kept.trans ?_ State_addRecord_kept
  refine Kept.trans ?_ State_count_kept
  refine Kept.trans ?_ State_count_kept
  refine Kept.ite ?_ ?_
  refine Kept.trans ?_ State_maintEnd_kept
  refine Kept.trans ?_ State_maintCancel_kept
  exact Kept.refl
  exact Kept.refl
  refine Kept.trans ?_ State_orderPart_kept
  refine Kept.trans ?_ State_setBundle_kept
  refine Kept.trans ?_ State_addRecord_kept
  refine Kept.trans ?_ State_count_kept
  refine Kept.trans ?_ State_count_kept
  refine Kept.ite ?_ ?_
  refine Kept.trans ?_ State_maintEnd_kept
  refine Kept.trans ?_ State_maintCancel_kept
  exact Kept.refl
  exact Kept.refl
  refine Kept.trans ?_ State_setBundle_kept
  refine Kept.trans ?_ State_addRecord_kept
  refine Kept.trans ?_ State_count_kept
  refine Kept.trans ?_ State_count_kept
  refine Kept.ite ?_ ?_
  refine Kept.trans ?_ State_maintEnd_kept
  refine Kept.trans ?_ State_maintCancel_kept
  exact Kept.refl
  exact Kept.refl
  refine Kept.ite ?_ ?_
  refine Kept.trans ?_ State_setBundle_kept
  split
  split
  refine Kept.trans ?_ State_refillReserve_kept
  refine Kept.trans ?_ State_setBundle_kept
  refine Kept.trans ?_ State_setBundle_kept
  refine Kept.trans ?_ State_addRecord_kept
  refine Kept.trans ?_ State_count_kept
  refine Kept.trans ?_ State_count_kept
  refine Kept.ite ?_ ?_
  refine Kept.trans ?_ State_maintEnd_kept
  refine Kept.trans ?_ State_maintCancel_kept
  exact Kept.refl
  exact Kept.refl
  split
  refine Kept.trans ?_ State_setBundle_kept
  refine Kept.trans ?_ State_setBundle_kept
  refine Kept.trans ?_ State_addRecord_kept
  refine Kept.trans ?_ State_count_kept
  refine Kept.trans ?_ State_count_kept
  refine Kept.ite ?_ ?_
  refine Kept.trans ?_ State_maintEnd_kept
  refine Kept.trans ?_ State_maintCancel_kept
  exact Kept.refl
  exact Kept.refl
  refine Kept.trans ?_ State_setBundle_kept
  refine Kept.trans ?_ State_addRecord_kept
  refine Kept.trans ?_ State_count_kept
  refine Kept.trans ?_ State_count_kept
  refine Kept.ite ?_ ?_
  refine Kept.trans ?_ State_maintEnd_kept
  refine Kept.trans ?_ State_maintCancel_kept
  exact Kept.refl
  exact Kept.refl
  refine Kept.trans ?_ State_refillReserve_kept
  refine Kept.trans ?_ State_setBundle_kept
  refine Kept.trans ?_ State_addRecord_kept
  refine Kept.trans ?_ State_count_kept
  refine Kept.trans ?_ State_count_kept
  refine Kept.ite ?_ ?_
  refine Kept.trans ?_ State_maintEnd_kept
  refine Kept.trans ?_ State_maintCancel_kept
  exact Kept.refl
  exact Kept.refl
  refine Kept.ite ?_ ?_
  refine Kept.trans ?_ State_setBundle_kept
  refine Kept.trans ?_ State_addRecord_kept
  refine Kept.trans ?_ State_count_kept
  refine Kept.trans ?_ State_count_kept
  refine Kept.ite ?_ ?_
  refine Kept.trans ?_ State_maintEnd_kept
  refine Kept.trans ?_ State_maintCancel_kept
  exact Kept.refl
  exact Kept.refl
  split
  refine Kept.trans ?_ State_refillReserve_kept
  refine Kept.trans ?_ State_setBundle_kept
  refine Kept.trans ?_ State_setBundle_kept
  refine Kept.trans ?_ State_addRecord_kept
  refine Kept.trans ?_ State_count_kept
  refine Kept.trans ?_ State_count_kept
  refine Kept.ite ?_ ?_
  refine Kept.trans ?_ State_maintEnd_kept
  refine Kept.trans ?_ State_maintCancel_kept
  exact Kept.refl
  exact Kept.refl
  split
  refine Kept.trans ?_ State_setBundle_kept
  refine Kept.trans ?_ State_setBundle_kept
  refine Kept.trans ?_ State_addRecord_kept
  refine Kept.trans ?_ State_count_kept
  refine Kept.trans ?_ State_count_kept
  refine Kept.ite ?_ ?_
  refine Kept.trans ?_ State_maintEnd_kept
  refine Kept.trans ?_ State_maintCancel_kept
  exact Kept.refl
  exact Kept.refl
  refine Kept.trans ?_ State_orderPart_kept
  refine Kept.trans ?_ State_setBundle_kept
  refine Kept.trans ?_ State_addRecord_kept
  refine Kept.trans ?_ State_count_kept
  refine Kept.trans ?_ State_count_kept
  refine Kept.ite ?_ ?_
  refine Kept.trans ?_ State_maintEnd_kept
  refine Kept.trans ?_ State_maintCancel_kept
  exact Kept.refl
  exact Kept.refl
  refine Kept.trans ?_ State_setBundle_kept
  refine Kept.trans ?_ State_addRecord_kept
  refine Kept.trans ?_ State_count_kept
  refine Kept.trans ?_ State_count_kept
  refine Kept.ite ?_ ?_
  refine Kept.trans ?_ State_maintEnd_kept
  refine Kept.trans ?_ State_maintCancel_kept
  exact Kept.refl
  exact Kept.refl
  refine Kept.trans ?_ State_moveFlits_kept
  refine Kept.trans ?_ State_reroute_kept
  split
  split
  refine Kept.trans ?_ State_refillReserve_kept
  refine Kept.trans ?_ State_setBundle_kept
  refine Kept.trans ?_ State_setBundle_kept
  refine Kept.trans ?_ State_addRecord_kept
  refine Kept.trans ?_ State_count_kept
  refine Kept.trans ?_ State_count_kept
  refine Kept.ite ?_ ?_
  refine Kept.trans ?_ State_maintEnd_kept
  refine Kept.trans ?_ State_maintCancel_kept
  exact Kept.refl
  exact Kept.refl
  split
  refine Kept.trans ?_ State_setBundle_kept
  refine Kept.trans ?_ State_setBundle_kept
  refine Kept.trans ?_ State_addRecord_kept
  refine Kept.trans ?_ State_count_kept
  refine Kept.trans ?_ State_count_kept
  refine Kept.ite ?_ ?_
  refine Kept.trans ?_ State_maintEnd_kept
  refine Kept.trans ?_ State_maintCancel_kept
  exact Kept.refl
  exact Kept.refl
  refine Kept.trans ?_ State_setBundle_kept
  refine Kept.trans ?_ State_addRecord_kept
  refine Kept.trans ?_ State_count_kept
  refine Kept.trans ?_ State_count_kept
  refine Kept.ite ?_ ?_
  refine Kept.trans ?_ State_maintEnd_kept
  refine Kept.trans ?_ State_maintCancel_kept
  exact Kept.refl
  exact Kept.refl
  refine Kept.trans ?_ State_refillReserve_kept
  refine Kept.trans ?_ State_setBundle_kept
  refine Kept.trans ?_ State_addRecord_kept
  refine Kept.trans ?_ State_count_kept
  refine Kept.trans ?_ State_count_kept
  refine Kept.ite ?_ ?_
  refine Kept.trans ?_ State_maintEnd_kept
  refine Kept.trans ?_ State_maintCancel_kept
  exact Kept.refl
  exact Kept.refl
  refine Kept.ite ?_ ?_
  refine Kept.trans ?_ State_setBundle_kept
  refine Kept.trans ?_ State_addRecord_kept
  refine Kept.trans ?_ State_count_kept
  refine Kept.trans ?_ State_count_kept
  refine Kept.ite ?_ ?_
  refine Kept.trans ?_ State_maintEnd_kept
  refine Kept.trans ?_ State_maintCancel_kept
  exact Kept.refl
  exact Kept.refl
  split
  refine Kept.trans ?_ State_refillReserve_kept
  refine Kept.trans ?_ State_setBundle_kept
  refine Kept.trans ?_ State_setBundle_kept
  refine Kept.trans ?_ State_addRecord_kept
  refine Kept.trans ?_ State_count_kept
  refine Kept.trans ?_ State_count_kept
  refine Kept.ite ?_ ?_
  refine Kept.trans ?_ State_maintEnd_kept
  refine Kept.trans ?_ State_maintCancel_kept
  exact Kept.refl
  exact Kept.refl
  split
  refine Kept.trans ?_ State_setBundle_kept
  refine Kept.trans ?_ State_setBundle_kept
  refine Kept.trans ?_ State_addRecord_kept
  refine Kept.trans ?_ State_count_kept
  refine Kept.trans ?_ State_count_kept
  refine Kept.ite ?_ ?_
  refine Kept.trans ?_ State_maintEnd_kept
  refine Kept.trans ?_ State_maintCancel_kept
  exact Kept.refl
  exact Kept.refl
  refine Kept.trans ?_ State_orderPart_kept
  refine Kept.trans ?_ State_setBundle_kept
  refine Kept.trans ?_ State_addRecord_kept
  refine Kept.trans ?_ State_count_kept
  refine Kept.trans ?_ State_count_kept
  refine Kept.ite ?_ ?_
  refine Kept.trans ?_ State_maintEnd_kept
  refine Kept.trans ?_ State_maintCancel_kept
  exact Kept.refl
  exact Kept.refl
  refine Kept.trans ?_ State_setBundle_kept
  refine Kept.trans ?_ State_addRecord_kept
  refine Kept.trans ?_ State_count_kept
  refine Kept.trans ?_ State_count_kept
  refine Kept.ite ?_ ?_
  refine Kept.trans ?_ State_maintEnd_kept
  refine Kept.trans ?_ State_maintCancel_kept
  exact Kept.refl
  exact Kept.refl

theorem execD2dReplayRequest_kept {die : BitVec 2} {e : Bool} {bundle : Nat} {seq : Nat} {s : State} : KeptN s (@execD2dReplayRequest die e bundle seq s) := by
  unfold execD2dReplayRequest
  try dsimp only
  refine KeptN.mk_ ?_
  refine Kept.ite ?_ ?_
  exact Kept.refl
  refine Kept.ite ?_ ?_
  refine Kept.trans ?_ State_bundleFail_kept
  exact Kept.refl
  refine Kept.trans ?_ State_setBundle_kept
  exact Kept.refl

theorem State_bundleSwap_kept {s : State} {l : Nat} {i : Nat} {lane : Nat} : Kept s (@State.bundleSwap s l i lane) := by
  unfold State.bundleSwap
  try dsimp only
  refine Kept.trans ?_ State_count_kept
  refine Kept.trans ?_ State_count_kept
  refine Kept.trans ?_ State_addRecord_kept
  refine Kept.trans ?_ State_setBundle_kept
  exact Kept.refl

theorem execD2dLaneSwapRequest_kept {die : BitVec 2} {e : Bool} {bundle : Nat} {lane : Nat} {s : State} : KeptN s (@execD2dLaneSwapRequest die e bundle lane s) := by
  unfold execD2dLaneSwapRequest
  try dsimp only
  refine KeptN.mk_ ?_
  refine Kept.ite ?_ ?_
  exact Kept.refl
  refine Kept.ite ?_ ?_
  refine Kept.trans ?_ (State_maintAsk_kept).h
  exact Kept.refl
  refine Kept.trans ?_ State_setBundle_kept
  refine Kept.trans ?_ (State_maintAsk_kept).h
  exact Kept.refl

theorem execD2dLaneSwap_kept {link : BitVec 2} {bundle : Nat} {ahead : Nat} {s : State} : KeptN s (@execD2dLaneSwap link bundle ahead s) := by
  unfold execD2dLaneSwap
  try dsimp only
  refine KeptN.mk_ ?_
  split
  exact Kept.refl
  refine Kept.ite ?_ ?_
  exact Kept.refl
  split
  refine Kept.ite ?_ ?_
  exact Kept.refl
  refine Kept.trans ?_ State_setBundle_kept
  exact Kept.refl
  refine Kept.ite ?_ ?_
  exact Kept.refl
  refine Kept.trans ?_ State_maintEnd_kept
  refine Kept.trans ?_ State_bundleSwap_kept
  exact Kept.refl

theorem execD2dBundleFail_kept {link : BitVec 2} {bundle : Nat} {lane : Nat} {s : State} : KeptN s (@execD2dBundleFail link bundle lane s) := by
  unfold execD2dBundleFail
  try dsimp only
  refine KeptN.mk_ ?_
  refine Kept.ite ?_ ?_
  exact Kept.refl
  refine Kept.ite ?_ ?_
  refine Kept.trans ?_ State_bundleFail_kept
  exact Kept.refl
  refine Kept.trans ?_ State_bundleSwap_kept
  refine Kept.ite ?_ ?_
  refine Kept.trans ?_ State_maintEnd_kept
  refine Kept.trans ?_ State_maintCancel_kept
  exact Kept.refl
  exact Kept.refl

theorem execD2dBundleRetrainDone_kept {link : BitVec 2} {bundle : Nat} {errs : List (Option Nat)} {s : State} : KeptN s (@execD2dBundleRetrainDone link bundle errs s) := by
  unfold execD2dBundleRetrainDone
  try dsimp only
  refine KeptN.mk_ ?_
  refine Kept.ite ?_ ?_
  exact Kept.refl
  refine Kept.ite ?_ ?_
  refine Kept.trans ?_ State_addRecord_kept
  refine Kept.trans ?_ State_setBundle_kept
  exact Kept.refl
  refine Kept.ite ?_ ?_
  refine Kept.trans ?_ State_setBundle_kept
  exact Kept.refl
  refine Kept.trans ?_ State_setBundle_kept
  exact Kept.refl

end Sys2Proof.Laws
end

