-- ==== Sys2Proof/Laws/KeptReliability.lean ====
section
/-! SUPPORT. What the operations of Machine/Reliability.lean keep. -/
namespace Sys2Proof.Laws
open Sys2Proof Sys2Proof.Machine

theorem State_probeDone_kept {s : State} {result : Nat} {reason : Nat} : Kept s (@State.probeDone s result reason) := by
  unfold State.probeDone
  try dsimp only
  refine Kept.trans ?_ State_cmdDone_kept
  exact Kept.refl

theorem State_packLoad_kept {s : State} {src : Src} {op : Nat} {f : State → List Byte → State} (hf : ∀ a0 a1, Kept a0 (f a0 a1)) : Kept s (@State.packLoad s src op f) := by
  unfold State.packLoad
  try dsimp only
  refine Kept.trans ?_ (State_accessW_kept ?_)
  exact Kept.refl
  intro _
  refine Kept.ite ?_ ?_
  refine Kept.trans ?_ State_probeDone_kept
  refine Kept.trans ?_ State_setReg_kept
  exact Kept.refl
  refine Kept.ite ?_ ?_
  refine Kept.trans ?_ State_probeDone_kept
  refine Kept.trans ?_ State_setReg_kept
  exact Kept.refl
  refine Kept.ite ?_ ?_
  refine Kept.trans ?_ State_probeDone_kept
  refine Kept.trans ?_ State_setReg_kept
  exact Kept.refl
  refine Kept.ite ?_ ?_
  refine Kept.trans ?_ State_probeDone_kept
  refine Kept.trans ?_ State_setReg_kept
  exact Kept.refl
  refine Kept.ite ?_ ?_
  refine Kept.trans ?_ State_probeDone_kept
  refine Kept.trans ?_ State_setReg_kept
  exact Kept.refl
  refine Kept.ite ?_ ?_
  refine Kept.trans ?_ State_probeDone_kept
  refine Kept.trans ?_ State_setReg_kept
  exact Kept.refl
  refine Kept.ite ?_ ?_
  refine Kept.trans ?_ State_probeDone_kept
  refine Kept.trans ?_ State_setReg_kept
  exact Kept.refl
  refine Kept.ite ?_ ?_
  refine Kept.trans ?_ State_probeDone_kept
  refine Kept.trans ?_ State_setReg_kept
  exact Kept.refl
  refine Kept.ite ?_ ?_
  refine Kept.trans ?_ State_probeDone_kept
  refine Kept.trans ?_ State_setReg_kept
  exact Kept.refl
  refine Kept.trans ?_ State_probeDone_kept
  refine Kept.trans ?_ (hf _ _)
  refine Kept.trans ?_ State_setReg_kept
  dsimp only [Kept_mk]
  refine Keeps.of ?_ ?_
  refine Kept.trans ?_ State_setReg_kept
  exact Kept.refl
  exact Nat.le_refl _

theorem execProbePackLoad_kept {src : Sys2Proof.Src} {s : State} : KeptN s (@execProbePackLoad src s) := by
  unfold execProbePackLoad
  try dsimp only
  refine KeptN.mk_ ?_
  refine Kept.trans ?_ (State_packLoad_kept ?_)
  exact Kept.refl
  intro _
  intro _
  exact Kept.refl

theorem execProbePackLoadForward_kept {src : Sys2Proof.Src} {s : State} : KeptN s (@execProbePackLoadForward src s) := by
  unfold execProbePackLoadForward
  try dsimp only
  refine KeptN.mk_ ?_
  refine Kept.trans ?_ (State_packLoad_kept ?_)
  exact Kept.refl
  intro _
  intro _
  dsimp only [Kept_mk]
  refine Keeps.of ?_ ?_
  exact Kept.refl
  first | exact Nat.le_refl _ | exact Nat.le_max_left _ _

theorem State_columnEntry_kept {s : State} {c : Nat} {col : Nat} : Kept s (@State.columnEntry s c col) := by
  unfold State.columnEntry
  try dsimp only
  dsimp only [Kept_mk]
  refine Keeps.of ?_ ?_
  exact Kept.refl
  first | exact Nat.le_refl _ | exact Nat.le_max_left _ _

theorem State_probeCount_kept {s : State} {r : Probed} : Kept s (@State.probeCount s r) := by
  unfold State.probeCount
  try dsimp only
  refine Kept.ite ?_ ?_
  refine Kept.trans ?_ State_count_kept
  exact Kept.refl
  refine Kept.trans ?_ State_count_kept
  exact Kept.refl

theorem State_unreserve_kept {s : State} {c : Nat} : Kept s (@State.unreserve s c) := by
  unfold State.unreserve
  try dsimp only
  split
  refine Kept.trans ?_ State_setPart_kept
  exact Kept.refl
  exact Kept.refl

theorem State_probedCore_kept {s : State} {c : Nat} {r : Probed} : Kept s (@State.probedCore s c r) := by
  unfold State.probedCore
  try dsimp only
  split
  refine Kept.ite ?_ ?_
  refine Kept.trans ?_ State_setClass_kept
  refine Kept.trans ?_ State_unreserve_kept
  dsimp only [Kept_mk]
  refine Keeps.of ?_ ?_
  refine Kept.trans ?_ State_probeCount_kept
  exact Kept.refl
  exact Nat.le_refl _
  dsimp only [Kept_mk]
  refine Keeps.of ?_ ?_
  refine Kept.trans ?_ State_probeCount_kept
  exact Kept.refl
  exact Nat.le_refl _
  refine Kept.ite ?_ ?_
  refine Kept.trans ?_ State_setClass_kept
  refine Kept.trans ?_ State_unreserve_kept
  dsimp only [Kept_mk]
  refine Keeps.of ?_ ?_
  refine Kept.trans ?_ State_probeCount_kept
  exact Kept.refl
  exact Nat.le_refl _
  refine Kept.trans ?_ State_unreserve_kept
  refine Kept.ite ?_ ?_
  dsimp only [Kept_mk]
  refine Keeps.of ?_ ?_
  refine Kept.trans ?_ State_probeCount_kept
  exact Kept.refl
  exact Nat.le_refl _
  refine Kept.trans ?_ State_columnEntry_kept
  dsimp only [Kept_mk]
  refine Keeps.of ?_ ?_
  refine Kept.trans ?_ State_probeCount_kept
  exact Kept.refl
  exact Nat.le_refl _
  refine Kept.trans ?_ State_setClass_kept
  refine Kept.trans ?_ State_unreserve_kept
  refine Kept.trans ?_ State_retireUnit_kept
  dsimp only [Kept_mk]
  refine Keeps.of ?_ ?_
  refine Kept.trans ?_ State_probeCount_kept
  exact Kept.refl
  exact Nat.le_refl _

theorem execUnitProbe_kept {kind : Nat} {unit : Nat} {result : Probed} {s : State} : KeptN s (@execUnitProbe kind unit result s) := by
  unfold execUnitProbe
  try dsimp only
  refine KeptN.mk_ ?_
  refine Kept.ite ?_ ?_
  exact Kept.refl
  refine Kept.ite ?_ ?_
  refine Kept.ite ?_ ?_
  refine Kept.trans ?_ State_probedCore_kept
  exact Kept.refl
  exact Kept.refl
  refine Kept.ite ?_ ?_
  dsimp only [Kept_mk]
  refine Keeps.of ?_ ?_
  refine Kept.trans ?_ State_probeCount_kept
  exact Kept.refl
  first | exact Nat.le_refl _ | exact Nat.le_max_left _ _
  refine Kept.trans ?_ State_retireUnit_kept
  dsimp only [Kept_mk]
  refine Keeps.of ?_ ?_
  refine Kept.trans ?_ State_probeCount_kept
  exact Kept.refl
  first | exact Nat.le_refl _ | exact Nat.le_max_left _ _

theorem State_windowCore_kept {s : State} {p : Nat} {c : Nat} {r : Probed} : Kept s (@State.windowCore s p c r) := by
  unfold State.windowCore
  try dsimp only
  split
  dsimp only [Kept_mk]
  refine Keeps.of ?_ ?_
  refine Kept.ite ?_ ?_
  refine Kept.trans ?_ State_setPart_kept
  refine Kept.trans ?_ State_probeCount_kept
  exact Kept.refl
  refine Kept.trans ?_ State_count_kept
  refine Kept.trans ?_ State_setPart_kept
  refine Kept.trans ?_ State_probeCount_kept
  exact Kept.refl
  first | exact Nat.le_refl _ | exact Nat.le_max_left _ _
  refine Kept.ite ?_ ?_
  refine Kept.ite ?_ ?_
  refine Kept.trans ?_ State_setPart_kept
  refine Kept.trans ?_ State_probeCount_kept
  exact Kept.refl
  refine Kept.trans ?_ State_count_kept
  refine Kept.trans ?_ State_setPart_kept
  refine Kept.trans ?_ State_probeCount_kept
  exact Kept.refl
  refine Kept.trans ?_ State_columnEntry_kept
  refine Kept.ite ?_ ?_
  refine Kept.trans ?_ State_setPart_kept
  refine Kept.trans ?_ State_probeCount_kept
  exact Kept.refl
  refine Kept.trans ?_ State_count_kept
  refine Kept.trans ?_ State_setPart_kept
  refine Kept.trans ?_ State_probeCount_kept
  exact Kept.refl
  refine Kept.ite ?_ ?_
  refine Kept.trans ?_ State_setClass_kept
  refine Kept.trans ?_ State_unreserve_kept
  refine Kept.trans ?_ State_retireUnit_kept
  refine Kept.ite ?_ ?_
  refine Kept.trans ?_ State_setPart_kept
  refine Kept.trans ?_ State_probeCount_kept
  exact Kept.refl
  refine Kept.trans ?_ State_count_kept
  refine Kept.trans ?_ State_setPart_kept
  refine Kept.trans ?_ State_probeCount_kept
  exact Kept.refl
  refine Kept.ite ?_ ?_
  refine Kept.trans ?_ State_retireUnit_kept
  refine Kept.ite ?_ ?_
  refine Kept.trans ?_ State_setPart_kept
  refine Kept.trans ?_ State_probeCount_kept
  exact Kept.refl
  refine Kept.trans ?_ State_count_kept
  refine Kept.trans ?_ State_setPart_kept
  refine Kept.trans ?_ State_probeCount_kept
  exact Kept.refl
  refine Kept.trans ?_ (State_maintAsk_kept).h
  refine Kept.trans ?_ State_cause_kept
  dsimp only [Kept_mk]
  refine Keeps.of ?_ ?_
  refine Kept.trans ?_ State_retireUnit_kept
  refine Kept.ite ?_ ?_
  refine Kept.trans ?_ State_setPart_kept
  refine Kept.trans ?_ State_probeCount_kept
  exact Kept.refl
  refine Kept.trans ?_ State_count_kept
  refine Kept.trans ?_ State_setPart_kept
  refine Kept.trans ?_ State_probeCount_kept
  exact Kept.refl
  first | exact Nat.le_refl _ | exact Nat.le_max_left _ _

theorem execProbeWindow_kept {p : BitVec 3} {grant : Option (Sys2Proof.Src × Nat × Nat)} {results : List (Nat × Probed)} {s : State} : KeptN s (@execProbeWindow p grant results s) := by
  unfold execProbeWindow
  try dsimp only
  refine KeptN.mk_ ?_
  split
  refine Kept.trans ?_ (State_accessW_kept ?_)
  exact Kept.refl
  intro _
  refine Kept.ite ?_ ?_
  exact Kept.refl
  refine Kept.ite ?_ ?_
  refine Kept.trans ?_ State_endWindow_kept
  refine Kept.trans ?_ State_setPart_kept
  refine Kept.trans ?_ State_setReg_kept
  exact Kept.refl
  refine Kept.trans ?_ State_setPart_kept
  refine Kept.trans ?_ State_setReg_kept
  exact Kept.refl
  split
  exact Kept.refl
  split
  refine Kept.trans ?_ State_endWindow_kept
  exact Kept.refl
  refine Kept.ite ?_ ?_
  refine Kept.ite1 ?_ ?_
  refine KeptP.mk_ ?_
  exact Kept.refl
  refine KeptP.ite ?_ ?_
  refine KeptP.mk_ ?_
  exact Kept.refl
  refine KeptP.mk_ ?_
  refine Kept.trans ?_ (State_maintAsk_kept).h
  exact Kept.refl
  refine Kept.ite ?_ ?_
  refine Kept.trans ?_ State_endWindow_kept
  refine Kept.trans ?_ State_maintEnd_kept
  refine Kept.trans ?_ State_setPart_kept
  refine Kept.ite ?_ ?_
  refine Kept.ite1 ?_ ?_
  refine KeptP.mk_ ?_
  exact Kept.refl
  refine KeptP.ite ?_ ?_
  refine KeptP.mk_ ?_
  exact Kept.refl
  refine KeptP.mk_ ?_
  refine Kept.trans ?_ (State_maintAsk_kept).h
  exact Kept.refl
  refine Kept.foldl ?_ ?_
  refine Kept.foldl ?_ ?_
  refine Kept.ite1 ?_ ?_
  refine KeptP.mk_ ?_
  exact Kept.refl
  refine KeptP.ite ?_ ?_
  refine KeptP.mk_ ?_
  exact Kept.refl
  refine KeptP.mk_ ?_
  refine Kept.trans ?_ (State_maintAsk_kept).h
  exact Kept.refl
  intro _
  intro _
  dsimp only [Kept_mk]
  refine Keeps.of ?_ ?_
  refine Kept.trans ?_ State_vput_kept
  exact Kept.refl
  first | exact Nat.le_refl _ | exact Nat.le_max_left _ _
  intro _
  intro _
  refine Kept.trans ?_ State_windowCore_kept
  exact Kept.refl
  refine Kept.trans ?_ State_maintEnd_kept
  refine Kept.trans ?_ State_setPart_kept
  refine Kept.ite ?_ ?_
  refine Kept.ite1 ?_ ?_
  refine KeptP.mk_ ?_
  exact Kept.refl
  refine KeptP.ite ?_ ?_
  refine KeptP.mk_ ?_
  exact Kept.refl
  refine KeptP.mk_ ?_
  refine Kept.trans ?_ (State_maintAsk_kept).h
  exact Kept.refl
  refine Kept.foldl ?_ ?_
  refine Kept.foldl ?_ ?_
  refine Kept.ite1 ?_ ?_
  refine KeptP.mk_ ?_
  exact Kept.refl
  refine KeptP.ite ?_ ?_
  refine KeptP.mk_ ?_
  exact Kept.refl
  refine KeptP.mk_ ?_
  refine Kept.trans ?_ (State_maintAsk_kept).h
  exact Kept.refl
  intro _
  intro _
  dsimp only [Kept_mk]
  refine Keeps.of ?_ ?_
  refine Kept.trans ?_ State_vput_kept
  exact Kept.refl
  first | exact Nat.le_refl _ | exact Nat.le_max_left _ _
  intro _
  intro _
  refine Kept.trans ?_ State_windowCore_kept
  exact Kept.refl

theorem execProbeBudgetExpire_kept {p : BitVec 3} {s : State} : KeptN s (@execProbeBudgetExpire p s) := by
  unfold execProbeBudgetExpire
  try dsimp only
  refine KeptN.mk_ ?_
  split
  exact Kept.refl
  refine Kept.ite ?_ ?_
  exact Kept.refl
  refine Kept.trans ?_ State_endWindow_kept
  split
  refine Kept.trans ?_ State_maintEnd_kept
  refine Kept.trans ?_ State_maintCancel_kept
  exact Kept.refl
  exact Kept.refl

theorem execCoreSubstitute_kept {core : Sys2Proof.CoreAddr} {result : Probed} {s : State} : KeptN s (@execCoreSubstitute core result s) := by
  unfold execCoreSubstitute
  try dsimp only
  refine KeptN.mk_ ?_
  split
  refine Kept.ite ?_ ?_
  exact Kept.refl
  split
  refine Kept.trans ?_ State_maintEnd_kept
  refine Kept.trans ?_ State_probedCore_kept
  refine Kept.trans ?_ State_count_kept
  dsimp only [Kept_mk]
  refine Keeps.of ?_ ?_
  refine Kept.trans ?_ State_moveCore_kept
  refine Kept.ite1 ?_ ?_
  refine KeptP.mk_ ?_
  exact Kept.refl
  refine KeptP.ite ?_ ?_
  refine KeptP.mk_ ?_
  exact Kept.refl
  refine KeptP.mk_ ?_
  refine Kept.trans ?_ (State_maintAsk_kept).h
  exact Kept.refl
  first | exact Nat.le_refl _ | exact Nat.le_max_left _ _
  refine Kept.ite1 ?_ ?_
  refine KeptP.mk_ ?_
  exact Kept.refl
  refine KeptP.ite ?_ ?_
  refine KeptP.mk_ ?_
  exact Kept.refl
  refine KeptP.mk_ ?_
  refine Kept.trans ?_ (State_maintAsk_kept).h
  exact Kept.refl
  exact Kept.refl

theorem execChannelSubstitute_kept {chan : Nat} {spare : Nat} {s : State} : KeptN s (@execChannelSubstitute chan spare s) := by
  unfold execChannelSubstitute
  try dsimp only
  refine KeptN.mk_ ?_
  refine Kept.ite ?_ ?_
  exact Kept.refl
  refine Kept.ite ?_ ?_
  refine Kept.ite1 ?_ ?_
  refine KeptP.mk_ ?_
  exact Kept.refl
  refine KeptP.ite ?_ ?_
  refine KeptP.mk_ ?_
  exact Kept.refl
  refine KeptP.mk_ ?_
  refine Kept.trans ?_ (State_maintAsk_kept).h
  exact Kept.refl
  refine Kept.trans ?_ State_setFld_kept
  refine Kept.trans ?_ State_setFld_kept
  dsimp only [Kept_mk]
  refine Keeps.of ?_ ?_
  refine Kept.ite1 ?_ ?_
  refine KeptP.mk_ ?_
  exact Kept.refl
  refine KeptP.ite ?_ ?_
  refine KeptP.mk_ ?_
  exact Kept.refl
  refine KeptP.mk_ ?_
  refine Kept.trans ?_ (State_maintAsk_kept).h
  exact Kept.refl
  first | exact Nat.le_refl _ | exact Nat.le_max_left _ _

theorem execChannelCopyDone_kept {chan : Nat} {s : State} : KeptN s (@execChannelCopyDone chan s) := by
  unfold execChannelCopyDone
  try dsimp only
  refine KeptN.mk_ ?_
  split
  exact Kept.refl
  refine Kept.trans ?_ State_maintEnd_kept
  refine Kept.trans ?_ State_count_kept
  refine Kept.trans ?_ State_retireUnit_kept
  refine Kept.trans ?_ State_setReg_kept
  refine Kept.trans ?_ State_setFld_kept
  dsimp only [Kept_mk]
  refine Keeps.of ?_ ?_
  exact Kept.refl
  first | exact Nat.le_refl _ | exact Nat.le_max_left _ _

theorem State_chkCount_kept {s : State} {d : Nat} : Kept s (@State.chkCount s d) := by
  unfold State.chkCount
  try dsimp only
  refine Kept.trans ?_ State_setReg_kept
  exact Kept.refl

theorem execControlParityError_kept {unit : CtlUnit} {s : State} : KeptN s (@execControlParityError unit s) := by
  unfold execControlParityError
  try dsimp only
  refine KeptN.mk_ ?_
  split
  refine Kept.ite ?_ ?_
  exact Kept.refl
  refine Kept.trans ?_ State_suspect_kept
  refine Kept.trans ?_ State_chkCount_kept
  refine Kept.foldl ?_ ?_
  exact Kept.refl
  intro _
  intro _
  refine Kept.trans ?_ State_faultCtx_kept
  refine Kept.trans ?_ State_cutTiles_kept
  exact Kept.refl
  refine Kept.trans ?_ State_orderEngine_kept
  refine Kept.trans ?_ State_chkCount_kept
  exact Kept.refl
  refine Kept.trans ?_ State_chkCount_kept
  dsimp only [Kept_mk]
  refine Keeps.of ?_ ?_
  exact Kept.refl
  first | exact Nat.le_refl _ | exact Nat.le_max_left _ _

theorem State_poisonOut_kept {s : State} {p : Nat} {va : Nat} {n : Nat} : Kept s (@State.poisonOut s p va n) := by
  unfold State.poisonOut
  try dsimp only
  split
  exact Kept.refl
  refine Kept.trans ?_ (State_vstore_kept).h
  refine Kept.trans ?_ (KeptOP.of (by assumption) State_vload_kept)
  exact Kept.refl

theorem execResidueMismatch_kept {unit : ResUnit} {s : State} : KeptN s (@execResidueMismatch unit s) := by
  unfold execResidueMismatch
  try dsimp only
  refine KeptN.mk_ ?_
  split
  split
  exact Kept.refl
  refine Kept.ite ?_ ?_
  exact Kept.refl
  refine Kept.trans ?_ State_suspect_kept
  refine Kept.trans ?_ State_chkCount_kept
  refine Kept.ite ?_ ?_
  refine Kept.trans ?_ State_markSlot_kept
  exact Kept.refl
  refine Kept.trans ?_ State_poisonOut_kept
  exact Kept.refl
  split
  exact Kept.refl
  refine Kept.ite ?_ ?_
  exact Kept.refl
  refine Kept.trans ?_ State_suspect_kept
  refine Kept.trans ?_ State_chkCount_kept
  refine Kept.trans ?_ State_faultCtx_kept
  refine Kept.trans ?_ State_dropXfer_kept
  exact Kept.refl
  split
  exact Kept.refl
  refine Kept.ite ?_ ?_
  exact Kept.refl
  refine Kept.trans ?_ State_suspect_kept
  refine Kept.trans ?_ State_chkCount_kept
  refine Kept.trans ?_ State_poisonOut_kept
  exact Kept.refl
  refine Kept.trans ?_ State_suspect_kept
  refine Kept.trans ?_ State_chkCount_kept
  refine Kept.trans ?_ State_poisonOut_kept
  exact Kept.refl
  refine Kept.ite ?_ ?_
  refine Kept.trans ?_ State_suspect_kept
  refine Kept.trans ?_ State_chkCount_kept
  refine Kept.trans ?_ State_faultCtx_kept
  exact Kept.refl
  exact Kept.refl

end Sys2Proof.Laws
end

