-- ==== Sys2Proof/Laws/KeptClocks.lean ====
section
/-! SUPPORT. What the operations of Machine/Clocks.lean keep. -/
namespace Sys2Proof.Laws
open Sys2Proof Sys2Proof.Machine

theorem execPpsPulse_kept {s : State} : KeptN s (@execPpsPulse s) := by
  unfold execPpsPulse
  try dsimp only
  refine KeptN.mk_ ?_
  refine Kept.ite ?_ ?_
  exact Kept.refl
  refine Kept.ite ?_ ?_
  refine Kept.trans ?_ State_count_kept
  exact Kept.refl
  refine Kept.foldl ?_ ?_
  dsimp only [Kept_mk]
  refine Keeps.of ?_ ?_
  refine Kept.trans ?_ State_setReg_kept
  refine Kept.trans ?_ State_setReg_kept
  refine Kept.trans ?_ State_setReg_kept
  refine Kept.trans ?_ State_count_kept
  exact Kept.refl
  first | exact Nat.le_refl _ | exact Nat.le_max_left _ _
  intro _
  intro _
  refine Kept.ite ?_ ?_
  refine Kept.trans ?_ State_setPort_kept
  exact Kept.refl
  exact Kept.refl

theorem execPlumbCorrection_kept {s : State} : KeptN s (@execPlumbCorrection s) := by
  unfold execPlumbCorrection
  try dsimp only
  refine KeptN.mk_ ?_
  refine Kept.ite ?_ ?_
  exact Kept.refl
  refine Kept.ite ?_ ?_
  dsimp only [Kept_mk]
  refine Keeps.of ?_ ?_
  exact Kept.refl
  first | exact Nat.le_refl _ | exact Nat.le_max_left _ _
  refine Kept.ite ?_ ?_
  dsimp only [Kept_mk]
  refine Keeps.of ?_ ?_
  exact Kept.refl
  first | exact Nat.le_refl _ | exact Nat.le_max_left _ _
  dsimp only [Kept_mk]
  refine Keeps.of ?_ ?_
  exact Kept.refl
  first | exact Nat.le_refl _ | exact Nat.le_max_left _ _

theorem execPpsHoldover_kept {s : State} : KeptN s (@execPpsHoldover s) := by
  unfold execPpsHoldover
  try dsimp only
  refine KeptN.mk_ ?_
  refine Kept.ite ?_ ?_
  exact Kept.refl
  dsimp only [Kept_mk]
  refine Keeps.of ?_ ?_
  refine Kept.trans ?_ State_setFld_kept
  exact Kept.refl
  first | exact Nat.le_refl _ | exact Nat.le_max_left _ _

theorem State_loadPlumb_kept {s : State} {t : Time} : Kept s (@State.loadPlumb s t) := by
  unfold State.loadPlumb
  try dsimp only
  dsimp only [Kept_mk]
  refine Keeps.of ?_ ?_
  exact Kept.refl
  exact Nat.le_refl _

theorem execPlumbLoad_kept {src : Src} {s : State} : KeptN s (@execPlumbLoad src s) := by
  unfold execPlumbLoad
  try dsimp only
  refine KeptN.mk_ ?_
  refine Kept.trans ?_ (State_accessW_kept ?_)
  exact Kept.refl
  intro _
  refine Kept.ite ?_ ?_
  refine Kept.trans ?_ State_count_kept
  exact Kept.refl
  refine Kept.trans ?_ State_loadPlumb_kept
  exact Kept.refl

theorem execIslandTimeSync_kept {dom : Nat} {dev : Int} {s : State} : KeptN s (@execIslandTimeSync dom dev s) := by
  unfold execIslandTimeSync
  try dsimp only
  refine KeptN.mk_ ?_
  refine Kept.ite ?_ ?_
  exact Kept.refl
  refine Kept.ite ?_ ?_
  refine Kept.ite ?_ ?_
  dsimp only [Kept_mk]
  refine Keeps.of ?_ ?_
  exact Kept.refl
  exact Nat.le_refl _
  exact Kept.refl
  refine Kept.ite ?_ ?_
  exact Kept.refl
  refine Kept.ite ?_ ?_
  dsimp only [Kept_mk]
  refine Keeps.of ?_ ?_
  exact Kept.refl
  exact Nat.le_refl _
  refine Kept.ite ?_ ?_
  refine Kept.trans ?_ State_count_kept
  dsimp only [Kept_mk]
  refine Keeps.of ?_ ?_
  exact Kept.refl
  exact Nat.le_refl _
  refine Kept.trans ?_ State_count_kept
  dsimp only [Kept_mk]
  refine Keeps.of ?_ ?_
  exact Kept.refl
  exact Nat.le_refl _

theorem State_snapSet_kept {s : State} {t : Sys2Proof.Time} : Kept s (@State.snapSet s t) := by
  unfold State.snapSet
  try dsimp only
  dsimp only [Kept_mk]
  refine Keeps.of ?_ ?_
  refine Kept.trans ?_ State_setFld_kept
  refine Kept.trans ?_ State_setFld_kept
  exact Kept.refl
  first | exact Nat.le_refl _ | exact Nat.le_max_left _ _

theorem execSnapSchedule_kept {src : Sys2Proof.Src} {s : State} : KeptN s (@execSnapSchedule src s) := by
  unfold execSnapSchedule
  try dsimp only
  refine KeptN.mk_ ?_
  refine Kept.trans ?_ (State_accessW_kept ?_)
  exact Kept.refl
  intro _
  refine Kept.ite ?_ ?_
  exact Kept.refl
  refine Kept.ite ?_ ?_
  refine Kept.trans ?_ State_spineEvent_kept
  refine Kept.trans ?_ State_setFld_kept
  exact Kept.refl
  refine Kept.trans ?_ State_snapSet_kept
  exact Kept.refl

theorem execSnapPeriodWrite_kept {src : Sys2Proof.Src} {value : Sys2Proof.Word} {s : State} : KeptN s (@execSnapPeriodWrite src value s) := by
  unfold execSnapPeriodWrite
  try dsimp only
  refine KeptN.mk_ ?_
  refine Kept.trans ?_ (State_accessW_kept ?_)
  exact Kept.refl
  intro _
  refine Kept.ite ?_ ?_
  exact Kept.refl
  refine Kept.ite ?_ ?_
  refine Kept.trans ?_ State_setReg_kept
  exact Kept.refl
  refine Kept.trans ?_ State_snapSet_kept
  refine Kept.trans ?_ State_setReg_kept
  exact Kept.refl

theorem State_bentTick_kept {s : State} {b : Nat} : Kept s (@State.bentTick s b) := by
  unfold State.bentTick
  try dsimp only
  refine Kept.ite ?_ ?_
  exact Kept.refl
  refine Kept.ite ?_ ?_
  dsimp only [Kept_mk]
  refine Keeps.of ?_ ?_
  exact Kept.refl
  first | exact Nat.le_refl _ | exact Nat.le_max_left _ _
  refine Kept.foldl ?_ ?_
  dsimp only [Kept_mk]
  refine Keeps.of ?_ ?_
  exact Kept.refl
  first | exact Nat.le_refl _ | exact Nat.le_max_left _ _
  intro _
  intro _
  split
  refine Kept.trans ?_ State_idle_kept
  exact Kept.refl
  exact Kept.refl

theorem State_holdTick_kept {s : State} {n : Nat} : Kept s (@State.holdTick s n) := by
  unfold State.holdTick
  try dsimp only
  refine Kept.foldl ?_ ?_
  exact Kept.refl
  intro _
  intro _
  refine Kept.ite ?_ ?_
  dsimp only [Kept_mk]
  refine Keeps.of ?_ ?_
  exact Kept.refl
  exact Nat.le_refl _
  dsimp only [Kept_mk]
  refine Keeps.of ?_ ?_
  exact Kept.refl
  exact Nat.le_refl _

theorem State_spineEnd_kept {s : State} : Kept s (@State.spineEnd s) := by
  unfold State.spineEnd
  try dsimp only
  refine Kept.foldl ?_ ?_
  refine Kept.trans ?_ State_colReady_kept
  refine Kept.foldl ?_ ?_
  exact Kept.refl
  intro _
  intro _
  refine Kept.ite ?_ ?_
  exact Kept.refl
  refine Kept.trans ?_ State_poolCycle_kept
  exact Kept.refl
  intro _
  intro _
  refine Kept.trans ?_ State_lineTick_kept
  refine Kept.trans ?_ State_replayTick_kept
  exact Kept.refl

theorem State_pertTick_kept {s : State} {p : Nat} : Kept s (@State.pertTick s p) := by
  unfold State.pertTick
  try dsimp only
  refine Kept.ite ?_ ?_
  refine Kept.trans ?_ State_count_kept
  exact Kept.refl
  exact Kept.refl

theorem State_tick_kept {s0 : State} : Kept s0 (@State.tick s0) := by
  unfold State.tick
  try dsimp only
  refine Kept.ite ?_ ?_
  dsimp only [Kept_mk]
  refine Keeps.of ?_ ?_
  refine Kept.ite ?_ ?_
  exact Kept.refl
  dsimp only [Kept_mk]
  refine Keeps.of ?_ ?_
  refine Kept.foldl ?_ ?_
  refine Kept.trans ?_ State_spineEnd_kept
  exact Kept.refl
  intro _
  intro _
  refine Kept.trans ?_ State_pertTick_kept
  exact Kept.refl
  exact Nat.le_refl _
  exact Nat.le_refl _
  refine Kept.foldl ?_ ?_
  refine Kept.foldl ?_ ?_
  refine Kept.foldl ?_ ?_
  refine Kept.trans ?_ State_holdTick_kept
  dsimp only [Kept_mk]
  refine Keeps.of ?_ ?_
  refine Kept.ite ?_ ?_
  exact Kept.refl
  dsimp only [Kept_mk]
  refine Keeps.of ?_ ?_
  refine Kept.foldl ?_ ?_
  refine Kept.trans ?_ State_spineEnd_kept
  exact Kept.refl
  intro _
  intro _
  refine Kept.trans ?_ State_pertTick_kept
  exact Kept.refl
  exact Nat.le_refl _
  exact Nat.le_refl _
  intro _
  intro _
  refine Kept.trans ?_ State_count_kept
  exact Kept.refl
  intro _
  intro _
  refine Kept.trans ?_ State_bentTick_kept
  exact Kept.refl
  intro _
  intro _
  refine Kept.ite ?_ ?_
  refine Kept.trans ?_ State_dldTick_kept
  exact Kept.refl
  exact Kept.refl

end Sys2Proof.Laws
end

