-- ==== Sys2Proof/Laws/KeptPower.lean ====
section
/-! SUPPORT. What the operations of Machine/Power.lean keep. -/
namespace Sys2Proof.Laws
open Sys2Proof Sys2Proof.Machine

theorem State_startMove_kept {s : State} {b : Nat} {k : Nat} {cause : Nat} : Kept s (@State.startMove s b k cause) := by
  unfold State.startMove
  try dsimp only
  refine Kept.ite ?_ ?_
  exact Kept.refl
  refine Kept.ite ?_ ?_
  refine Kept.trans ?_ State_setFld_kept
  dsimp only [Kept_mk]
  refine Keeps.of ?_ ?_
  exact Kept.refl
  first | exact Nat.le_refl _ | exact Nat.le_max_left _ _
  dsimp only [Kept_mk]
  refine Keeps.of ?_ ?_
  exact Kept.refl
  first | exact Nat.le_refl _ | exact Nat.le_max_left _ _

theorem State_fixedStep_kept {s : State} {b : Nat} : Kept s (@State.fixedStep s b) := by
  unfold State.fixedStep
  try dsimp only
  split
  exact Kept.refl
  refine Kept.ite ?_ ?_
  exact Kept.refl
  refine Kept.ite ?_ ?_
  refine Kept.trans ?_ State_startMove_kept
  exact Kept.refl
  exact Kept.refl

theorem execPointSwitch_kept {bent : Nat} {s : State} : KeptN s (@execPointSwitch bent s) := by
  unfold execPointSwitch
  try dsimp only
  refine KeptN.mk_ ?_
  split
  exact Kept.refl
  refine Kept.ite ?_ ?_
  exact Kept.refl
  refine Kept.ite ?_ ?_
  refine Kept.trans ?_ State_fixedStep_kept
  dsimp only [Kept_mk]
  refine Keeps.of ?_ ?_
  refine Kept.trans ?_ State_setFld_kept
  refine Kept.trans ?_ State_setFld_kept
  refine Kept.trans ?_ State_setFld_kept
  exact Kept.refl
  exact Nat.le_refl _
  refine Kept.ite ?_ ?_
  refine Kept.trans ?_ State_startMove_kept
  dsimp only [Kept_mk]
  refine Keeps.of ?_ ?_
  refine Kept.trans ?_ State_setFld_kept
  refine Kept.trans ?_ State_setFld_kept
  refine Kept.trans ?_ State_setFld_kept
  exact Kept.refl
  exact Nat.le_refl _
  dsimp only [Kept_mk]
  refine Keeps.of ?_ ?_
  refine Kept.trans ?_ State_setFld_kept
  refine Kept.trans ?_ State_setFld_kept
  refine Kept.trans ?_ State_setFld_kept
  exact Kept.refl
  exact Nat.le_refl _

theorem State_resumeTimers_kept {s : State} {p : Nat} : Kept s (@State.resumeTimers s p) := by
  unfold State.resumeTimers
  try dsimp only
  split
  exact Kept.refl
  refine Kept.ite ?_ ?_
  exact Kept.refl
  refine Kept.trans ?_ State_setPart_kept
  dsimp only [Kept_mk]
  refine Keeps.of ?_ ?_
  exact Kept.refl
  first | exact Nat.le_refl _ | exact Nat.le_max_left _ _

theorem State_restartBent_kept {s : State} {b : Nat} : Kept s (@State.restartBent s b) := by
  unfold State.restartBent
  try dsimp only
  refine Kept.ite ?_ ?_
  exact Kept.refl
  refine Kept.ite ?_ ?_
  refine Kept.trans ?_ State_setFld_kept
  exact Kept.refl
  refine Kept.ite ?_ ?_
  refine Kept.trans ?_ State_setFld_kept
  exact Kept.refl
  refine Kept.ite ?_ ?_
  refine Kept.trans ?_ State_setFld_kept
  exact Kept.refl
  refine Kept.trans ?_ State_fixedStep_kept
  split
  refine Kept.trans ?_ State_resumeTimers_kept
  dsimp only [Kept_mk]
  refine Keeps.of ?_ ?_
  refine Kept.trans ?_ State_setFld_kept
  refine Kept.trans ?_ State_setFld_kept
  refine Kept.trans ?_ State_setFld_kept
  exact Kept.refl
  first | exact Nat.le_refl _ | exact Nat.le_max_left _ _
  dsimp only [Kept_mk]
  refine Keeps.of ?_ ?_
  refine Kept.trans ?_ State_setFld_kept
  refine Kept.trans ?_ State_setFld_kept
  refine Kept.trans ?_ State_setFld_kept
  exact Kept.refl
  first | exact Nat.le_refl _ | exact Nat.le_max_left _ _

theorem State_setX_kept {s : State} {x : Nat} : Kept s (@State.setX s x) := by
  unfold State.setX
  try dsimp only
  refine Kept.trans ?_ State_setFld_kept
  refine Kept.foldl ?_ ?_
  dsimp only [Kept_mk]
  refine Keeps.of ?_ ?_
  exact Kept.refl
  first | exact Nat.le_refl _ | exact Nat.le_max_left _ _
  intro _
  intro _
  refine Kept.trans ?_ State_setFld_kept
  exact Kept.refl

theorem State_capEvent_kept {s : State} : Kept s (@State.capEvent s) := by
  unfold State.capEvent
  try dsimp only
  refine Kept.trans ?_ State_spineEvent_kept
  exact Kept.refl

theorem State_feasible_kept {s : State} : Kept s (@State.feasible s) := by
  unfold State.feasible
  try dsimp only
  dsimp only [Kept_mk]
  refine Keeps.of ?_ ?_
  refine Kept.trans ?_ State_setFld_kept
  exact Kept.refl
  first | exact Nat.le_refl _ | exact Nat.le_max_left _ _

theorem State_infeasible_kept {s : State} : Kept s (@State.infeasible s) := by
  unfold State.infeasible
  try dsimp only
  dsimp only [Kept_mk]
  refine Keeps.of ?_ ?_
  refine Kept.foldl ?_ ?_
  refine Kept.trans ?_ State_capEvent_kept
  refine Kept.trans ?_ State_pldmEvent_kept
  refine Kept.trans ?_ State_count_kept
  refine Kept.trans ?_ State_setFld_kept
  exact Kept.refl
  intro _
  intro _
  refine Kept.trans ?_ State_cause_kept
  exact Kept.refl
  first | exact Nat.le_refl _ | exact Nat.le_max_left _ _

theorem State_clampPair_kept {s : State} {a : Nat} {b : Nat} : Kept s (@State.clampPair s a b) := by
  unfold State.clampPair
  try dsimp only
  refine Kept.ite ?_ ?_
  exact Kept.refl
  refine Kept.ite ?_ ?_
  exact Kept.refl
  refine Kept.ite ?_ ?_
  refine Kept.ite ?_ ?_
  exact Kept.refl
  refine Kept.trans ?_ State_count_kept
  refine Kept.trans ?_ State_setFld_kept
  refine Kept.trans ?_ State_startMove_kept
  exact Kept.refl
  refine Kept.ite ?_ ?_
  refine Kept.ite ?_ ?_
  dsimp only [Kept_mk]
  refine Keeps.of ?_ ?_
  refine Kept.trans ?_ State_setFld_kept
  exact Kept.refl
  first | exact Nat.le_refl _ | exact Nat.le_max_left _ _
  refine Kept.ite ?_ ?_
  exact Kept.refl
  refine Kept.trans ?_ State_count_kept
  refine Kept.trans ?_ State_setFld_kept
  refine Kept.trans ?_ State_startMove_kept
  exact Kept.refl
  refine Kept.ite ?_ ?_
  exact Kept.refl
  refine Kept.trans ?_ State_startMove_kept
  exact Kept.refl

theorem State_clampAll_kept {s : State} : Kept s (@State.clampAll s) := by
  unfold State.clampAll
  try dsimp only
  refine Kept.foldl ?_ ?_
  exact Kept.refl
  intro _
  intro _
  refine Kept.foldl ?_ ?_
  exact Kept.refl
  intro _
  intro _
  refine Kept.trans ?_ State_clampPair_kept
  exact Kept.refl

theorem execGovernorInterval_kept {p : Nat} {pb : Nat} {f : Nat} {s : State} : KeptN s (@execGovernorInterval p pb f s) := by
  unfold execGovernorInterval
  try dsimp only
  refine KeptN.mk_ ?_
  refine Kept.ite ?_ ?_
  exact Kept.refl
  refine Kept.trans ?_ State_clampAll_kept
  refine Kept.foldl ?_ ?_
  refine Kept.ite ?_ ?_
  refine Kept.foldl ?_ ?_
  refine Kept.trans ?_ State_setX_kept
  refine Kept.ite ?_ ?_
  refine Kept.trans ?_ State_infeasible_kept
  refine Kept.trans ?_ State_setReg_kept
  refine Kept.trans ?_ State_setReg_kept
  exact Kept.refl
  refine Kept.ite ?_ ?_
  dsimp only [Kept_mk]
  refine Keeps.of ?_ ?_
  refine Kept.trans ?_ State_setFld_kept
  refine Kept.trans ?_ State_setReg_kept
  refine Kept.trans ?_ State_setReg_kept
  exact Kept.refl
  first | exact Nat.le_refl _ | exact Nat.le_max_left _ _
  refine Kept.trans ?_ State_setReg_kept
  refine Kept.trans ?_ State_setReg_kept
  exact Kept.refl
  intro _
  intro _
  refine Kept.trans ?_ State_startMove_kept
  exact Kept.refl
  refine Kept.ite ?_ ?_
  refine Kept.ite ?_ ?_
  refine Kept.ite ?_ ?_
  refine Kept.trans ?_ State_infeasible_kept
  refine Kept.trans ?_ State_setReg_kept
  refine Kept.trans ?_ State_setReg_kept
  exact Kept.refl
  refine Kept.ite ?_ ?_
  dsimp only [Kept_mk]
  refine Keeps.of ?_ ?_
  refine Kept.trans ?_ State_setFld_kept
  refine Kept.trans ?_ State_setReg_kept
  refine Kept.trans ?_ State_setReg_kept
  exact Kept.refl
  first | exact Nat.le_refl _ | exact Nat.le_max_left _ _
  refine Kept.trans ?_ State_setReg_kept
  refine Kept.trans ?_ State_setReg_kept
  exact Kept.refl
  refine Kept.trans ?_ State_setX_kept
  refine Kept.ite ?_ ?_
  refine Kept.trans ?_ State_infeasible_kept
  refine Kept.trans ?_ State_setReg_kept
  refine Kept.trans ?_ State_setReg_kept
  exact Kept.refl
  refine Kept.ite ?_ ?_
  dsimp only [Kept_mk]
  refine Keeps.of ?_ ?_
  refine Kept.trans ?_ State_setFld_kept
  refine Kept.trans ?_ State_setReg_kept
  refine Kept.trans ?_ State_setReg_kept
  exact Kept.refl
  first | exact Nat.le_refl _ | exact Nat.le_max_left _ _
  refine Kept.trans ?_ State_setReg_kept
  refine Kept.trans ?_ State_setReg_kept
  exact Kept.refl
  refine Kept.ite ?_ ?_
  refine Kept.trans ?_ State_setX_kept
  refine Kept.ite ?_ ?_
  refine Kept.trans ?_ State_infeasible_kept
  refine Kept.trans ?_ State_setReg_kept
  refine Kept.trans ?_ State_setReg_kept
  exact Kept.refl
  refine Kept.ite ?_ ?_
  dsimp only [Kept_mk]
  refine Keeps.of ?_ ?_
  refine Kept.trans ?_ State_setFld_kept
  refine Kept.trans ?_ State_setReg_kept
  refine Kept.trans ?_ State_setReg_kept
  exact Kept.refl
  first | exact Nat.le_refl _ | exact Nat.le_max_left _ _
  refine Kept.trans ?_ State_setReg_kept
  refine Kept.trans ?_ State_setReg_kept
  exact Kept.refl
  refine Kept.ite ?_ ?_
  refine Kept.trans ?_ State_infeasible_kept
  refine Kept.trans ?_ State_setReg_kept
  refine Kept.trans ?_ State_setReg_kept
  exact Kept.refl
  refine Kept.ite ?_ ?_
  dsimp only [Kept_mk]
  refine Keeps.of ?_ ?_
  refine Kept.trans ?_ State_setFld_kept
  refine Kept.trans ?_ State_setReg_kept
  refine Kept.trans ?_ State_setReg_kept
  exact Kept.refl
  first | exact Nat.le_refl _ | exact Nat.le_max_left _ _
  refine Kept.trans ?_ State_setReg_kept
  refine Kept.trans ?_ State_setReg_kept
  exact Kept.refl
  intro _
  intro _
  refine Kept.trans ?_ State_fixedStep_kept
  exact Kept.refl

theorem execPeakCheck_kept {p : Nat} {s : State} : KeptN s (@execPeakCheck p s) := by
  unfold execPeakCheck
  try dsimp only
  refine KeptN.mk_ ?_
  refine Kept.ite ?_ ?_
  exact Kept.refl
  refine Kept.trans ?_ State_count_kept
  refine Kept.trans ?_ State_setX_kept
  exact Kept.refl

theorem execBoostStep_kept {s : State} : KeptN s (@execBoostStep s) := by
  unfold execBoostStep
  try dsimp only
  refine KeptN.mk_ ?_
  refine Kept.ite ?_ ?_
  exact Kept.refl
  refine Kept.ite ?_ ?_
  split
  dsimp only [Kept_mk]
  refine Keeps.of ?_ ?_
  refine Kept.trans ?_ State_startMove_kept
  exact Kept.refl
  first | exact Nat.le_refl _ | exact Nat.le_max_left _ _
  exact Kept.refl
  refine Kept.ite ?_ ?_
  exact Kept.refl
  split
  dsimp only [Kept_mk]
  refine Keeps.of ?_ ?_
  refine Kept.trans ?_ State_startMove_kept
  exact Kept.refl
  first | exact Nat.le_refl _ | exact Nat.le_max_left _ _
  exact Kept.refl

theorem execPartitionPark_kept {f : Nat} {s : State} : KeptN s (@execPartitionPark f s) := by
  unfold execPartitionPark
  try dsimp only
  refine KeptN.mk_ ?_
  refine Kept.ite ?_ ?_
  exact Kept.refl
  split
  refine Kept.trans ?_ State_capEvent_kept
  dsimp only [Kept_mk]
  refine Keeps.of ?_ ?_
  refine Kept.trans ?_ State_parkPart_kept
  refine Kept.trans ?_ State_setReg_kept
  exact Kept.refl
  first | exact Nat.le_refl _ | exact Nat.le_max_left _ _
  refine Kept.trans ?_ State_setReg_kept
  exact Kept.refl

theorem execPartitionUnpark_kept {f : Nat} {fw : Nat} {s : State} : KeptN s (@execPartitionUnpark f fw s) := by
  unfold execPartitionUnpark
  try dsimp only
  refine KeptN.mk_ ?_
  refine Kept.ite ?_ ?_
  exact Kept.refl
  split
  exact Kept.refl
  refine Kept.trans ?_ State_waitingReset_kept
  refine Kept.trans ?_ State_capEvent_kept
  refine Kept.ite ?_ ?_
  refine Kept.trans ?_ State_feasible_kept
  refine Kept.foldl ?_ ?_
  dsimp only [Kept_mk]
  refine Keeps.of ?_ ?_
  refine Kept.trans ?_ State_setFld_kept
  refine Kept.trans ?_ State_setPart_kept
  refine Kept.trans ?_ State_setReg_kept
  exact Kept.refl
  first | exact Nat.le_refl _ | exact Nat.le_max_left _ _
  intro _
  intro _
  refine Kept.trans ?_ State_restartBent_kept
  exact Kept.refl
  refine Kept.foldl ?_ ?_
  dsimp only [Kept_mk]
  refine Keeps.of ?_ ?_
  refine Kept.trans ?_ State_setFld_kept
  refine Kept.trans ?_ State_setPart_kept
  refine Kept.trans ?_ State_setReg_kept
  exact Kept.refl
  first | exact Nat.le_refl _ | exact Nat.le_max_left _ _
  intro _
  intro _
  refine Kept.trans ?_ State_restartBent_kept
  exact Kept.refl

theorem State_writeCap_kept {s : State} {v : Nat} : Kept s (@State.writeCap s v) := by
  unfold State.writeCap
  try dsimp only
  dsimp only [Kept_mk]
  refine Keeps.of ?_ ?_
  refine Kept.trans ?_ State_setReg_kept
  exact Kept.refl
  exact Nat.le_refl _

theorem execPwrCapWrite_kept {writes : List (Src × Word)} {s : State} : KeptN s (@execPwrCapWrite writes s) := by
  unfold execPwrCapWrite
  try dsimp only
  refine KeptN.mk_ ?_
  refine Kept.ite ?_ ?_
  exact Kept.refl
  split
  refine Kept.foldl ?_ ?_
  exact Kept.refl
  intro _
  intro _
  refine Kept.ite ?_ ?_
  exact Kept.refl
  refine Kept.trans ?_ State_denied_kept
  exact Kept.refl
  refine Kept.trans ?_ State_writeCap_kept
  refine Kept.foldl ?_ ?_
  exact Kept.refl
  intro _
  intro _
  refine Kept.ite ?_ ?_
  exact Kept.refl
  refine Kept.trans ?_ State_denied_kept
  exact Kept.refl

theorem execPwrPartWrite_kept {src : Sys2Proof.Src} {p : BitVec 3} {value : Sys2Proof.Word} {s : State} : KeptN s (@execPwrPartWrite src p value s) := by
  unfold execPwrPartWrite
  try dsimp only
  refine KeptN.mk_ ?_
  refine Kept.trans ?_ (State_accessW_kept ?_)
  exact Kept.refl
  intro _
  refine Kept.ite ?_ ?_
  exact Kept.refl
  refine Kept.trans ?_ State_setReg_kept
  exact Kept.refl

theorem State_toPhase_kept {s : State} {n : Nat} : Kept s (@State.toPhase s n) := by
  unfold State.toPhase
  try dsimp only
  dsimp only [Kept_mk]
  refine Keeps.of ?_ ?_
  refine Kept.trans ?_ State_spineEvent_kept
  refine Kept.trans ?_ State_setFld_kept
  exact Kept.refl
  first | exact Nat.le_refl _ | exact Nat.le_max_left _ _

theorem State_noResume_kept {s : State} : Kept s (@State.noResume s) := by
  unfold State.noResume
  try dsimp only
  refine Kept.trans ?_ State_setFld_kept
  exact Kept.refl

theorem State_shutdown_kept {s : State} {noResume : Bool} {thermal : Bool} : Kept s (@State.shutdown s noResume thermal) := by
  unfold State.shutdown
  try dsimp only
  refine Kept.trans ?_ State_toPhase_kept
  refine Kept.foldl ?_ ?_
  dsimp only [Kept_mk]
  refine Keeps.of ?_ ?_
  refine Kept.trans ?_ State_count_kept
  refine Kept.trans ?_ State_setFld_kept
  exact Kept.refl
  first | exact Nat.le_refl _ | exact Nat.le_max_left _ _
  intro _
  intro _
  refine Kept.trans ?_ State_stopBent_kept
  exact Kept.refl

theorem State_commit_kept {s : State} : Kept s (@State.commit s) := by
  unfold State.commit
  try dsimp only
  dsimp only [Kept_mk]
  refine Keeps.of ?_ ?_
  refine Kept.trans ?_ State_toPhase_kept
  exact Kept.refl
  first | exact Nat.le_refl _ | exact Nat.le_max_left _ _

theorem State_powerOff_kept {s : State} {outcome : Nat} : Kept s (s.powerOff outcome) :=
  ⟨rfl, fun _ => ⟨List.Pairwise.nil, fun _ h => by cases h⟩, Nat.le_refl _,
    fun _ => noEvents, fun _ => Nat.zero_le _⟩

theorem execPwrfailFall_kept {s : State} : KeptN s (@execPwrfailFall s) := by
  unfold execPwrfailFall
  try dsimp only
  refine KeptN.mk_ ?_
  refine Kept.ite ?_ ?_
  exact Kept.refl
  refine Kept.ite ?_ ?_
  refine Kept.trans ?_ State_shutdown_kept
  exact Kept.refl
  dsimp only [Kept_mk]
  refine Keeps.of ?_ ?_
  exact Kept.refl
  first | exact Nat.le_refl _ | exact Nat.le_max_left _ _

theorem execBladeUndervolt_kept {s : State} : KeptN s (@execBladeUndervolt s) := by
  unfold execBladeUndervolt
  try dsimp only
  refine KeptN.mk_ ?_
  refine Kept.ite ?_ ?_
  exact Kept.refl
  refine Kept.ite ?_ ?_
  refine Kept.trans ?_ State_shutdown_kept
  exact Kept.refl
  refine Kept.ite ?_ ?_
  refine Kept.trans ?_ State_commit_kept
  dsimp only [Kept_mk]
  refine Keeps.of ?_ ?_
  refine Kept.trans ?_ State_noResume_kept
  exact Kept.refl
  first | exact Nat.le_refl _ | exact Nat.le_max_left _ _
  dsimp only [Kept_mk]
  refine Keeps.of ?_ ?_
  refine Kept.trans ?_ State_noResume_kept
  exact Kept.refl
  first | exact Nat.le_refl _ | exact Nat.le_max_left _ _

theorem execBladeCollapse_kept {s : State} : KeptN s (@execBladeCollapse s) := by
  unfold execBladeCollapse
  try dsimp only
  refine KeptN.mk_ ?_
  refine Kept.ite ?_ ?_
  exact Kept.refl
  refine Kept.trans ?_ State_powerOff_kept
  exact Kept.refl

theorem State_toFlush_kept {s : State} : Kept s (@State.toFlush s) := by
  unfold State.toFlush
  try dsimp only
  refine Kept.foldl ?_ ?_
  refine Kept.trans ?_ State_toPhase_kept
  exact Kept.refl
  intro _
  intro _
  refine Kept.trans ?_ State_sendCtl_kept
  refine Kept.trans ?_ State_setPort_kept
  exact Kept.refl

theorem execPfHoldDone_kept {s : State} : KeptN s (@execPfHoldDone s) := by
  unfold execPfHoldDone
  try dsimp only
  refine KeptN.mk_ ?_
  refine Kept.ite ?_ ?_
  refine Kept.trans ?_ State_toFlush_kept
  exact Kept.refl
  exact Kept.refl

theorem execHoldBoundExpire_kept {s : State} : KeptN s (@execHoldBoundExpire s) := by
  unfold execHoldBoundExpire
  try dsimp only
  refine KeptN.mk_ ?_
  refine Kept.ite ?_ ?_
  refine Kept.trans ?_ State_toFlush_kept
  refine Kept.trans ?_ State_noResume_kept
  exact Kept.refl
  exact Kept.refl

theorem State_resume_kept {s : State} : Kept s (@State.resume s) := by
  unfold State.resume
  try dsimp only
  refine Kept.trans ?_ State_count_kept
  refine Kept.trans ?_ (State_portsStep_kept ?_)
  refine Kept.foldl ?_ ?_
  refine Kept.foldl ?_ ?_
  dsimp only [Kept_mk]
  refine Keeps.of ?_ ?_
  refine Kept.trans ?_ State_setFld_kept
  refine Kept.trans ?_ State_setFld_kept
  exact Kept.refl
  exact Nat.le_refl _
  intro _
  intro _
  refine Kept.ite ?_ ?_
  refine Kept.trans ?_ State_restartBent_kept
  exact Kept.refl
  exact Kept.refl
  intro _
  intro _
  refine Kept.trans ?_ State_portTo_kept
  exact Kept.refl
  intro _
  intro _
  refine Kept.trans ?_ State_trainStep_kept
  exact Kept.refl

theorem State_flushStep_kept {s : State} {n : Nat} : Kept s (@State.flushStep s n) := by
  unfold State.flushStep
  try dsimp only
  refine Kept.ite ?_ ?_
  refine Kept.trans ?_ State_count_kept
  refine Kept.trans ?_ State_portStep_kept
  refine Kept.trans ?_ State_swapsEnd_kept
  exact Kept.refl
  refine Kept.trans ?_ State_pldmEvent_kept
  refine Kept.trans ?_ State_portStep_kept
  refine Kept.trans ?_ State_swapsEnd_kept
  exact Kept.refl

theorem execPfFlushDone_kept {s : State} : KeptN s (@execPfFlushDone s) := by
  unfold execPfFlushDone
  try dsimp only
  refine KeptN.mk_ ?_
  refine Kept.ite ?_ ?_
  exact Kept.refl
  refine Kept.ite ?_ ?_
  refine Kept.trans ?_ State_resume_kept
  refine Kept.trans ?_ State_toPhase_kept
  refine Kept.trans ?_ (State_portsStep_kept ?_)
  refine Kept.foldl ?_ ?_
  exact Kept.refl
  intro _
  intro _
  refine Kept.trans ?_ State_deckFlush_kept
  exact Kept.refl
  intro _
  intro _
  refine Kept.trans ?_ State_flushStep_kept
  exact Kept.refl
  refine Kept.trans ?_ State_toPhase_kept
  refine Kept.trans ?_ (State_portsStep_kept ?_)
  refine Kept.foldl ?_ ?_
  exact Kept.refl
  intro _
  intro _
  refine Kept.trans ?_ State_deckFlush_kept
  exact Kept.refl
  intro _
  intro _
  refine Kept.trans ?_ State_flushStep_kept
  exact Kept.refl

theorem execRideExpire_kept {s : State} : KeptN s (@execRideExpire s) := by
  unfold execRideExpire
  try dsimp only
  refine KeptN.mk_ ?_
  refine Kept.ite ?_ ?_
  refine Kept.trans ?_ State_commit_kept
  exact Kept.refl
  exact Kept.refl

theorem execRailsDownDone_kept {s : State} : KeptN s (@execRailsDownDone s) := by
  unfold execRailsDownDone
  try dsimp only
  refine KeptN.mk_ ?_
  refine Kept.ite ?_ ?_
  refine Kept.trans ?_ State_powerOff_kept
  exact Kept.refl
  exact Kept.refl

theorem execInputReturn_kept {s : State} : KeptN s (@execInputReturn s) := by
  unfold execInputReturn
  try dsimp only
  refine KeptN.mk_ ?_
  refine Kept.ite ?_ ?_
  exact Kept.refl
  refine Kept.ite ?_ ?_
  refine Kept.ite ?_ ?_
  exact Kept.refl
  refine Kept.trans ?_ State_resume_kept
  exact Kept.refl
  dsimp only [Kept_mk]
  refine Keeps.of ?_ ?_
  exact Kept.refl
  first | exact Nat.le_refl _ | exact Nat.le_max_left _ _

theorem State_railsUp_kept {s : State} : Kept s (@State.railsUp s) := by
  unfold State.railsUp
  try dsimp only
  dsimp only [Kept_mk]
  refine Keeps.of ?_ ?_
  exact Kept.refl
  first | exact Nat.le_refl _ | exact Nat.le_max_left _ _

theorem execColdStart_kept {s : State} : KeptN s (@execColdStart s) := by
  unfold execColdStart
  try dsimp only
  refine KeptN.mk_ ?_
  refine Kept.ite ?_ ?_
  refine Kept.trans ?_ State_railsUp_kept
  exact Kept.refl
  exact Kept.refl

theorem execBladesInRange_kept {s : State} : KeptN s (@execBladesInRange s) := by
  unfold execBladesInRange
  try dsimp only
  refine KeptN.mk_ ?_
  refine Kept.ite ?_ ?_
  refine Kept.trans ?_ State_railsUp_kept
  exact Kept.refl
  exact Kept.refl

theorem State_trip_kept {s : State} {d : Nat} {temp : Nat} : Kept s (@State.trip s d temp) := by
  unfold State.trip
  try dsimp only
  refine Kept.ite ?_ ?_
  exact Kept.refl
  dsimp only [Kept_mk]
  refine Keeps.of ?_ ?_
  refine Kept.foldl ?_ ?_
  refine Kept.trans ?_ State_pldmEvent_kept
  refine Kept.trans ?_ State_spineEvent_kept
  refine Kept.trans ?_ State_count_kept
  refine Kept.foldl ?_ ?_
  refine Kept.trans ?_ State_setReg_kept
  exact Kept.refl
  intro _
  intro _
  refine Kept.trans ?_ State_stopBent_kept
  exact Kept.refl
  intro _
  intro _
  refine Kept.trans ?_ State_cause_kept
  exact Kept.refl
  first | exact Nat.le_refl _ | exact Nat.le_max_left _ _

theorem execDieTrip_kept {die : BitVec 2} {temp : Nat} {s : State} : KeptN s (@execDieTrip die temp s) := by
  unfold execDieTrip
  try dsimp only
  refine KeptN.mk_ ?_
  refine Kept.ite ?_ ?_
  exact Kept.refl
  refine Kept.trans ?_ State_trip_kept
  exact Kept.refl

theorem execDieTripRestart_kept {die : BitVec 2} {s : State} : KeptN s (@execDieTripRestart die s) := by
  unfold execDieTripRestart
  try dsimp only
  refine KeptN.mk_ ?_
  split
  exact Kept.refl
  refine Kept.ite ?_ ?_
  exact Kept.refl
  refine Kept.foldl ?_ ?_
  refine Kept.trans ?_ State_spineEvent_kept
  dsimp only [Kept_mk]
  refine Keeps.of ?_ ?_
  refine Kept.trans ?_ State_setFld_kept
  exact Kept.refl
  first | exact Nat.le_refl _ | exact Nat.le_max_left _ _
  intro _
  intro _
  refine Kept.ite ?_ ?_
  refine Kept.trans ?_ State_restartBent_kept
  exact Kept.refl
  exact Kept.refl

theorem execThermalInterval_kept {bents : List (Nat × Nat)} {dies : List (Nat × Nat)} {s : State} : KeptN s (@execThermalInterval bents dies s) := by
  unfold execThermalInterval
  try dsimp only
  refine KeptN.mk_ ?_
  refine Kept.ite ?_ ?_
  exact Kept.refl
  refine Kept.foldl ?_ ?_
  refine Kept.foldl ?_ ?_
  exact Kept.refl
  intro _
  intro _
  refine Kept.ite ?_ ?_
  dsimp only [Kept_mk]
  refine Keeps.of ?_ ?_
  refine Kept.trans ?_ State_setFld_kept
  refine Kept.trans ?_ State_setReg_kept
  exact Kept.refl
  first | exact Nat.le_refl _ | exact Nat.le_max_left _ _
  split
  dsimp only [Kept_mk]
  refine Keeps.of ?_ ?_
  refine Kept.trans ?_ State_setFld_kept
  refine Kept.trans ?_ State_setReg_kept
  exact Kept.refl
  first | exact Nat.le_refl _ | exact Nat.le_max_left _ _
  refine Kept.ite ?_ ?_
  refine Kept.trans ?_ State_setFld_kept
  refine Kept.trans ?_ State_setReg_kept
  exact Kept.refl
  dsimp only [Kept_mk]
  refine Keeps.of ?_ ?_
  refine Kept.trans ?_ State_startMove_kept
  refine Kept.trans ?_ State_setFld_kept
  refine Kept.trans ?_ State_setReg_kept
  exact Kept.refl
  first | exact Nat.le_refl _ | exact Nat.le_max_left _ _
  intro _
  intro _
  refine Kept.ite ?_ ?_
  dsimp only [Kept_mk]
  refine Keeps.of ?_ ?_
  refine Kept.trans ?_ State_setFld_kept
  exact Kept.refl
  first | exact Nat.le_refl _ | exact Nat.le_max_left _ _
  refine Kept.ite ?_ ?_
  refine Kept.trans ?_ State_setFld_kept
  exact Kept.refl
  dsimp only [Kept_mk]
  refine Keeps.of ?_ ?_
  refine Kept.trans ?_ State_setFld_kept
  exact Kept.refl
  first | exact Nat.le_refl _ | exact Nat.le_max_left _ _

theorem execThermalShutdown_kept {temp : Nat} {s : State} : KeptN s (@execThermalShutdown temp s) := by
  unfold execThermalShutdown
  try dsimp only
  refine KeptN.mk_ ?_
  refine Kept.ite ?_ ?_
  exact Kept.refl
  refine Kept.ite ?_ ?_
  refine Kept.trans ?_ State_shutdown_kept
  exact Kept.refl
  refine Kept.ite ?_ ?_
  exact Kept.refl
  dsimp only [Kept_mk]
  refine Keeps.of ?_ ?_
  refine Kept.trans ?_ State_noResume_kept
  exact Kept.refl
  first | exact Nat.le_refl _ | exact Nat.le_max_left _ _

theorem execHbmTempPoll_kept {die : BitVec 2} {temps : List Nat} {s : State} : KeptN s (@execHbmTempPoll die temps s) := by
  unfold execHbmTempPoll
  try dsimp only
  refine KeptN.mk_ ?_
  refine Kept.ite ?_ ?_
  exact Kept.refl
  refine Kept.ite ?_ ?_
  refine Kept.trans ?_ State_trip_kept
  refine Kept.foldl ?_ ?_
  exact Kept.refl
  intro _
  intro _
  refine Kept.trans ?_ State_setReg_kept
  exact Kept.refl
  refine Kept.foldl ?_ ?_
  exact Kept.refl
  intro _
  intro _
  refine Kept.trans ?_ State_setReg_kept
  exact Kept.refl

end Sys2Proof.Laws
end

