-- ==== Sys2Proof/Laws/KeptBoot.lean ====
section
/-! SUPPORT. What the operations of Machine/Boot.lean keep. -/
namespace Sys2Proof.Laws
open Sys2Proof Sys2Proof.Machine

theorem State_writeSelector_kept {s : State} {v : Selector} : Kept s (@State.writeSelector s v) := by
  unfold State.writeSelector
  try dsimp only
  dsimp only [Kept_mk]
  refine Keeps.of ?_ ?_
  exact Kept.refl
  first | exact Nat.le_refl _ | exact Nat.le_max_left _ _

theorem State_select_kept {s : State} : KeptP s (@State.select s) := by
  unfold State.select
  try dsimp only
  refine KeptP.ite ?_ ?_
  refine KeptP.ite ?_ ?_
  refine KeptP.mk_ ?_
  refine Kept.trans ?_ State_writeSelector_kept
  exact Kept.refl
  refine KeptP.ite ?_ ?_
  refine KeptP.mk_ ?_
  refine Kept.trans ?_ State_writeSelector_kept
  refine Kept.trans ?_ State_writeSelector_kept
  exact Kept.refl
  refine KeptP.ite ?_ ?_
  refine KeptP.mk_ ?_
  refine Kept.trans ?_ State_writeSelector_kept
  exact Kept.refl
  refine KeptP.mk_ ?_
  refine Kept.trans ?_ State_writeSelector_kept
  exact Kept.refl
  refine KeptP.ite ?_ ?_
  refine KeptP.mk_ ?_
  refine Kept.trans ?_ State_writeSelector_kept
  exact Kept.refl
  refine KeptP.ite ?_ ?_
  refine KeptP.mk_ ?_
  exact Kept.refl
  refine KeptP.mk_ ?_
  exact Kept.refl

theorem State_compact_kept {s : State} : Kept s (@State.compact s) := by
  unfold State.compact
  try dsimp only
  dsimp only [Kept_mk]
  refine Keeps.of ?_ ?_
  exact Kept.refl
  first | exact Nat.le_refl _ | exact Nat.le_max_left _ _

theorem State_applyRepairs_kept {s : State} : Kept s (@State.applyRepairs s) := by
  unfold State.applyRepairs
  try dsimp only
  refine Kept.foldl ?_ ?_
  exact Kept.refl
  intro _
  intro _
  split
  refine Kept.ite ?_ ?_
  refine Kept.trans ?_ State_suspect_kept
  exact Kept.refl
  exact Kept.refl
  exact Kept.refl

theorem State_trainLink_kept {s : State} {l : Nat} {errs : List (List (Option Nat))} : Kept s (@State.trainLink s l errs) := by
  unfold State.trainLink
  try dsimp only
  refine Kept.trans ?_ State_setLink_kept
  refine Kept.foldl ?_ ?_
  exact Kept.refl
  intro _
  intro _
  refine Kept.trans ?_ State_startRecord_kept
  exact Kept.refl

theorem State_setRoot_kept {s : State} {p : Nat} {dig : List Sys2Proof.Byte} : Kept s (@State.setRoot s p dig) := by
  unfold State.setRoot
  try dsimp only
  refine Kept.foldl ?_ ?_
  exact Kept.refl
  intro _
  intro _
  refine Kept.trans ?_ State_setReg_kept
  exact Kept.refl

theorem State_bootPart_kept {s : State} {i : Nat} {e : List Sys2Proof.Byte} : Kept s (@State.bootPart s i e) := by
  unfold State.bootPart
  try dsimp only
  refine Kept.ite ?_ ?_
  refine Kept.trans ?_ State_pldmEvent_kept
  exact Kept.refl
  refine Kept.foldl ?_ ?_
  refine Kept.trans ?_ State_setRoot_kept
  refine Kept.trans ?_ State_build_kept
  exact Kept.refl
  intro _
  intro _
  refine Kept.ite ?_ ?_
  refine Kept.trans ?_ State_bindVf_kept
  exact Kept.refl
  exact Kept.refl

theorem State_dropDefault_kept {s : State} {i : Nat} : Kept s (@State.dropDefault s i) := by
  unfold State.dropDefault
  try dsimp only
  dsimp only [Kept_mk]
  refine Keeps.of ?_ ?_
  exact Kept.refl
  exact Nat.le_refl _

theorem State_powerDefaults_kept {s : State} {b : List Sys2Proof.Byte} : Kept s (@State.powerDefaults s b) := by
  unfold State.powerDefaults
  try dsimp only
  refine Kept.foldl ?_ ?_
  refine Kept.ite ?_ ?_
  refine Kept.trans ?_ State_setReg_kept
  refine Kept.ite ?_ ?_
  refine Kept.trans ?_ State_setReg_kept
  refine Kept.ite ?_ ?_
  refine Kept.trans ?_ State_setReg_kept
  exact Kept.refl
  exact Kept.refl
  refine Kept.ite ?_ ?_
  refine Kept.trans ?_ State_setReg_kept
  exact Kept.refl
  exact Kept.refl
  refine Kept.ite ?_ ?_
  refine Kept.trans ?_ State_setReg_kept
  refine Kept.ite ?_ ?_
  refine Kept.trans ?_ State_setReg_kept
  exact Kept.refl
  exact Kept.refl
  refine Kept.ite ?_ ?_
  refine Kept.trans ?_ State_setReg_kept
  exact Kept.refl
  exact Kept.refl
  intro _
  intro _
  refine Kept.ite ?_ ?_
  exact Kept.refl
  refine Kept.trans ?_ State_setReg_kept
  exact Kept.refl

theorem State_configure_kept {s : State} {d : List Byte} : Kept s (@State.configure s d) := by
  unfold State.configure
  try dsimp only
  refine Kept.foldl ?_ ?_
  refine Kept.ite ?_ ?_
  refine Kept.trans ?_ State_powerDefaults_kept
  refine Kept.foldl ?_ ?_
  split
  refine Kept.trans ?_ State_setReg_kept
  exact Kept.refl
  exact Kept.refl
  intro _
  intro _
  refine Kept.trans ?_ State_assignTrain_kept
  exact Kept.refl
  refine Kept.foldl ?_ ?_
  split
  refine Kept.trans ?_ State_setReg_kept
  exact Kept.refl
  exact Kept.refl
  intro _
  intro _
  refine Kept.trans ?_ State_assignTrain_kept
  exact Kept.refl
  intro _
  intro _
  refine Kept.trans ?_ State_bootPart_kept
  exact Kept.refl

theorem State_start_kept {s : State} {site : Nat} {inp : StartIn} : Kept s (@State.start s site inp) := by
  unfold State.start
  try dsimp only
  split
  dsimp only [Kept_mk]
  refine Keeps.of ?_ ?_
  refine Kept.trans ?_ State_pldmEvent_kept
  refine Kept.trans ?_ (State_select_kept).h
  refine Kept.trans ?_ State_pldmEvent_kept
  refine Kept.trans ?_ State_setReg_kept
  refine Kept.trans ?_ State_setReg_kept
  refine Kept.trans ?_ State_setReg_kept
  refine Kept.trans ?_ State_setFld_kept
  refine Kept.trans ?_ State_count_kept
  dsimp only [Kept_mk]
  refine Keeps.of ?_ ?_
  refine Kept.trans ?_ State_compact_kept
  exact Kept.refl
  first | exact Nat.le_refl _ | exact Nat.le_max_left _ _
  first | exact Nat.le_refl _ | exact Nat.le_max_left _ _
  refine Kept.ite ?_ ?_
  dsimp only [Kept_mk]
  refine Keeps.of ?_ ?_
  refine Kept.trans ?_ State_pldmEvent_kept
  refine Kept.foldl ?_ ?_
  refine Kept.foldl ?_ ?_
  refine Kept.trans ?_ State_applyRepairs_kept
  refine Kept.trans ?_ State_applyClasses_kept
  refine Kept.foldl ?_ ?_
  dsimp only [Kept_mk]
  refine Keeps.of ?_ ?_
  refine Kept.trans ?_ (State_select_kept).h
  refine Kept.trans ?_ State_pldmEvent_kept
  refine Kept.trans ?_ State_setReg_kept
  refine Kept.trans ?_ State_setReg_kept
  refine Kept.trans ?_ State_setReg_kept
  refine Kept.trans ?_ State_setFld_kept
  refine Kept.trans ?_ State_count_kept
  dsimp only [Kept_mk]
  refine Keeps.of ?_ ?_
  refine Kept.trans ?_ State_compact_kept
  exact Kept.refl
  first | exact Nat.le_refl _ | exact Nat.le_max_left _ _
  first | exact Nat.le_refl _ | exact Nat.le_max_left _ _
  intro _
  intro _
  refine Kept.ite ?_ ?_
  refine Kept.trans ?_ State_setClass_kept
  exact Kept.refl
  exact Kept.refl
  intro _
  intro _
  refine Kept.trans ?_ State_setFld_kept
  exact Kept.refl
  intro _
  intro _
  refine Kept.trans ?_ State_trainLink_kept
  exact Kept.refl
  first | exact Nat.le_refl _ | exact Nat.le_max_left _ _
  dsimp only [Kept_mk]
  refine Keeps.of ?_ ?_
  refine Kept.trans ?_ State_configure_kept
  refine Kept.foldl ?_ ?_
  refine Kept.foldl ?_ ?_
  refine Kept.trans ?_ State_applyRepairs_kept
  refine Kept.trans ?_ State_applyClasses_kept
  refine Kept.foldl ?_ ?_
  dsimp only [Kept_mk]
  refine Keeps.of ?_ ?_
  refine Kept.trans ?_ (State_select_kept).h
  refine Kept.trans ?_ State_pldmEvent_kept
  refine Kept.trans ?_ State_setReg_kept
  refine Kept.trans ?_ State_setReg_kept
  refine Kept.trans ?_ State_setReg_kept
  refine Kept.trans ?_ State_setFld_kept
  refine Kept.trans ?_ State_count_kept
  dsimp only [Kept_mk]
  refine Keeps.of ?_ ?_
  refine Kept.trans ?_ State_compact_kept
  exact Kept.refl
  first | exact Nat.le_refl _ | exact Nat.le_max_left _ _
  first | exact Nat.le_refl _ | exact Nat.le_max_left _ _
  intro _
  intro _
  refine Kept.ite ?_ ?_
  refine Kept.trans ?_ State_setClass_kept
  exact Kept.refl
  exact Kept.refl
  intro _
  intro _
  refine Kept.trans ?_ State_setFld_kept
  exact Kept.refl
  intro _
  intro _
  refine Kept.trans ?_ State_trainLink_kept
  exact Kept.refl
  first | exact Nat.le_refl _ | exact Nat.le_max_left _ _

theorem execBootSequence_kept {inp : StartIn} {s : State} : KeptN s (@execBootSequence inp s) := by
  unfold execBootSequence
  try dsimp only
  refine KeptN.mk_ ?_
  refine Kept.ite ?_ ?_
  exact Kept.refl
  refine Kept.ite ?_ ?_
  refine Kept.ite ?_ ?_
  refine Kept.trans ?_ State_start_kept
  dsimp only [Kept_mk]
  refine Keeps.of ?_ ?_
  refine Kept.trans ?_ State_setFld_kept
  refine Kept.trans ?_ State_setFld_kept
  dsimp only [Kept_mk]
  refine Keeps.of ?_ ?_
  exact Kept.refl
  first | exact Nat.le_refl _ | exact Nat.le_max_left _ _
  first | exact Nat.le_refl _ | exact Nat.le_max_left _ _
  dsimp only [Kept_mk]
  refine Keeps.of ?_ ?_
  refine Kept.trans ?_ State_setFld_kept
  refine Kept.trans ?_ State_setFld_kept
  dsimp only [Kept_mk]
  refine Keeps.of ?_ ?_
  exact Kept.refl
  first | exact Nat.le_refl _ | exact Nat.le_max_left _ _
  first | exact Nat.le_refl _ | exact Nat.le_max_left _ _
  refine Kept.ite ?_ ?_
  refine Kept.trans ?_ State_start_kept
  dsimp only [Kept_mk]
  refine Keeps.of ?_ ?_
  refine Kept.trans ?_ State_setFld_kept
  refine Kept.trans ?_ State_setFld_kept
  dsimp only [Kept_mk]
  refine Keeps.of ?_ ?_
  exact Kept.refl
  first | exact Nat.le_refl _ | exact Nat.le_max_left _ _
  first | exact Nat.le_refl _ | exact Nat.le_max_left _ _
  dsimp only [Kept_mk]
  refine Keeps.of ?_ ?_
  refine Kept.trans ?_ State_setFld_kept
  refine Kept.trans ?_ State_setFld_kept
  dsimp only [Kept_mk]
  refine Keeps.of ?_ ?_
  exact Kept.refl
  first | exact Nat.le_refl _ | exact Nat.le_max_left _ _
  first | exact Nat.le_refl _ | exact Nat.le_max_left _ _

theorem execStandbyTakeover_kept {inp : StartIn} {s : State} : KeptN s (@execStandbyTakeover inp s) := by
  unfold execStandbyTakeover
  try dsimp only
  refine KeptN.mk_ ?_
  refine Kept.ite ?_ ?_
  refine Kept.trans ?_ State_start_kept
  exact Kept.refl
  exact Kept.refl

theorem execLockstepMismatch_kept {site : BitVec 1} {s : State} : KeptN s (@execLockstepMismatch site s) := by
  unfold execLockstepMismatch
  try dsimp only
  refine KeptN.mk_ ?_
  refine Kept.ite ?_ ?_
  exact Kept.refl
  refine Kept.trans ?_ State_orderPackage_kept
  dsimp only [Kept_mk]
  refine Keeps.of ?_ ?_
  exact Kept.refl
  first | exact Nat.le_refl _ | exact Nat.le_max_left _ _

theorem State_loadSeconds_kept {s : State} {sec : Nat} : Kept s (@State.loadSeconds s sec) := by
  unfold State.loadSeconds
  try dsimp only
  refine Kept.trans ?_ State_noteWork_kept
  refine Kept.ite ?_ ?_
  refine Kept.trans ?_ State_count_kept
  dsimp only [Kept_mk]
  refine Keeps.of ?_ ?_
  exact Kept.refl
  exact Nat.le_refl _
  refine Kept.trans ?_ State_loadPlumb_kept
  dsimp only [Kept_mk]
  refine Keeps.of ?_ ?_
  exact Kept.refl
  exact Nat.le_refl _

theorem execDatetimeReply_kept {seconds : Nat} {s : State} : KeptN s (@execDatetimeReply seconds s) := by
  unfold execDatetimeReply
  try dsimp only
  refine KeptN.mk_ ?_
  refine Kept.ite ?_ ?_
  refine Kept.trans ?_ State_loadSeconds_kept
  exact Kept.refl
  exact Kept.refl

theorem execDatetimeTimeout_kept {s : State} : KeptN s (@execDatetimeTimeout s) := by
  unfold execDatetimeTimeout
  try dsimp only
  refine KeptN.mk_ ?_
  refine Kept.ite ?_ ?_
  refine Kept.trans ?_ State_loadSeconds_kept
  exact Kept.refl
  exact Kept.refl

theorem State_updDone_kept {s : State} {result : Nat} {reason : Nat} : Kept s (@State.updDone s result reason) := by
  unfold State.updDone
  try dsimp only
  refine Kept.trans ?_ State_cmdDone_kept
  refine Kept.trans ?_ State_setFld_kept
  exact Kept.refl

theorem State_updGo_kept {s : State} {src : Sys2Proof.Src} {op : Nat} {f : State → State} (hf : ∀ x, Kept x (f x)) : Kept s (@State.updGo s src op f) := by
  unfold State.updGo
  try dsimp only
  refine Kept.trans ?_ (State_accessW_kept ?_)
  exact Kept.refl
  intro _
  refine Kept.ite ?_ ?_
  refine Kept.ite ?_ ?_
  refine Kept.trans ?_ (hf _)
  exact Kept.refl
  exact Kept.refl
  refine Kept.trans ?_ (hf _)
  refine Kept.trans ?_ State_setReg_kept
  exact Kept.refl

theorem State_setPending_kept {s : State} {v : Bool} : Kept s (@State.setPending s v) := by
  unfold State.setPending
  try dsimp only
  refine Kept.trans ?_ State_writeSelector_kept
  exact Kept.refl

theorem State_setBank_kept {s : State} {b : Nat} {d : List Sys2Proof.Byte} : Kept s (@State.setBank s b d) := by
  unfold State.setBank
  try dsimp only
  dsimp only [Kept_mk]
  refine Keeps.of ?_ ?_
  exact Kept.refl
  first | exact Nat.le_refl _ | exact Nat.le_max_left _ _

theorem State_writeImage_kept {s : State} {d : List Sys2Proof.Byte} {flashOk : Bool} : Kept s (@State.writeImage s d flashOk) := by
  unfold State.writeImage
  try dsimp only
  refine Kept.ite ?_ ?_
  exact Kept.refl
  refine Kept.ite ?_ ?_
  refine Kept.trans ?_ State_updDone_kept
  exact Kept.refl
  refine Kept.ite ?_ ?_
  refine Kept.trans ?_ State_updDone_kept
  refine Kept.ite1 ?_ ?_
  refine KeptP.mk_ ?_
  exact Kept.refl
  refine KeptP.ite ?_ ?_
  refine KeptP.trans ?_ State_maintAsk_kept
  exact Kept.refl
  refine KeptP.mk_ ?_
  exact Kept.refl
  refine Kept.ite ?_ ?_
  refine Kept.ite1 ?_ ?_
  refine KeptP.mk_ ?_
  exact Kept.refl
  refine KeptP.ite ?_ ?_
  refine KeptP.trans ?_ State_maintAsk_kept
  exact Kept.refl
  refine KeptP.mk_ ?_
  exact Kept.refl
  refine Kept.ite ?_ ?_
  refine Kept.trans ?_ State_updDone_kept
  refine Kept.trans ?_ State_maintEnd_kept
  refine Kept.trans ?_ State_setBank_kept
  refine Kept.ite1 ?_ ?_
  refine KeptP.mk_ ?_
  exact Kept.refl
  refine KeptP.ite ?_ ?_
  refine KeptP.trans ?_ State_maintAsk_kept
  exact Kept.refl
  refine KeptP.mk_ ?_
  exact Kept.refl
  refine Kept.trans ?_ State_updDone_kept
  refine Kept.trans ?_ State_maintEnd_kept
  refine Kept.trans ?_ State_setPending_kept
  refine Kept.trans ?_ State_setBank_kept
  refine Kept.ite1 ?_ ?_
  refine KeptP.mk_ ?_
  exact Kept.refl
  refine KeptP.ite ?_ ?_
  refine KeptP.trans ?_ State_maintAsk_kept
  exact Kept.refl
  refine KeptP.mk_ ?_
  exact Kept.refl

theorem execImageWrite_kept {src : Src} {flashOk : Bool} {s : State} : KeptN s (@execImageWrite src flashOk s) := by
  unfold execImageWrite
  try dsimp only
  refine KeptN.mk_ ?_
  refine Kept.trans ?_ (State_updGo_kept ?_)
  exact Kept.refl
  intro _
  split
  refine Kept.trans ?_ State_updDone_kept
  exact Kept.refl
  refine Kept.ite ?_ ?_
  refine Kept.trans ?_ State_updDone_kept
  exact Kept.refl
  refine Kept.trans ?_ State_writeImage_kept
  exact Kept.refl

theorem State_applyOne_kept {s : State} {a : Activity} : Kept s (@State.applyOne s a) := by
  unfold State.applyOne
  try dsimp only
  refine Kept.ite ?_ ?_
  refine Kept.trans ?_ State_maintEnd_kept
  refine Kept.ite1 ?_ ?_
  refine KeptP.mk_ ?_
  exact Kept.refl
  refine KeptP.ite ?_ ?_
  refine KeptP.mk_ ?_
  exact Kept.refl
  refine KeptP.trans ?_ State_maintAsk_kept
  exact Kept.refl
  dsimp only [Kept_mk]
  refine Keeps.of ?_ ?_
  refine Kept.ite1 ?_ ?_
  refine KeptP.mk_ ?_
  exact Kept.refl
  refine KeptP.ite ?_ ?_
  refine KeptP.mk_ ?_
  exact Kept.refl
  refine KeptP.trans ?_ State_maintAsk_kept
  exact Kept.refl
  first | exact Nat.le_refl _ | exact Nat.le_max_left _ _

theorem State_applyOn_kept {s : State} {l : List Activity} : Kept s (@State.applyOn s l) := by
  unfold State.applyOn
  try dsimp only
  refine Kept.foldl ?_ ?_
  exact Kept.refl
  intro _
  intro _
  refine Kept.trans ?_ State_applyOne_kept
  exact Kept.refl

theorem State_applyImage_kept {s : State} : Kept s (@State.applyImage s) := by
  unfold State.applyImage
  try dsimp only
  refine Kept.ite ?_ ?_
  refine Kept.trans ?_ State_updDone_kept
  exact Kept.refl
  refine Kept.ite ?_ ?_
  refine Kept.trans ?_ State_updDone_kept
  refine Kept.trans ?_ State_setPending_kept
  dsimp only [Kept_mk]
  refine Keeps.of ?_ ?_
  refine Kept.trans ?_ State_applyOn_kept
  dsimp only [Kept_mk]
  refine Keeps.of ?_ ?_
  exact Kept.refl
  first | exact Nat.le_refl _ | exact Nat.le_max_left _ _
  first | exact Nat.le_refl _ | exact Nat.le_max_left _ _
  refine Kept.trans ?_ State_applyOn_kept
  dsimp only [Kept_mk]
  refine Keeps.of ?_ ?_
  exact Kept.refl
  first | exact Nat.le_refl _ | exact Nat.le_max_left _ _

theorem execFirmwareApply_kept {src : Sys2Proof.Src} {s : State} : KeptN s (@execFirmwareApply src s) := by
  unfold execFirmwareApply
  try dsimp only
  refine KeptN.mk_ ?_
  refine Kept.trans ?_ (State_updGo_kept ?_)
  exact Kept.refl
  intro _
  refine Kept.trans ?_ State_applyImage_kept
  exact Kept.refl

theorem execTrialConfirm_kept {src : Sys2Proof.Src} {s : State} : KeptN s (@execTrialConfirm src s) := by
  unfold execTrialConfirm
  try dsimp only
  refine KeptN.mk_ ?_
  refine Kept.trans ?_ (State_updGo_kept ?_)
  exact Kept.refl
  intro _
  refine Kept.ite ?_ ?_
  refine Kept.trans ?_ State_updDone_kept
  exact Kept.refl
  refine Kept.trans ?_ State_updDone_kept
  dsimp only [Kept_mk]
  refine Keeps.of ?_ ?_
  refine Kept.trans ?_ State_writeSelector_kept
  exact Kept.refl
  first | exact Nat.le_refl _ | exact Nat.le_max_left _ _

theorem execPendingCancel_kept {src : Sys2Proof.Src} {s : State} : KeptN s (@execPendingCancel src s) := by
  unfold execPendingCancel
  try dsimp only
  refine KeptN.mk_ ?_
  refine Kept.trans ?_ (State_updGo_kept ?_)
  exact Kept.refl
  intro _
  refine Kept.trans ?_ State_updDone_kept
  refine Kept.trans ?_ State_setPending_kept
  exact Kept.refl

theorem execSvnCommit_kept {src : Sys2Proof.Src} {s : State} : KeptN s (@execSvnCommit src s) := by
  unfold execSvnCommit
  try dsimp only
  refine KeptN.mk_ ?_
  refine Kept.trans ?_ (State_updGo_kept ?_)
  exact Kept.refl
  intro _
  refine Kept.ite ?_ ?_
  refine Kept.trans ?_ State_updDone_kept
  exact Kept.refl
  refine Kept.trans ?_ State_updDone_kept
  dsimp only [Kept_mk]
  refine Keeps.of ?_ ?_
  exact Kept.refl
  first | exact Nat.le_refl _ | exact Nat.le_max_left _ _

theorem execKeyBlobSubmit_kept {src : Src} {s : State} : KeptN s (@execKeyBlobSubmit src s) := by
  unfold execKeyBlobSubmit
  try dsimp only
  refine KeptN.mk_ ?_
  refine Kept.trans ?_ (State_accessW_kept ?_)
  exact Kept.refl
  intro _
  refine Kept.ite ?_ ?_
  refine Kept.trans ?_ State_cmdDone_kept
  exact Kept.refl
  refine Kept.ite ?_ ?_
  refine Kept.trans ?_ State_cmdDone_kept
  exact Kept.refl
  refine Kept.ite ?_ ?_
  refine Kept.trans ?_ State_cmdDone_kept
  exact Kept.refl
  refine Kept.ite ?_ ?_
  refine Kept.trans ?_ State_cmdDone_kept
  exact Kept.refl
  split
  refine Kept.trans ?_ State_cmdDone_kept
  exact Kept.refl
  refine Kept.trans ?_ State_cmdDone_kept
  refine Kept.trans ?_ State_installKey_kept
  dsimp only [Kept_mk]
  refine Keeps.of ?_ ?_
  exact Kept.refl
  exact Nat.le_refl _

theorem execPartRootWrite_kept {src : Sys2Proof.Src} {p : BitVec 3} {word : BitVec 4} {value : Sys2Proof.Word} {s : State} : KeptN s (@execPartRootWrite src p word value s) := by
  unfold execPartRootWrite
  try dsimp only
  refine KeptN.mk_ ?_
  refine Kept.ite ?_ ?_
  exact Kept.refl
  refine Kept.trans ?_ (State_accessW_kept ?_)
  exact Kept.refl
  intro _
  refine Kept.ite ?_ ?_
  exact Kept.refl
  refine Kept.trans ?_ State_setReg_kept
  exact Kept.refl

theorem State_sendSpdm_kept {s : State} {m : SpdmMsg} : Kept s (@State.sendSpdm s m) := by
  unfold State.sendSpdm
  try dsimp only
  dsimp only [Kept_mk]
  refine Keeps.of ?_ ?_
  exact Kept.refl
  first | exact Nat.le_refl _ | exact Nat.le_max_left _ _

theorem State_signed_kept {s : State} : KeptP s (@State.signed s) := by
  unfold State.signed
  try dsimp only
  refine KeptP.mk_ ?_
  dsimp only [Kept_mk]
  refine Keeps.of ?_ ?_
  exact Kept.refl
  first | exact Nat.le_refl _ | exact Nat.le_max_left _ _

theorem execSpdmVersion_kept {s : State} : KeptN s (@execSpdmVersion s) := by
  unfold execSpdmVersion
  try dsimp only
  refine KeptN.mk_ ?_
  refine Kept.ite ?_ ?_
  refine Kept.trans ?_ State_sendSpdm_kept
  exact Kept.refl
  exact Kept.refl

theorem execSpdmCertificate_kept {slot : Nat} {s : State} : KeptN s (@execSpdmCertificate slot s) := by
  unfold execSpdmCertificate
  try dsimp only
  refine KeptN.mk_ ?_
  refine Kept.ite ?_ ?_
  exact Kept.refl
  refine Kept.trans ?_ State_sendSpdm_kept
  exact Kept.refl

theorem execSpdmChallenge_kept {slot : Nat} {s : State} : KeptN s (@execSpdmChallenge slot s) := by
  unfold execSpdmChallenge
  try dsimp only
  refine KeptN.mk_ ?_
  refine Kept.ite ?_ ?_
  exact Kept.refl
  refine Kept.ite ?_ ?_
  refine Kept.trans ?_ State_sendSpdm_kept
  refine Kept.trans ?_ (State_signed_kept).h
  exact Kept.refl
  refine Kept.trans ?_ State_sendSpdm_kept
  exact Kept.refl

theorem execSpdmMeasurements_kept {index : Nat} {s : State} : KeptN s (@execSpdmMeasurements index s) := by
  unfold execSpdmMeasurements
  try dsimp only
  refine KeptN.mk_ ?_
  refine Kept.ite ?_ ?_
  exact Kept.refl
  refine Kept.ite ?_ ?_
  refine Kept.trans ?_ State_sendSpdm_kept
  exact Kept.refl
  refine Kept.trans ?_ State_sendSpdm_kept
  refine Kept.trans ?_ (State_signed_kept).h
  exact Kept.refl

theorem execSpdmKeyExchange_kept {id : Nat} {s : State} : KeptN s (@execSpdmKeyExchange id s) := by
  unfold execSpdmKeyExchange
  try dsimp only
  refine KeptN.mk_ ?_
  refine Kept.ite ?_ ?_
  exact Kept.refl
  refine Kept.ite ?_ ?_
  refine Kept.trans ?_ State_sendSpdm_kept
  exact Kept.refl
  refine Kept.trans ?_ State_sendSpdm_kept
  dsimp only [Kept_mk]
  refine Keeps.of ?_ ?_
  refine Kept.trans ?_ (State_signed_kept).h
  exact Kept.refl
  first | exact Nat.le_refl _ | exact Nat.le_max_left _ _

theorem State_inSession_kept {s : State} {id : Nat} {f : Session → Session} {m : SpdmMsg} : Kept s (@State.inSession s id f m) := by
  unfold State.inSession
  try dsimp only
  refine Kept.ite ?_ ?_
  exact Kept.refl
  refine Kept.ite ?_ ?_
  refine Kept.trans ?_ State_sendSpdm_kept
  dsimp only [Kept_mk]
  refine Keeps.of ?_ ?_
  exact Kept.refl
  first | exact Nat.le_refl _ | exact Nat.le_max_left _ _
  refine Kept.trans ?_ State_sendSpdm_kept
  exact Kept.refl

theorem execSpdmHeartbeat_kept {id : Nat} {s : State} : KeptN s (@execSpdmHeartbeat id s) := by
  unfold execSpdmHeartbeat
  try dsimp only
  refine KeptN.mk_ ?_
  refine Kept.trans ?_ State_inSession_kept
  exact Kept.refl

theorem execSpdmHeartbeatTimeout_kept {id : Nat} {s : State} : KeptN s (@execSpdmHeartbeatTimeout id s) := by
  unfold execSpdmHeartbeatTimeout
  try dsimp only
  refine KeptN.mk_ ?_
  dsimp only [Kept_mk]
  refine Keeps.of ?_ ?_
  exact Kept.refl
  first | exact Nat.le_refl _ | exact Nat.le_max_left _ _

theorem execSpdmKeyUpdate_kept {id : Nat} {s : State} : KeptN s (@execSpdmKeyUpdate id s) := by
  unfold execSpdmKeyUpdate
  try dsimp only
  refine KeptN.mk_ ?_
  refine Kept.trans ?_ State_inSession_kept
  exact Kept.refl

theorem execSpdmChunk_kept {s : State} : KeptN s (@execSpdmChunk s) := by
  unfold execSpdmChunk
  try dsimp only
  refine KeptN.mk_ ?_
  refine Kept.ite ?_ ?_
  refine Kept.trans ?_ State_sendSpdm_kept
  dsimp only [Kept_mk]
  refine Keeps.of ?_ ?_
  exact Kept.refl
  first | exact Nat.le_refl _ | exact Nat.le_max_left _ _
  exact Kept.refl

end Sys2Proof.Laws
end

