-- ==== Sys2Proof/Laws/KeptTelemetry.lean ====
section
/-! SUPPORT. What the operations of Machine/Telemetry.lean keep. -/
namespace Sys2Proof.Laws
open Sys2Proof Sys2Proof.Machine

theorem State_readBy_kept {s : State} {src : Sys2Proof.Src} {k : RKey} : KeptP s (@State.readBy s src k) := by
  unfold State.readBy
  try dsimp only
  refine KeptP.ite ?_ ?_
  refine KeptP.mk_ ?_
  exact Kept.refl
  refine KeptP.ite ?_ ?_
  refine KeptP.mk_ ?_
  split
  refine Kept.trans ?_ State_denied_kept
  exact Kept.refl
  exact Kept.refl
  refine KeptP.ite ?_ ?_
  refine KeptP.mk_ ?_
  exact Kept.refl
  split
  refine KeptP.mk_ ?_
  dsimp only [Kept_mk]
  refine Keeps.of ?_ ?_
  exact Kept.refl
  first | exact Nat.le_refl _ | exact Nat.le_max_left _ _
  refine KeptP.mk_ ?_
  refine Kept.ite ?_ ?_
  exact Kept.refl
  refine Kept.trans ?_ State_setReg_kept
  exact Kept.refl

theorem State_readOff_kept {s : State} {src : Sys2Proof.Src} {off : Nat} : KeptP s (@State.readOff s src off) := by
  unfold State.readOff
  try dsimp only
  split
  refine KeptP.trans ?_ State_readBy_kept
  exact Kept.refl
  split
  refine KeptP.mk_ ?_
  exact Kept.refl
  refine KeptP.mk_ ?_
  exact Kept.refl
  refine KeptP.ite ?_ ?_
  refine KeptP.mk_ ?_
  exact Kept.refl
  refine KeptP.mk_ ?_
  refine Kept.trans ?_ State_denied_kept
  exact Kept.refl
  refine KeptP.mk_ ?_
  refine Kept.ite ?_ ?_
  exact Kept.refl
  refine Kept.trans ?_ State_denied_kept
  exact Kept.refl
  refine KeptP.mk_ ?_
  exact Kept.refl
  refine KeptP.mk_ ?_
  exact Kept.refl

theorem execCounterLoRead_kept {src : Src} {off : Nat} {s : State} : KeptN s (@execCounterLoRead src off s) := by
  unfold execCounterLoRead
  try dsimp only
  refine KeptN.mk_ ?_
  split
  dsimp only [Kept_mk]
  refine Keeps.of ?_ ?_
  refine Kept.trans ?_ (State_readOff_kept).h
  exact Kept.refl
  exact Nat.le_refl _
  dsimp only [Kept_mk]
  refine Keeps.of ?_ ?_
  refine Kept.trans ?_ (State_readOff_kept).h
  exact Kept.refl
  exact Nat.le_refl _

theorem State_lostCount_kept {s : State} {k : RKey} {n : Nat} : Kept s (@State.lostCount s k n) := by
  unfold State.lostCount
  try dsimp only
  split
  exact Kept.refl
  refine Kept.ite ?_ ?_
  refine Kept.trans ?_ State_spineEvent_kept
  refine Kept.trans ?_ State_setReg_kept
  refine Kept.trans ?_ State_latch_kept
  exact Kept.refl
  refine Kept.trans ?_ State_spineEvent_kept
  refine Kept.trans ?_ State_latch_kept
  exact Kept.refl

theorem execCounterWrite_kept {src : Sys2Proof.Src} {off : Nat} {value : Sys2Proof.Word} {lost : Nat} {s : State} : KeptN s (@execCounterWrite src off value lost s) := by
  unfold execCounterWrite
  try dsimp only
  refine KeptN.mk_ ?_
  split
  exact Kept.refl
  refine Kept.ite ?_ ?_
  exact Kept.refl
  refine Kept.trans ?_ (State_accessW_kept ?_)
  exact Kept.refl
  intro _
  refine Kept.ite ?_ ?_
  refine Kept.trans ?_ State_writeFields_kept
  exact Kept.refl
  refine Kept.trans ?_ State_lostCount_kept
  refine Kept.trans ?_ State_writeFields_kept
  exact Kept.refl

theorem State_startDump_kept {t : Time} {s : State} {v : Nat} : Kept s (@State.startDump t s v) := by
  unfold State.startDump
  try dsimp only
  split
  exact Kept.refl
  refine Kept.ite ?_ ?_
  exact Kept.refl
  refine Kept.ite ?_ ?_
  refine Kept.trans ?_ State_setFld_kept
  exact Kept.refl
  refine Kept.ite ?_ ?_
  refine Kept.trans ?_ State_setFld_kept
  exact Kept.refl
  refine Kept.trans ?_ State_setVf_kept
  exact Kept.refl

theorem execSnapshotLatch_kept {slot : BitVec 1} {s : State} : KeptN s (@execSnapshotLatch slot s) := by
  unfold execSnapshotLatch
  try dsimp only
  refine KeptN.mk_ ?_
  refine Kept.ite ?_ ?_
  refine Kept.ite ?_ ?_
  dsimp only [Kept_mk]
  refine Keeps.of ?_ ?_
  exact Kept.refl
  first | exact Nat.le_refl _ | exact Nat.le_max_left _ _
  exact Kept.refl
  refine Kept.ite ?_ ?_
  refine Kept.ite ?_ ?_
  refine Kept.foldl ?_ ?_
  refine Kept.trans ?_ State_spineEvent_kept
  refine Kept.trans ?_ State_setFld_kept
  refine Kept.trans ?_ State_setFld_kept
  refine Kept.trans ?_ State_count_kept
  dsimp only [Kept_mk]
  refine Keeps.of ?_ ?_
  exact Kept.refl
  first | exact Nat.le_refl _ | exact Nat.le_max_left _ _
  intro _
  intro _
  refine Kept.trans ?_ State_startDump_kept
  exact Kept.refl
  refine Kept.trans ?_ State_snapSet_kept
  refine Kept.foldl ?_ ?_
  refine Kept.trans ?_ State_spineEvent_kept
  refine Kept.trans ?_ State_setFld_kept
  refine Kept.trans ?_ State_setFld_kept
  refine Kept.trans ?_ State_count_kept
  dsimp only [Kept_mk]
  refine Keeps.of ?_ ?_
  exact Kept.refl
  first | exact Nat.le_refl _ | exact Nat.le_max_left _ _
  intro _
  intro _
  refine Kept.trans ?_ State_startDump_kept
  exact Kept.refl
  exact Kept.refl

theorem execDumpComplete_kept {vf : BitVec 6} {s : State} : KeptN s (@execDumpComplete vf s) := by
  unfold execDumpComplete
  try dsimp only
  refine KeptN.mk_ ?_
  split
  refine Kept.trans ?_ State_setFld_kept
  refine Kept.trans ?_ State_setFld_kept
  refine Kept.trans ?_ State_setVf_kept
  refine Kept.trans ?_ State_vput_kept
  exact Kept.refl
  exact Kept.refl

theorem State_logPkg_kept {s : State} {q : Nat} {e : Event} : Kept s (@State.logPkg s q e) := by
  unfold State.logPkg
  try dsimp only
  refine Kept.ite ?_ ?_
  refine Kept.trans ?_ State_count_kept
  dsimp only [Kept_mk]
  refine Keeps.of ?_ ?_
  exact Kept.refl
  first | exact Nat.le_refl _ | exact Nat.le_max_left _ _
  refine Kept.ite ?_ ?_
  dsimp only [Kept_mk]
  refine Keeps.of ?_ ?_
  exact Kept.refl
  first | exact Nat.le_refl _ | exact Nat.le_max_left _ _
  exact Kept.refl

theorem State_logVf_kept {s : State} {q : Nat} {e : Event} {v : Nat} : Kept s (@State.logVf s q e v) := by
  unfold State.logVf
  try dsimp only
  split
  exact Kept.refl
  refine Kept.ite ?_ ?_
  exact Kept.refl
  refine Kept.ite ?_ ?_
  refine Kept.ite ?_ ?_
  refine Kept.trans ?_ State_count_kept
  refine Kept.trans ?_ State_setVf_kept
  exact Kept.refl
  refine Kept.trans ?_ State_setFld_kept
  refine Kept.trans ?_ State_setVf_kept
  refine Kept.trans ?_ State_vput_kept
  exact Kept.refl
  refine Kept.ite ?_ ?_
  refine Kept.trans ?_ State_setVf_kept
  exact Kept.refl
  exact Kept.refl

theorem State_takeEvent_kept {s : State} {q : Fin 4} {e : Event} : Kept s (s.takeEvent q e) := by
  refine ⟨rfl, id, Nat.le_refl _, fun hs d => ?_, id⟩
  show ((s.evq.set q ((s.evq.get q).erase e) q.isLt).get d).length ≤ 1024
  have hv : ∀ (v : Vector (List Event) 4) (i : Fin 4), v.get i = v[i.val] := fun _ _ => rfl
  rw [hv, Vector.getElem_set]
  split
  · exact Nat.le_trans List.length_erase_le (hs q)
  · exact hs d

theorem execEventDeliver_kept {s : State} : KeptN s (@execEventDeliver s) := by
  unfold execEventDeliver
  try dsimp only
  refine KeptN.mk_ ?_
  split
  exact Kept.refl
  refine Kept.foldl ?_ ?_
  refine Kept.trans ?_ State_logPkg_kept
  refine Kept.trans ?_ State_takeEvent_kept
  exact Kept.refl
  intro _
  intro _
  refine Kept.trans ?_ State_logVf_kept
  exact Kept.refl

theorem execEvlogSelect_kept {src : Sys2Proof.Src} {n : Sys2Proof.Word} {s : State} : KeptN s (@execEvlogSelect src n s) := by
  unfold execEvlogSelect
  try dsimp only
  refine KeptN.mk_ ?_
  refine Kept.trans ?_ (State_accessW_kept ?_)
  exact Kept.refl
  intro _
  refine Kept.foldl ?_ ?_
  refine Kept.trans ?_ State_setReg_kept
  exact Kept.refl
  intro _
  intro _
  refine Kept.trans ?_ State_setReg_kept
  exact Kept.refl

theorem State_setLogCtl_kept {s : State} {v : Nat} {value : Sys2Proof.Word} : Kept s (@State.setLogCtl s v value) := by
  unfold State.setLogCtl
  try dsimp only
  refine Kept.ite ?_ ?_
  exact Kept.refl
  refine Kept.ite ?_ ?_
  refine Kept.trans ?_ State_setReg_kept
  refine Kept.trans ?_ State_setReg_kept
  refine Kept.trans ?_ State_setReg_kept
  exact Kept.refl
  refine Kept.trans ?_ State_setReg_kept
  exact Kept.refl

theorem State_setLogTail_kept {s : State} {v : Nat} {value : Sys2Proof.Word} : Kept s (@State.setLogTail s v value) := by
  unfold State.setLogTail
  try dsimp only
  refine Kept.ite ?_ ?_
  refine Kept.trans ?_ State_count_kept
  exact Kept.refl
  refine Kept.trans ?_ State_setReg_kept
  exact Kept.refl

theorem execLogEnable_kept {vf : BitVec 6} {value : Sys2Proof.Word} {s : State} : KeptN s (@execLogEnable vf value s) := by
  unfold execLogEnable
  try dsimp only
  refine KeptN.mk_ ?_
  refine Kept.trans ?_ (State_accessW_kept ?_)
  exact Kept.refl
  intro _
  refine Kept.trans ?_ State_setLogCtl_kept
  exact Kept.refl

theorem execLogTailWrite_kept {vf : BitVec 6} {value : Sys2Proof.Word} {s : State} : KeptN s (@execLogTailWrite vf value s) := by
  unfold execLogTailWrite
  try dsimp only
  refine KeptN.mk_ ?_
  refine Kept.trans ?_ (State_accessW_kept ?_)
  exact Kept.refl
  intro _
  refine Kept.trans ?_ State_setLogTail_kept
  exact Kept.refl

end Sys2Proof.Laws
end

