-- ==== Sys2Proof/Laws/KeptBringup.lean ====
section
/-! SUPPORT. What the operations of Machine/Bringup.lean keep. -/
namespace Sys2Proof.Laws
open Sys2Proof Sys2Proof.Machine

theorem State_newNonce_kept {s : State} : Kept s (@State.newNonce s) := by
  unfold State.newNonce
  try dsimp only
  refine Kept.trans ?_ State_setReg_kept
  refine Kept.trans ?_ State_setReg_kept
  dsimp only [Kept_mk]
  refine Keeps.of ?_ ?_
  exact Kept.refl
  first | exact Nat.le_refl _ | exact Nat.le_max_left _ _

theorem execDebugTokenSubmit_kept {src : Src} {s : State} : KeptN s (@execDebugTokenSubmit src s) := by
  unfold execDebugTokenSubmit
  try dsimp only
  refine KeptN.mk_ ?_
  refine Kept.trans ?_ (State_accessW_kept ?_)
  exact Kept.refl
  intro _
  refine Kept.ite ?_ ?_
  refine Kept.trans ?_ State_cmdDone_kept
  refine Kept.trans ?_ State_newNonce_kept
  exact Kept.refl
  refine Kept.ite ?_ ?_
  refine Kept.trans ?_ State_cmdDone_kept
  refine Kept.trans ?_ State_newNonce_kept
  exact Kept.refl
  refine Kept.ite ?_ ?_
  refine Kept.trans ?_ State_cmdDone_kept
  refine Kept.trans ?_ State_newNonce_kept
  exact Kept.refl
  refine Kept.ite ?_ ?_
  refine Kept.trans ?_ State_cmdDone_kept
  refine Kept.trans ?_ State_newNonce_kept
  exact Kept.refl
  refine Kept.ite ?_ ?_
  refine Kept.trans ?_ State_cmdDone_kept
  refine Kept.trans ?_ State_newNonce_kept
  exact Kept.refl
  refine Kept.trans ?_ State_cmdDone_kept
  refine Kept.trans ?_ State_newNonce_kept
  refine Kept.trans ?_ State_setFld_kept
  dsimp only [Kept_mk]
  refine Keeps.of ?_ ?_
  exact Kept.refl
  exact Nat.le_refl _

theorem execLaneRecordSelect_kept {src : Sys2Proof.Src} {n : BitVec 16} {s : State} : KeptN s (@execLaneRecordSelect src n s) := by
  unfold execLaneRecordSelect
  try dsimp only
  refine KeptN.mk_ ?_
  refine Kept.trans ?_ (State_accessW_kept ?_)
  exact Kept.refl
  intro _
  refine Kept.foldl ?_ ?_
  refine Kept.trans ?_ State_setReg_kept
  exact Kept.refl
  intro _
  intro _
  refine Kept.trans ?_ State_setReg_kept
  exact Kept.refl

theorem State_hbmDone_kept {s : State} {result : Nat} : Kept s (@State.hbmDone s result) := by
  unfold State.hbmDone
  try dsimp only
  refine Kept.trans ?_ State_cmdDone_kept
  refine Kept.trans ?_ State_setFld_kept
  exact Kept.refl

theorem State_hbmData_kept {s : State} {v : BitVec 64} : Kept s (@State.hbmData s v) := by
  unfold State.hbmData
  try dsimp only
  refine Kept.trans ?_ State_setReg_kept
  refine Kept.trans ?_ State_setReg_kept
  exact Kept.refl

theorem State_hbmGo_kept {s : State} {src : Sys2Proof.Src} {op : Nat} {stack : Nat} {chan : Nat} {f : State → State} (hf : ∀ x, Kept x (f x)) : Kept s (@State.hbmGo s src op stack chan f) := by
  unfold State.hbmGo
  try dsimp only
  refine Kept.trans ?_ (State_accessW_kept ?_)
  exact Kept.refl
  intro _
  refine Kept.ite ?_ ?_
  refine Kept.ite ?_ ?_
  refine Kept.trans ?_ (hf _)
  exact Kept.refl
  exact Kept.refl
  refine Kept.ite ?_ ?_
  refine Kept.trans ?_ State_hbmDone_kept
  refine Kept.trans ?_ State_setReg_kept
  exact Kept.refl
  refine Kept.trans ?_ (hf _)
  refine Kept.trans ?_ State_setReg_kept
  exact Kept.refl

theorem State_hbmTest_kept {s : State} {src : Src} {op : Nat} {stack : Nat} {chan : Nat} {f : State → State} (hf : ∀ a0, Kept a0 (f a0)) : Kept s (@State.hbmTest s src op stack chan f) := by
  unfold State.hbmTest
  try dsimp only
  refine Kept.trans ?_ (State_hbmGo_kept ?_)
  exact Kept.refl
  intro _
  refine Kept.ite ?_ ?_
  exact Kept.refl
  refine Kept.ite ?_ ?_
  refine Kept.ite ?_ ?_
  refine Kept.trans ?_ State_hbmDone_kept
  refine Kept.trans ?_ State_maintEnd_kept
  exact Kept.refl
  refine Kept.trans ?_ State_maintEnd_kept
  refine Kept.trans ?_ (hf _)
  exact Kept.refl
  refine Kept.ite ?_ ?_
  refine Kept.trans ?_ State_hbmDone_kept
  exact Kept.refl
  refine Kept.ite ?_ ?_
  refine Kept.trans ?_ State_hbmDone_kept
  exact Kept.refl
  refine Kept.ite ?_ ?_
  refine Kept.trans ?_ State_hbmDone_kept
  refine Kept.trans ?_ (State_maintAsk_kept).h
  exact Kept.refl
  refine Kept.ite ?_ ?_
  refine Kept.trans ?_ (State_maintAsk_kept).h
  exact Kept.refl
  refine Kept.trans ?_ State_maintEnd_kept
  refine Kept.trans ?_ (hf _)
  refine Kept.trans ?_ (State_maintAsk_kept).h
  exact Kept.refl

theorem execHbmReadId_kept {src : Sys2Proof.Src} {stack : BitVec 5} {chan : BitVec 5} {id : Option (BitVec 64)} {s : State} : KeptN s (@execHbmReadId src stack chan id s) := by
  unfold execHbmReadId
  try dsimp only
  refine KeptN.mk_ ?_
  refine Kept.trans ?_ (State_hbmGo_kept ?_)
  exact Kept.refl
  intro _
  split
  refine Kept.trans ?_ State_hbmDone_kept
  refine Kept.trans ?_ State_hbmData_kept
  exact Kept.refl
  refine Kept.trans ?_ State_hbmDone_kept
  exact Kept.refl

theorem execHbmReadTemp_kept {src : Sys2Proof.Src} {stack : BitVec 5} {chan : BitVec 5} {temp : Option (BitVec 64)} {s : State} : KeptN s (@execHbmReadTemp src stack chan temp s) := by
  unfold execHbmReadTemp
  try dsimp only
  refine KeptN.mk_ ?_
  refine Kept.trans ?_ (State_hbmGo_kept ?_)
  exact Kept.refl
  intro _
  split
  refine Kept.trans ?_ State_hbmDone_kept
  refine Kept.trans ?_ State_hbmData_kept
  exact Kept.refl
  refine Kept.trans ?_ State_hbmDone_kept
  exact Kept.refl

theorem execHbmMbist_kept {src : Sys2Proof.Src} {stack : BitVec 5} {chan : BitVec 5} {rows : Option Sys2Proof.Word} {s : State} : KeptN s (@execHbmMbist src stack chan rows s) := by
  unfold execHbmMbist
  try dsimp only
  refine KeptN.mk_ ?_
  refine Kept.trans ?_ (State_hbmTest_kept ?_)
  exact Kept.refl
  intro _
  split
  refine Kept.trans ?_ State_hbmDone_kept
  refine Kept.trans ?_ State_hbmData_kept
  dsimp only [Kept_mk]
  refine Keeps.of ?_ ?_
  refine Kept.trans ?_ State_forget_kept
  exact Kept.refl
  first | exact Nat.le_refl _ | exact Nat.le_max_left _ _
  refine Kept.trans ?_ State_hbmDone_kept
  dsimp only [Kept_mk]
  refine Keeps.of ?_ ?_
  refine Kept.trans ?_ State_forget_kept
  exact Kept.refl
  first | exact Nat.le_refl _ | exact Nat.le_max_left _ _

theorem execHbmLaneRepair_kept {src : Sys2Proof.Src} {stack : BitVec 5} {chan : BitVec 5} {ok : Bool} {s : State} : KeptN s (@execHbmLaneRepair src stack chan ok s) := by
  unfold execHbmLaneRepair
  try dsimp only
  refine KeptN.mk_ ?_
  refine Kept.trans ?_ (State_hbmTest_kept ?_)
  exact Kept.refl
  intro _
  refine Kept.trans ?_ State_hbmDone_kept
  exact Kept.refl

theorem execHbmSoftRepair_kept {src : Sys2Proof.Src} {stack : BitVec 5} {chan : BitVec 5} {ok : Bool} {s : State} : KeptN s (@execHbmSoftRepair src stack chan ok s) := by
  unfold execHbmSoftRepair
  try dsimp only
  refine KeptN.mk_ ?_
  refine Kept.trans ?_ (State_hbmTest_kept ?_)
  exact Kept.refl
  intro _
  refine Kept.ite ?_ ?_
  refine Kept.trans ?_ State_hbmDone_kept
  refine Kept.trans ?_ State_addRecord_kept
  dsimp only [Kept_mk]
  refine Keeps.of ?_ ?_
  exact Kept.refl
  first | exact Nat.le_refl _ | exact Nat.le_max_left _ _
  refine Kept.trans ?_ State_hbmDone_kept
  exact Kept.refl

theorem execHbmHardRepair_kept {src : Sys2Proof.Src} {stack : BitVec 5} {chan : BitVec 5} {ok : Bool} {s : State} : KeptN s (@execHbmHardRepair src stack chan ok s) := by
  unfold execHbmHardRepair
  try dsimp only
  refine KeptN.mk_ ?_
  refine Kept.trans ?_ (State_hbmTest_kept ?_)
  exact Kept.refl
  intro _
  refine Kept.trans ?_ State_hbmDone_kept
  exact Kept.refl

end Sys2Proof.Laws
end

