-- ==== Sys2Proof/Laws/KeptHostIf.lean ====
section
/-! SUPPORT. What the operations of Machine/HostIf.lean keep. -/
namespace Sys2Proof.Laws
open Sys2Proof Sys2Proof.Machine

theorem execHostLinkUp_kept {speed : BitVec 2} {width : Nat} {s : State} : KeptN s (@execHostLinkUp speed width s) := by
  unfold execHostLinkUp
  try dsimp only
  refine KeptN.mk_ ?_
  refine Kept.ite ?_ ?_
  exact Kept.refl
  refine Kept.ite ?_ ?_
  dsimp only [Kept_mk]
  refine Keeps.of ?_ ?_
  refine Kept.trans ?_ State_setReg_kept
  exact Kept.refl
  first | exact Nat.le_refl _ | exact Nat.le_max_left _ _
  refine Kept.trans ?_ State_setReg_kept
  exact Kept.refl

theorem State_pfReset_kept {s : State} : Kept s (@State.pfReset s) := by
  unfold State.pfReset
  try dsimp only
  refine Kept.trans ?_ State_setVf_kept
  refine Kept.trans ?_ State_setReg_kept
  refine Kept.trans ?_ State_setReg_kept
  exact Kept.refl

theorem State_vfFlr_kept {s : State} {v : Nat} : Kept s (@State.vfFlr s v) := by
  unfold State.vfFlr
  try dsimp only
  refine Kept.trans ?_ State_setVf_kept
  refine Kept.trans ?_ State_vfReset_kept
  exact Kept.refl

theorem execHotReset_kept {s : State} : KeptN s (@execHotReset s) := by
  unfold execHotReset
  try dsimp only
  refine KeptN.mk_ ?_
  refine Kept.ite ?_ ?_
  exact Kept.refl
  refine Kept.foldl ?_ ?_
  refine Kept.trans ?_ State_pfReset_kept
  refine Kept.trans ?_ State_count_kept
  refine Kept.trans ?_ State_setReg_kept
  exact Kept.refl
  intro _
  intro _
  refine Kept.trans ?_ State_vfFlr_kept
  exact Kept.refl

theorem execPfFlr_kept {s : State} : KeptN s (@execPfFlr s) := by
  unfold execPfFlr
  try dsimp only
  refine KeptN.mk_ ?_
  refine Kept.ite ?_ ?_
  exact Kept.refl
  refine Kept.trans ?_ State_pfReset_kept
  exact Kept.refl

theorem execVfFlr_kept {vf : BitVec 6} {s : State} : KeptN s (@execVfFlr vf s) := by
  unfold execVfFlr
  try dsimp only
  refine KeptN.mk_ ?_
  refine Kept.ite ?_ ?_
  exact Kept.refl
  refine Kept.trans ?_ State_vfFlr_kept
  exact Kept.refl

theorem execPciePowerStateChange_kept {fn : BitVec 6} {d3 : Bool} {s : State} : KeptN s (@execPciePowerStateChange fn d3 s) := by
  unfold execPciePowerStateChange
  try dsimp only
  refine KeptN.mk_ ?_
  refine Kept.ite ?_ ?_
  exact Kept.refl
  refine Kept.trans ?_ State_setVf_kept
  exact Kept.refl

theorem State_maskVector_kept {s : State} {fn : Nat} {vec : Nat} {masked : Bool} : Kept s (@State.maskVector s fn vec masked) := by
  unfold State.maskVector
  try dsimp only
  refine Kept.ite ?_ ?_
  refine Kept.trans ?_ State_setVf_kept
  exact Kept.refl
  refine Kept.ite ?_ ?_
  dsimp only [Kept_mk]
  refine Keeps.of ?_ ?_
  refine Kept.trans ?_ State_setVf_kept
  exact Kept.refl
  first | exact Nat.le_refl _ | exact Nat.le_max_left _ _
  refine Kept.trans ?_ State_setVf_kept
  exact Kept.refl

theorem State_msixTableWrite_kept {s : State} {fn : Nat} {off : Nat} {value : Sys2Proof.Word} : Kept s (@State.msixTableWrite s fn off value) := by
  unfold State.msixTableWrite
  try dsimp only
  refine Kept.ite ?_ ?_
  exact Kept.refl
  split
  refine Kept.trans ?_ State_setVf_kept
  exact Kept.refl
  refine Kept.trans ?_ State_setVf_kept
  exact Kept.refl
  refine Kept.trans ?_ State_setVf_kept
  exact Kept.refl
  refine Kept.trans ?_ State_maskVector_kept
  exact Kept.refl

theorem execMsixVectorMaskWrite_kept {fn : BitVec 6} {vec : BitVec 6} {masked : Bool} {s : State} : KeptN s (@execMsixVectorMaskWrite fn vec masked s) := by
  unfold execMsixVectorMaskWrite
  try dsimp only
  refine KeptN.mk_ ?_
  refine Kept.ite ?_ ?_
  refine Kept.trans ?_ State_maskVector_kept
  exact Kept.refl
  exact Kept.refl

theorem execApertureAccess_kept {off : Nat} {len : Nat} {write : Option (List (Sys2Proof.Byte × Bool))} {s : State} : KeptN s (@execApertureAccess off len write s) := by
  unfold execApertureAccess
  try dsimp only
  refine KeptN.mk_ ?_
  refine Kept.ite ?_ ?_
  exact Kept.refl
  refine Kept.ite ?_ ?_
  split
  refine Kept.trans ?_ State_count_kept
  exact Kept.refl
  dsimp only [Kept_mk]
  refine Keeps.of ?_ ?_
  refine Kept.trans ?_ State_count_kept
  exact Kept.refl
  first | exact Nat.le_refl _ | exact Nat.le_max_left _ _
  split <;> try dsimp only
  refine Kept.ite ?_ ?_
  refine Kept.trans ?_ State_count_kept
  refine Kept.trans ?_ State_pokeP_kept
  exact Kept.refl
  refine Kept.trans ?_ State_pokeP_kept
  exact Kept.refl
  dsimp only [Kept_mk]
  refine Keeps.of ?_ ?_
  exact Kept.refl
  first | exact Nat.le_refl _ | exact Nat.le_max_left _ _

theorem State_setHqTail_kept {s : State} {v : Nat} {q : Nat} {value : Sys2Proof.Word} : Kept s (@State.setHqTail s v q value) := by
  unfold State.setHqTail
  try dsimp only
  refine Kept.ite ?_ ?_
  exact Kept.refl
  refine Kept.trans ?_ State_setReg_kept
  exact Kept.refl

theorem execHqTailWrite_kept {vf : BitVec 6} {q : BitVec 2} {value : Sys2Proof.Word} {s : State} : KeptN s (@execHqTailWrite vf q value s) := by
  unfold execHqTailWrite
  try dsimp only
  refine KeptN.mk_ ?_
  refine Kept.trans ?_ (State_accessW_kept ?_)
  exact Kept.refl
  intro _
  refine Kept.trans ?_ State_setHqTail_kept
  exact Kept.refl

theorem State_setJob_kept {s : State} {v : Nat} {q : Nat} {d : List Sys2Proof.Byte} {status : Nat} : Kept s (@State.setJob s v q d status) := by
  unfold State.setJob
  try dsimp only
  refine Kept.trans ?_ State_setVf_kept
  exact Kept.refl

theorem execHqHostToPartition_kept {vf : BitVec 6} {q : BitVec 2} {desc : List Sys2Proof.Byte} {data : List (Sys2Proof.Byte × Bool)} {s : State} : KeptN s (@execHqHostToPartition vf q desc data s) := by
  unfold execHqHostToPartition
  try dsimp only
  refine KeptN.mk_ ?_
  split
  exact Kept.refl
  refine Kept.ite ?_ ?_
  refine Kept.trans ?_ State_setJob_kept
  exact Kept.refl
  refine Kept.ite ?_ ?_
  exact Kept.refl
  refine Kept.trans ?_ State_setJob_kept
  refine Kept.trans ?_ (State_vstore_kept).h
  exact Kept.refl

theorem State_hqRead_kept {s : State} {p : Nat} {va : Nat} {n : Nat} {hint : Nat} : KeptP s (@State.hqRead s p va n hint) := by
  unfold State.hqRead
  try dsimp only
  refine KeptP.foldl ?_ ?_ <;> try dsimp only
  refine KeptP.mk_ ?_
  exact Kept.refl
  intro _
  intro _
  intro _
  refine KeptP.ite ?_ ?_
  split
  refine KeptP.mk_ ?_
  refine Kept.trans ?_ (KeptOP.of (by assumption) State_vload_kept)
  exact Kept.refl
  refine KeptP.mk_ ?_
  exact Kept.refl
  refine KeptP.mk_ ?_
  exact Kept.refl

theorem execHqPartitionToHost_kept {vf : BitVec 6} {q : BitVec 2} {desc : List Sys2Proof.Byte} {s : State} : KeptN s (@execHqPartitionToHost vf q desc s) := by
  unfold execHqPartitionToHost
  try dsimp only
  refine KeptN.mk_ ?_
  split
  exact Kept.refl
  refine Kept.ite ?_ ?_
  refine Kept.trans ?_ State_setJob_kept
  exact Kept.refl
  refine Kept.ite ?_ ?_
  exact Kept.refl
  refine Kept.trans ?_ State_setJob_kept
  refine Kept.ite ?_ ?_
  refine Kept.trans ?_ (State_hqRead_kept).h
  exact Kept.refl
  dsimp only [Kept_mk]
  refine Keeps.of ?_ ?_
  refine Kept.trans ?_ (State_hqRead_kept).h
  exact Kept.refl
  first | exact Nat.le_refl _ | exact Nat.le_max_left _ _

theorem execHqHostReadTimeout_kept {vf : BitVec 6} {q : BitVec 2} {desc : List Sys2Proof.Byte} {data : List (Sys2Proof.Byte × Bool)} {s : State} : KeptN s (@execHqHostReadTimeout vf q desc data s) := by
  unfold execHqHostReadTimeout
  try dsimp only
  refine KeptN.mk_ ?_
  split
  exact Kept.refl
  refine Kept.ite ?_ ?_
  refine Kept.trans ?_ State_setJob_kept
  exact Kept.refl
  refine Kept.ite ?_ ?_
  exact Kept.refl
  refine Kept.trans ?_ State_setJob_kept
  refine Kept.trans ?_ (State_vstore_kept).h
  exact Kept.refl

theorem execHqDescriptorComplete_kept {vf : BitVec 6} {q : BitVec 2} {s : State} : KeptN s (@execHqDescriptorComplete vf q s) := by
  unfold execHqDescriptorComplete
  try dsimp only
  refine KeptN.mk_ ?_
  split
  exact Kept.refl
  refine Kept.ite ?_ ?_
  refine Kept.trans ?_ State_msix_kept
  split
  refine Kept.ite ?_ ?_
  refine Kept.trans ?_ State_engineSignal_kept
  refine Kept.trans ?_ State_count_kept
  refine Kept.trans ?_ State_setReg_kept
  dsimp only [Kept_mk]
  refine Keeps.of ?_ ?_
  refine Kept.trans ?_ State_setVf_kept
  exact Kept.refl
  first | exact Nat.le_refl _ | exact Nat.le_max_left _ _
  refine Kept.trans ?_ State_count_kept
  refine Kept.trans ?_ State_setReg_kept
  dsimp only [Kept_mk]
  refine Keeps.of ?_ ?_
  refine Kept.trans ?_ State_setVf_kept
  exact Kept.refl
  first | exact Nat.le_refl _ | exact Nat.le_max_left _ _
  refine Kept.trans ?_ State_count_kept
  refine Kept.trans ?_ State_setReg_kept
  dsimp only [Kept_mk]
  refine Keeps.of ?_ ?_
  refine Kept.trans ?_ State_setVf_kept
  exact Kept.refl
  first | exact Nat.le_refl _ | exact Nat.le_max_left _ _
  split
  refine Kept.ite ?_ ?_
  refine Kept.trans ?_ State_engineSignal_kept
  refine Kept.trans ?_ State_count_kept
  refine Kept.trans ?_ State_setReg_kept
  dsimp only [Kept_mk]
  refine Keeps.of ?_ ?_
  refine Kept.trans ?_ State_setVf_kept
  exact Kept.refl
  first | exact Nat.le_refl _ | exact Nat.le_max_left _ _
  refine Kept.trans ?_ State_count_kept
  refine Kept.trans ?_ State_setReg_kept
  dsimp only [Kept_mk]
  refine Keeps.of ?_ ?_
  refine Kept.trans ?_ State_setVf_kept
  exact Kept.refl
  first | exact Nat.le_refl _ | exact Nat.le_max_left _ _
  refine Kept.trans ?_ State_count_kept
  refine Kept.trans ?_ State_setReg_kept
  dsimp only [Kept_mk]
  refine Keeps.of ?_ ?_
  refine Kept.trans ?_ State_setVf_kept
  exact Kept.refl
  first | exact Nat.le_refl _ | exact Nat.le_max_left _ _

end Sys2Proof.Laws
end

