-- ==== Sys2Proof/Laws/KeptAccess.lean ====
section
/-! SUPPORT. What the operations of Machine/Access.lean keep. -/
namespace Sys2Proof.Laws
open Sys2Proof Sys2Proof.Machine

theorem outcomeState_kept {s : State} {o : Host.Outcome State Fault Refusal} (h : KeptN s o) : Kept s (outcomeState s o) := by
  unfold outcomeState
  split
  · exact h.h _ rfl
  · exact Kept.refl

theorem State_writePlain_kept {s : State} {k : RKey} {v : Sys2Proof.Word} : Kept s (@State.writePlain s k v) := by
  unfold State.writePlain
  try dsimp only
  refine Kept.ite ?_ ?_
  exact Kept.refl
  split
  refine Kept.foldl ?_ ?_
  exact Kept.refl
  intro _
  intro _
  refine Kept.trans ?_ State_setCtx_kept
  exact Kept.refl
  refine Kept.ite ?_ ?_
  refine Kept.trans ?_ State_writeFields_kept
  exact Kept.refl
  refine Kept.trans ?_ State_writeFields_kept
  exact Kept.refl
  refine Kept.ite ?_ ?_
  refine Kept.trans ?_ State_writeFields_kept
  exact Kept.refl
  refine Kept.trans ?_ State_writeFields_kept
  exact Kept.refl
  refine Kept.foldl ?_ ?_
  refine Kept.trans ?_ State_writeFields_kept
  exact Kept.refl
  intro _
  intro _
  refine Kept.ite ?_ ?_
  refine Kept.trans ?_ State_msix_kept
  exact Kept.refl
  exact Kept.refl
  refine Kept.trans ?_ State_writeFields_kept
  exact Kept.refl

theorem State_reservedOp_kept {s : State} {k : RKey} {v : Sys2Proof.Word} : Kept s (@State.reservedOp s k v) := by
  unfold State.reservedOp
  try dsimp only
  split
  refine Kept.ite ?_ ?_
  exact Kept.refl
  refine Kept.trans ?_ State_cmdDone_kept
  refine Kept.trans ?_ State_setReg_kept
  exact Kept.refl
  refine Kept.ite ?_ ?_
  exact Kept.refl
  refine Kept.trans ?_ State_cmdDone_kept
  refine Kept.trans ?_ State_setReg_kept
  exact Kept.refl
  refine Kept.ite ?_ ?_
  exact Kept.refl
  refine Kept.trans ?_ State_cmdDone_kept
  refine Kept.trans ?_ State_setReg_kept
  exact Kept.refl
  refine Kept.ite ?_ ?_
  exact Kept.refl
  refine Kept.trans ?_ State_prtDone_kept
  refine Kept.trans ?_ State_setReg_kept
  exact Kept.refl
  refine Kept.ite ?_ ?_
  exact Kept.refl
  refine Kept.trans ?_ State_cmdDone_kept
  refine Kept.trans ?_ State_setReg_kept
  exact Kept.refl
  refine Kept.ite ?_ ?_
  exact Kept.refl
  refine Kept.trans ?_ State_cmdDone_kept
  refine Kept.trans ?_ State_setReg_kept
  exact Kept.refl
  refine Kept.ite ?_ ?_
  exact Kept.refl
  refine Kept.trans ?_ State_cmdDone_kept
  refine Kept.trans ?_ State_setReg_kept
  exact Kept.refl
  refine Kept.ite ?_ ?_
  exact Kept.refl
  refine Kept.trans ?_ State_cmdDone_kept
  refine Kept.trans ?_ State_setReg_kept
  exact Kept.refl
  exact Kept.refl

theorem execReservedOpCommand_kept {src : Sys2Proof.Src} {off : Nat} {value : Sys2Proof.Word} {s : State} : KeptN s (@execReservedOpCommand src off value s) := by
  unfold execReservedOpCommand
  try dsimp only
  refine KeptN.mk_ ?_
  split
  exact Kept.refl
  split
  refine Kept.ite ?_ ?_
  refine Kept.trans ?_ (State_accessW_kept ?_)
  exact Kept.refl
  intro _
  refine Kept.trans ?_ State_reservedOp_kept
  exact Kept.refl
  exact Kept.refl
  exact Kept.refl

theorem State_writeGo_kept {s : State} {src : Sys2Proof.Src} {k : RKey} {v : Sys2Proof.Word} : KeptN s (@State.writeGo s src k v) := by
  unfold State.writeGo
  try dsimp only
  split
  split
  refine KeptN.trans ?_ execTrussInstall_kept
  exact Kept.refl
  refine KeptN.trans ?_ execTrussRetire_kept
  exact Kept.refl
  refine KeptN.mk_ ?_
  refine Kept.trans ?_ (State_accessW_kept ?_)
  exact Kept.refl
  intro _
  refine Kept.trans ?_ State_reservedOp_kept
  exact Kept.refl
  split
  refine KeptN.trans ?_ execJoinerCtxInstall_kept
  exact Kept.refl
  refine KeptN.trans ?_ execJoinerCtxRetire_kept
  exact Kept.refl
  refine KeptN.mk_ ?_
  refine Kept.trans ?_ (State_accessW_kept ?_)
  exact Kept.refl
  intro _
  refine Kept.trans ?_ State_reservedOp_kept
  exact Kept.refl
  split
  refine KeptN.trans ?_ execJoinerProgLoad_kept
  exact Kept.refl
  refine KeptN.trans ?_ execJoinerProgFree_kept
  exact Kept.refl
  refine KeptN.mk_ ?_
  refine Kept.trans ?_ (State_accessW_kept ?_)
  exact Kept.refl
  intro _
  refine Kept.trans ?_ State_reservedOp_kept
  exact Kept.refl
  split
  refine KeptN.trans ?_ execPartitionBuild_kept
  exact Kept.refl
  refine KeptN.trans ?_ execPartitionDissolve_kept
  exact Kept.refl
  refine KeptN.trans ?_ execCoreMigrate_kept
  exact Kept.refl
  refine KeptN.trans ?_ execSharesSet_kept
  exact Kept.refl
  refine KeptN.trans ?_ execVfBind_kept
  exact Kept.refl
  refine KeptN.trans ?_ execVfUnbind_kept
  exact Kept.refl
  refine KeptN.mk_ ?_
  refine Kept.trans ?_ (State_accessW_kept ?_)
  exact Kept.refl
  intro _
  refine Kept.trans ?_ State_reservedOp_kept
  exact Kept.refl
  split
  refine KeptN.mk_ ?_
  refine Kept.trans ?_ (State_accessW_kept ?_)
  exact Kept.refl
  intro _
  refine Kept.trans ?_ State_mapPages_kept
  exact Kept.refl
  refine KeptN.mk_ ?_
  refine Kept.trans ?_ (State_accessW_kept ?_)
  exact Kept.refl
  intro _
  refine Kept.trans ?_ State_unmapPages_kept
  exact Kept.refl
  refine KeptN.mk_ ?_
  refine Kept.trans ?_ (State_accessW_kept ?_)
  exact Kept.refl
  intro _
  refine Kept.trans ?_ State_reservedOp_kept
  exact Kept.refl
  split
  refine KeptN.trans ?_ execProbePackLoad_kept
  exact Kept.refl
  refine KeptN.trans ?_ execProbePackLoadForward_kept
  exact Kept.refl
  refine KeptN.mk_ ?_
  refine Kept.trans ?_ (State_accessW_kept ?_)
  exact Kept.refl
  intro _
  refine Kept.trans ?_ State_reservedOp_kept
  exact Kept.refl
  split
  refine KeptN.trans ?_ execImageWrite_kept
  exact Kept.refl
  refine KeptN.trans ?_ execFirmwareApply_kept
  exact Kept.refl
  refine KeptN.trans ?_ execTrialConfirm_kept
  exact Kept.refl
  refine KeptN.trans ?_ execPendingCancel_kept
  exact Kept.refl
  refine KeptN.trans ?_ execSvnCommit_kept
  exact Kept.refl
  refine KeptN.mk_ ?_
  refine Kept.trans ?_ (State_accessW_kept ?_)
  exact Kept.refl
  intro _
  refine Kept.trans ?_ State_reservedOp_kept
  exact Kept.refl
  split
  refine KeptN.trans ?_ execHbmReadId_kept
  exact Kept.refl
  refine KeptN.trans ?_ execHbmReadTemp_kept
  exact Kept.refl
  refine KeptN.trans ?_ execHbmMbist_kept
  exact Kept.refl
  refine KeptN.trans ?_ execHbmLaneRepair_kept
  exact Kept.refl
  refine KeptN.trans ?_ execHbmSoftRepair_kept
  exact Kept.refl
  refine KeptN.trans ?_ execHbmHardRepair_kept
  exact Kept.refl
  refine KeptN.mk_ ?_
  refine Kept.trans ?_ (State_accessW_kept ?_)
  exact Kept.refl
  intro _
  refine Kept.trans ?_ State_reservedOp_kept
  exact Kept.refl
  refine KeptN.mk_ ?_
  exact Kept.refl

theorem State_writeOwn_kept {s : State} {src : Sys2Proof.Src} {k : RKey} {v : Sys2Proof.Word} : KeptOO s (@State.writeOwn s src k v) := by
  unfold State.writeOwn
  try dsimp only
  split
  refine KeptOO.some_ ?_
  refine KeptN.trans ?_ execCoreCtxModeWrite_kept
  exact Kept.refl
  refine KeptOO.some_ ?_
  refine KeptN.trans ?_ execCtxReset_kept
  refine Kept.trans ?_ (outcomeState_kept ?_)
  exact Kept.refl
  refine KeptN.trans ?_ execCtxStop_kept
  exact Kept.refl
  refine KeptOO.ite ?_ ?_
  refine KeptOO.some_ ?_
  refine KeptN.mk_ ?_
  refine Kept.trans ?_ (State_accessW_kept ?_)
  exact Kept.refl
  intro _
  refine Kept.trans ?_ State_writePlain_kept
  exact Kept.refl
  refine KeptOO.some_ ?_
  split
  refine KeptN.trans ?_ execBayLoad_kept
  exact Kept.refl
  refine KeptN.trans ?_ execBayPatch_kept
  exact Kept.refl
  refine KeptN.trans ?_ execBayStart_kept
  exact Kept.refl
  refine KeptN.trans ?_ execBayPatchAndStart_kept
  exact Kept.refl
  refine KeptN.trans ?_ execBayResume_kept
  exact Kept.refl
  refine KeptN.trans ?_ execBayCmdUndefined_kept
  exact Kept.refl
  refine KeptOO.some_ ?_
  refine KeptN.trans ?_ execBayCtxStopatWrite_kept
  exact Kept.refl
  refine KeptOO.some_ ?_
  refine KeptN.trans ?_ execBayCtxPWrite_kept
  exact Kept.refl
  refine KeptOO.some_ ?_
  refine KeptN.trans ?_ execBayCtxPsegWrite_kept
  exact Kept.refl
  refine KeptOO.some_ ?_
  refine KeptN.trans ?_ execBayCtxPsegWrite_kept
  exact Kept.refl
  refine KeptOO.some_ ?_
  split
  refine KeptN.trans ?_ execPegHostWrite_kept
  exact Kept.refl
  refine KeptN.mk_ ?_
  refine Kept.trans ?_ (State_accessW_kept ?_)
  exact Kept.refl
  intro _
  refine Kept.trans ?_ State_count_kept
  exact Kept.refl
  refine KeptOO.some_ ?_
  refine KeptN.trans ?_ execPegHostWrite_kept
  exact Kept.refl
  refine KeptOO.some_ ?_
  refine KeptN.trans ?_ execPegHostWrite_kept
  exact Kept.refl
  refine KeptOO.some_ ?_
  refine KeptN.trans ?_ execPoolCfgWrite_kept
  exact Kept.refl
  refine KeptOO.some_ ?_
  refine KeptN.trans ?_ execPoolCfgWrite_kept
  exact Kept.refl
  refine KeptOO.some_ ?_
  refine KeptN.trans ?_ execPoolCfgWrite_kept
  exact Kept.refl
  refine KeptOO.some_ ?_
  refine KeptN.ite ?_ ?_
  refine KeptN.trans ?_ execPoolReclaim_kept
  exact Kept.refl
  refine KeptN.mk_ ?_
  exact Kept.refl
  refine KeptOO.some_ ?_
  refine KeptN.ite ?_ ?_
  refine KeptN.trans ?_ execDeckFlush_kept
  refine Kept.ite ?_ ?_
  refine Kept.trans ?_ (outcomeState_kept ?_)
  refine Kept.trans ?_ (State_accessW_kept ?_)
  exact Kept.refl
  intro _
  refine Kept.trans ?_ State_setFld_kept
  exact Kept.refl
  refine KeptN.trans ?_ execDeckUnkeep_kept
  exact Kept.refl
  refine Kept.trans ?_ (State_accessW_kept ?_)
  exact Kept.refl
  intro _
  refine Kept.trans ?_ State_setFld_kept
  exact Kept.refl
  refine KeptN.mk_ ?_
  refine Kept.ite ?_ ?_
  refine Kept.trans ?_ (outcomeState_kept ?_)
  refine Kept.trans ?_ (State_accessW_kept ?_)
  exact Kept.refl
  intro _
  refine Kept.trans ?_ State_setFld_kept
  exact Kept.refl
  refine KeptN.trans ?_ execDeckUnkeep_kept
  exact Kept.refl
  refine Kept.trans ?_ (State_accessW_kept ?_)
  exact Kept.refl
  intro _
  refine Kept.trans ?_ State_setFld_kept
  exact Kept.refl
  refine KeptOO.some_ ?_
  refine KeptN.ite ?_ ?_
  refine KeptN.mk_ ?_
  exact Kept.refl
  refine KeptN.ite ?_ ?_
  refine KeptN.trans ?_ execStateImport_kept
  exact Kept.refl
  refine KeptN.trans ?_ execStateExport_kept
  exact Kept.refl
  refine KeptOO.some_ ?_
  refine KeptN.ite ?_ ?_
  refine KeptN.trans ?_ execPortRetrain_kept
  refine Kept.trans ?_ (State_accessW_kept ?_)
  exact Kept.refl
  intro _
  refine Kept.trans ?_ State_writePlain_kept
  exact Kept.refl
  refine KeptN.mk_ ?_
  refine Kept.trans ?_ (State_accessW_kept ?_)
  exact Kept.refl
  intro _
  refine Kept.trans ?_ State_writePlain_kept
  exact Kept.refl
  refine KeptOO.some_ ?_
  refine KeptN.mk_ ?_
  refine Kept.trans ?_ (State_accessW_kept ?_)
  exact Kept.refl
  intro _
  refine Kept.trans ?_ State_maskVf_kept
  exact Kept.refl
  refine KeptOO.some_ ?_
  refine KeptN.ite ?_ ?_
  refine KeptN.trans ?_ execPartitionReset_kept
  exact Kept.refl
  refine KeptN.mk_ ?_
  exact Kept.refl
  refine KeptOO.some_ ?_
  refine KeptN.ite ?_ ?_
  refine KeptN.trans ?_ execPackageReset_kept
  refine Kept.ite ?_ ?_
  refine Kept.trans ?_ (outcomeState_kept ?_)
  exact Kept.refl
  refine KeptN.trans ?_ execPowerCycleRequest_kept
  exact Kept.refl
  exact Kept.refl
  refine KeptN.mk_ ?_
  refine Kept.ite ?_ ?_
  refine Kept.trans ?_ (outcomeState_kept ?_)
  exact Kept.refl
  refine KeptN.trans ?_ execPowerCycleRequest_kept
  exact Kept.refl
  exact Kept.refl
  refine KeptOO.some_ ?_
  refine KeptN.ite ?_ ?_
  refine KeptN.trans ?_ execProbeWindow_kept
  exact Kept.refl
  refine KeptN.mk_ ?_
  refine Kept.trans ?_ (State_accessW_kept ?_)
  exact Kept.refl
  intro _
  refine Kept.trans ?_ State_writePlain_kept
  exact Kept.refl
  refine KeptOO.some_ ?_
  refine KeptN.ite ?_ ?_
  refine KeptN.trans ?_ execPlumbLoad_kept
  exact Kept.refl
  refine KeptN.mk_ ?_
  exact Kept.refl
  refine KeptOO.some_ ?_
  refine KeptN.ite ?_ ?_
  refine KeptN.trans ?_ execSnapSchedule_kept
  exact Kept.refl
  refine KeptN.mk_ ?_
  exact Kept.refl
  refine KeptOO.some_ ?_
  refine KeptN.trans ?_ execSnapPeriodWrite_kept
  exact Kept.refl
  refine KeptOO.some_ ?_
  refine KeptN.trans ?_ execPwrCapWrite_kept
  exact Kept.refl
  refine KeptOO.some_ ?_
  refine KeptN.trans ?_ execPwrPartWrite_kept
  exact Kept.refl
  refine KeptOO.some_ ?_
  refine KeptN.ite ?_ ?_
  refine KeptN.trans ?_ execKeyBlobSubmit_kept
  exact Kept.refl
  refine KeptN.mk_ ?_
  exact Kept.refl
  refine KeptOO.some_ ?_
  refine KeptN.trans ?_ execPartRootWrite_kept
  exact Kept.refl
  refine KeptOO.some_ ?_
  refine KeptN.trans ?_ execMaintHoldWrite_kept
  exact Kept.refl
  refine KeptOO.some_ ?_
  refine KeptN.trans ?_ execEvlogSelect_kept
  exact Kept.refl
  refine KeptOO.some_ ?_
  refine KeptN.mk_ ?_
  refine Kept.trans ?_ (State_accessW_kept ?_)
  exact Kept.refl
  intro _
  refine Kept.trans ?_ State_setLogCtl_kept
  exact Kept.refl
  refine KeptOO.some_ ?_
  refine KeptN.mk_ ?_
  refine Kept.trans ?_ (State_accessW_kept ?_)
  exact Kept.refl
  intro _
  refine Kept.trans ?_ State_setLogTail_kept
  exact Kept.refl
  refine KeptOO.some_ ?_
  refine KeptN.mk_ ?_
  refine Kept.trans ?_ (State_accessW_kept ?_)
  exact Kept.refl
  intro _
  refine Kept.trans ?_ State_setHqTail_kept
  exact Kept.refl
  refine KeptOO.some_ ?_
  refine KeptN.ite ?_ ?_
  refine KeptN.trans ?_ execDebugTokenSubmit_kept
  exact Kept.refl
  refine KeptN.mk_ ?_
  exact Kept.refl
  refine KeptOO.some_ ?_
  refine KeptN.trans ?_ execLaneRecordSelect_kept
  exact Kept.refl
  split
  refine KeptOO.some_ ?_
  refine KeptN.ite ?_ ?_
  refine KeptN.trans ?_ State_writeGo_kept
  exact Kept.refl
  refine KeptN.mk_ ?_
  refine Kept.trans ?_ (State_accessW_kept ?_)
  exact Kept.refl
  intro _
  refine Kept.trans ?_ State_writePlain_kept
  exact Kept.refl
  exact KeptOO.none_

theorem State_writeSoft_kept {s : State} {src : Src} {k : RKey} {v : Word} : Kept s (@State.writeSoft s src k v) := by
  unfold State.writeSoft
  try dsimp only
  refine Kept.ite ?_ ?_
  exact Kept.refl
  refine Kept.ite ?_ ?_
  refine Kept.trans ?_ State_writePlain_kept
  exact Kept.refl
  dsimp only [Kept_mk]
  refine Keeps.of ?_ ?_
  refine Kept.trans ?_ State_writePlain_kept
  exact Kept.refl
  exact Nat.le_refl _

theorem State_writeReg_kept {s : State} {src : Src} {k : RKey} {v : Word} : Kept s (@State.writeReg s src k v) := by
  unfold State.writeReg
  try dsimp only
  refine Kept.ite ?_ ?_
  refine Kept.trans ?_ State_denied_kept
  exact Kept.refl
  split
  refine Kept.trans ?_ (outcomeState_kept ?_)
  exact Kept.refl
  refine KeptN.trans ?_ (KeptOO.of (by assumption) State_writeOwn_kept)
  exact Kept.refl
  refine Kept.trans ?_ (State_accessW_kept ?_)
  exact Kept.refl
  intro _
  refine Kept.trans ?_ State_writeSoft_kept
  exact Kept.refl

theorem State_writeOff_kept {s : State} {src : Sys2Proof.Src} {off : Nat} {v : Sys2Proof.Word} : Kept s (@State.writeOff s src off v) := by
  unfold State.writeOff
  try dsimp only
  split
  refine Kept.trans ?_ State_writeReg_kept
  exact Kept.refl
  split
  refine Kept.ite ?_ ?_
  refine Kept.ite ?_ ?_
  refine Kept.trans ?_ State_msixTableWrite_kept
  exact Kept.refl
  exact Kept.refl
  refine Kept.ite ?_ ?_
  refine Kept.trans ?_ State_denied_kept
  exact Kept.refl
  exact Kept.refl
  refine Kept.ite ?_ ?_
  exact Kept.refl
  refine Kept.trans ?_ State_denied_kept
  exact Kept.refl
  refine Kept.ite ?_ ?_
  refine Kept.trans ?_ State_denied_kept
  exact Kept.refl
  exact Kept.refl

theorem execRegisterWrite_kept {src : Sys2Proof.Src} {off : Nat} {value : Sys2Proof.Word} {enables : BitVec 4} {s : State} : KeptN s (@execRegisterWrite src off value enables s) := by
  unfold execRegisterWrite
  try dsimp only
  refine KeptN.mk_ ?_
  refine Kept.ite ?_ ?_
  exact Kept.refl
  refine Kept.ite ?_ ?_
  refine Kept.ite ?_ ?_
  refine Kept.trans ?_ State_msixTableWrite_kept
  exact Kept.refl
  exact Kept.refl
  refine Kept.trans ?_ State_writeOff_kept
  exact Kept.refl

end Sys2Proof.Laws
end

