-- ==== Sys2Proof/Laws/KeptMgmt.lean ====
section
/-! SUPPORT. What the operations of Machine/Mgmt.lean keep. -/
namespace Sys2Proof.Laws
open Sys2Proof Sys2Proof.Machine

theorem execI3cAddressAssign_kept {mctp : Bool} {da : BitVec 7} {s : State} : KeptN s (@execI3cAddressAssign mctp da s) := by
  unfold execI3cAddressAssign
  try dsimp only
  refine KeptN.mk_ ?_
  refine Kept.ite ?_ ?_
  exact Kept.refl
  refine Kept.ite ?_ ?_
  refine Kept.trans ?_ State_setFld_kept
  exact Kept.refl
  refine Kept.trans ?_ State_setFld_kept
  exact Kept.refl

theorem State_i3cAnswer_kept {s : State} {status : Nat} {data : Option Sys2Proof.Word} : Kept s (@State.i3cAnswer s status data) := by
  unfold State.i3cAnswer
  try dsimp only
  dsimp only [Kept_mk]
  refine Keeps.of ?_ ?_
  exact Kept.refl
  first | exact Nat.le_refl _ | exact Nat.le_max_left _ _

theorem State_i3cNoData_kept {s : State} {status : Nat} : Kept s (@State.i3cNoData s status) := by
  unfold State.i3cNoData
  try dsimp only
  refine Kept.trans ?_ State_i3cAnswer_kept
  dsimp only [Kept_mk]
  refine Keeps.of ?_ ?_
  exact Kept.refl
  first | exact Nat.le_refl _ | exact Nat.le_max_left _ _

theorem execI3cRegRead_kept {off : BitVec 32} {s : State} : KeptN s (@execI3cRegRead off s) := by
  unfold execI3cRegRead
  try dsimp only
  refine KeptN.mk_ ?_
  refine Kept.ite ?_ ?_
  exact Kept.refl
  refine Kept.ite ?_ ?_
  refine Kept.trans ?_ State_i3cNoData_kept
  exact Kept.refl
  refine Kept.ite ?_ ?_
  refine Kept.trans ?_ State_i3cAnswer_kept
  refine Kept.trans ?_ (State_readOff_kept).h
  exact Kept.refl
  refine Kept.trans ?_ State_i3cNoData_kept
  refine Kept.trans ?_ State_denied_kept
  exact Kept.refl

theorem execI3cRegWrite_kept {off : BitVec 32} {value : Sys2Proof.Word} {s : State} : KeptN s (@execI3cRegWrite off value s) := by
  unfold execI3cRegWrite
  try dsimp only
  refine KeptN.mk_ ?_
  refine Kept.ite ?_ ?_
  exact Kept.refl
  refine Kept.ite ?_ ?_
  refine Kept.trans ?_ State_i3cAnswer_kept
  exact Kept.refl
  refine Kept.ite ?_ ?_
  refine Kept.trans ?_ State_i3cAnswer_kept
  refine Kept.trans ?_ State_writeOff_kept
  exact Kept.refl
  refine Kept.trans ?_ State_i3cAnswer_kept
  refine Kept.trans ?_ State_denied_kept
  exact Kept.refl

theorem State_mgtAsk_kept {s : State} {f : State → State} (hf : ∀ x, Kept x (f x)) : Kept s (@State.mgtAsk s f) := by
  unfold State.mgtAsk
  try dsimp only
  refine Kept.ite ?_ ?_
  refine Kept.trans ?_ (hf _)
  exact Kept.refl
  exact Kept.refl

theorem State_pldm_kept {s : State} {r : PldmReply} : Kept s (@State.pldm s r) := by
  unfold State.pldm
  try dsimp only
  dsimp only [Kept_mk]
  refine Keeps.of ?_ ?_
  exact Kept.refl
  first | exact Nat.le_refl _ | exact Nat.le_max_left _ _

theorem execMctpSetEndpointId_kept {eid : Sys2Proof.Byte} {s : State} : KeptN s (@execMctpSetEndpointId eid s) := by
  unfold execMctpSetEndpointId
  try dsimp only
  refine KeptN.mk_ ?_
  refine Kept.trans ?_ (State_mgtAsk_kept ?_)
  exact Kept.refl
  intro _
  refine Kept.trans ?_ State_setFld_kept
  exact Kept.refl

theorem execPldmGetTid_kept {s : State} : KeptN s (@execPldmGetTid s) := by
  unfold execPldmGetTid
  try dsimp only
  refine KeptN.mk_ ?_
  refine Kept.trans ?_ (State_mgtAsk_kept ?_)
  exact Kept.refl
  intro _
  refine Kept.trans ?_ State_pldm_kept
  exact Kept.refl

theorem execPldmSetTid_kept {tid : Sys2Proof.Byte} {s : State} : KeptN s (@execPldmSetTid tid s) := by
  unfold execPldmSetTid
  try dsimp only
  refine KeptN.mk_ ?_
  refine Kept.trans ?_ (State_mgtAsk_kept ?_)
  exact Kept.refl
  intro _
  refine Kept.trans ?_ State_pldm_kept
  dsimp only [Kept_mk]
  refine Keeps.of ?_ ?_
  exact Kept.refl
  first | exact Nat.le_refl _ | exact Nat.le_max_left _ _

theorem execPldmGetVersion_kept {ty : PldmType} {s : State} : KeptN s (@execPldmGetVersion ty s) := by
  unfold execPldmGetVersion
  try dsimp only
  refine KeptN.mk_ ?_
  refine Kept.trans ?_ (State_mgtAsk_kept ?_)
  exact Kept.refl
  intro _
  refine Kept.trans ?_ State_pldm_kept
  exact Kept.refl

theorem execPldmGetTypes_kept {s : State} : KeptN s (@execPldmGetTypes s) := by
  unfold execPldmGetTypes
  try dsimp only
  refine KeptN.mk_ ?_
  refine Kept.trans ?_ (State_mgtAsk_kept ?_)
  exact Kept.refl
  intro _
  refine Kept.trans ?_ State_pldm_kept
  exact Kept.refl

theorem execPldmGetCommands_kept {ty : PldmType} {s : State} : KeptN s (@execPldmGetCommands ty s) := by
  unfold execPldmGetCommands
  try dsimp only
  refine KeptN.mk_ ?_
  refine Kept.trans ?_ (State_mgtAsk_kept ?_)
  exact Kept.refl
  intro _
  refine Kept.trans ?_ State_pldm_kept
  exact Kept.refl

theorem execPldmGetPdr_kept {handle : Nat} {s : State} : KeptN s (@execPldmGetPdr handle s) := by
  unfold execPldmGetPdr
  try dsimp only
  refine KeptN.mk_ ?_
  refine Kept.trans ?_ (State_mgtAsk_kept ?_)
  exact Kept.refl
  intro _
  refine Kept.trans ?_ State_pldm_kept
  exact Kept.refl

theorem execPldmGetSensorReading_kept {sensor : Nat} {s : State} : KeptN s (@execPldmGetSensorReading sensor s) := by
  unfold execPldmGetSensorReading
  try dsimp only
  refine KeptN.mk_ ?_
  refine Kept.trans ?_ (State_mgtAsk_kept ?_)
  exact Kept.refl
  intro _
  refine Kept.trans ?_ State_pldm_kept
  exact Kept.refl

theorem execPldmGetEffecter_kept {effecter : Nat} {s : State} : KeptN s (@execPldmGetEffecter effecter s) := by
  unfold execPldmGetEffecter
  try dsimp only
  refine KeptN.mk_ ?_
  refine Kept.trans ?_ (State_mgtAsk_kept ?_)
  exact Kept.refl
  intro _
  refine Kept.trans ?_ State_pldm_kept
  exact Kept.refl

theorem execPldmSetEffecter_kept {effecter : Nat} {value : Nat} {s : State} : KeptN s (@execPldmSetEffecter effecter value s) := by
  unfold execPldmSetEffecter
  try dsimp only
  refine KeptN.mk_ ?_
  refine Kept.trans ?_ (State_mgtAsk_kept ?_)
  exact Kept.refl
  intro _
  refine Kept.ite ?_ ?_
  refine Kept.trans ?_ State_pldm_kept
  refine Kept.trans ?_ State_writeCap_kept
  exact Kept.refl
  refine Kept.trans ?_ State_pldm_kept
  exact Kept.refl

theorem State_setReceiver_kept {s : State} {eid : Byte} : Kept s (s.setReceiver eid) :=
  ⟨rfl, id, Nat.le_refl _, id, fun _ => Nat.zero_le _⟩

theorem execPldmSetEventReceiver_kept {eid : Sys2Proof.Byte} {s : State} : KeptN s (@execPldmSetEventReceiver eid s) := by
  unfold execPldmSetEventReceiver
  try dsimp only
  refine KeptN.mk_ ?_
  refine Kept.trans ?_ (State_mgtAsk_kept ?_)
  exact Kept.refl
  intro _
  refine Kept.trans ?_ State_setReceiver_kept
  refine Kept.trans ?_ State_pldm_kept
  exact Kept.refl

theorem execPldmFruMetadata_kept {s : State} : KeptN s (@execPldmFruMetadata s) := by
  unfold execPldmFruMetadata
  try dsimp only
  refine KeptN.mk_ ?_
  refine Kept.trans ?_ (State_mgtAsk_kept ?_)
  exact Kept.refl
  intro _
  refine Kept.trans ?_ State_pldm_kept
  exact Kept.refl

theorem execPldmFruTable_kept {s : State} : KeptN s (@execPldmFruTable s) := by
  unfold execPldmFruTable
  try dsimp only
  refine KeptN.mk_ ?_
  refine Kept.trans ?_ (State_mgtAsk_kept ?_)
  exact Kept.refl
  intro _
  refine Kept.trans ?_ State_pldm_kept
  exact Kept.refl

theorem State_updAs_kept {s : State} {op : Nat} {f : State → State} (hf : ∀ x, Kept x (f x)) : Kept s (@State.updAs s op f) := by
  unfold State.updAs
  try dsimp only
  refine Kept.ite ?_ ?_
  refine Kept.ite ?_ ?_
  refine Kept.trans ?_ (hf _)
  exact Kept.refl
  exact Kept.refl
  refine Kept.trans ?_ (hf _)
  refine Kept.trans ?_ State_setReg_kept
  exact Kept.refl

theorem State_updReply_kept {s : State} : Kept s (@State.updReply s) := by
  unfold State.updReply
  try dsimp only
  refine Kept.ite ?_ ?_
  exact Kept.refl
  refine Kept.trans ?_ State_pldm_kept
  exact Kept.refl

theorem execPldmUpdateComponent_kept {component : Nat} {image : List Sys2Proof.Byte} {flashOk : Bool} {s : State} : KeptN s (@execPldmUpdateComponent component image flashOk s) := by
  unfold execPldmUpdateComponent
  try dsimp only
  refine KeptN.mk_ ?_
  refine Kept.trans ?_ (State_mgtAsk_kept ?_)
  exact Kept.refl
  intro _
  refine Kept.ite ?_ ?_
  refine Kept.trans ?_ State_pldm_kept
  exact Kept.refl
  refine Kept.trans ?_ State_updReply_kept
  refine Kept.trans ?_ (State_updAs_kept ?_)
  exact Kept.refl
  intro _
  refine Kept.trans ?_ State_writeImage_kept
  exact Kept.refl

theorem execPldmActivateFirmware_kept {s : State} : KeptN s (@execPldmActivateFirmware s) := by
  unfold execPldmActivateFirmware
  try dsimp only
  refine KeptN.mk_ ?_
  refine Kept.trans ?_ (State_mgtAsk_kept ?_)
  exact Kept.refl
  intro _
  refine Kept.trans ?_ State_updReply_kept
  refine Kept.trans ?_ (State_updAs_kept ?_)
  exact Kept.refl
  intro _
  refine Kept.trans ?_ State_applyImage_kept
  exact Kept.refl

theorem execPldmFileTransfer_kept {s : State} : KeptN s (@execPldmFileTransfer s) := by
  unfold execPldmFileTransfer
  try dsimp only
  refine KeptN.mk_ ?_
  refine Kept.trans ?_ (State_mgtAsk_kept ?_)
  exact Kept.refl
  intro _
  refine Kept.trans ?_ State_pldm_kept
  exact Kept.refl

theorem execPldmUnsupported_kept {s : State} : KeptN s (@execPldmUnsupported s) := by
  unfold execPldmUnsupported
  try dsimp only
  refine KeptN.mk_ ?_
  refine Kept.trans ?_ (State_mgtAsk_kept ?_)
  exact Kept.refl
  intro _
  refine Kept.trans ?_ State_pldm_kept
  exact Kept.refl

end Sys2Proof.Laws
end

