-- ==== Sys2Proof/Laws/KeptTray.lean ====
section
/-! SUPPORT. What the operations of Machine/Tray.lean keep. -/
namespace Sys2Proof.Laws
open Sys2Proof Sys2Proof.Machine

theorem joinWord_kept {s : State} {l : List PByte} {p : State × Word} (h : KeptP s p) : Kept s (joinWord l p).1 := h.h

theorem readPkgWord_kept {a i : Nat} {r : State × List PByte} : Kept r.1 (readPkgWord a r i).1 :=
  joinWord_kept State_readOff_kept

theorem State_readPkg_kept {s : State} {a n : Nat} : KeptP s (s.readPkg a n) := by
  have hf : ∀ (l : List Nat) (r : State × List PByte), Kept r.1 (l.foldl (readPkgWord a) r).1 := by
    intro l
    induction l with
    | nil => exact fun _ => Kept.refl
    | cons i l ih => exact fun r => readPkgWord_kept.trans (ih _)
  unfold State.readPkg
  split
  · exact ⟨hf _ (s, [])⟩
  · split
    · exact ⟨State_loadP_kept.h⟩
    · exact ⟨Kept.refl⟩

theorem State_writePkg_kept {s : State} {rank : Nat} {a : Nat} {d : List Byte} : Kept s (@State.writePkg s rank a d) := by
  unfold State.writePkg
  try dsimp only
  refine Kept.ite ?_ ?_
  refine Kept.foldl ?_ ?_
  exact Kept.refl
  intro _
  intro _
  refine Kept.trans ?_ State_writeOff_kept
  exact Kept.refl
  split
  refine Kept.trans ?_ State_windowBytes_kept
  refine Kept.trans ?_ State_storeBy_kept
  exact Kept.refl
  refine Kept.trans ?_ State_pokeP_kept
  exact Kept.refl

theorem State_sendTw_kept {s : State} {m : TwMsg} : Kept s (@State.sendTw s m) := by
  unfold State.sendTw
  try dsimp only
  refine Kept.trans ?_ State_putMsg_kept
  exact Kept.refl

theorem State_askTw_kept {s : State} {m : TwMsg} {by_ : TwBy} {next : Option TwMsg} : Kept s (@State.askTw s m by_ next) := by
  unfold State.askTw
  try dsimp only
  dsimp only [Kept_mk]
  refine Keeps.of ?_ ?_
  refine Kept.trans ?_ State_sendTw_kept
  exact Kept.refl
  first | exact Nat.le_refl _ | exact Nat.le_max_left _ _

theorem State_takeTw_kept {s : State} {op : Nat} : KeptOP s (s.takeTw op) := by
  refine ⟨fun p m h => ?_⟩
  obtain ⟨m', _, h⟩ := Option.map_eq_some_iff.1 h
  cases h
  exact (⟨rfl, id, Nat.le_refl _, id, id⟩ : Keeps _ _ _ _ _ _)

theorem execTwRead_kept {s : State} : KeptN s (@execTwRead s) := by
  unfold execTwRead
  try dsimp only
  refine KeptN.mk_ ?_
  refine Kept.ite ?_ ?_
  exact Kept.refl
  split
  exact Kept.refl
  refine Kept.ite ?_ ?_
  refine Kept.trans ?_ (KeptOP.of (by assumption) State_takeTw_kept)
  exact Kept.refl
  refine Kept.ite ?_ ?_
  refine Kept.trans ?_ State_sendTw_kept
  refine Kept.trans ?_ (KeptOP.of (by assumption) State_takeTw_kept)
  exact Kept.refl
  refine Kept.trans ?_ State_sendTw_kept
  refine Kept.trans ?_ (State_readPkg_kept).h
  refine Kept.trans ?_ (KeptOP.of (by assumption) State_takeTw_kept)
  exact Kept.refl

theorem execTwWrite_kept {s : State} : KeptN s (@execTwWrite s) := by
  unfold execTwWrite
  try dsimp only
  refine KeptN.mk_ ?_
  refine Kept.ite ?_ ?_
  exact Kept.refl
  split
  exact Kept.refl
  refine Kept.ite ?_ ?_
  refine Kept.trans ?_ (KeptOP.of (by assumption) State_takeTw_kept)
  exact Kept.refl
  refine Kept.ite ?_ ?_
  refine Kept.trans ?_ State_sendTw_kept
  refine Kept.trans ?_ (KeptOP.of (by assumption) State_takeTw_kept)
  exact Kept.refl
  refine Kept.trans ?_ State_sendTw_kept
  refine Kept.trans ?_ State_writePkg_kept
  refine Kept.trans ?_ (KeptOP.of (by assumption) State_takeTw_kept)
  exact Kept.refl

theorem State_dbgEnd_kept {s : State} {st : Nat} {data : Option Sys2Proof.Word} : Kept s (@State.dbgEnd s st data) := by
  unfold State.dbgEnd
  try dsimp only
  split
  dsimp only [Kept_mk]
  refine Keeps.of ?_ ?_
  exact Kept.refl
  first | exact Nat.le_refl _ | exact Nat.le_max_left _ _
  dsimp only [Kept_mk]
  refine Keeps.of ?_ ?_
  exact Kept.refl
  first | exact Nat.le_refl _ | exact Nat.le_max_left _ _

theorem State_endTw_kept {s : State} {q : TwReq} {r : Option TwMsg} : Kept s (@State.endTw s q r) := by
  unfold State.endTw
  try dsimp only
  split
  split
  refine Kept.ite ?_ ?_
  refine Kept.trans ?_ State_askTw_kept
  dsimp only [Kept_mk]
  refine Keeps.of ?_ ?_
  exact Kept.refl
  first | exact Nat.le_refl _ | exact Nat.le_max_left _ _
  refine Kept.trans ?_ State_dbgEnd_kept
  dsimp only [Kept_mk]
  refine Keeps.of ?_ ?_
  exact Kept.refl
  first | exact Nat.le_refl _ | exact Nat.le_max_left _ _
  refine Kept.ite ?_ ?_
  refine Kept.trans ?_ State_dbgEnd_kept
  dsimp only [Kept_mk]
  refine Keeps.of ?_ ?_
  exact Kept.refl
  first | exact Nat.le_refl _ | exact Nat.le_max_left _ _
  refine Kept.trans ?_ State_dbgEnd_kept
  dsimp only [Kept_mk]
  refine Keeps.of ?_ ?_
  exact Kept.refl
  first | exact Nat.le_refl _ | exact Nat.le_max_left _ _
  refine Kept.trans ?_ State_dbgEnd_kept
  dsimp only [Kept_mk]
  refine Keeps.of ?_ ?_
  exact Kept.refl
  first | exact Nat.le_refl _ | exact Nat.le_max_left _ _
  dsimp only [Kept_mk]
  refine Keeps.of ?_ ?_
  exact Kept.refl
  first | exact Nat.le_refl _ | exact Nat.le_max_left _ _

theorem State_twReply_kept {s : State} {op : Nat} : Kept s (@State.twReply s op) := by
  unfold State.twReply
  try dsimp only
  split
  exact Kept.refl
  split
  refine Kept.trans ?_ State_endTw_kept
  refine Kept.trans ?_ (KeptOP.of (by assumption) State_takeTw_kept)
  exact Kept.refl
  refine Kept.trans ?_ (KeptOP.of (by assumption) State_takeTw_kept)
  exact Kept.refl

theorem execTwReadData_kept {s : State} : KeptN s (@execTwReadData s) := by
  unfold execTwReadData
  try dsimp only
  refine KeptN.mk_ ?_
  refine Kept.ite ?_ ?_
  refine Kept.trans ?_ State_twReply_kept
  exact Kept.refl
  exact Kept.refl

theorem execTwWriteDone_kept {s : State} : KeptN s (@execTwWriteDone s) := by
  unfold execTwWriteDone
  try dsimp only
  refine KeptN.mk_ ?_
  refine Kept.ite ?_ ?_
  refine Kept.trans ?_ State_twReply_kept
  exact Kept.refl
  exact Kept.refl

theorem execTwError_kept {s : State} : KeptN s (@execTwError s) := by
  unfold execTwError
  try dsimp only
  refine KeptN.mk_ ?_
  refine Kept.ite ?_ ?_
  refine Kept.trans ?_ State_twReply_kept
  exact Kept.refl
  exact Kept.refl

theorem execTwReplyTimeout_kept {tag : Nat} {s : State} : KeptN s (@execTwReplyTimeout tag s) := by
  unfold execTwReplyTimeout
  try dsimp only
  refine KeptN.mk_ ?_
  split
  refine Kept.trans ?_ State_endTw_kept
  exact Kept.refl
  exact Kept.refl

theorem State_trayAccess_kept {s : State} {by_ : TwBy} {rank : Nat} {a : Nat} {len : Nat} {data : Option (List Byte)} : Kept s (@State.trayAccess s by_ rank a len data) := by
  unfold State.trayAccess
  try dsimp only
  refine Kept.ite ?_ ?_
  refine Kept.ite ?_ ?_
  dsimp only [Kept_mk]
  refine Keeps.of ?_ ?_
  exact Kept.refl
  exact Nat.le_refl _
  refine Kept.trans ?_ State_askTw_kept
  dsimp only [Kept_mk]
  refine Keeps.of ?_ ?_
  exact Kept.refl
  exact Nat.le_refl _
  refine Kept.ite ?_ ?_
  dsimp only [Kept_mk]
  refine Keeps.of ?_ ?_
  exact Kept.refl
  exact Nat.le_refl _
  split
  dsimp only [Kept_mk]
  refine Keeps.of ?_ ?_
  refine Kept.trans ?_ State_writePkg_kept
  dsimp only [Kept_mk]
  refine Keeps.of ?_ ?_
  exact Kept.refl
  exact Nat.le_refl _
  exact Nat.le_refl _
  dsimp only [Kept_mk]
  refine Keeps.of ?_ ?_
  refine Kept.trans ?_ (State_readPkg_kept).h
  dsimp only [Kept_mk]
  refine Keeps.of ?_ ?_
  exact Kept.refl
  exact Nat.le_refl _
  exact Nat.le_refl _

theorem State_trayRequest_kept {s : State} {P : Nat} {pepoch : BitVec 8} {by_ : Issuer} {a : Nat} {len : Nat} {data : Option (List Byte)} : Kept s (@State.trayRequest s P pepoch by_ a len data) := by
  unfold State.trayRequest
  try dsimp only
  split
  refine Kept.trans ?_ State_faultCtx_kept
  exact Kept.refl
  refine Kept.trans ?_ State_trayAccess_kept
  exact Kept.refl
  refine Kept.ite ?_ ?_
  refine Kept.trans ?_ State_trayAccess_kept
  exact Kept.refl
  refine Kept.trans ?_ State_reply_kept
  exact Kept.refl

theorem execMemRead_kept {p : BitVec 3} {pepoch : BitVec 8} {by_ : Issuer} {pa : Nat} {len : Nat} {hint : BitVec 2} {lat : Bool} {issued : Time} {errs : List MemErr} {s : State} : KeptN s (@execMemRead p pepoch by_ pa len hint lat issued errs s) := by
  unfold execMemRead
  try dsimp only
  refine KeptN.mk_ ?_
  refine Kept.ite ?_ ?_
  split
  refine Kept.trans ?_ State_reply_kept
  refine Kept.trans ?_ (State_readPkg_kept).h
  exact Kept.refl
  refine Kept.trans ?_ State_memRead_kept
  exact Kept.refl
  refine Kept.ite ?_ ?_
  refine Kept.trans ?_ State_trayRequest_kept
  exact Kept.refl
  refine Kept.trans ?_ State_reply_kept
  exact Kept.refl

theorem execMemWrite_kept {p : BitVec 3} {pepoch : BitVec 8} {by_ : Issuer} {pa : Nat} {hint : BitVec 2} {data : List (Byte × Bool)} {errs : List MemErr} {s : State} : KeptN s (@execMemWrite p pepoch by_ pa hint data errs s) := by
  unfold execMemWrite
  try dsimp only
  refine KeptN.mk_ ?_
  refine Kept.ite ?_ ?_
  split
  refine Kept.ite ?_ ?_
  refine Kept.trans ?_ State_reply_kept
  refine Kept.trans ?_ State_writePkg_kept
  exact Kept.refl
  refine Kept.trans ?_ State_reply_kept
  exact Kept.refl
  refine Kept.trans ?_ State_memWrite_kept
  exact Kept.refl
  refine Kept.ite ?_ ?_
  refine Kept.trans ?_ State_trayRequest_kept
  exact Kept.refl
  refine Kept.trans ?_ State_reply_kept
  exact Kept.refl

theorem State_tdo_kept {s : State} {bits : Nat} : Kept s (@State.tdo s bits) := by
  unfold State.tdo
  try dsimp only
  dsimp only [Kept_mk]
  refine Keeps.of ?_ ?_
  exact Kept.refl
  first | exact Nat.le_refl _ | exact Nat.le_max_left _ _

theorem State_tapLoad_kept {s : State} {ir : TapIr} {holds : Bool} : Kept s (@State.tapLoad s ir holds) := by
  unfold State.tapLoad
  try dsimp only
  dsimp only [Kept_mk]
  refine Keeps.of ?_ ?_
  exact Kept.refl
  first | exact Nat.le_refl _ | exact Nat.le_max_left _ _

theorem State_bypass_kept {s : State} : Kept s (@State.bypass s) := by
  unfold State.bypass
  try dsimp only
  refine Kept.trans ?_ State_tdo_kept
  exact Kept.refl

theorem State_boundary_kept {s : State} {pins : BitVec 15} {shift : BitVec 15} : Kept s (@State.boundary s pins shift) := by
  unfold State.boundary
  try dsimp only
  refine Kept.trans ?_ State_tdo_kept
  dsimp only [Kept_mk]
  refine Keeps.of ?_ ?_
  exact Kept.refl
  first | exact Nat.le_refl _ | exact Nat.le_max_left _ _

theorem execJtagReset_kept {s : State} : KeptN s (@execJtagReset s) := by
  unfold execJtagReset
  try dsimp only
  refine KeptN.mk_ ?_
  refine Kept.trans ?_ State_tapLoad_kept
  exact Kept.refl

theorem execJtagIdcode_kept {s : State} : KeptN s (@execJtagIdcode s) := by
  unfold execJtagIdcode
  try dsimp only
  refine KeptN.mk_ ?_
  refine Kept.trans ?_ State_tdo_kept
  refine Kept.trans ?_ State_tapLoad_kept
  exact Kept.refl

theorem execJtagSamplePreload_kept {pins : BitVec 15} {shift : BitVec 15} {s : State} : KeptN s (@execJtagSamplePreload pins shift s) := by
  unfold execJtagSamplePreload
  try dsimp only
  refine KeptN.mk_ ?_
  refine Kept.trans ?_ State_boundary_kept
  refine Kept.trans ?_ State_tapLoad_kept
  exact Kept.refl

theorem execJtagExtest_kept {pins : BitVec 15} {shift : BitVec 15} {s : State} : KeptN s (@execJtagExtest pins shift s) := by
  unfold execJtagExtest
  try dsimp only
  refine KeptN.mk_ ?_
  refine Kept.ite ?_ ?_
  refine Kept.trans ?_ State_bypass_kept
  refine Kept.trans ?_ State_tapLoad_kept
  exact Kept.refl
  refine Kept.trans ?_ State_boundary_kept
  refine Kept.trans ?_ State_tapLoad_kept
  exact Kept.refl

theorem execJtagClamp_kept {s : State} : KeptN s (@execJtagClamp s) := by
  unfold execJtagClamp
  try dsimp only
  refine KeptN.mk_ ?_
  refine Kept.trans ?_ State_bypass_kept
  refine Kept.trans ?_ State_tapLoad_kept
  exact Kept.refl

theorem execJtagHighz_kept {s : State} : KeptN s (@execJtagHighz s) := by
  unfold execJtagHighz
  try dsimp only
  refine KeptN.mk_ ?_
  refine Kept.trans ?_ State_bypass_kept
  refine Kept.trans ?_ State_tapLoad_kept
  exact Kept.refl

theorem execJtagBypass_kept {s : State} : KeptN s (@execJtagBypass s) := by
  unfold execJtagBypass
  try dsimp only
  refine KeptN.mk_ ?_
  refine Kept.trans ?_ State_bypass_kept
  refine Kept.trans ?_ State_tapLoad_kept
  exact Kept.refl

theorem State_dbgLocal_kept {s : State} {a : Nat} {write : Bool} {v : Sys2Proof.Word} : Kept s (@State.dbgLocal s a write v) := by
  unfold State.dbgLocal
  try dsimp only
  refine Kept.ite ?_ ?_
  refine Kept.trans ?_ State_dbgEnd_kept
  exact Kept.refl
  refine Kept.ite ?_ ?_
  refine Kept.trans ?_ State_dbgEnd_kept
  refine Kept.trans ?_ State_writePkg_kept
  exact Kept.refl
  refine Kept.trans ?_ State_dbgEnd_kept
  refine Kept.trans ?_ (State_readPkg_kept).h
  exact Kept.refl

theorem State_dbgTray_kept {s : State} {slot : Nat} {a : Nat} {write : Bool} {v : Sys2Proof.Word} : Kept s (@State.dbgTray s slot a write v) := by
  unfold State.dbgTray
  try dsimp only
  refine Kept.ite ?_ ?_
  refine Kept.trans ?_ State_dbgEnd_kept
  exact Kept.refl
  refine Kept.trans ?_ State_askTw_kept
  dsimp only [Kept_mk]
  refine Keeps.of ?_ ?_
  exact Kept.refl
  first | exact Nat.le_refl _ | exact Nat.le_max_left _ _

theorem State_dbgAccess_kept {s : State} {dr : BitVec 88} : Kept s (@State.dbgAccess s dr) := by
  unfold State.dbgAccess
  try dsimp only
  refine Kept.ite ?_ ?_
  exact Kept.refl
  refine Kept.ite ?_ ?_
  dsimp only [Kept_mk]
  refine Keeps.of ?_ ?_
  exact Kept.refl
  first | exact Nat.le_refl _ | exact Nat.le_max_left _ _
  refine Kept.ite ?_ ?_
  refine Kept.trans ?_ State_dbgEnd_kept
  exact Kept.refl
  refine Kept.ite ?_ ?_
  refine Kept.trans ?_ State_dbgTray_kept
  exact Kept.refl
  refine Kept.trans ?_ State_dbgLocal_kept
  exact Kept.refl

theorem execDbgacc_kept {dr : BitVec 88} {s : State} : KeptN s (@execDbgacc dr s) := by
  unfold execDbgacc
  try dsimp only
  refine KeptN.mk_ ?_
  refine Kept.ite ?_ ?_
  refine Kept.trans ?_ State_bypass_kept
  refine Kept.trans ?_ State_tapLoad_kept
  exact Kept.refl
  refine Kept.trans ?_ State_dbgAccess_kept
  dsimp only [Kept_mk]
  refine Keeps.of ?_ ?_
  refine Kept.trans ?_ State_tapLoad_kept
  exact Kept.refl
  first | exact Nat.le_refl _ | exact Nat.le_max_left _ _

end Sys2Proof.Laws
end

