-- ==== Sys2Proof/Laws/KeptExec.lean ====
section
/-! SUPPORT. What every command keeps: one case per constructor, each cited from its module's laws. -/
namespace Sys2Proof.Laws
open Sys2Proof Sys2Proof.Machine

/-- Whatever the command, a next state keeps the queue, the canonical memory, the bounds of the event queues and never a lower
security version. -/
theorem exec_kept {c : Instr} {s : State} : KeptN s (exec c s) := by
  cases c with
  | opAdd => exact execOpAdd_kept
  | opSub => exact execOpSub_kept
  | opAnd => exact execOpAnd_kept
  | opOr => exact execOpOr_kept
  | opXor => exact execOpXor_kept
  | opSll => exact execOpSll_kept
  | opSrl => exact execOpSrl_kept
  | opSra => exact execOpSra_kept
  | opMul => exact execOpMul_kept
  | opSlt => exact execOpSlt_kept
  | opSltu => exact execOpSltu_kept
  | opAddi => exact execOpAddi_kept
  | opAndi => exact execOpAndi_kept
  | opOri => exact execOpOri_kept
  | opXori => exact execOpXori_kept
  | opLui => exact execOpLui_kept
  | opSlli => exact execOpSlli_kept
  | opSrli => exact execOpSrli_kept
  | opSrai => exact execOpSrai_kept
  | opLw => exact execOpLw_kept
  | opSw => exact execOpSw_kept
  | opGetp => exact execOpGetp_kept
  | opGets => exact execOpGets_kept
  | opClrf => exact execOpClrf_kept
  | opSetm => exact execOpSetm_kept
  | opBeq => exact execOpBeq_kept
  | opBne => exact execOpBne_kept
  | opBlt => exact execOpBlt_kept
  | opBge => exact execOpBge_kept
  | opBltu => exact execOpBltu_kept
  | opBgeu => exact execOpBgeu_kept
  | opJal => exact execOpJal_kept
  | opJr => exact execOpJr_kept
  | opPwait => exact execOpPwait_kept
  | opPsig => exact execOpPsig_kept
  | opPread => exact execOpPread_kept
  | opEnd => exact execOpEnd_kept
  | mmul => exact execMmul_kept
  | mmulRs => exact execMmulRs_kept
  | mmulAg => exact execMmulAg_kept
  | mmulAr => exact execMmulAr_kept
  | csend => exact execCsend_kept
  | copy => exact execCopy_kept
  | astream => exact execAstream_kept
  | wstream => exact execWstream_kept
  | requant => exact execRequant_kept
  | fill => exact execFill_kept
  | ringOpen => exact execRingOpen_kept
  | ringClose => exact execRingClose_kept
  | ringCloseComplete => exact execRingCloseComplete_kept
  | gather => exact execGather_kept
  | poolAlloc => exact execPoolAlloc_kept
  | poolFree => exact execPoolFree_kept
  | poolGive => exact execPoolGive_kept
  | lineProduce => exact execLineProduce_kept
  | transferComplete => exact execTransferComplete_kept
  | tileStart => exact execTileStart_kept
  | arrayLineRead => exact execArrayLineRead_kept
  | rowDrain => exact execRowDrain_kept
  | tileComplete => exact execTileComplete_kept
  | contextSwitch => exact execContextSwitch_kept
  | heldStartRelease => exact execHeldStartRelease_kept
  | bayLoad => exact execBayLoad_kept
  | bayPatch => exact execBayPatch_kept
  | bayStart => exact execBayStart_kept
  | bayPatchAndStart => exact execBayPatchAndStart_kept
  | bayResume => exact execBayResume_kept
  | bayCmdUndefined => exact execBayCmdUndefined_kept
  | bayCommandDone => exact execBayCommandDone_kept
  | bayCtxPWrite => exact execBayCtxPWrite_kept
  | bayCtxStopatWrite => exact execBayCtxStopatWrite_kept
  | bayCtxPsegWrite => exact execBayCtxPsegWrite_kept
  | coreCtxModeWrite => exact execCoreCtxModeWrite_kept
  | ctxStop => exact execCtxStop_kept
  | ctxReset => exact execCtxReset_kept
  | pegSignalArrive => exact execPegSignalArrive_kept
  | pegPoll => exact execPegPoll_kept
  | pegHostWrite => exact execPegHostWrite_kept
  | pegMessage => exact execPegMessage_kept
  | deadlockFire => exact execDeadlockFire_kept
  | poolReclaim => exact execPoolReclaim_kept
  | poolCfgWrite => exact execPoolCfgWrite_kept
  | memRead => exact execMemRead_kept
  | memWrite => exact execMemWrite_kept
  | memReplyArrive => exact execMemReplyArrive_kept
  | bulkPromote => exact execBulkPromote_kept
  | hbmScrubPass => exact execHbmScrubPass_kept
  | deckScrubPass => exact execDeckScrubPass_kept
  | hbmLatMaxRead => exact execHbmLatMaxRead_kept
  | deckFlush => exact execDeckFlush_kept
  | deckFlushComplete => exact execDeckFlushComplete_kept
  | deckUnkeep => exact execDeckUnkeep_kept
  | trussInstall => exact execTrussInstall_kept
  | trussRetire => exact execTrussRetire_kept
  | colSupply => exact execColSupply_kept
  | colPartial => exact execColPartial_kept
  | colResult => exact execColResult_kept
  | colMaxReply => exact execColMaxReply_kept
  | colExponent => exact execColExponent_kept
  | colSettle => exact execColSettle_kept
  | colRetry => exact execColRetry_kept
  | colGatherData => exact execColGatherData_kept
  | colTimeout => exact execColTimeout_kept
  | joinerCtxInstall => exact execJoinerCtxInstall_kept
  | joinerCtxRetire => exact execJoinerCtxRetire_kept
  | joinerProgLoad => exact execJoinerProgLoad_kept
  | joinerProgFree => exact execJoinerProgFree_kept
  | joinerBlockOffer => exact execJoinerBlockOffer_kept
  | joinerStepLatch => exact execJoinerStepLatch_kept
  | joinerBlockApply => exact execJoinerBlockApply_kept
  | joinerRowApply => exact execJoinerRowApply_kept
  | stateExport => exact execStateExport_kept
  | stateImport => exact execStateImport_kept
  | frameClose => exact execFrameClose_kept
  | dataFrame => exact execDataFrame_kept
  | trayWindowFrame => exact execTrayWindowFrame_kept
  | ackFrame => exact execAckFrame_kept
  | linkControlFrame => exact execLinkControlFrame_kept
  | idleFrame => exact execIdleFrame_kept
  | ackSend => exact execAckSend_kept
  | nakTimeout => exact execNakTimeout_kept
  | frameResendTimeout => exact execFrameResendTimeout_kept
  | flowDormant => exact execFlowDormant_kept
  | portAvoidExpire => exact execPortAvoidExpire_kept
  | nextKeyInstall => exact execNextKeyInstall_kept
  | lumderLaneSwapRequest => exact execLumderLaneSwapRequest_kept
  | lumderLaneSwap => exact execLumderLaneSwap_kept
  | lumderLaneFail => exact execLumderLaneFail_kept
  | portTrainDone => exact execPortTrainDone_kept
  | partnerSilent => exact execPartnerSilent_kept
  | sleepRequest => exact execSleepRequest_kept
  | sleepEnter => exact execSleepEnter_kept
  | wakeTrigger => exact execWakeTrigger_kept
  | fastWakeDone => exact execFastWakeDone_kept
  | wakeToneTimeout => exact execWakeToneTimeout_kept
  | portRetrain => exact execPortRetrain_kept
  | twRead => exact execTwRead_kept
  | twWrite => exact execTwWrite_kept
  | twReadData => exact execTwReadData_kept
  | twWriteDone => exact execTwWriteDone_kept
  | twError => exact execTwError_kept
  | twReplyTimeout => exact execTwReplyTimeout_kept
  | d2dFlitReceive => exact execD2dFlitReceive_kept
  | d2dReplayRequest => exact execD2dReplayRequest_kept
  | d2dLaneSwapRequest => exact execD2dLaneSwapRequest_kept
  | d2dLaneSwap => exact execD2dLaneSwap_kept
  | d2dBundleFail => exact execD2dBundleFail_kept
  | d2dBundleRetrainDone => exact execD2dBundleRetrainDone_kept
  | partitionBuild => exact execPartitionBuild_kept
  | partitionDissolve => exact execPartitionDissolve_kept
  | coreMigrate => exact execCoreMigrate_kept
  | sharesSet => exact execSharesSet_kept
  | vfBind => exact execVfBind_kept
  | vfUnbind => exact execVfUnbind_kept
  | pageMap => exact execPageMap_kept
  | pageUnmap => exact execPageUnmap_kept
  | pageUnmapComplete => exact execPageUnmapComplete_kept
  | vfMaskWrite => exact execVfMaskWrite_kept
  | partitionReset => exact execPartitionReset_kept
  | fenceDeadline => exact execFenceDeadline_kept
  | ctxWatchdog => exact execCtxWatchdog_kept
  | engineWatchdog => exact execEngineWatchdog_kept
  | engineReset => exact execEngineReset_kept
  | resetBudgetExpire => exact execResetBudgetExpire_kept
  | packageReset => exact execPackageReset_kept
  | powerCycleRequest => exact execPowerCycleRequest_kept
  | probePackLoad => exact execProbePackLoad_kept
  | probePackLoadForward => exact execProbePackLoadForward_kept
  | unitProbe => exact execUnitProbe_kept
  | probeWindow => exact execProbeWindow_kept
  | probeBudgetExpire => exact execProbeBudgetExpire_kept
  | coreSubstitute => exact execCoreSubstitute_kept
  | channelSubstitute => exact execChannelSubstitute_kept
  | channelCopyDone => exact execChannelCopyDone_kept
  | controlParityError => exact execControlParityError_kept
  | residueMismatch => exact execResidueMismatch_kept
  | ppsPulse => exact execPpsPulse_kept
  | plumbCorrection => exact execPlumbCorrection_kept
  | ppsHoldover => exact execPpsHoldover_kept
  | plumbLoad => exact execPlumbLoad_kept
  | islandTimeSync => exact execIslandTimeSync_kept
  | snapSchedule => exact execSnapSchedule_kept
  | snapPeriodWrite => exact execSnapPeriodWrite_kept
  | snapshotLatch => exact execSnapshotLatch_kept
  | dumpComplete => exact execDumpComplete_kept
  | governorInterval => exact execGovernorInterval_kept
  | peakCheck => exact execPeakCheck_kept
  | boostStep => exact execBoostStep_kept
  | pointSwitch => exact execPointSwitch_kept
  | thermalInterval => exact execThermalInterval_kept
  | partitionPark => exact execPartitionPark_kept
  | partitionUnpark => exact execPartitionUnpark_kept
  | dieTrip => exact execDieTrip_kept
  | dieTripRestart => exact execDieTripRestart_kept
  | thermalShutdown => exact execThermalShutdown_kept
  | hbmTempPoll => exact execHbmTempPoll_kept
  | pwrCapWrite => exact execPwrCapWrite_kept
  | pwrPartWrite => exact execPwrPartWrite_kept
  | pwrfailFall => exact execPwrfailFall_kept
  | bladeUndervolt => exact execBladeUndervolt_kept
  | bladeCollapse => exact execBladeCollapse_kept
  | pfHoldDone => exact execPfHoldDone_kept
  | pfFlushDone => exact execPfFlushDone_kept
  | rideExpire => exact execRideExpire_kept
  | railsDownDone => exact execRailsDownDone_kept
  | inputReturn => exact execInputReturn_kept
  | coldStart => exact execColdStart_kept
  | bladesInRange => exact execBladesInRange_kept
  | pkgResetAssert => exact execPkgResetAssert_kept
  | bootSequence => exact execBootSequence_kept
  | standbyTakeover => exact execStandbyTakeover_kept
  | lockstepMismatch => exact execLockstepMismatch_kept
  | datetimeReply => exact execDatetimeReply_kept
  | datetimeTimeout => exact execDatetimeTimeout_kept
  | imageWrite => exact execImageWrite_kept
  | firmwareApply => exact execFirmwareApply_kept
  | trialConfirm => exact execTrialConfirm_kept
  | pendingCancel => exact execPendingCancel_kept
  | svnCommit => exact execSvnCommit_kept
  | keyBlobSubmit => exact execKeyBlobSubmit_kept
  | partRootWrite => exact execPartRootWrite_kept
  | maintRequest => exact execMaintRequest_kept
  | maintActivityEnd => exact execMaintActivityEnd_kept
  | maintHoldWrite => exact execMaintHoldWrite_kept
  | apertureAccess => exact execApertureAccess_kept
  | hqTailWrite => exact execHqTailWrite_kept
  | hqHostToPartition => exact execHqHostToPartition_kept
  | hqPartitionToHost => exact execHqPartitionToHost_kept
  | hqDescriptorComplete => exact execHqDescriptorComplete_kept
  | hqHostReadTimeout => exact execHqHostReadTimeout_kept
  | hostLinkUp => exact execHostLinkUp_kept
  | hotReset => exact execHotReset_kept
  | pfFlr => exact execPfFlr_kept
  | vfFlr => exact execVfFlr_kept
  | i3cAddressAssign => exact execI3cAddressAssign_kept
  | i3cRegRead => exact execI3cRegRead_kept
  | i3cRegWrite => exact execI3cRegWrite_kept
  | mctpSetEndpointId => exact execMctpSetEndpointId_kept
  | pldmGetTid => exact execPldmGetTid_kept
  | pldmSetTid => exact execPldmSetTid_kept
  | pldmGetVersion => exact execPldmGetVersion_kept
  | pldmGetTypes => exact execPldmGetTypes_kept
  | pldmGetCommands => exact execPldmGetCommands_kept
  | pldmGetPdr => exact execPldmGetPdr_kept
  | pldmGetSensorReading => exact execPldmGetSensorReading_kept
  | pldmGetEffecter => exact execPldmGetEffecter_kept
  | pldmSetEffecter => exact execPldmSetEffecter_kept
  | pldmSetEventReceiver => exact execPldmSetEventReceiver_kept
  | pldmFruMetadata => exact execPldmFruMetadata_kept
  | pldmFruTable => exact execPldmFruTable_kept
  | pldmUpdateComponent => exact execPldmUpdateComponent_kept
  | pldmActivateFirmware => exact execPldmActivateFirmware_kept
  | pldmFileTransfer => exact execPldmFileTransfer_kept
  | pldmUnsupported => exact execPldmUnsupported_kept
  | spdmVersion => exact execSpdmVersion_kept
  | spdmCertificate => exact execSpdmCertificate_kept
  | spdmChallenge => exact execSpdmChallenge_kept
  | spdmMeasurements => exact execSpdmMeasurements_kept
  | spdmKeyExchange => exact execSpdmKeyExchange_kept
  | spdmHeartbeat => exact execSpdmHeartbeat_kept
  | spdmHeartbeatTimeout => exact execSpdmHeartbeatTimeout_kept
  | spdmKeyUpdate => exact execSpdmKeyUpdate_kept
  | spdmChunk => exact execSpdmChunk_kept
  | eventDeliver => exact execEventDeliver_kept
  | evlogSelect => exact execEvlogSelect_kept
  | logEnable => exact execLogEnable_kept
  | logTailWrite => exact execLogTailWrite_kept
  | counterWrite => exact execCounterWrite_kept
  | counterLoRead => exact execCounterLoRead_kept
  | registerWrite => exact execRegisterWrite_kept
  | debugTokenSubmit => exact execDebugTokenSubmit_kept
  | jtagReset => exact execJtagReset_kept
  | jtagIdcode => exact execJtagIdcode_kept
  | jtagSamplePreload => exact execJtagSamplePreload_kept
  | jtagExtest => exact execJtagExtest_kept
  | jtagClamp => exact execJtagClamp_kept
  | jtagHighz => exact execJtagHighz_kept
  | jtagBypass => exact execJtagBypass_kept
  | dbgacc => exact execDbgacc_kept
  | laneRecordSelect => exact execLaneRecordSelect_kept
  | hbmReadId => exact execHbmReadId_kept
  | hbmReadTemp => exact execHbmReadTemp_kept
  | hbmMbist => exact execHbmMbist_kept
  | hbmLaneRepair => exact execHbmLaneRepair_kept
  | hbmSoftRepair => exact execHbmSoftRepair_kept
  | hbmHardRepair => exact execHbmHardRepair_kept
  | holdBoundExpire => exact execHoldBoundExpire_kept
  | portTrainingDelayExpire => exact execPortTrainingDelayExpire_kept
  | msixVectorMaskWrite => exact execMsixVectorMaskWrite_kept
  | d2dAcknowledgement => exact execD2dAcknowledgement_kept
  | pciePowerStateChange => exact execPciePowerStateChange_kept
  | reservedOpCommand => exact execReservedOpCommand_kept

end Sys2Proof.Laws
end

