-- ==== Sys2Proof/Laws/State.lean ====
section
/-! SUPPORT. The updates of State: what each leaves, field by field, and what a read gives after a write. -/
namespace Sys2Proof.Laws
open Sys2Proof Sys2Proof.Machine

/-! ### Maps -/

@[simp] theorem aget_aset_self {κ α : Type} [DecidableEq κ] (l : List (κ × α)) (k : κ) (v : α) : aget (aset l k v) k = some v := by
  induction l with
  | nil => simp [aset, aget]
  | cons x r ih =>
    obtain ⟨k', v'⟩ := x
    by_cases h : k' = k <;> simp [aset, aget, h, ih]

theorem aget_aset_ne {κ α : Type} [DecidableEq κ] (l : List (κ × α)) {k j : κ} (v : α) (h : j ≠ k) :
    aget (aset l k v) j = aget l j := by
  induction l with
  | nil => simp [aset, aget, Ne.symm h]
  | cons x r ih =>
    obtain ⟨k', v'⟩ := x
    by_cases hk : k' = k
    · subst hk; simp [aset, aget, Ne.symm h]
    · by_cases hj : k' = j
      · subst hj; simp [aset, aget, hk]
      · simp [aset, aget, hk, hj, ih]

@[simp] theorem aget_adel_self {κ α : Type} [DecidableEq κ] (l : List (κ × α)) (k : κ) : aget (adel l k) k = none := by
  induction l with
  | nil => rfl
  | cons x r ih =>
    obtain ⟨k', v'⟩ := x
    by_cases h : k' = k
    · subst h; simpa [adel, aget] using ih
    · simpa [adel, aget, h] using ih

theorem aget_adel_ne {κ α : Type} [DecidableEq κ] (l : List (κ × α)) {k j : κ} (h : j ≠ k) : aget (adel l k) j = aget l j := by
  induction l with
  | nil => rfl
  | cons x r ih =>
    obtain ⟨k', v'⟩ := x
    by_cases hk : k' = k
    · subst hk; simpa [adel, aget, Ne.symm h] using ih
    · by_cases hj : k' = j
      · subst hj; simp [adel, aget, hk]
      · simpa [adel, aget, hk, hj] using ih

theorem vget_set_self {α : Type} {n i : Nat} (v : Vector α n) (x d : α) (h : i < n) : (v.setIfInBounds i x).getD i d = x := by
  simp [Vector.getD, h]

theorem vget_set_ne {α : Type} {n i j : Nat} (v : Vector α n) (x d : α) (h : i ≠ j) : (v.setIfInBounds i x).getD j d = v.getD j d := by
  simp [Vector.getD, h]

/-! ### A read after a write -/

@[simp] theorem State_setReg_reg (s : State) (k : RKey) (w : Word) : (s.setReg k w).reg k = w := by simp [State.setReg, State.reg]
theorem State_setReg_reg_ne (s : State) {k j : RKey} (w : Word) (h : j ≠ k) : (s.setReg k w).reg j = s.reg j := by
  simp [State.setReg, State.reg, aget_aset_ne _ _ h]
@[simp] theorem State_setCore_core (s : State) (c : Nat) (k : Core) : (s.setCore c k).core c = k := by simp [State.setCore, State.core]
theorem State_setCore_core_ne (s : State) {c d : Nat} (k : Core) (h : d ≠ c) : (s.setCore c k).core d = s.core d := by
  simp [State.setCore, State.core, aget_aset_ne _ _ h]
@[simp] theorem State_setVf_vf (s : State) (v : Nat) (f : Vf) : (s.setVf v f).vf v = f := by simp [State.setVf, State.vf]
theorem State_setVf_vf_ne (s : State) {v w : Nat} (f : Vf) (h : w ≠ v) : (s.setVf v f).vf w = s.vf w := by
  simp [State.setVf, State.vf, aget_aset_ne _ _ h]
@[simp] theorem State_setPart_part (s : State) {p : Nat} (q : Part) (h : p < 8) : (s.setPart p q).part p = q := by
  simp [State.setPart, State.part, vget_set_self _ _ _ h]
theorem State_setPart_part_ne (s : State) {p r : Nat} (q : Part) (h : p ≠ r) : (s.setPart p q).part r = s.part r := by
  simp [State.setPart, State.part, vget_set_ne _ _ _ h]
@[simp] theorem State_setPort_port (s : State) {n : Nat} (q : Port) (h : n < 8) : (s.setPort n q).port n = q := by
  simp [State.setPort, State.port, vget_set_self _ _ _ h]
theorem State_setPort_port_ne (s : State) {n m : Nat} (q : Port) (h : n ≠ m) : (s.setPort n q).port m = s.port m := by
  simp [State.setPort, State.port, vget_set_ne _ _ _ h]
@[simp] theorem State_setPool_pool (s : State) (d q : Nat) (v : Pool) : (s.setPool d q v).pool d q = v := by
  simp [State.setPool, State.pool]
@[simp] theorem State_setSflow_sflow (s : State) (k : FlowKey) (f : SFlow) : (s.setSflow k f).sflow k = f := by
  simp [State.setSflow, State.sflow]
@[simp] theorem State_setTruss_trussAt (s : State) (p i : Nat) (t : Truss) : (s.setTruss p i t).trussAt p i = some t := by
  simp [State.setTruss, State.trussAt]
@[simp] theorem State_setCtx_ctx (s : State) (c : Nat) {x : Nat} (v : Ctx) (h : x < 4) : (s.setCtx c x v).ctx c x = v := by
  simp [State.setCtx, State.ctx, Core.setCtx, vget_set_self _ _ _ h]
theorem State_setCtx_ctx_ne (s : State) {c x a b : Nat} (v : Ctx) (h : (a, b) ≠ (c, x)) : (s.setCtx c x v).ctx a b = s.ctx a b := by
  by_cases ha : a = c
  · subst ha
    have hb : x ≠ b := fun e => h (e ▸ rfl)
    simp [State.setCtx, State.ctx, Core.setCtx, vget_set_ne _ _ _ hb]
  · simp [State.setCtx, State.ctx, State_setCore_core_ne _ _ ha]

/-! ### The fields an update leaves -/

@[simp] theorem State_setReg_pending (s : State) (k : RKey) (w : Word) : (s.setReg k w).pending = s.pending := rfl
@[simp] theorem State_setReg_plumb (s : State) (k : RKey) (w : Word) : (s.setReg k w).plumb = s.plumb := rfl
@[simp] theorem State_setReg_isle (s : State) (k : RKey) (w : Word) : (s.setReg k w).isle = s.isle := rfl
@[simp] theorem State_setReg_draws (s : State) (k : RKey) (w : Word) : (s.setReg k w).draws = s.draws := rfl
@[simp] theorem State_setReg_mem (s : State) (k : RKey) (w : Word) : (s.setReg k w).mem = s.mem := rfl
@[simp] theorem State_setReg_poison (s : State) (k : RKey) (w : Word) : (s.setReg k w).poison = s.poison := rfl
@[simp] theorem State_setReg_starts (s : State) (k : RKey) (w : Word) : (s.setReg k w).starts = s.starts := rfl
@[simp] theorem State_setReg_configured (s : State) (k : RKey) (w : Word) : (s.setReg k w).configured = s.configured := rfl
@[simp] theorem State_setReg_classes (s : State) (k : RKey) (w : Word) : (s.setReg k w).classes = s.classes := rfl
@[simp] theorem State_setReg_cores (s : State) (k : RKey) (w : Word) : (s.setReg k w).cores = s.cores := rfl
@[simp] theorem State_setReg_xfers (s : State) (k : RKey) (w : Word) : (s.setReg k w).xfers = s.xfers := rfl
@[simp] theorem State_setReg_sends (s : State) (k : RKey) (w : Word) : (s.setReg k w).sends = s.sends := rfl
@[simp] theorem State_setReg_supplies (s : State) (k : RKey) (w : Word) : (s.setReg k w).supplies = s.supplies := rfl
@[simp] theorem State_setReg_ags (s : State) (k : RKey) (w : Word) : (s.setReg k w).ags = s.ags := rfl
@[simp] theorem State_setReg_trusses (s : State) (k : RKey) (w : Word) : (s.setReg k w).trusses = s.trusses := rfl
@[simp] theorem State_setReg_colrecs (s : State) (k : RKey) (w : Word) : (s.setReg k w).colrecs = s.colrecs := rfl
@[simp] theorem State_setReg_jctxs (s : State) (k : RKey) (w : Word) : (s.setReg k w).jctxs = s.jctxs := rfl
@[simp] theorem State_setReg_jprogs (s : State) (k : RKey) (w : Word) : (s.setReg k w).jprogs = s.jprogs := rfl
@[simp] theorem State_setReg_nextId (s : State) (k : RKey) (w : Word) : (s.setReg k w).nextId = s.nextId := rfl
@[simp] theorem State_setReg_waiters (s : State) (k : RKey) (w : Word) : (s.setReg k w).waiters = s.waiters := rfl
@[simp] theorem State_setReg_signals (s : State) (k : RKey) (w : Word) : (s.setReg k w).signals = s.signals := rfl
@[simp] theorem State_setReg_badPegs (s : State) (k : RKey) (w : Word) : (s.setReg k w).badPegs = s.badPegs := rfl
@[simp] theorem State_setReg_pools (s : State) (k : RKey) (w : Word) : (s.setReg k w).pools = s.pools := rfl
@[simp] theorem State_setReg_deck (s : State) (k : RKey) (w : Word) : (s.setReg k w).deck = s.deck := rfl
@[simp] theorem State_setReg_bays (s : State) (k : RKey) (w : Word) : (s.setReg k w).bays = s.bays := rfl
@[simp] theorem State_setReg_replies (s : State) (k : RKey) (w : Word) : (s.setReg k w).replies = s.replies := rfl
@[simp] theorem State_setReg_taken (s : State) (k : RKey) (w : Word) : (s.setReg k w).taken = s.taken := rfl
@[simp] theorem State_setReg_chanErr (s : State) (k : RKey) (w : Word) : (s.setReg k w).chanErr = s.chanErr := rfl
@[simp] theorem State_setReg_lastRead (s : State) (k : RKey) (w : Word) : (s.setReg k w).lastRead = s.lastRead := rfl
@[simp] theorem State_setReg_parts (s : State) (k : RKey) (w : Word) : (s.setReg k w).parts = s.parts := rfl
@[simp] theorem State_setReg_vfs (s : State) (k : RKey) (w : Word) : (s.setReg k w).vfs = s.vfs := rfl
@[simp] theorem State_setReg_evq (s : State) (k : RKey) (w : Word) : (s.setReg k w).evq = s.evq := rfl
@[simp] theorem State_setReg_evDrop (s : State) (k : RKey) (w : Word) : (s.setReg k w).evDrop = s.evDrop := rfl
@[simp] theorem State_setReg_suspects (s : State) (k : RKey) (w : Word) : (s.setReg k w).suspects = s.suspects := rfl
@[simp] theorem State_setReg_retired (s : State) (k : RKey) (w : Word) : (s.setReg k w).retired = s.retired := rfl
@[simp] theorem State_setReg_inspects (s : State) (k : RKey) (w : Word) : (s.setReg k w).inspects = s.inspects := rfl
@[simp] theorem State_setReg_pkgRecord (s : State) (k : RKey) (w : Word) : (s.setReg k w).pkgRecord = s.pkgRecord := rfl
@[simp] theorem State_setReg_engEpoch (s : State) (k : RKey) (w : Word) : (s.setReg k w).engEpoch = s.engEpoch := rfl
@[simp] theorem State_setReg_orders (s : State) (k : RKey) (w : Word) : (s.setReg k w).orders = s.orders := rfl
@[simp] theorem State_setReg_pendingSub (s : State) (k : RKey) (w : Word) : (s.setReg k w).pendingSub = s.pendingSub := rfl
@[simp] theorem State_setReg_resTimes (s : State) (k : RKey) (w : Word) : (s.setReg k w).resTimes = s.resTimes := rfl
@[simp] theorem State_setReg_latches (s : State) (k : RKey) (w : Word) : (s.setReg k w).latches = s.latches := rfl
@[simp] theorem State_setReg_msgs (s : State) (k : RKey) (w : Word) : (s.setReg k w).msgs = s.msgs := rfl
@[simp] theorem State_setReg_ports (s : State) (k : RKey) (w : Word) : (s.setReg k w).ports = s.ports := rfl
@[simp] theorem State_setReg_sflows (s : State) (k : RKey) (w : Word) : (s.setReg k w).sflows = s.sflows := rfl
@[simp] theorem State_setReg_rflows (s : State) (k : RKey) (w : Word) : (s.setReg k w).rflows = s.rflows := rfl
@[simp] theorem State_setReg_replay (s : State) (k : RKey) (w : Word) : (s.setReg k w).replay = s.replay := rfl
@[simp] theorem State_setReg_avoid (s : State) (k : RKey) (w : Word) : (s.setReg k w).avoid = s.avoid := rfl
@[simp] theorem State_setReg_pegMsgs (s : State) (k : RKey) (w : Word) : (s.setReg k w).pegMsgs = s.pegMsgs := rfl
@[simp] theorem State_setReg_twIn (s : State) (k : RKey) (w : Word) : (s.setReg k w).twIn = s.twIn := rfl
@[simp] theorem State_setReg_twOut (s : State) (k : RKey) (w : Word) : (s.setReg k w).twOut = s.twOut := rfl
@[simp] theorem State_setReg_twDone (s : State) (k : RKey) (w : Word) : (s.setReg k w).twDone = s.twDone := rfl
@[simp] theorem State_setReg_keys (s : State) (k : RKey) (w : Word) : (s.setReg k w).keys = s.keys := rfl
@[simp] theorem State_setReg_keySwitch (s : State) (k : RKey) (w : Word) : (s.setReg k w).keySwitch = s.keySwitch := rfl
@[simp] theorem State_setReg_trayIdx (s : State) (k : RKey) (w : Word) : (s.setReg k w).trayIdx = s.trayIdx := rfl
@[simp] theorem State_setReg_links (s : State) (k : RKey) (w : Word) : (s.setReg k w).links = s.links := rfl
@[simp] theorem State_setReg_pkgFence (s : State) (k : RKey) (w : Word) : (s.setReg k w).pkgFence = s.pkgFence := rfl
@[simp] theorem State_setReg_pldmRecv (s : State) (k : RKey) (w : Word) : (s.setReg k w).pldmRecv = s.pldmRecv := rfl
@[simp] theorem State_setReg_pldmQueue (s : State) (k : RKey) (w : Word) : (s.setReg k w).pldmQueue = s.pldmQueue := rfl
@[simp] theorem State_setReg_maintRun (s : State) (k : RKey) (w : Word) : (s.setReg k w).maintRun = s.maintRun := rfl
@[simp] theorem State_setReg_maintQueue (s : State) (k : RKey) (w : Word) : (s.setReg k w).maintQueue = s.maintQueue := rfl
@[simp] theorem State_setReg_trayGen (s : State) (k : RKey) (w : Word) : (s.setReg k w).trayGen = s.trayGen := rfl
@[simp] theorem State_setReg_pkg (s : State) (k : RKey) (w : Word) : (s.setReg k w).pkg = s.pkg := rfl
@[simp] theorem State_setReg_resetPin (s : State) (k : RKey) (w : Word) : (s.setReg k w).resetPin = s.resetPin := rfl
@[simp] theorem State_setReg_worked (s : State) (k : RKey) (w : Word) : (s.setReg k w).worked = s.worked := rfl
@[simp] theorem State_setReg_power (s : State) (k : RKey) (w : Word) : (s.setReg k w).power = s.power := rfl
@[simp] theorem State_setReg_flash (s : State) (k : RKey) (w : Word) : (s.setReg k w).flash = s.flash := rfl
@[simp] theorem State_setReg_boot (s : State) (k : RKey) (w : Word) : (s.setReg k w).boot = s.boot := rfl
@[simp] theorem State_setReg_probePack (s : State) (k : RKey) (w : Word) : (s.setReg k w).probePack = s.probePack := rfl
@[simp] theorem State_setReg_unitProbed (s : State) (k : RKey) (w : Word) : (s.setReg k w).unitProbed = s.unitProbed := rfl
@[simp] theorem State_setReg_copies (s : State) (k : RKey) (w : Word) : (s.setReg k w).copies = s.copies := rfl
@[simp] theorem State_setReg_snapAt (s : State) (k : RKey) (w : Word) : (s.setReg k w).snapAt = s.snapAt := rfl
@[simp] theorem State_setReg_snapWelyar (s : State) (k : RKey) (w : Word) : (s.setReg k w).snapWelyar = s.snapWelyar := rfl
@[simp] theorem State_setReg_shadow (s : State) (k : RKey) (w : Word) : (s.setReg k w).shadow = s.shadow := rfl
@[simp] theorem State_setReg_evlog (s : State) (k : RKey) (w : Word) : (s.setReg k w).evlog = s.evlog := rfl
@[simp] theorem State_setReg_evMarks (s : State) (k : RKey) (w : Word) : (s.setReg k w).evMarks = s.evMarks := rfl
@[simp] theorem State_setReg_sessions (s : State) (k : RKey) (w : Word) : (s.setReg k w).sessions = s.sessions := rfl
@[simp] theorem State_setReg_tokens (s : State) (k : RKey) (w : Word) : (s.setReg k w).tokens = s.tokens := rfl
@[simp] theorem State_setReg_tid (s : State) (k : RKey) (w : Word) : (s.setReg k w).tid = s.tid := rfl
@[simp] theorem State_setReg_tap (s : State) (k : RKey) (w : Word) : (s.setReg k w).tap = s.tap := rfl
@[simp] theorem State_setReg_repairs (s : State) (k : RKey) (w : Word) : (s.setReg k w).repairs = s.repairs := rfl
@[simp] theorem State_setReg_zeroed (s : State) (k : RKey) (w : Word) : (s.setReg k w).zeroed = s.zeroed := rfl
@[simp] theorem State_setReg_spinePos (s : State) (k : RKey) (w : Word) : (s.setReg k w).spinePos = s.spinePos := rfl
@[simp] theorem State_setReg_suspectT (s : State) (k : RKey) (w : Word) : (s.setReg k w).suspectT = s.suspectT := rfl
@[simp] theorem State_setReg_bentCyc (s : State) (k : RKey) (w : Word) : (s.setReg k w).bentCyc = s.bentCyc := rfl
@[simp] theorem State_setReg_isleHold (s : State) (k : RKey) (w : Word) : (s.setReg k w).isleHold = s.isleHold := rfl
@[simp] theorem State_setReg_mesh (s : State) (k : RKey) (w : Word) : (s.setReg k w).mesh = s.mesh := rfl
@[simp] theorem State_setReg_pwrOk (s : State) (k : RKey) (w : Word) : (s.setReg k w).pwrOk = s.pwrOk := rfl
@[simp] theorem State_setReg_thermtripN (s : State) (k : RKey) (w : Word) : (s.setReg k w).thermtripN = s.thermtripN := rfl
@[simp] theorem State_setReg_cyc (s : State) (k : RKey) (w : Word) : (s.setReg k w).cyc = s.cyc := rfl
@[simp] theorem State_setFld_pending (s : State) (k : RKey) (hi lo v : Nat) : (s.setFld k hi lo v).pending = s.pending := rfl
@[simp] theorem State_setFld_plumb (s : State) (k : RKey) (hi lo v : Nat) : (s.setFld k hi lo v).plumb = s.plumb := rfl
@[simp] theorem State_setFld_isle (s : State) (k : RKey) (hi lo v : Nat) : (s.setFld k hi lo v).isle = s.isle := rfl
@[simp] theorem State_setFld_draws (s : State) (k : RKey) (hi lo v : Nat) : (s.setFld k hi lo v).draws = s.draws := rfl
@[simp] theorem State_setFld_mem (s : State) (k : RKey) (hi lo v : Nat) : (s.setFld k hi lo v).mem = s.mem := rfl
@[simp] theorem State_setFld_poison (s : State) (k : RKey) (hi lo v : Nat) : (s.setFld k hi lo v).poison = s.poison := rfl
@[simp] theorem State_setFld_starts (s : State) (k : RKey) (hi lo v : Nat) : (s.setFld k hi lo v).starts = s.starts := rfl
@[simp] theorem State_setFld_configured (s : State) (k : RKey) (hi lo v : Nat) : (s.setFld k hi lo v).configured = s.configured := rfl
@[simp] theorem State_setFld_classes (s : State) (k : RKey) (hi lo v : Nat) : (s.setFld k hi lo v).classes = s.classes := rfl
@[simp] theorem State_setFld_cores (s : State) (k : RKey) (hi lo v : Nat) : (s.setFld k hi lo v).cores = s.cores := rfl
@[simp] theorem State_setFld_xfers (s : State) (k : RKey) (hi lo v : Nat) : (s.setFld k hi lo v).xfers = s.xfers := rfl
@[simp] theorem State_setFld_sends (s : State) (k : RKey) (hi lo v : Nat) : (s.setFld k hi lo v).sends = s.sends := rfl
@[simp] theorem State_setFld_supplies (s : State) (k : RKey) (hi lo v : Nat) : (s.setFld k hi lo v).supplies = s.supplies := rfl
@[simp] theorem State_setFld_ags (s : State) (k : RKey) (hi lo v : Nat) : (s.setFld k hi lo v).ags = s.ags := rfl
@[simp] theorem State_setFld_trusses (s : State) (k : RKey) (hi lo v : Nat) : (s.setFld k hi lo v).trusses = s.trusses := rfl
@[simp] theorem State_setFld_colrecs (s : State) (k : RKey) (hi lo v : Nat) : (s.setFld k hi lo v).colrecs = s.colrecs := rfl
@[simp] theorem State_setFld_jctxs (s : State) (k : RKey) (hi lo v : Nat) : (s.setFld k hi lo v).jctxs = s.jctxs := rfl
@[simp] theorem State_setFld_jprogs (s : State) (k : RKey) (hi lo v : Nat) : (s.setFld k hi lo v).jprogs = s.jprogs := rfl
@[simp] theorem State_setFld_nextId (s : State) (k : RKey) (hi lo v : Nat) : (s.setFld k hi lo v).nextId = s.nextId := rfl
@[simp] theorem State_setFld_waiters (s : State) (k : RKey) (hi lo v : Nat) : (s.setFld k hi lo v).waiters = s.waiters := rfl
@[simp] theorem State_setFld_signals (s : State) (k : RKey) (hi lo v : Nat) : (s.setFld k hi lo v).signals = s.signals := rfl
@[simp] theorem State_setFld_badPegs (s : State) (k : RKey) (hi lo v : Nat) : (s.setFld k hi lo v).badPegs = s.badPegs := rfl
@[simp] theorem State_setFld_pools (s : State) (k : RKey) (hi lo v : Nat) : (s.setFld k hi lo v).pools = s.pools := rfl
@[simp] theorem State_setFld_deck (s : State) (k : RKey) (hi lo v : Nat) : (s.setFld k hi lo v).deck = s.deck := rfl
@[simp] theorem State_setFld_bays (s : State) (k : RKey) (hi lo v : Nat) : (s.setFld k hi lo v).bays = s.bays := rfl
@[simp] theorem State_setFld_replies (s : State) (k : RKey) (hi lo v : Nat) : (s.setFld k hi lo v).replies = s.replies := rfl
@[simp] theorem State_setFld_taken (s : State) (k : RKey) (hi lo v : Nat) : (s.setFld k hi lo v).taken = s.taken := rfl
@[simp] theorem State_setFld_chanErr (s : State) (k : RKey) (hi lo v : Nat) : (s.setFld k hi lo v).chanErr = s.chanErr := rfl
@[simp] theorem State_setFld_lastRead (s : State) (k : RKey) (hi lo v : Nat) : (s.setFld k hi lo v).lastRead = s.lastRead := rfl
@[simp] theorem State_setFld_parts (s : State) (k : RKey) (hi lo v : Nat) : (s.setFld k hi lo v).parts = s.parts := rfl
@[simp] theorem State_setFld_vfs (s : State) (k : RKey) (hi lo v : Nat) : (s.setFld k hi lo v).vfs = s.vfs := rfl
@[simp] theorem State_setFld_evq (s : State) (k : RKey) (hi lo v : Nat) : (s.setFld k hi lo v).evq = s.evq := rfl
@[simp] theorem State_setFld_evDrop (s : State) (k : RKey) (hi lo v : Nat) : (s.setFld k hi lo v).evDrop = s.evDrop := rfl
@[simp] theorem State_setFld_suspects (s : State) (k : RKey) (hi lo v : Nat) : (s.setFld k hi lo v).suspects = s.suspects := rfl
@[simp] theorem State_setFld_retired (s : State) (k : RKey) (hi lo v : Nat) : (s.setFld k hi lo v).retired = s.retired := rfl
@[simp] theorem State_setFld_inspects (s : State) (k : RKey) (hi lo v : Nat) : (s.setFld k hi lo v).inspects = s.inspects := rfl
@[simp] theorem State_setFld_pkgRecord (s : State) (k : RKey) (hi lo v : Nat) : (s.setFld k hi lo v).pkgRecord = s.pkgRecord := rfl
@[simp] theorem State_setFld_engEpoch (s : State) (k : RKey) (hi lo v : Nat) : (s.setFld k hi lo v).engEpoch = s.engEpoch := rfl
@[simp] theorem State_setFld_orders (s : State) (k : RKey) (hi lo v : Nat) : (s.setFld k hi lo v).orders = s.orders := rfl
@[simp] theorem State_setFld_pendingSub (s : State) (k : RKey) (hi lo v : Nat) : (s.setFld k hi lo v).pendingSub = s.pendingSub := rfl
@[simp] theorem State_setFld_resTimes (s : State) (k : RKey) (hi lo v : Nat) : (s.setFld k hi lo v).resTimes = s.resTimes := rfl
@[simp] theorem State_setFld_latches (s : State) (k : RKey) (hi lo v : Nat) : (s.setFld k hi lo v).latches = s.latches := rfl
@[simp] theorem State_setFld_msgs (s : State) (k : RKey) (hi lo v : Nat) : (s.setFld k hi lo v).msgs = s.msgs := rfl
@[simp] theorem State_setFld_ports (s : State) (k : RKey) (hi lo v : Nat) : (s.setFld k hi lo v).ports = s.ports := rfl
@[simp] theorem State_setFld_sflows (s : State) (k : RKey) (hi lo v : Nat) : (s.setFld k hi lo v).sflows = s.sflows := rfl
@[simp] theorem State_setFld_rflows (s : State) (k : RKey) (hi lo v : Nat) : (s.setFld k hi lo v).rflows = s.rflows := rfl
@[simp] theorem State_setFld_replay (s : State) (k : RKey) (hi lo v : Nat) : (s.setFld k hi lo v).replay = s.replay := rfl
@[simp] theorem State_setFld_avoid (s : State) (k : RKey) (hi lo v : Nat) : (s.setFld k hi lo v).avoid = s.avoid := rfl
@[simp] theorem State_setFld_pegMsgs (s : State) (k : RKey) (hi lo v : Nat) : (s.setFld k hi lo v).pegMsgs = s.pegMsgs := rfl
@[simp] theorem State_setFld_twIn (s : State) (k : RKey) (hi lo v : Nat) : (s.setFld k hi lo v).twIn = s.twIn := rfl
@[simp] theorem State_setFld_twOut (s : State) (k : RKey) (hi lo v : Nat) : (s.setFld k hi lo v).twOut = s.twOut := rfl
@[simp] theorem State_setFld_twDone (s : State) (k : RKey) (hi lo v : Nat) : (s.setFld k hi lo v).twDone = s.twDone := rfl
@[simp] theorem State_setFld_keys (s : State) (k : RKey) (hi lo v : Nat) : (s.setFld k hi lo v).keys = s.keys := rfl
@[simp] theorem State_setFld_keySwitch (s : State) (k : RKey) (hi lo v : Nat) : (s.setFld k hi lo v).keySwitch = s.keySwitch := rfl
@[simp] theorem State_setFld_trayIdx (s : State) (k : RKey) (hi lo v : Nat) : (s.setFld k hi lo v).trayIdx = s.trayIdx := rfl
@[simp] theorem State_setFld_links (s : State) (k : RKey) (hi lo v : Nat) : (s.setFld k hi lo v).links = s.links := rfl
@[simp] theorem State_setFld_pkgFence (s : State) (k : RKey) (hi lo v : Nat) : (s.setFld k hi lo v).pkgFence = s.pkgFence := rfl
@[simp] theorem State_setFld_pldmRecv (s : State) (k : RKey) (hi lo v : Nat) : (s.setFld k hi lo v).pldmRecv = s.pldmRecv := rfl
@[simp] theorem State_setFld_pldmQueue (s : State) (k : RKey) (hi lo v : Nat) : (s.setFld k hi lo v).pldmQueue = s.pldmQueue := rfl
@[simp] theorem State_setFld_maintRun (s : State) (k : RKey) (hi lo v : Nat) : (s.setFld k hi lo v).maintRun = s.maintRun := rfl
@[simp] theorem State_setFld_maintQueue (s : State) (k : RKey) (hi lo v : Nat) : (s.setFld k hi lo v).maintQueue = s.maintQueue := rfl
@[simp] theorem State_setFld_trayGen (s : State) (k : RKey) (hi lo v : Nat) : (s.setFld k hi lo v).trayGen = s.trayGen := rfl
@[simp] theorem State_setFld_pkg (s : State) (k : RKey) (hi lo v : Nat) : (s.setFld k hi lo v).pkg = s.pkg := rfl
@[simp] theorem State_setFld_resetPin (s : State) (k : RKey) (hi lo v : Nat) : (s.setFld k hi lo v).resetPin = s.resetPin := rfl
@[simp] theorem State_setFld_worked (s : State) (k : RKey) (hi lo v : Nat) : (s.setFld k hi lo v).worked = s.worked := rfl
@[simp] theorem State_setFld_power (s : State) (k : RKey) (hi lo v : Nat) : (s.setFld k hi lo v).power = s.power := rfl
@[simp] theorem State_setFld_flash (s : State) (k : RKey) (hi lo v : Nat) : (s.setFld k hi lo v).flash = s.flash := rfl
@[simp] theorem State_setFld_boot (s : State) (k : RKey) (hi lo v : Nat) : (s.setFld k hi lo v).boot = s.boot := rfl
@[simp] theorem State_setFld_probePack (s : State) (k : RKey) (hi lo v : Nat) : (s.setFld k hi lo v).probePack = s.probePack := rfl
@[simp] theorem State_setFld_unitProbed (s : State) (k : RKey) (hi lo v : Nat) : (s.setFld k hi lo v).unitProbed = s.unitProbed := rfl
@[simp] theorem State_setFld_copies (s : State) (k : RKey) (hi lo v : Nat) : (s.setFld k hi lo v).copies = s.copies := rfl
@[simp] theorem State_setFld_snapAt (s : State) (k : RKey) (hi lo v : Nat) : (s.setFld k hi lo v).snapAt = s.snapAt := rfl
@[simp] theorem State_setFld_snapWelyar (s : State) (k : RKey) (hi lo v : Nat) : (s.setFld k hi lo v).snapWelyar = s.snapWelyar := rfl
@[simp] theorem State_setFld_shadow (s : State) (k : RKey) (hi lo v : Nat) : (s.setFld k hi lo v).shadow = s.shadow := rfl
@[simp] theorem State_setFld_evlog (s : State) (k : RKey) (hi lo v : Nat) : (s.setFld k hi lo v).evlog = s.evlog := rfl
@[simp] theorem State_setFld_evMarks (s : State) (k : RKey) (hi lo v : Nat) : (s.setFld k hi lo v).evMarks = s.evMarks := rfl
@[simp] theorem State_setFld_sessions (s : State) (k : RKey) (hi lo v : Nat) : (s.setFld k hi lo v).sessions = s.sessions := rfl
@[simp] theorem State_setFld_tokens (s : State) (k : RKey) (hi lo v : Nat) : (s.setFld k hi lo v).tokens = s.tokens := rfl
@[simp] theorem State_setFld_tid (s : State) (k : RKey) (hi lo v : Nat) : (s.setFld k hi lo v).tid = s.tid := rfl
@[simp] theorem State_setFld_tap (s : State) (k : RKey) (hi lo v : Nat) : (s.setFld k hi lo v).tap = s.tap := rfl
@[simp] theorem State_setFld_repairs (s : State) (k : RKey) (hi lo v : Nat) : (s.setFld k hi lo v).repairs = s.repairs := rfl
@[simp] theorem State_setFld_zeroed (s : State) (k : RKey) (hi lo v : Nat) : (s.setFld k hi lo v).zeroed = s.zeroed := rfl
@[simp] theorem State_setFld_spinePos (s : State) (k : RKey) (hi lo v : Nat) : (s.setFld k hi lo v).spinePos = s.spinePos := rfl
@[simp] theorem State_setFld_suspectT (s : State) (k : RKey) (hi lo v : Nat) : (s.setFld k hi lo v).suspectT = s.suspectT := rfl
@[simp] theorem State_setFld_bentCyc (s : State) (k : RKey) (hi lo v : Nat) : (s.setFld k hi lo v).bentCyc = s.bentCyc := rfl
@[simp] theorem State_setFld_isleHold (s : State) (k : RKey) (hi lo v : Nat) : (s.setFld k hi lo v).isleHold = s.isleHold := rfl
@[simp] theorem State_setFld_mesh (s : State) (k : RKey) (hi lo v : Nat) : (s.setFld k hi lo v).mesh = s.mesh := rfl
@[simp] theorem State_setFld_pwrOk (s : State) (k : RKey) (hi lo v : Nat) : (s.setFld k hi lo v).pwrOk = s.pwrOk := rfl
@[simp] theorem State_setFld_thermtripN (s : State) (k : RKey) (hi lo v : Nat) : (s.setFld k hi lo v).thermtripN = s.thermtripN := rfl
@[simp] theorem State_setFld_cyc (s : State) (k : RKey) (hi lo v : Nat) : (s.setFld k hi lo v).cyc = s.cyc := rfl
@[simp] theorem State_count_pending (s : State) (r : Reg) (u n : Nat) : (s.count r u n).pending = s.pending := rfl
@[simp] theorem State_count_plumb (s : State) (r : Reg) (u n : Nat) : (s.count r u n).plumb = s.plumb := rfl
@[simp] theorem State_count_isle (s : State) (r : Reg) (u n : Nat) : (s.count r u n).isle = s.isle := rfl
@[simp] theorem State_count_draws (s : State) (r : Reg) (u n : Nat) : (s.count r u n).draws = s.draws := rfl
@[simp] theorem State_count_mem (s : State) (r : Reg) (u n : Nat) : (s.count r u n).mem = s.mem := rfl
@[simp] theorem State_count_poison (s : State) (r : Reg) (u n : Nat) : (s.count r u n).poison = s.poison := rfl
@[simp] theorem State_count_starts (s : State) (r : Reg) (u n : Nat) : (s.count r u n).starts = s.starts := rfl
@[simp] theorem State_count_configured (s : State) (r : Reg) (u n : Nat) : (s.count r u n).configured = s.configured := rfl
@[simp] theorem State_count_classes (s : State) (r : Reg) (u n : Nat) : (s.count r u n).classes = s.classes := rfl
@[simp] theorem State_count_cores (s : State) (r : Reg) (u n : Nat) : (s.count r u n).cores = s.cores := rfl
@[simp] theorem State_count_xfers (s : State) (r : Reg) (u n : Nat) : (s.count r u n).xfers = s.xfers := rfl
@[simp] theorem State_count_sends (s : State) (r : Reg) (u n : Nat) : (s.count r u n).sends = s.sends := rfl
@[simp] theorem State_count_supplies (s : State) (r : Reg) (u n : Nat) : (s.count r u n).supplies = s.supplies := rfl
@[simp] theorem State_count_ags (s : State) (r : Reg) (u n : Nat) : (s.count r u n).ags = s.ags := rfl
@[simp] theorem State_count_trusses (s : State) (r : Reg) (u n : Nat) : (s.count r u n).trusses = s.trusses := rfl
@[simp] theorem State_count_colrecs (s : State) (r : Reg) (u n : Nat) : (s.count r u n).colrecs = s.colrecs := rfl
@[simp] theorem State_count_jctxs (s : State) (r : Reg) (u n : Nat) : (s.count r u n).jctxs = s.jctxs := rfl
@[simp] theorem State_count_jprogs (s : State) (r : Reg) (u n : Nat) : (s.count r u n).jprogs = s.jprogs := rfl
@[simp] theorem State_count_nextId (s : State) (r : Reg) (u n : Nat) : (s.count r u n).nextId = s.nextId := rfl
@[simp] theorem State_count_waiters (s : State) (r : Reg) (u n : Nat) : (s.count r u n).waiters = s.waiters := rfl
@[simp] theorem State_count_signals (s : State) (r : Reg) (u n : Nat) : (s.count r u n).signals = s.signals := rfl
@[simp] theorem State_count_badPegs (s : State) (r : Reg) (u n : Nat) : (s.count r u n).badPegs = s.badPegs := rfl
@[simp] theorem State_count_pools (s : State) (r : Reg) (u n : Nat) : (s.count r u n).pools = s.pools := rfl
@[simp] theorem State_count_deck (s : State) (r : Reg) (u n : Nat) : (s.count r u n).deck = s.deck := rfl
@[simp] theorem State_count_bays (s : State) (r : Reg) (u n : Nat) : (s.count r u n).bays = s.bays := rfl
@[simp] theorem State_count_replies (s : State) (r : Reg) (u n : Nat) : (s.count r u n).replies = s.replies := rfl
@[simp] theorem State_count_taken (s : State) (r : Reg) (u n : Nat) : (s.count r u n).taken = s.taken := rfl
@[simp] theorem State_count_chanErr (s : State) (r : Reg) (u n : Nat) : (s.count r u n).chanErr = s.chanErr := rfl
@[simp] theorem State_count_lastRead (s : State) (r : Reg) (u n : Nat) : (s.count r u n).lastRead = s.lastRead := rfl
@[simp] theorem State_count_parts (s : State) (r : Reg) (u n : Nat) : (s.count r u n).parts = s.parts := rfl
@[simp] theorem State_count_vfs (s : State) (r : Reg) (u n : Nat) : (s.count r u n).vfs = s.vfs := rfl
@[simp] theorem State_count_evq (s : State) (r : Reg) (u n : Nat) : (s.count r u n).evq = s.evq := rfl
@[simp] theorem State_count_evDrop (s : State) (r : Reg) (u n : Nat) : (s.count r u n).evDrop = s.evDrop := rfl
@[simp] theorem State_count_suspects (s : State) (r : Reg) (u n : Nat) : (s.count r u n).suspects = s.suspects := rfl
@[simp] theorem State_count_retired (s : State) (r : Reg) (u n : Nat) : (s.count r u n).retired = s.retired := rfl
@[simp] theorem State_count_inspects (s : State) (r : Reg) (u n : Nat) : (s.count r u n).inspects = s.inspects := rfl
@[simp] theorem State_count_pkgRecord (s : State) (r : Reg) (u n : Nat) : (s.count r u n).pkgRecord = s.pkgRecord := rfl
@[simp] theorem State_count_engEpoch (s : State) (r : Reg) (u n : Nat) : (s.count r u n).engEpoch = s.engEpoch := rfl
@[simp] theorem State_count_orders (s : State) (r : Reg) (u n : Nat) : (s.count r u n).orders = s.orders := rfl
@[simp] theorem State_count_pendingSub (s : State) (r : Reg) (u n : Nat) : (s.count r u n).pendingSub = s.pendingSub := rfl
@[simp] theorem State_count_resTimes (s : State) (r : Reg) (u n : Nat) : (s.count r u n).resTimes = s.resTimes := rfl
@[simp] theorem State_count_latches (s : State) (r : Reg) (u n : Nat) : (s.count r u n).latches = s.latches := rfl
@[simp] theorem State_count_msgs (s : State) (r : Reg) (u n : Nat) : (s.count r u n).msgs = s.msgs := rfl
@[simp] theorem State_count_ports (s : State) (r : Reg) (u n : Nat) : (s.count r u n).ports = s.ports := rfl
@[simp] theorem State_count_sflows (s : State) (r : Reg) (u n : Nat) : (s.count r u n).sflows = s.sflows := rfl
@[simp] theorem State_count_rflows (s : State) (r : Reg) (u n : Nat) : (s.count r u n).rflows = s.rflows := rfl
@[simp] theorem State_count_replay (s : State) (r : Reg) (u n : Nat) : (s.count r u n).replay = s.replay := rfl
@[simp] theorem State_count_avoid (s : State) (r : Reg) (u n : Nat) : (s.count r u n).avoid = s.avoid := rfl
@[simp] theorem State_count_pegMsgs (s : State) (r : Reg) (u n : Nat) : (s.count r u n).pegMsgs = s.pegMsgs := rfl
@[simp] theorem State_count_twIn (s : State) (r : Reg) (u n : Nat) : (s.count r u n).twIn = s.twIn := rfl
@[simp] theorem State_count_twOut (s : State) (r : Reg) (u n : Nat) : (s.count r u n).twOut = s.twOut := rfl
@[simp] theorem State_count_twDone (s : State) (r : Reg) (u n : Nat) : (s.count r u n).twDone = s.twDone := rfl
@[simp] theorem State_count_keys (s : State) (r : Reg) (u n : Nat) : (s.count r u n).keys = s.keys := rfl
@[simp] theorem State_count_keySwitch (s : State) (r : Reg) (u n : Nat) : (s.count r u n).keySwitch = s.keySwitch := rfl
@[simp] theorem State_count_trayIdx (s : State) (r : Reg) (u n : Nat) : (s.count r u n).trayIdx = s.trayIdx := rfl
@[simp] theorem State_count_links (s : State) (r : Reg) (u n : Nat) : (s.count r u n).links = s.links := rfl
@[simp] theorem State_count_pkgFence (s : State) (r : Reg) (u n : Nat) : (s.count r u n).pkgFence = s.pkgFence := rfl
@[simp] theorem State_count_pldmRecv (s : State) (r : Reg) (u n : Nat) : (s.count r u n).pldmRecv = s.pldmRecv := rfl
@[simp] theorem State_count_pldmQueue (s : State) (r : Reg) (u n : Nat) : (s.count r u n).pldmQueue = s.pldmQueue := rfl
@[simp] theorem State_count_maintRun (s : State) (r : Reg) (u n : Nat) : (s.count r u n).maintRun = s.maintRun := rfl
@[simp] theorem State_count_maintQueue (s : State) (r : Reg) (u n : Nat) : (s.count r u n).maintQueue = s.maintQueue := rfl
@[simp] theorem State_count_trayGen (s : State) (r : Reg) (u n : Nat) : (s.count r u n).trayGen = s.trayGen := rfl
@[simp] theorem State_count_pkg (s : State) (r : Reg) (u n : Nat) : (s.count r u n).pkg = s.pkg := rfl
@[simp] theorem State_count_resetPin (s : State) (r : Reg) (u n : Nat) : (s.count r u n).resetPin = s.resetPin := rfl
@[simp] theorem State_count_worked (s : State) (r : Reg) (u n : Nat) : (s.count r u n).worked = s.worked := rfl
@[simp] theorem State_count_power (s : State) (r : Reg) (u n : Nat) : (s.count r u n).power = s.power := rfl
@[simp] theorem State_count_flash (s : State) (r : Reg) (u n : Nat) : (s.count r u n).flash = s.flash := rfl
@[simp] theorem State_count_boot (s : State) (r : Reg) (u n : Nat) : (s.count r u n).boot = s.boot := rfl
@[simp] theorem State_count_probePack (s : State) (r : Reg) (u n : Nat) : (s.count r u n).probePack = s.probePack := rfl
@[simp] theorem State_count_unitProbed (s : State) (r : Reg) (u n : Nat) : (s.count r u n).unitProbed = s.unitProbed := rfl
@[simp] theorem State_count_copies (s : State) (r : Reg) (u n : Nat) : (s.count r u n).copies = s.copies := rfl
@[simp] theorem State_count_snapAt (s : State) (r : Reg) (u n : Nat) : (s.count r u n).snapAt = s.snapAt := rfl
@[simp] theorem State_count_snapWelyar (s : State) (r : Reg) (u n : Nat) : (s.count r u n).snapWelyar = s.snapWelyar := rfl
@[simp] theorem State_count_shadow (s : State) (r : Reg) (u n : Nat) : (s.count r u n).shadow = s.shadow := rfl
@[simp] theorem State_count_evlog (s : State) (r : Reg) (u n : Nat) : (s.count r u n).evlog = s.evlog := rfl
@[simp] theorem State_count_evMarks (s : State) (r : Reg) (u n : Nat) : (s.count r u n).evMarks = s.evMarks := rfl
@[simp] theorem State_count_sessions (s : State) (r : Reg) (u n : Nat) : (s.count r u n).sessions = s.sessions := rfl
@[simp] theorem State_count_tokens (s : State) (r : Reg) (u n : Nat) : (s.count r u n).tokens = s.tokens := rfl
@[simp] theorem State_count_tid (s : State) (r : Reg) (u n : Nat) : (s.count r u n).tid = s.tid := rfl
@[simp] theorem State_count_tap (s : State) (r : Reg) (u n : Nat) : (s.count r u n).tap = s.tap := rfl
@[simp] theorem State_count_repairs (s : State) (r : Reg) (u n : Nat) : (s.count r u n).repairs = s.repairs := rfl
@[simp] theorem State_count_zeroed (s : State) (r : Reg) (u n : Nat) : (s.count r u n).zeroed = s.zeroed := rfl
@[simp] theorem State_count_spinePos (s : State) (r : Reg) (u n : Nat) : (s.count r u n).spinePos = s.spinePos := rfl
@[simp] theorem State_count_suspectT (s : State) (r : Reg) (u n : Nat) : (s.count r u n).suspectT = s.suspectT := rfl
@[simp] theorem State_count_bentCyc (s : State) (r : Reg) (u n : Nat) : (s.count r u n).bentCyc = s.bentCyc := rfl
@[simp] theorem State_count_isleHold (s : State) (r : Reg) (u n : Nat) : (s.count r u n).isleHold = s.isleHold := rfl
@[simp] theorem State_count_mesh (s : State) (r : Reg) (u n : Nat) : (s.count r u n).mesh = s.mesh := rfl
@[simp] theorem State_count_pwrOk (s : State) (r : Reg) (u n : Nat) : (s.count r u n).pwrOk = s.pwrOk := rfl
@[simp] theorem State_count_thermtripN (s : State) (r : Reg) (u n : Nat) : (s.count r u n).thermtripN = s.thermtripN := rfl
@[simp] theorem State_count_cyc (s : State) (r : Reg) (u n : Nat) : (s.count r u n).cyc = s.cyc := rfl
@[simp] theorem State_setCore_pending (s : State) (c : Nat) (k : Core) : (s.setCore c k).pending = s.pending := rfl
@[simp] theorem State_setCore_regs (s : State) (c : Nat) (k : Core) : (s.setCore c k).regs = s.regs := rfl
@[simp] theorem State_setCore_plumb (s : State) (c : Nat) (k : Core) : (s.setCore c k).plumb = s.plumb := rfl
@[simp] theorem State_setCore_isle (s : State) (c : Nat) (k : Core) : (s.setCore c k).isle = s.isle := rfl
@[simp] theorem State_setCore_draws (s : State) (c : Nat) (k : Core) : (s.setCore c k).draws = s.draws := rfl
@[simp] theorem State_setCore_mem (s : State) (c : Nat) (k : Core) : (s.setCore c k).mem = s.mem := rfl
@[simp] theorem State_setCore_poison (s : State) (c : Nat) (k : Core) : (s.setCore c k).poison = s.poison := rfl
@[simp] theorem State_setCore_starts (s : State) (c : Nat) (k : Core) : (s.setCore c k).starts = s.starts := rfl
@[simp] theorem State_setCore_configured (s : State) (c : Nat) (k : Core) : (s.setCore c k).configured = s.configured := rfl
@[simp] theorem State_setCore_classes (s : State) (c : Nat) (k : Core) : (s.setCore c k).classes = s.classes := rfl
@[simp] theorem State_setCore_xfers (s : State) (c : Nat) (k : Core) : (s.setCore c k).xfers = s.xfers := rfl
@[simp] theorem State_setCore_sends (s : State) (c : Nat) (k : Core) : (s.setCore c k).sends = s.sends := rfl
@[simp] theorem State_setCore_supplies (s : State) (c : Nat) (k : Core) : (s.setCore c k).supplies = s.supplies := rfl
@[simp] theorem State_setCore_ags (s : State) (c : Nat) (k : Core) : (s.setCore c k).ags = s.ags := rfl
@[simp] theorem State_setCore_trusses (s : State) (c : Nat) (k : Core) : (s.setCore c k).trusses = s.trusses := rfl
@[simp] theorem State_setCore_colrecs (s : State) (c : Nat) (k : Core) : (s.setCore c k).colrecs = s.colrecs := rfl
@[simp] theorem State_setCore_jctxs (s : State) (c : Nat) (k : Core) : (s.setCore c k).jctxs = s.jctxs := rfl
@[simp] theorem State_setCore_jprogs (s : State) (c : Nat) (k : Core) : (s.setCore c k).jprogs = s.jprogs := rfl
@[simp] theorem State_setCore_nextId (s : State) (c : Nat) (k : Core) : (s.setCore c k).nextId = s.nextId := rfl
@[simp] theorem State_setCore_waiters (s : State) (c : Nat) (k : Core) : (s.setCore c k).waiters = s.waiters := rfl
@[simp] theorem State_setCore_signals (s : State) (c : Nat) (k : Core) : (s.setCore c k).signals = s.signals := rfl
@[simp] theorem State_setCore_badPegs (s : State) (c : Nat) (k : Core) : (s.setCore c k).badPegs = s.badPegs := rfl
@[simp] theorem State_setCore_pools (s : State) (c : Nat) (k : Core) : (s.setCore c k).pools = s.pools := rfl
@[simp] theorem State_setCore_deck (s : State) (c : Nat) (k : Core) : (s.setCore c k).deck = s.deck := rfl
@[simp] theorem State_setCore_bays (s : State) (c : Nat) (k : Core) : (s.setCore c k).bays = s.bays := rfl
@[simp] theorem State_setCore_replies (s : State) (c : Nat) (k : Core) : (s.setCore c k).replies = s.replies := rfl
@[simp] theorem State_setCore_taken (s : State) (c : Nat) (k : Core) : (s.setCore c k).taken = s.taken := rfl
@[simp] theorem State_setCore_chanErr (s : State) (c : Nat) (k : Core) : (s.setCore c k).chanErr = s.chanErr := rfl
@[simp] theorem State_setCore_lastRead (s : State) (c : Nat) (k : Core) : (s.setCore c k).lastRead = s.lastRead := rfl
@[simp] theorem State_setCore_parts (s : State) (c : Nat) (k : Core) : (s.setCore c k).parts = s.parts := rfl
@[simp] theorem State_setCore_vfs (s : State) (c : Nat) (k : Core) : (s.setCore c k).vfs = s.vfs := rfl
@[simp] theorem State_setCore_evq (s : State) (c : Nat) (k : Core) : (s.setCore c k).evq = s.evq := rfl
@[simp] theorem State_setCore_evDrop (s : State) (c : Nat) (k : Core) : (s.setCore c k).evDrop = s.evDrop := rfl
@[simp] theorem State_setCore_suspects (s : State) (c : Nat) (k : Core) : (s.setCore c k).suspects = s.suspects := rfl
@[simp] theorem State_setCore_retired (s : State) (c : Nat) (k : Core) : (s.setCore c k).retired = s.retired := rfl
@[simp] theorem State_setCore_inspects (s : State) (c : Nat) (k : Core) : (s.setCore c k).inspects = s.inspects := rfl
@[simp] theorem State_setCore_pkgRecord (s : State) (c : Nat) (k : Core) : (s.setCore c k).pkgRecord = s.pkgRecord := rfl
@[simp] theorem State_setCore_engEpoch (s : State) (c : Nat) (k : Core) : (s.setCore c k).engEpoch = s.engEpoch := rfl
@[simp] theorem State_setCore_orders (s : State) (c : Nat) (k : Core) : (s.setCore c k).orders = s.orders := rfl
@[simp] theorem State_setCore_pendingSub (s : State) (c : Nat) (k : Core) : (s.setCore c k).pendingSub = s.pendingSub := rfl
@[simp] theorem State_setCore_resTimes (s : State) (c : Nat) (k : Core) : (s.setCore c k).resTimes = s.resTimes := rfl
@[simp] theorem State_setCore_latches (s : State) (c : Nat) (k : Core) : (s.setCore c k).latches = s.latches := rfl
@[simp] theorem State_setCore_msgs (s : State) (c : Nat) (k : Core) : (s.setCore c k).msgs = s.msgs := rfl
@[simp] theorem State_setCore_ports (s : State) (c : Nat) (k : Core) : (s.setCore c k).ports = s.ports := rfl
@[simp] theorem State_setCore_sflows (s : State) (c : Nat) (k : Core) : (s.setCore c k).sflows = s.sflows := rfl
@[simp] theorem State_setCore_rflows (s : State) (c : Nat) (k : Core) : (s.setCore c k).rflows = s.rflows := rfl
@[simp] theorem State_setCore_replay (s : State) (c : Nat) (k : Core) : (s.setCore c k).replay = s.replay := rfl
@[simp] theorem State_setCore_avoid (s : State) (c : Nat) (k : Core) : (s.setCore c k).avoid = s.avoid := rfl
@[simp] theorem State_setCore_pegMsgs (s : State) (c : Nat) (k : Core) : (s.setCore c k).pegMsgs = s.pegMsgs := rfl
@[simp] theorem State_setCore_twIn (s : State) (c : Nat) (k : Core) : (s.setCore c k).twIn = s.twIn := rfl
@[simp] theorem State_setCore_twOut (s : State) (c : Nat) (k : Core) : (s.setCore c k).twOut = s.twOut := rfl
@[simp] theorem State_setCore_twDone (s : State) (c : Nat) (k : Core) : (s.setCore c k).twDone = s.twDone := rfl
@[simp] theorem State_setCore_keys (s : State) (c : Nat) (k : Core) : (s.setCore c k).keys = s.keys := rfl
@[simp] theorem State_setCore_keySwitch (s : State) (c : Nat) (k : Core) : (s.setCore c k).keySwitch = s.keySwitch := rfl
@[simp] theorem State_setCore_trayIdx (s : State) (c : Nat) (k : Core) : (s.setCore c k).trayIdx = s.trayIdx := rfl
@[simp] theorem State_setCore_links (s : State) (c : Nat) (k : Core) : (s.setCore c k).links = s.links := rfl
@[simp] theorem State_setCore_pkgFence (s : State) (c : Nat) (k : Core) : (s.setCore c k).pkgFence = s.pkgFence := rfl
@[simp] theorem State_setCore_pldmRecv (s : State) (c : Nat) (k : Core) : (s.setCore c k).pldmRecv = s.pldmRecv := rfl
@[simp] theorem State_setCore_pldmQueue (s : State) (c : Nat) (k : Core) : (s.setCore c k).pldmQueue = s.pldmQueue := rfl
@[simp] theorem State_setCore_maintRun (s : State) (c : Nat) (k : Core) : (s.setCore c k).maintRun = s.maintRun := rfl
@[simp] theorem State_setCore_maintQueue (s : State) (c : Nat) (k : Core) : (s.setCore c k).maintQueue = s.maintQueue := rfl
@[simp] theorem State_setCore_trayGen (s : State) (c : Nat) (k : Core) : (s.setCore c k).trayGen = s.trayGen := rfl
@[simp] theorem State_setCore_pkg (s : State) (c : Nat) (k : Core) : (s.setCore c k).pkg = s.pkg := rfl
@[simp] theorem State_setCore_resetPin (s : State) (c : Nat) (k : Core) : (s.setCore c k).resetPin = s.resetPin := rfl
@[simp] theorem State_setCore_worked (s : State) (c : Nat) (k : Core) : (s.setCore c k).worked = s.worked := rfl
@[simp] theorem State_setCore_power (s : State) (c : Nat) (k : Core) : (s.setCore c k).power = s.power := rfl
@[simp] theorem State_setCore_flash (s : State) (c : Nat) (k : Core) : (s.setCore c k).flash = s.flash := rfl
@[simp] theorem State_setCore_boot (s : State) (c : Nat) (k : Core) : (s.setCore c k).boot = s.boot := rfl
@[simp] theorem State_setCore_probePack (s : State) (c : Nat) (k : Core) : (s.setCore c k).probePack = s.probePack := rfl
@[simp] theorem State_setCore_unitProbed (s : State) (c : Nat) (k : Core) : (s.setCore c k).unitProbed = s.unitProbed := rfl
@[simp] theorem State_setCore_copies (s : State) (c : Nat) (k : Core) : (s.setCore c k).copies = s.copies := rfl
@[simp] theorem State_setCore_snapAt (s : State) (c : Nat) (k : Core) : (s.setCore c k).snapAt = s.snapAt := rfl
@[simp] theorem State_setCore_snapWelyar (s : State) (c : Nat) (k : Core) : (s.setCore c k).snapWelyar = s.snapWelyar := rfl
@[simp] theorem State_setCore_shadow (s : State) (c : Nat) (k : Core) : (s.setCore c k).shadow = s.shadow := rfl
@[simp] theorem State_setCore_evlog (s : State) (c : Nat) (k : Core) : (s.setCore c k).evlog = s.evlog := rfl
@[simp] theorem State_setCore_evMarks (s : State) (c : Nat) (k : Core) : (s.setCore c k).evMarks = s.evMarks := rfl
@[simp] theorem State_setCore_sessions (s : State) (c : Nat) (k : Core) : (s.setCore c k).sessions = s.sessions := rfl
@[simp] theorem State_setCore_tokens (s : State) (c : Nat) (k : Core) : (s.setCore c k).tokens = s.tokens := rfl
@[simp] theorem State_setCore_tid (s : State) (c : Nat) (k : Core) : (s.setCore c k).tid = s.tid := rfl
@[simp] theorem State_setCore_tap (s : State) (c : Nat) (k : Core) : (s.setCore c k).tap = s.tap := rfl
@[simp] theorem State_setCore_repairs (s : State) (c : Nat) (k : Core) : (s.setCore c k).repairs = s.repairs := rfl
@[simp] theorem State_setCore_zeroed (s : State) (c : Nat) (k : Core) : (s.setCore c k).zeroed = s.zeroed := rfl
@[simp] theorem State_setCore_spinePos (s : State) (c : Nat) (k : Core) : (s.setCore c k).spinePos = s.spinePos := rfl
@[simp] theorem State_setCore_suspectT (s : State) (c : Nat) (k : Core) : (s.setCore c k).suspectT = s.suspectT := rfl
@[simp] theorem State_setCore_bentCyc (s : State) (c : Nat) (k : Core) : (s.setCore c k).bentCyc = s.bentCyc := rfl
@[simp] theorem State_setCore_isleHold (s : State) (c : Nat) (k : Core) : (s.setCore c k).isleHold = s.isleHold := rfl
@[simp] theorem State_setCore_mesh (s : State) (c : Nat) (k : Core) : (s.setCore c k).mesh = s.mesh := rfl
@[simp] theorem State_setCore_pwrOk (s : State) (c : Nat) (k : Core) : (s.setCore c k).pwrOk = s.pwrOk := rfl
@[simp] theorem State_setCore_thermtripN (s : State) (c : Nat) (k : Core) : (s.setCore c k).thermtripN = s.thermtripN := rfl
@[simp] theorem State_setCore_cyc (s : State) (c : Nat) (k : Core) : (s.setCore c k).cyc = s.cyc := rfl
@[simp] theorem State_setCtx_pending (s : State) (c x : Nat) (v : Ctx) : (s.setCtx c x v).pending = s.pending := rfl
@[simp] theorem State_setCtx_regs (s : State) (c x : Nat) (v : Ctx) : (s.setCtx c x v).regs = s.regs := rfl
@[simp] theorem State_setCtx_plumb (s : State) (c x : Nat) (v : Ctx) : (s.setCtx c x v).plumb = s.plumb := rfl
@[simp] theorem State_setCtx_isle (s : State) (c x : Nat) (v : Ctx) : (s.setCtx c x v).isle = s.isle := rfl
@[simp] theorem State_setCtx_draws (s : State) (c x : Nat) (v : Ctx) : (s.setCtx c x v).draws = s.draws := rfl
@[simp] theorem State_setCtx_mem (s : State) (c x : Nat) (v : Ctx) : (s.setCtx c x v).mem = s.mem := rfl
@[simp] theorem State_setCtx_poison (s : State) (c x : Nat) (v : Ctx) : (s.setCtx c x v).poison = s.poison := rfl
@[simp] theorem State_setCtx_starts (s : State) (c x : Nat) (v : Ctx) : (s.setCtx c x v).starts = s.starts := rfl
@[simp] theorem State_setCtx_configured (s : State) (c x : Nat) (v : Ctx) : (s.setCtx c x v).configured = s.configured := rfl
@[simp] theorem State_setCtx_classes (s : State) (c x : Nat) (v : Ctx) : (s.setCtx c x v).classes = s.classes := rfl
@[simp] theorem State_setCtx_xfers (s : State) (c x : Nat) (v : Ctx) : (s.setCtx c x v).xfers = s.xfers := rfl
@[simp] theorem State_setCtx_sends (s : State) (c x : Nat) (v : Ctx) : (s.setCtx c x v).sends = s.sends := rfl
@[simp] theorem State_setCtx_supplies (s : State) (c x : Nat) (v : Ctx) : (s.setCtx c x v).supplies = s.supplies := rfl
@[simp] theorem State_setCtx_ags (s : State) (c x : Nat) (v : Ctx) : (s.setCtx c x v).ags = s.ags := rfl
@[simp] theorem State_setCtx_trusses (s : State) (c x : Nat) (v : Ctx) : (s.setCtx c x v).trusses = s.trusses := rfl
@[simp] theorem State_setCtx_colrecs (s : State) (c x : Nat) (v : Ctx) : (s.setCtx c x v).colrecs = s.colrecs := rfl
@[simp] theorem State_setCtx_jctxs (s : State) (c x : Nat) (v : Ctx) : (s.setCtx c x v).jctxs = s.jctxs := rfl
@[simp] theorem State_setCtx_jprogs (s : State) (c x : Nat) (v : Ctx) : (s.setCtx c x v).jprogs = s.jprogs := rfl
@[simp] theorem State_setCtx_nextId (s : State) (c x : Nat) (v : Ctx) : (s.setCtx c x v).nextId = s.nextId := rfl
@[simp] theorem State_setCtx_waiters (s : State) (c x : Nat) (v : Ctx) : (s.setCtx c x v).waiters = s.waiters := rfl
@[simp] theorem State_setCtx_signals (s : State) (c x : Nat) (v : Ctx) : (s.setCtx c x v).signals = s.signals := rfl
@[simp] theorem State_setCtx_badPegs (s : State) (c x : Nat) (v : Ctx) : (s.setCtx c x v).badPegs = s.badPegs := rfl
@[simp] theorem State_setCtx_pools (s : State) (c x : Nat) (v : Ctx) : (s.setCtx c x v).pools = s.pools := rfl
@[simp] theorem State_setCtx_deck (s : State) (c x : Nat) (v : Ctx) : (s.setCtx c x v).deck = s.deck := rfl
@[simp] theorem State_setCtx_bays (s : State) (c x : Nat) (v : Ctx) : (s.setCtx c x v).bays = s.bays := rfl
@[simp] theorem State_setCtx_replies (s : State) (c x : Nat) (v : Ctx) : (s.setCtx c x v).replies = s.replies := rfl
@[simp] theorem State_setCtx_taken (s : State) (c x : Nat) (v : Ctx) : (s.setCtx c x v).taken = s.taken := rfl
@[simp] theorem State_setCtx_chanErr (s : State) (c x : Nat) (v : Ctx) : (s.setCtx c x v).chanErr = s.chanErr := rfl
@[simp] theorem State_setCtx_lastRead (s : State) (c x : Nat) (v : Ctx) : (s.setCtx c x v).lastRead = s.lastRead := rfl
@[simp] theorem State_setCtx_parts (s : State) (c x : Nat) (v : Ctx) : (s.setCtx c x v).parts = s.parts := rfl
@[simp] theorem State_setCtx_vfs (s : State) (c x : Nat) (v : Ctx) : (s.setCtx c x v).vfs = s.vfs := rfl
@[simp] theorem State_setCtx_evq (s : State) (c x : Nat) (v : Ctx) : (s.setCtx c x v).evq = s.evq := rfl
@[simp] theorem State_setCtx_evDrop (s : State) (c x : Nat) (v : Ctx) : (s.setCtx c x v).evDrop = s.evDrop := rfl
@[simp] theorem State_setCtx_suspects (s : State) (c x : Nat) (v : Ctx) : (s.setCtx c x v).suspects = s.suspects := rfl
@[simp] theorem State_setCtx_retired (s : State) (c x : Nat) (v : Ctx) : (s.setCtx c x v).retired = s.retired := rfl
@[simp] theorem State_setCtx_inspects (s : State) (c x : Nat) (v : Ctx) : (s.setCtx c x v).inspects = s.inspects := rfl
@[simp] theorem State_setCtx_pkgRecord (s : State) (c x : Nat) (v : Ctx) : (s.setCtx c x v).pkgRecord = s.pkgRecord := rfl
@[simp] theorem State_setCtx_engEpoch (s : State) (c x : Nat) (v : Ctx) : (s.setCtx c x v).engEpoch = s.engEpoch := rfl
@[simp] theorem State_setCtx_orders (s : State) (c x : Nat) (v : Ctx) : (s.setCtx c x v).orders = s.orders := rfl
@[simp] theorem State_setCtx_pendingSub (s : State) (c x : Nat) (v : Ctx) : (s.setCtx c x v).pendingSub = s.pendingSub := rfl
@[simp] theorem State_setCtx_resTimes (s : State) (c x : Nat) (v : Ctx) : (s.setCtx c x v).resTimes = s.resTimes := rfl
@[simp] theorem State_setCtx_latches (s : State) (c x : Nat) (v : Ctx) : (s.setCtx c x v).latches = s.latches := rfl
@[simp] theorem State_setCtx_msgs (s : State) (c x : Nat) (v : Ctx) : (s.setCtx c x v).msgs = s.msgs := rfl
@[simp] theorem State_setCtx_ports (s : State) (c x : Nat) (v : Ctx) : (s.setCtx c x v).ports = s.ports := rfl
@[simp] theorem State_setCtx_sflows (s : State) (c x : Nat) (v : Ctx) : (s.setCtx c x v).sflows = s.sflows := rfl
@[simp] theorem State_setCtx_rflows (s : State) (c x : Nat) (v : Ctx) : (s.setCtx c x v).rflows = s.rflows := rfl
@[simp] theorem State_setCtx_replay (s : State) (c x : Nat) (v : Ctx) : (s.setCtx c x v).replay = s.replay := rfl
@[simp] theorem State_setCtx_avoid (s : State) (c x : Nat) (v : Ctx) : (s.setCtx c x v).avoid = s.avoid := rfl
@[simp] theorem State_setCtx_pegMsgs (s : State) (c x : Nat) (v : Ctx) : (s.setCtx c x v).pegMsgs = s.pegMsgs := rfl
@[simp] theorem State_setCtx_twIn (s : State) (c x : Nat) (v : Ctx) : (s.setCtx c x v).twIn = s.twIn := rfl
@[simp] theorem State_setCtx_twOut (s : State) (c x : Nat) (v : Ctx) : (s.setCtx c x v).twOut = s.twOut := rfl
@[simp] theorem State_setCtx_twDone (s : State) (c x : Nat) (v : Ctx) : (s.setCtx c x v).twDone = s.twDone := rfl
@[simp] theorem State_setCtx_keys (s : State) (c x : Nat) (v : Ctx) : (s.setCtx c x v).keys = s.keys := rfl
@[simp] theorem State_setCtx_keySwitch (s : State) (c x : Nat) (v : Ctx) : (s.setCtx c x v).keySwitch = s.keySwitch := rfl
@[simp] theorem State_setCtx_trayIdx (s : State) (c x : Nat) (v : Ctx) : (s.setCtx c x v).trayIdx = s.trayIdx := rfl
@[simp] theorem State_setCtx_links (s : State) (c x : Nat) (v : Ctx) : (s.setCtx c x v).links = s.links := rfl
@[simp] theorem State_setCtx_pkgFence (s : State) (c x : Nat) (v : Ctx) : (s.setCtx c x v).pkgFence = s.pkgFence := rfl
@[simp] theorem State_setCtx_pldmRecv (s : State) (c x : Nat) (v : Ctx) : (s.setCtx c x v).pldmRecv = s.pldmRecv := rfl
@[simp] theorem State_setCtx_pldmQueue (s : State) (c x : Nat) (v : Ctx) : (s.setCtx c x v).pldmQueue = s.pldmQueue := rfl
@[simp] theorem State_setCtx_maintRun (s : State) (c x : Nat) (v : Ctx) : (s.setCtx c x v).maintRun = s.maintRun := rfl
@[simp] theorem State_setCtx_maintQueue (s : State) (c x : Nat) (v : Ctx) : (s.setCtx c x v).maintQueue = s.maintQueue := rfl
@[simp] theorem State_setCtx_trayGen (s : State) (c x : Nat) (v : Ctx) : (s.setCtx c x v).trayGen = s.trayGen := rfl
@[simp] theorem State_setCtx_pkg (s : State) (c x : Nat) (v : Ctx) : (s.setCtx c x v).pkg = s.pkg := rfl
@[simp] theorem State_setCtx_resetPin (s : State) (c x : Nat) (v : Ctx) : (s.setCtx c x v).resetPin = s.resetPin := rfl
@[simp] theorem State_setCtx_worked (s : State) (c x : Nat) (v : Ctx) : (s.setCtx c x v).worked = s.worked := rfl
@[simp] theorem State_setCtx_power (s : State) (c x : Nat) (v : Ctx) : (s.setCtx c x v).power = s.power := rfl
@[simp] theorem State_setCtx_flash (s : State) (c x : Nat) (v : Ctx) : (s.setCtx c x v).flash = s.flash := rfl
@[simp] theorem State_setCtx_boot (s : State) (c x : Nat) (v : Ctx) : (s.setCtx c x v).boot = s.boot := rfl
@[simp] theorem State_setCtx_probePack (s : State) (c x : Nat) (v : Ctx) : (s.setCtx c x v).probePack = s.probePack := rfl
@[simp] theorem State_setCtx_unitProbed (s : State) (c x : Nat) (v : Ctx) : (s.setCtx c x v).unitProbed = s.unitProbed := rfl
@[simp] theorem State_setCtx_copies (s : State) (c x : Nat) (v : Ctx) : (s.setCtx c x v).copies = s.copies := rfl
@[simp] theorem State_setCtx_snapAt (s : State) (c x : Nat) (v : Ctx) : (s.setCtx c x v).snapAt = s.snapAt := rfl
@[simp] theorem State_setCtx_snapWelyar (s : State) (c x : Nat) (v : Ctx) : (s.setCtx c x v).snapWelyar = s.snapWelyar := rfl
@[simp] theorem State_setCtx_shadow (s : State) (c x : Nat) (v : Ctx) : (s.setCtx c x v).shadow = s.shadow := rfl
@[simp] theorem State_setCtx_evlog (s : State) (c x : Nat) (v : Ctx) : (s.setCtx c x v).evlog = s.evlog := rfl
@[simp] theorem State_setCtx_evMarks (s : State) (c x : Nat) (v : Ctx) : (s.setCtx c x v).evMarks = s.evMarks := rfl
@[simp] theorem State_setCtx_sessions (s : State) (c x : Nat) (v : Ctx) : (s.setCtx c x v).sessions = s.sessions := rfl
@[simp] theorem State_setCtx_tokens (s : State) (c x : Nat) (v : Ctx) : (s.setCtx c x v).tokens = s.tokens := rfl
@[simp] theorem State_setCtx_tid (s : State) (c x : Nat) (v : Ctx) : (s.setCtx c x v).tid = s.tid := rfl
@[simp] theorem State_setCtx_tap (s : State) (c x : Nat) (v : Ctx) : (s.setCtx c x v).tap = s.tap := rfl
@[simp] theorem State_setCtx_repairs (s : State) (c x : Nat) (v : Ctx) : (s.setCtx c x v).repairs = s.repairs := rfl
@[simp] theorem State_setCtx_zeroed (s : State) (c x : Nat) (v : Ctx) : (s.setCtx c x v).zeroed = s.zeroed := rfl
@[simp] theorem State_setCtx_spinePos (s : State) (c x : Nat) (v : Ctx) : (s.setCtx c x v).spinePos = s.spinePos := rfl
@[simp] theorem State_setCtx_suspectT (s : State) (c x : Nat) (v : Ctx) : (s.setCtx c x v).suspectT = s.suspectT := rfl
@[simp] theorem State_setCtx_bentCyc (s : State) (c x : Nat) (v : Ctx) : (s.setCtx c x v).bentCyc = s.bentCyc := rfl
@[simp] theorem State_setCtx_isleHold (s : State) (c x : Nat) (v : Ctx) : (s.setCtx c x v).isleHold = s.isleHold := rfl
@[simp] theorem State_setCtx_mesh (s : State) (c x : Nat) (v : Ctx) : (s.setCtx c x v).mesh = s.mesh := rfl
@[simp] theorem State_setCtx_pwrOk (s : State) (c x : Nat) (v : Ctx) : (s.setCtx c x v).pwrOk = s.pwrOk := rfl
@[simp] theorem State_setCtx_thermtripN (s : State) (c x : Nat) (v : Ctx) : (s.setCtx c x v).thermtripN = s.thermtripN := rfl
@[simp] theorem State_setCtx_cyc (s : State) (c x : Nat) (v : Ctx) : (s.setCtx c x v).cyc = s.cyc := rfl
@[simp] theorem State_setPart_pending (s : State) (p : Nat) (q : Part) : (s.setPart p q).pending = s.pending := rfl
@[simp] theorem State_setPart_regs (s : State) (p : Nat) (q : Part) : (s.setPart p q).regs = s.regs := rfl
@[simp] theorem State_setPart_plumb (s : State) (p : Nat) (q : Part) : (s.setPart p q).plumb = s.plumb := rfl
@[simp] theorem State_setPart_isle (s : State) (p : Nat) (q : Part) : (s.setPart p q).isle = s.isle := rfl
@[simp] theorem State_setPart_draws (s : State) (p : Nat) (q : Part) : (s.setPart p q).draws = s.draws := rfl
@[simp] theorem State_setPart_mem (s : State) (p : Nat) (q : Part) : (s.setPart p q).mem = s.mem := rfl
@[simp] theorem State_setPart_poison (s : State) (p : Nat) (q : Part) : (s.setPart p q).poison = s.poison := rfl
@[simp] theorem State_setPart_starts (s : State) (p : Nat) (q : Part) : (s.setPart p q).starts = s.starts := rfl
@[simp] theorem State_setPart_configured (s : State) (p : Nat) (q : Part) : (s.setPart p q).configured = s.configured := rfl
@[simp] theorem State_setPart_classes (s : State) (p : Nat) (q : Part) : (s.setPart p q).classes = s.classes := rfl
@[simp] theorem State_setPart_cores (s : State) (p : Nat) (q : Part) : (s.setPart p q).cores = s.cores := rfl
@[simp] theorem State_setPart_xfers (s : State) (p : Nat) (q : Part) : (s.setPart p q).xfers = s.xfers := rfl
@[simp] theorem State_setPart_sends (s : State) (p : Nat) (q : Part) : (s.setPart p q).sends = s.sends := rfl
@[simp] theorem State_setPart_supplies (s : State) (p : Nat) (q : Part) : (s.setPart p q).supplies = s.supplies := rfl
@[simp] theorem State_setPart_ags (s : State) (p : Nat) (q : Part) : (s.setPart p q).ags = s.ags := rfl
@[simp] theorem State_setPart_trusses (s : State) (p : Nat) (q : Part) : (s.setPart p q).trusses = s.trusses := rfl
@[simp] theorem State_setPart_colrecs (s : State) (p : Nat) (q : Part) : (s.setPart p q).colrecs = s.colrecs := rfl
@[simp] theorem State_setPart_jctxs (s : State) (p : Nat) (q : Part) : (s.setPart p q).jctxs = s.jctxs := rfl
@[simp] theorem State_setPart_jprogs (s : State) (p : Nat) (q : Part) : (s.setPart p q).jprogs = s.jprogs := rfl
@[simp] theorem State_setPart_nextId (s : State) (p : Nat) (q : Part) : (s.setPart p q).nextId = s.nextId := rfl
@[simp] theorem State_setPart_waiters (s : State) (p : Nat) (q : Part) : (s.setPart p q).waiters = s.waiters := rfl
@[simp] theorem State_setPart_signals (s : State) (p : Nat) (q : Part) : (s.setPart p q).signals = s.signals := rfl
@[simp] theorem State_setPart_badPegs (s : State) (p : Nat) (q : Part) : (s.setPart p q).badPegs = s.badPegs := rfl
@[simp] theorem State_setPart_pools (s : State) (p : Nat) (q : Part) : (s.setPart p q).pools = s.pools := rfl
@[simp] theorem State_setPart_deck (s : State) (p : Nat) (q : Part) : (s.setPart p q).deck = s.deck := rfl
@[simp] theorem State_setPart_bays (s : State) (p : Nat) (q : Part) : (s.setPart p q).bays = s.bays := rfl
@[simp] theorem State_setPart_replies (s : State) (p : Nat) (q : Part) : (s.setPart p q).replies = s.replies := rfl
@[simp] theorem State_setPart_taken (s : State) (p : Nat) (q : Part) : (s.setPart p q).taken = s.taken := rfl
@[simp] theorem State_setPart_chanErr (s : State) (p : Nat) (q : Part) : (s.setPart p q).chanErr = s.chanErr := rfl
@[simp] theorem State_setPart_lastRead (s : State) (p : Nat) (q : Part) : (s.setPart p q).lastRead = s.lastRead := rfl
@[simp] theorem State_setPart_vfs (s : State) (p : Nat) (q : Part) : (s.setPart p q).vfs = s.vfs := rfl
@[simp] theorem State_setPart_evq (s : State) (p : Nat) (q : Part) : (s.setPart p q).evq = s.evq := rfl
@[simp] theorem State_setPart_evDrop (s : State) (p : Nat) (q : Part) : (s.setPart p q).evDrop = s.evDrop := rfl
@[simp] theorem State_setPart_suspects (s : State) (p : Nat) (q : Part) : (s.setPart p q).suspects = s.suspects := rfl
@[simp] theorem State_setPart_retired (s : State) (p : Nat) (q : Part) : (s.setPart p q).retired = s.retired := rfl
@[simp] theorem State_setPart_inspects (s : State) (p : Nat) (q : Part) : (s.setPart p q).inspects = s.inspects := rfl
@[simp] theorem State_setPart_pkgRecord (s : State) (p : Nat) (q : Part) : (s.setPart p q).pkgRecord = s.pkgRecord := rfl
@[simp] theorem State_setPart_engEpoch (s : State) (p : Nat) (q : Part) : (s.setPart p q).engEpoch = s.engEpoch := rfl
@[simp] theorem State_setPart_orders (s : State) (p : Nat) (q : Part) : (s.setPart p q).orders = s.orders := rfl
@[simp] theorem State_setPart_pendingSub (s : State) (p : Nat) (q : Part) : (s.setPart p q).pendingSub = s.pendingSub := rfl
@[simp] theorem State_setPart_resTimes (s : State) (p : Nat) (q : Part) : (s.setPart p q).resTimes = s.resTimes := rfl
@[simp] theorem State_setPart_latches (s : State) (p : Nat) (q : Part) : (s.setPart p q).latches = s.latches := rfl
@[simp] theorem State_setPart_msgs (s : State) (p : Nat) (q : Part) : (s.setPart p q).msgs = s.msgs := rfl
@[simp] theorem State_setPart_ports (s : State) (p : Nat) (q : Part) : (s.setPart p q).ports = s.ports := rfl
@[simp] theorem State_setPart_sflows (s : State) (p : Nat) (q : Part) : (s.setPart p q).sflows = s.sflows := rfl
@[simp] theorem State_setPart_rflows (s : State) (p : Nat) (q : Part) : (s.setPart p q).rflows = s.rflows := rfl
@[simp] theorem State_setPart_replay (s : State) (p : Nat) (q : Part) : (s.setPart p q).replay = s.replay := rfl
@[simp] theorem State_setPart_avoid (s : State) (p : Nat) (q : Part) : (s.setPart p q).avoid = s.avoid := rfl
@[simp] theorem State_setPart_pegMsgs (s : State) (p : Nat) (q : Part) : (s.setPart p q).pegMsgs = s.pegMsgs := rfl
@[simp] theorem State_setPart_twIn (s : State) (p : Nat) (q : Part) : (s.setPart p q).twIn = s.twIn := rfl
@[simp] theorem State_setPart_twOut (s : State) (p : Nat) (q : Part) : (s.setPart p q).twOut = s.twOut := rfl
@[simp] theorem State_setPart_twDone (s : State) (p : Nat) (q : Part) : (s.setPart p q).twDone = s.twDone := rfl
@[simp] theorem State_setPart_keys (s : State) (p : Nat) (q : Part) : (s.setPart p q).keys = s.keys := rfl
@[simp] theorem State_setPart_keySwitch (s : State) (p : Nat) (q : Part) : (s.setPart p q).keySwitch = s.keySwitch := rfl
@[simp] theorem State_setPart_trayIdx (s : State) (p : Nat) (q : Part) : (s.setPart p q).trayIdx = s.trayIdx := rfl
@[simp] theorem State_setPart_links (s : State) (p : Nat) (q : Part) : (s.setPart p q).links = s.links := rfl
@[simp] theorem State_setPart_pkgFence (s : State) (p : Nat) (q : Part) : (s.setPart p q).pkgFence = s.pkgFence := rfl
@[simp] theorem State_setPart_pldmRecv (s : State) (p : Nat) (q : Part) : (s.setPart p q).pldmRecv = s.pldmRecv := rfl
@[simp] theorem State_setPart_pldmQueue (s : State) (p : Nat) (q : Part) : (s.setPart p q).pldmQueue = s.pldmQueue := rfl
@[simp] theorem State_setPart_maintRun (s : State) (p : Nat) (q : Part) : (s.setPart p q).maintRun = s.maintRun := rfl
@[simp] theorem State_setPart_maintQueue (s : State) (p : Nat) (q : Part) : (s.setPart p q).maintQueue = s.maintQueue := rfl
@[simp] theorem State_setPart_trayGen (s : State) (p : Nat) (q : Part) : (s.setPart p q).trayGen = s.trayGen := rfl
@[simp] theorem State_setPart_pkg (s : State) (p : Nat) (q : Part) : (s.setPart p q).pkg = s.pkg := rfl
@[simp] theorem State_setPart_resetPin (s : State) (p : Nat) (q : Part) : (s.setPart p q).resetPin = s.resetPin := rfl
@[simp] theorem State_setPart_worked (s : State) (p : Nat) (q : Part) : (s.setPart p q).worked = s.worked := rfl
@[simp] theorem State_setPart_power (s : State) (p : Nat) (q : Part) : (s.setPart p q).power = s.power := rfl
@[simp] theorem State_setPart_flash (s : State) (p : Nat) (q : Part) : (s.setPart p q).flash = s.flash := rfl
@[simp] theorem State_setPart_boot (s : State) (p : Nat) (q : Part) : (s.setPart p q).boot = s.boot := rfl
@[simp] theorem State_setPart_probePack (s : State) (p : Nat) (q : Part) : (s.setPart p q).probePack = s.probePack := rfl
@[simp] theorem State_setPart_unitProbed (s : State) (p : Nat) (q : Part) : (s.setPart p q).unitProbed = s.unitProbed := rfl
@[simp] theorem State_setPart_copies (s : State) (p : Nat) (q : Part) : (s.setPart p q).copies = s.copies := rfl
@[simp] theorem State_setPart_snapAt (s : State) (p : Nat) (q : Part) : (s.setPart p q).snapAt = s.snapAt := rfl
@[simp] theorem State_setPart_snapWelyar (s : State) (p : Nat) (q : Part) : (s.setPart p q).snapWelyar = s.snapWelyar := rfl
@[simp] theorem State_setPart_shadow (s : State) (p : Nat) (q : Part) : (s.setPart p q).shadow = s.shadow := rfl
@[simp] theorem State_setPart_evlog (s : State) (p : Nat) (q : Part) : (s.setPart p q).evlog = s.evlog := rfl
@[simp] theorem State_setPart_evMarks (s : State) (p : Nat) (q : Part) : (s.setPart p q).evMarks = s.evMarks := rfl
@[simp] theorem State_setPart_sessions (s : State) (p : Nat) (q : Part) : (s.setPart p q).sessions = s.sessions := rfl
@[simp] theorem State_setPart_tokens (s : State) (p : Nat) (q : Part) : (s.setPart p q).tokens = s.tokens := rfl
@[simp] theorem State_setPart_tid (s : State) (p : Nat) (q : Part) : (s.setPart p q).tid = s.tid := rfl
@[simp] theorem State_setPart_tap (s : State) (p : Nat) (q : Part) : (s.setPart p q).tap = s.tap := rfl
@[simp] theorem State_setPart_repairs (s : State) (p : Nat) (q : Part) : (s.setPart p q).repairs = s.repairs := rfl
@[simp] theorem State_setPart_zeroed (s : State) (p : Nat) (q : Part) : (s.setPart p q).zeroed = s.zeroed := rfl
@[simp] theorem State_setPart_spinePos (s : State) (p : Nat) (q : Part) : (s.setPart p q).spinePos = s.spinePos := rfl
@[simp] theorem State_setPart_suspectT (s : State) (p : Nat) (q : Part) : (s.setPart p q).suspectT = s.suspectT := rfl
@[simp] theorem State_setPart_bentCyc (s : State) (p : Nat) (q : Part) : (s.setPart p q).bentCyc = s.bentCyc := rfl
@[simp] theorem State_setPart_isleHold (s : State) (p : Nat) (q : Part) : (s.setPart p q).isleHold = s.isleHold := rfl
@[simp] theorem State_setPart_mesh (s : State) (p : Nat) (q : Part) : (s.setPart p q).mesh = s.mesh := rfl
@[simp] theorem State_setPart_pwrOk (s : State) (p : Nat) (q : Part) : (s.setPart p q).pwrOk = s.pwrOk := rfl
@[simp] theorem State_setPart_thermtripN (s : State) (p : Nat) (q : Part) : (s.setPart p q).thermtripN = s.thermtripN := rfl
@[simp] theorem State_setPart_cyc (s : State) (p : Nat) (q : Part) : (s.setPart p q).cyc = s.cyc := rfl
@[simp] theorem State_setVf_pending (s : State) (v : Nat) (f : Vf) : (s.setVf v f).pending = s.pending := rfl
@[simp] theorem State_setVf_regs (s : State) (v : Nat) (f : Vf) : (s.setVf v f).regs = s.regs := rfl
@[simp] theorem State_setVf_plumb (s : State) (v : Nat) (f : Vf) : (s.setVf v f).plumb = s.plumb := rfl
@[simp] theorem State_setVf_isle (s : State) (v : Nat) (f : Vf) : (s.setVf v f).isle = s.isle := rfl
@[simp] theorem State_setVf_draws (s : State) (v : Nat) (f : Vf) : (s.setVf v f).draws = s.draws := rfl
@[simp] theorem State_setVf_mem (s : State) (v : Nat) (f : Vf) : (s.setVf v f).mem = s.mem := rfl
@[simp] theorem State_setVf_poison (s : State) (v : Nat) (f : Vf) : (s.setVf v f).poison = s.poison := rfl
@[simp] theorem State_setVf_starts (s : State) (v : Nat) (f : Vf) : (s.setVf v f).starts = s.starts := rfl
@[simp] theorem State_setVf_configured (s : State) (v : Nat) (f : Vf) : (s.setVf v f).configured = s.configured := rfl
@[simp] theorem State_setVf_classes (s : State) (v : Nat) (f : Vf) : (s.setVf v f).classes = s.classes := rfl
@[simp] theorem State_setVf_cores (s : State) (v : Nat) (f : Vf) : (s.setVf v f).cores = s.cores := rfl
@[simp] theorem State_setVf_xfers (s : State) (v : Nat) (f : Vf) : (s.setVf v f).xfers = s.xfers := rfl
@[simp] theorem State_setVf_sends (s : State) (v : Nat) (f : Vf) : (s.setVf v f).sends = s.sends := rfl
@[simp] theorem State_setVf_supplies (s : State) (v : Nat) (f : Vf) : (s.setVf v f).supplies = s.supplies := rfl
@[simp] theorem State_setVf_ags (s : State) (v : Nat) (f : Vf) : (s.setVf v f).ags = s.ags := rfl
@[simp] theorem State_setVf_trusses (s : State) (v : Nat) (f : Vf) : (s.setVf v f).trusses = s.trusses := rfl
@[simp] theorem State_setVf_colrecs (s : State) (v : Nat) (f : Vf) : (s.setVf v f).colrecs = s.colrecs := rfl
@[simp] theorem State_setVf_jctxs (s : State) (v : Nat) (f : Vf) : (s.setVf v f).jctxs = s.jctxs := rfl
@[simp] theorem State_setVf_jprogs (s : State) (v : Nat) (f : Vf) : (s.setVf v f).jprogs = s.jprogs := rfl
@[simp] theorem State_setVf_nextId (s : State) (v : Nat) (f : Vf) : (s.setVf v f).nextId = s.nextId := rfl
@[simp] theorem State_setVf_waiters (s : State) (v : Nat) (f : Vf) : (s.setVf v f).waiters = s.waiters := rfl
@[simp] theorem State_setVf_signals (s : State) (v : Nat) (f : Vf) : (s.setVf v f).signals = s.signals := rfl
@[simp] theorem State_setVf_badPegs (s : State) (v : Nat) (f : Vf) : (s.setVf v f).badPegs = s.badPegs := rfl
@[simp] theorem State_setVf_pools (s : State) (v : Nat) (f : Vf) : (s.setVf v f).pools = s.pools := rfl
@[simp] theorem State_setVf_deck (s : State) (v : Nat) (f : Vf) : (s.setVf v f).deck = s.deck := rfl
@[simp] theorem State_setVf_bays (s : State) (v : Nat) (f : Vf) : (s.setVf v f).bays = s.bays := rfl
@[simp] theorem State_setVf_replies (s : State) (v : Nat) (f : Vf) : (s.setVf v f).replies = s.replies := rfl
@[simp] theorem State_setVf_taken (s : State) (v : Nat) (f : Vf) : (s.setVf v f).taken = s.taken := rfl
@[simp] theorem State_setVf_chanErr (s : State) (v : Nat) (f : Vf) : (s.setVf v f).chanErr = s.chanErr := rfl
@[simp] theorem State_setVf_lastRead (s : State) (v : Nat) (f : Vf) : (s.setVf v f).lastRead = s.lastRead := rfl
@[simp] theorem State_setVf_parts (s : State) (v : Nat) (f : Vf) : (s.setVf v f).parts = s.parts := rfl
@[simp] theorem State_setVf_evq (s : State) (v : Nat) (f : Vf) : (s.setVf v f).evq = s.evq := rfl
@[simp] theorem State_setVf_evDrop (s : State) (v : Nat) (f : Vf) : (s.setVf v f).evDrop = s.evDrop := rfl
@[simp] theorem State_setVf_suspects (s : State) (v : Nat) (f : Vf) : (s.setVf v f).suspects = s.suspects := rfl
@[simp] theorem State_setVf_retired (s : State) (v : Nat) (f : Vf) : (s.setVf v f).retired = s.retired := rfl
@[simp] theorem State_setVf_inspects (s : State) (v : Nat) (f : Vf) : (s.setVf v f).inspects = s.inspects := rfl
@[simp] theorem State_setVf_pkgRecord (s : State) (v : Nat) (f : Vf) : (s.setVf v f).pkgRecord = s.pkgRecord := rfl
@[simp] theorem State_setVf_engEpoch (s : State) (v : Nat) (f : Vf) : (s.setVf v f).engEpoch = s.engEpoch := rfl
@[simp] theorem State_setVf_orders (s : State) (v : Nat) (f : Vf) : (s.setVf v f).orders = s.orders := rfl
@[simp] theorem State_setVf_pendingSub (s : State) (v : Nat) (f : Vf) : (s.setVf v f).pendingSub = s.pendingSub := rfl
@[simp] theorem State_setVf_resTimes (s : State) (v : Nat) (f : Vf) : (s.setVf v f).resTimes = s.resTimes := rfl
@[simp] theorem State_setVf_latches (s : State) (v : Nat) (f : Vf) : (s.setVf v f).latches = s.latches := rfl
@[simp] theorem State_setVf_msgs (s : State) (v : Nat) (f : Vf) : (s.setVf v f).msgs = s.msgs := rfl
@[simp] theorem State_setVf_ports (s : State) (v : Nat) (f : Vf) : (s.setVf v f).ports = s.ports := rfl
@[simp] theorem State_setVf_sflows (s : State) (v : Nat) (f : Vf) : (s.setVf v f).sflows = s.sflows := rfl
@[simp] theorem State_setVf_rflows (s : State) (v : Nat) (f : Vf) : (s.setVf v f).rflows = s.rflows := rfl
@[simp] theorem State_setVf_replay (s : State) (v : Nat) (f : Vf) : (s.setVf v f).replay = s.replay := rfl
@[simp] theorem State_setVf_avoid (s : State) (v : Nat) (f : Vf) : (s.setVf v f).avoid = s.avoid := rfl
@[simp] theorem State_setVf_pegMsgs (s : State) (v : Nat) (f : Vf) : (s.setVf v f).pegMsgs = s.pegMsgs := rfl
@[simp] theorem State_setVf_twIn (s : State) (v : Nat) (f : Vf) : (s.setVf v f).twIn = s.twIn := rfl
@[simp] theorem State_setVf_twOut (s : State) (v : Nat) (f : Vf) : (s.setVf v f).twOut = s.twOut := rfl
@[simp] theorem State_setVf_twDone (s : State) (v : Nat) (f : Vf) : (s.setVf v f).twDone = s.twDone := rfl
@[simp] theorem State_setVf_keys (s : State) (v : Nat) (f : Vf) : (s.setVf v f).keys = s.keys := rfl
@[simp] theorem State_setVf_keySwitch (s : State) (v : Nat) (f : Vf) : (s.setVf v f).keySwitch = s.keySwitch := rfl
@[simp] theorem State_setVf_trayIdx (s : State) (v : Nat) (f : Vf) : (s.setVf v f).trayIdx = s.trayIdx := rfl
@[simp] theorem State_setVf_links (s : State) (v : Nat) (f : Vf) : (s.setVf v f).links = s.links := rfl
@[simp] theorem State_setVf_pkgFence (s : State) (v : Nat) (f : Vf) : (s.setVf v f).pkgFence = s.pkgFence := rfl
@[simp] theorem State_setVf_pldmRecv (s : State) (v : Nat) (f : Vf) : (s.setVf v f).pldmRecv = s.pldmRecv := rfl
@[simp] theorem State_setVf_pldmQueue (s : State) (v : Nat) (f : Vf) : (s.setVf v f).pldmQueue = s.pldmQueue := rfl
@[simp] theorem State_setVf_maintRun (s : State) (v : Nat) (f : Vf) : (s.setVf v f).maintRun = s.maintRun := rfl
@[simp] theorem State_setVf_maintQueue (s : State) (v : Nat) (f : Vf) : (s.setVf v f).maintQueue = s.maintQueue := rfl
@[simp] theorem State_setVf_trayGen (s : State) (v : Nat) (f : Vf) : (s.setVf v f).trayGen = s.trayGen := rfl
@[simp] theorem State_setVf_pkg (s : State) (v : Nat) (f : Vf) : (s.setVf v f).pkg = s.pkg := rfl
@[simp] theorem State_setVf_resetPin (s : State) (v : Nat) (f : Vf) : (s.setVf v f).resetPin = s.resetPin := rfl
@[simp] theorem State_setVf_worked (s : State) (v : Nat) (f : Vf) : (s.setVf v f).worked = s.worked := rfl
@[simp] theorem State_setVf_power (s : State) (v : Nat) (f : Vf) : (s.setVf v f).power = s.power := rfl
@[simp] theorem State_setVf_flash (s : State) (v : Nat) (f : Vf) : (s.setVf v f).flash = s.flash := rfl
@[simp] theorem State_setVf_boot (s : State) (v : Nat) (f : Vf) : (s.setVf v f).boot = s.boot := rfl
@[simp] theorem State_setVf_probePack (s : State) (v : Nat) (f : Vf) : (s.setVf v f).probePack = s.probePack := rfl
@[simp] theorem State_setVf_unitProbed (s : State) (v : Nat) (f : Vf) : (s.setVf v f).unitProbed = s.unitProbed := rfl
@[simp] theorem State_setVf_copies (s : State) (v : Nat) (f : Vf) : (s.setVf v f).copies = s.copies := rfl
@[simp] theorem State_setVf_snapAt (s : State) (v : Nat) (f : Vf) : (s.setVf v f).snapAt = s.snapAt := rfl
@[simp] theorem State_setVf_snapWelyar (s : State) (v : Nat) (f : Vf) : (s.setVf v f).snapWelyar = s.snapWelyar := rfl
@[simp] theorem State_setVf_shadow (s : State) (v : Nat) (f : Vf) : (s.setVf v f).shadow = s.shadow := rfl
@[simp] theorem State_setVf_evlog (s : State) (v : Nat) (f : Vf) : (s.setVf v f).evlog = s.evlog := rfl
@[simp] theorem State_setVf_evMarks (s : State) (v : Nat) (f : Vf) : (s.setVf v f).evMarks = s.evMarks := rfl
@[simp] theorem State_setVf_sessions (s : State) (v : Nat) (f : Vf) : (s.setVf v f).sessions = s.sessions := rfl
@[simp] theorem State_setVf_tokens (s : State) (v : Nat) (f : Vf) : (s.setVf v f).tokens = s.tokens := rfl
@[simp] theorem State_setVf_tid (s : State) (v : Nat) (f : Vf) : (s.setVf v f).tid = s.tid := rfl
@[simp] theorem State_setVf_tap (s : State) (v : Nat) (f : Vf) : (s.setVf v f).tap = s.tap := rfl
@[simp] theorem State_setVf_repairs (s : State) (v : Nat) (f : Vf) : (s.setVf v f).repairs = s.repairs := rfl
@[simp] theorem State_setVf_zeroed (s : State) (v : Nat) (f : Vf) : (s.setVf v f).zeroed = s.zeroed := rfl
@[simp] theorem State_setVf_spinePos (s : State) (v : Nat) (f : Vf) : (s.setVf v f).spinePos = s.spinePos := rfl
@[simp] theorem State_setVf_suspectT (s : State) (v : Nat) (f : Vf) : (s.setVf v f).suspectT = s.suspectT := rfl
@[simp] theorem State_setVf_bentCyc (s : State) (v : Nat) (f : Vf) : (s.setVf v f).bentCyc = s.bentCyc := rfl
@[simp] theorem State_setVf_isleHold (s : State) (v : Nat) (f : Vf) : (s.setVf v f).isleHold = s.isleHold := rfl
@[simp] theorem State_setVf_mesh (s : State) (v : Nat) (f : Vf) : (s.setVf v f).mesh = s.mesh := rfl
@[simp] theorem State_setVf_pwrOk (s : State) (v : Nat) (f : Vf) : (s.setVf v f).pwrOk = s.pwrOk := rfl
@[simp] theorem State_setVf_thermtripN (s : State) (v : Nat) (f : Vf) : (s.setVf v f).thermtripN = s.thermtripN := rfl
@[simp] theorem State_setVf_cyc (s : State) (v : Nat) (f : Vf) : (s.setVf v f).cyc = s.cyc := rfl
@[simp] theorem State_setPort_pending (s : State) (n : Nat) (q : Port) : (s.setPort n q).pending = s.pending := rfl
@[simp] theorem State_setPort_regs (s : State) (n : Nat) (q : Port) : (s.setPort n q).regs = s.regs := rfl
@[simp] theorem State_setPort_plumb (s : State) (n : Nat) (q : Port) : (s.setPort n q).plumb = s.plumb := rfl
@[simp] theorem State_setPort_isle (s : State) (n : Nat) (q : Port) : (s.setPort n q).isle = s.isle := rfl
@[simp] theorem State_setPort_draws (s : State) (n : Nat) (q : Port) : (s.setPort n q).draws = s.draws := rfl
@[simp] theorem State_setPort_mem (s : State) (n : Nat) (q : Port) : (s.setPort n q).mem = s.mem := rfl
@[simp] theorem State_setPort_poison (s : State) (n : Nat) (q : Port) : (s.setPort n q).poison = s.poison := rfl
@[simp] theorem State_setPort_starts (s : State) (n : Nat) (q : Port) : (s.setPort n q).starts = s.starts := rfl
@[simp] theorem State_setPort_configured (s : State) (n : Nat) (q : Port) : (s.setPort n q).configured = s.configured := rfl
@[simp] theorem State_setPort_classes (s : State) (n : Nat) (q : Port) : (s.setPort n q).classes = s.classes := rfl
@[simp] theorem State_setPort_cores (s : State) (n : Nat) (q : Port) : (s.setPort n q).cores = s.cores := rfl
@[simp] theorem State_setPort_xfers (s : State) (n : Nat) (q : Port) : (s.setPort n q).xfers = s.xfers := rfl
@[simp] theorem State_setPort_sends (s : State) (n : Nat) (q : Port) : (s.setPort n q).sends = s.sends := rfl
@[simp] theorem State_setPort_supplies (s : State) (n : Nat) (q : Port) : (s.setPort n q).supplies = s.supplies := rfl
@[simp] theorem State_setPort_ags (s : State) (n : Nat) (q : Port) : (s.setPort n q).ags = s.ags := rfl
@[simp] theorem State_setPort_trusses (s : State) (n : Nat) (q : Port) : (s.setPort n q).trusses = s.trusses := rfl
@[simp] theorem State_setPort_colrecs (s : State) (n : Nat) (q : Port) : (s.setPort n q).colrecs = s.colrecs := rfl
@[simp] theorem State_setPort_jctxs (s : State) (n : Nat) (q : Port) : (s.setPort n q).jctxs = s.jctxs := rfl
@[simp] theorem State_setPort_jprogs (s : State) (n : Nat) (q : Port) : (s.setPort n q).jprogs = s.jprogs := rfl
@[simp] theorem State_setPort_nextId (s : State) (n : Nat) (q : Port) : (s.setPort n q).nextId = s.nextId := rfl
@[simp] theorem State_setPort_waiters (s : State) (n : Nat) (q : Port) : (s.setPort n q).waiters = s.waiters := rfl
@[simp] theorem State_setPort_signals (s : State) (n : Nat) (q : Port) : (s.setPort n q).signals = s.signals := rfl
@[simp] theorem State_setPort_badPegs (s : State) (n : Nat) (q : Port) : (s.setPort n q).badPegs = s.badPegs := rfl
@[simp] theorem State_setPort_pools (s : State) (n : Nat) (q : Port) : (s.setPort n q).pools = s.pools := rfl
@[simp] theorem State_setPort_deck (s : State) (n : Nat) (q : Port) : (s.setPort n q).deck = s.deck := rfl
@[simp] theorem State_setPort_bays (s : State) (n : Nat) (q : Port) : (s.setPort n q).bays = s.bays := rfl
@[simp] theorem State_setPort_replies (s : State) (n : Nat) (q : Port) : (s.setPort n q).replies = s.replies := rfl
@[simp] theorem State_setPort_taken (s : State) (n : Nat) (q : Port) : (s.setPort n q).taken = s.taken := rfl
@[simp] theorem State_setPort_chanErr (s : State) (n : Nat) (q : Port) : (s.setPort n q).chanErr = s.chanErr := rfl
@[simp] theorem State_setPort_lastRead (s : State) (n : Nat) (q : Port) : (s.setPort n q).lastRead = s.lastRead := rfl
@[simp] theorem State_setPort_parts (s : State) (n : Nat) (q : Port) : (s.setPort n q).parts = s.parts := rfl
@[simp] theorem State_setPort_vfs (s : State) (n : Nat) (q : Port) : (s.setPort n q).vfs = s.vfs := rfl
@[simp] theorem State_setPort_evq (s : State) (n : Nat) (q : Port) : (s.setPort n q).evq = s.evq := rfl
@[simp] theorem State_setPort_evDrop (s : State) (n : Nat) (q : Port) : (s.setPort n q).evDrop = s.evDrop := rfl
@[simp] theorem State_setPort_suspects (s : State) (n : Nat) (q : Port) : (s.setPort n q).suspects = s.suspects := rfl
@[simp] theorem State_setPort_retired (s : State) (n : Nat) (q : Port) : (s.setPort n q).retired = s.retired := rfl
@[simp] theorem State_setPort_inspects (s : State) (n : Nat) (q : Port) : (s.setPort n q).inspects = s.inspects := rfl
@[simp] theorem State_setPort_pkgRecord (s : State) (n : Nat) (q : Port) : (s.setPort n q).pkgRecord = s.pkgRecord := rfl
@[simp] theorem State_setPort_engEpoch (s : State) (n : Nat) (q : Port) : (s.setPort n q).engEpoch = s.engEpoch := rfl
@[simp] theorem State_setPort_orders (s : State) (n : Nat) (q : Port) : (s.setPort n q).orders = s.orders := rfl
@[simp] theorem State_setPort_pendingSub (s : State) (n : Nat) (q : Port) : (s.setPort n q).pendingSub = s.pendingSub := rfl
@[simp] theorem State_setPort_resTimes (s : State) (n : Nat) (q : Port) : (s.setPort n q).resTimes = s.resTimes := rfl
@[simp] theorem State_setPort_latches (s : State) (n : Nat) (q : Port) : (s.setPort n q).latches = s.latches := rfl
@[simp] theorem State_setPort_msgs (s : State) (n : Nat) (q : Port) : (s.setPort n q).msgs = s.msgs := rfl
@[simp] theorem State_setPort_sflows (s : State) (n : Nat) (q : Port) : (s.setPort n q).sflows = s.sflows := rfl
@[simp] theorem State_setPort_rflows (s : State) (n : Nat) (q : Port) : (s.setPort n q).rflows = s.rflows := rfl
@[simp] theorem State_setPort_replay (s : State) (n : Nat) (q : Port) : (s.setPort n q).replay = s.replay := rfl
@[simp] theorem State_setPort_avoid (s : State) (n : Nat) (q : Port) : (s.setPort n q).avoid = s.avoid := rfl
@[simp] theorem State_setPort_pegMsgs (s : State) (n : Nat) (q : Port) : (s.setPort n q).pegMsgs = s.pegMsgs := rfl
@[simp] theorem State_setPort_twIn (s : State) (n : Nat) (q : Port) : (s.setPort n q).twIn = s.twIn := rfl
@[simp] theorem State_setPort_twOut (s : State) (n : Nat) (q : Port) : (s.setPort n q).twOut = s.twOut := rfl
@[simp] theorem State_setPort_twDone (s : State) (n : Nat) (q : Port) : (s.setPort n q).twDone = s.twDone := rfl
@[simp] theorem State_setPort_keys (s : State) (n : Nat) (q : Port) : (s.setPort n q).keys = s.keys := rfl
@[simp] theorem State_setPort_keySwitch (s : State) (n : Nat) (q : Port) : (s.setPort n q).keySwitch = s.keySwitch := rfl
@[simp] theorem State_setPort_trayIdx (s : State) (n : Nat) (q : Port) : (s.setPort n q).trayIdx = s.trayIdx := rfl
@[simp] theorem State_setPort_links (s : State) (n : Nat) (q : Port) : (s.setPort n q).links = s.links := rfl
@[simp] theorem State_setPort_pkgFence (s : State) (n : Nat) (q : Port) : (s.setPort n q).pkgFence = s.pkgFence := rfl
@[simp] theorem State_setPort_pldmRecv (s : State) (n : Nat) (q : Port) : (s.setPort n q).pldmRecv = s.pldmRecv := rfl
@[simp] theorem State_setPort_pldmQueue (s : State) (n : Nat) (q : Port) : (s.setPort n q).pldmQueue = s.pldmQueue := rfl
@[simp] theorem State_setPort_maintRun (s : State) (n : Nat) (q : Port) : (s.setPort n q).maintRun = s.maintRun := rfl
@[simp] theorem State_setPort_maintQueue (s : State) (n : Nat) (q : Port) : (s.setPort n q).maintQueue = s.maintQueue := rfl
@[simp] theorem State_setPort_trayGen (s : State) (n : Nat) (q : Port) : (s.setPort n q).trayGen = s.trayGen := rfl
@[simp] theorem State_setPort_pkg (s : State) (n : Nat) (q : Port) : (s.setPort n q).pkg = s.pkg := rfl
@[simp] theorem State_setPort_resetPin (s : State) (n : Nat) (q : Port) : (s.setPort n q).resetPin = s.resetPin := rfl
@[simp] theorem State_setPort_worked (s : State) (n : Nat) (q : Port) : (s.setPort n q).worked = s.worked := rfl
@[simp] theorem State_setPort_power (s : State) (n : Nat) (q : Port) : (s.setPort n q).power = s.power := rfl
@[simp] theorem State_setPort_flash (s : State) (n : Nat) (q : Port) : (s.setPort n q).flash = s.flash := rfl
@[simp] theorem State_setPort_boot (s : State) (n : Nat) (q : Port) : (s.setPort n q).boot = s.boot := rfl
@[simp] theorem State_setPort_probePack (s : State) (n : Nat) (q : Port) : (s.setPort n q).probePack = s.probePack := rfl
@[simp] theorem State_setPort_unitProbed (s : State) (n : Nat) (q : Port) : (s.setPort n q).unitProbed = s.unitProbed := rfl
@[simp] theorem State_setPort_copies (s : State) (n : Nat) (q : Port) : (s.setPort n q).copies = s.copies := rfl
@[simp] theorem State_setPort_snapAt (s : State) (n : Nat) (q : Port) : (s.setPort n q).snapAt = s.snapAt := rfl
@[simp] theorem State_setPort_snapWelyar (s : State) (n : Nat) (q : Port) : (s.setPort n q).snapWelyar = s.snapWelyar := rfl
@[simp] theorem State_setPort_shadow (s : State) (n : Nat) (q : Port) : (s.setPort n q).shadow = s.shadow := rfl
@[simp] theorem State_setPort_evlog (s : State) (n : Nat) (q : Port) : (s.setPort n q).evlog = s.evlog := rfl
@[simp] theorem State_setPort_evMarks (s : State) (n : Nat) (q : Port) : (s.setPort n q).evMarks = s.evMarks := rfl
@[simp] theorem State_setPort_sessions (s : State) (n : Nat) (q : Port) : (s.setPort n q).sessions = s.sessions := rfl
@[simp] theorem State_setPort_tokens (s : State) (n : Nat) (q : Port) : (s.setPort n q).tokens = s.tokens := rfl
@[simp] theorem State_setPort_tid (s : State) (n : Nat) (q : Port) : (s.setPort n q).tid = s.tid := rfl
@[simp] theorem State_setPort_tap (s : State) (n : Nat) (q : Port) : (s.setPort n q).tap = s.tap := rfl
@[simp] theorem State_setPort_repairs (s : State) (n : Nat) (q : Port) : (s.setPort n q).repairs = s.repairs := rfl
@[simp] theorem State_setPort_zeroed (s : State) (n : Nat) (q : Port) : (s.setPort n q).zeroed = s.zeroed := rfl
@[simp] theorem State_setPort_spinePos (s : State) (n : Nat) (q : Port) : (s.setPort n q).spinePos = s.spinePos := rfl
@[simp] theorem State_setPort_suspectT (s : State) (n : Nat) (q : Port) : (s.setPort n q).suspectT = s.suspectT := rfl
@[simp] theorem State_setPort_bentCyc (s : State) (n : Nat) (q : Port) : (s.setPort n q).bentCyc = s.bentCyc := rfl
@[simp] theorem State_setPort_isleHold (s : State) (n : Nat) (q : Port) : (s.setPort n q).isleHold = s.isleHold := rfl
@[simp] theorem State_setPort_mesh (s : State) (n : Nat) (q : Port) : (s.setPort n q).mesh = s.mesh := rfl
@[simp] theorem State_setPort_pwrOk (s : State) (n : Nat) (q : Port) : (s.setPort n q).pwrOk = s.pwrOk := rfl
@[simp] theorem State_setPort_thermtripN (s : State) (n : Nat) (q : Port) : (s.setPort n q).thermtripN = s.thermtripN := rfl
@[simp] theorem State_setPort_cyc (s : State) (n : Nat) (q : Port) : (s.setPort n q).cyc = s.cyc := rfl
@[simp] theorem State_setTruss_pending (s : State) (p i : Nat) (t : Truss) : (s.setTruss p i t).pending = s.pending := rfl
@[simp] theorem State_setTruss_regs (s : State) (p i : Nat) (t : Truss) : (s.setTruss p i t).regs = s.regs := rfl
@[simp] theorem State_setTruss_plumb (s : State) (p i : Nat) (t : Truss) : (s.setTruss p i t).plumb = s.plumb := rfl
@[simp] theorem State_setTruss_isle (s : State) (p i : Nat) (t : Truss) : (s.setTruss p i t).isle = s.isle := rfl
@[simp] theorem State_setTruss_draws (s : State) (p i : Nat) (t : Truss) : (s.setTruss p i t).draws = s.draws := rfl
@[simp] theorem State_setTruss_mem (s : State) (p i : Nat) (t : Truss) : (s.setTruss p i t).mem = s.mem := rfl
@[simp] theorem State_setTruss_poison (s : State) (p i : Nat) (t : Truss) : (s.setTruss p i t).poison = s.poison := rfl
@[simp] theorem State_setTruss_starts (s : State) (p i : Nat) (t : Truss) : (s.setTruss p i t).starts = s.starts := rfl
@[simp] theorem State_setTruss_configured (s : State) (p i : Nat) (t : Truss) : (s.setTruss p i t).configured = s.configured := rfl
@[simp] theorem State_setTruss_classes (s : State) (p i : Nat) (t : Truss) : (s.setTruss p i t).classes = s.classes := rfl
@[simp] theorem State_setTruss_cores (s : State) (p i : Nat) (t : Truss) : (s.setTruss p i t).cores = s.cores := rfl
@[simp] theorem State_setTruss_xfers (s : State) (p i : Nat) (t : Truss) : (s.setTruss p i t).xfers = s.xfers := rfl
@[simp] theorem State_setTruss_sends (s : State) (p i : Nat) (t : Truss) : (s.setTruss p i t).sends = s.sends := rfl
@[simp] theorem State_setTruss_supplies (s : State) (p i : Nat) (t : Truss) : (s.setTruss p i t).supplies = s.supplies := rfl
@[simp] theorem State_setTruss_ags (s : State) (p i : Nat) (t : Truss) : (s.setTruss p i t).ags = s.ags := rfl
@[simp] theorem State_setTruss_colrecs (s : State) (p i : Nat) (t : Truss) : (s.setTruss p i t).colrecs = s.colrecs := rfl
@[simp] theorem State_setTruss_jctxs (s : State) (p i : Nat) (t : Truss) : (s.setTruss p i t).jctxs = s.jctxs := rfl
@[simp] theorem State_setTruss_jprogs (s : State) (p i : Nat) (t : Truss) : (s.setTruss p i t).jprogs = s.jprogs := rfl
@[simp] theorem State_setTruss_nextId (s : State) (p i : Nat) (t : Truss) : (s.setTruss p i t).nextId = s.nextId := rfl
@[simp] theorem State_setTruss_waiters (s : State) (p i : Nat) (t : Truss) : (s.setTruss p i t).waiters = s.waiters := rfl
@[simp] theorem State_setTruss_signals (s : State) (p i : Nat) (t : Truss) : (s.setTruss p i t).signals = s.signals := rfl
@[simp] theorem State_setTruss_badPegs (s : State) (p i : Nat) (t : Truss) : (s.setTruss p i t).badPegs = s.badPegs := rfl
@[simp] theorem State_setTruss_pools (s : State) (p i : Nat) (t : Truss) : (s.setTruss p i t).pools = s.pools := rfl
@[simp] theorem State_setTruss_deck (s : State) (p i : Nat) (t : Truss) : (s.setTruss p i t).deck = s.deck := rfl
@[simp] theorem State_setTruss_bays (s : State) (p i : Nat) (t : Truss) : (s.setTruss p i t).bays = s.bays := rfl
@[simp] theorem State_setTruss_replies (s : State) (p i : Nat) (t : Truss) : (s.setTruss p i t).replies = s.replies := rfl
@[simp] theorem State_setTruss_taken (s : State) (p i : Nat) (t : Truss) : (s.setTruss p i t).taken = s.taken := rfl
@[simp] theorem State_setTruss_chanErr (s : State) (p i : Nat) (t : Truss) : (s.setTruss p i t).chanErr = s.chanErr := rfl
@[simp] theorem State_setTruss_lastRead (s : State) (p i : Nat) (t : Truss) : (s.setTruss p i t).lastRead = s.lastRead := rfl
@[simp] theorem State_setTruss_parts (s : State) (p i : Nat) (t : Truss) : (s.setTruss p i t).parts = s.parts := rfl
@[simp] theorem State_setTruss_vfs (s : State) (p i : Nat) (t : Truss) : (s.setTruss p i t).vfs = s.vfs := rfl
@[simp] theorem State_setTruss_evq (s : State) (p i : Nat) (t : Truss) : (s.setTruss p i t).evq = s.evq := rfl
@[simp] theorem State_setTruss_evDrop (s : State) (p i : Nat) (t : Truss) : (s.setTruss p i t).evDrop = s.evDrop := rfl
@[simp] theorem State_setTruss_suspects (s : State) (p i : Nat) (t : Truss) : (s.setTruss p i t).suspects = s.suspects := rfl
@[simp] theorem State_setTruss_retired (s : State) (p i : Nat) (t : Truss) : (s.setTruss p i t).retired = s.retired := rfl
@[simp] theorem State_setTruss_inspects (s : State) (p i : Nat) (t : Truss) : (s.setTruss p i t).inspects = s.inspects := rfl
@[simp] theorem State_setTruss_pkgRecord (s : State) (p i : Nat) (t : Truss) : (s.setTruss p i t).pkgRecord = s.pkgRecord := rfl
@[simp] theorem State_setTruss_engEpoch (s : State) (p i : Nat) (t : Truss) : (s.setTruss p i t).engEpoch = s.engEpoch := rfl
@[simp] theorem State_setTruss_orders (s : State) (p i : Nat) (t : Truss) : (s.setTruss p i t).orders = s.orders := rfl
@[simp] theorem State_setTruss_pendingSub (s : State) (p i : Nat) (t : Truss) : (s.setTruss p i t).pendingSub = s.pendingSub := rfl
@[simp] theorem State_setTruss_resTimes (s : State) (p i : Nat) (t : Truss) : (s.setTruss p i t).resTimes = s.resTimes := rfl
@[simp] theorem State_setTruss_latches (s : State) (p i : Nat) (t : Truss) : (s.setTruss p i t).latches = s.latches := rfl
@[simp] theorem State_setTruss_msgs (s : State) (p i : Nat) (t : Truss) : (s.setTruss p i t).msgs = s.msgs := rfl
@[simp] theorem State_setTruss_ports (s : State) (p i : Nat) (t : Truss) : (s.setTruss p i t).ports = s.ports := rfl
@[simp] theorem State_setTruss_sflows (s : State) (p i : Nat) (t : Truss) : (s.setTruss p i t).sflows = s.sflows := rfl
@[simp] theorem State_setTruss_rflows (s : State) (p i : Nat) (t : Truss) : (s.setTruss p i t).rflows = s.rflows := rfl
@[simp] theorem State_setTruss_replay (s : State) (p i : Nat) (t : Truss) : (s.setTruss p i t).replay = s.replay := rfl
@[simp] theorem State_setTruss_avoid (s : State) (p i : Nat) (t : Truss) : (s.setTruss p i t).avoid = s.avoid := rfl
@[simp] theorem State_setTruss_pegMsgs (s : State) (p i : Nat) (t : Truss) : (s.setTruss p i t).pegMsgs = s.pegMsgs := rfl
@[simp] theorem State_setTruss_twIn (s : State) (p i : Nat) (t : Truss) : (s.setTruss p i t).twIn = s.twIn := rfl
@[simp] theorem State_setTruss_twOut (s : State) (p i : Nat) (t : Truss) : (s.setTruss p i t).twOut = s.twOut := rfl
@[simp] theorem State_setTruss_twDone (s : State) (p i : Nat) (t : Truss) : (s.setTruss p i t).twDone = s.twDone := rfl
@[simp] theorem State_setTruss_keys (s : State) (p i : Nat) (t : Truss) : (s.setTruss p i t).keys = s.keys := rfl
@[simp] theorem State_setTruss_keySwitch (s : State) (p i : Nat) (t : Truss) : (s.setTruss p i t).keySwitch = s.keySwitch := rfl
@[simp] theorem State_setTruss_trayIdx (s : State) (p i : Nat) (t : Truss) : (s.setTruss p i t).trayIdx = s.trayIdx := rfl
@[simp] theorem State_setTruss_links (s : State) (p i : Nat) (t : Truss) : (s.setTruss p i t).links = s.links := rfl
@[simp] theorem State_setTruss_pkgFence (s : State) (p i : Nat) (t : Truss) : (s.setTruss p i t).pkgFence = s.pkgFence := rfl
@[simp] theorem State_setTruss_pldmRecv (s : State) (p i : Nat) (t : Truss) : (s.setTruss p i t).pldmRecv = s.pldmRecv := rfl
@[simp] theorem State_setTruss_pldmQueue (s : State) (p i : Nat) (t : Truss) : (s.setTruss p i t).pldmQueue = s.pldmQueue := rfl
@[simp] theorem State_setTruss_maintRun (s : State) (p i : Nat) (t : Truss) : (s.setTruss p i t).maintRun = s.maintRun := rfl
@[simp] theorem State_setTruss_maintQueue (s : State) (p i : Nat) (t : Truss) : (s.setTruss p i t).maintQueue = s.maintQueue := rfl
@[simp] theorem State_setTruss_trayGen (s : State) (p i : Nat) (t : Truss) : (s.setTruss p i t).trayGen = s.trayGen := rfl
@[simp] theorem State_setTruss_pkg (s : State) (p i : Nat) (t : Truss) : (s.setTruss p i t).pkg = s.pkg := rfl
@[simp] theorem State_setTruss_resetPin (s : State) (p i : Nat) (t : Truss) : (s.setTruss p i t).resetPin = s.resetPin := rfl
@[simp] theorem State_setTruss_worked (s : State) (p i : Nat) (t : Truss) : (s.setTruss p i t).worked = s.worked := rfl
@[simp] theorem State_setTruss_power (s : State) (p i : Nat) (t : Truss) : (s.setTruss p i t).power = s.power := rfl
@[simp] theorem State_setTruss_flash (s : State) (p i : Nat) (t : Truss) : (s.setTruss p i t).flash = s.flash := rfl
@[simp] theorem State_setTruss_boot (s : State) (p i : Nat) (t : Truss) : (s.setTruss p i t).boot = s.boot := rfl
@[simp] theorem State_setTruss_probePack (s : State) (p i : Nat) (t : Truss) : (s.setTruss p i t).probePack = s.probePack := rfl
@[simp] theorem State_setTruss_unitProbed (s : State) (p i : Nat) (t : Truss) : (s.setTruss p i t).unitProbed = s.unitProbed := rfl
@[simp] theorem State_setTruss_copies (s : State) (p i : Nat) (t : Truss) : (s.setTruss p i t).copies = s.copies := rfl
@[simp] theorem State_setTruss_snapAt (s : State) (p i : Nat) (t : Truss) : (s.setTruss p i t).snapAt = s.snapAt := rfl
@[simp] theorem State_setTruss_snapWelyar (s : State) (p i : Nat) (t : Truss) : (s.setTruss p i t).snapWelyar = s.snapWelyar := rfl
@[simp] theorem State_setTruss_shadow (s : State) (p i : Nat) (t : Truss) : (s.setTruss p i t).shadow = s.shadow := rfl
@[simp] theorem State_setTruss_evlog (s : State) (p i : Nat) (t : Truss) : (s.setTruss p i t).evlog = s.evlog := rfl
@[simp] theorem State_setTruss_evMarks (s : State) (p i : Nat) (t : Truss) : (s.setTruss p i t).evMarks = s.evMarks := rfl
@[simp] theorem State_setTruss_sessions (s : State) (p i : Nat) (t : Truss) : (s.setTruss p i t).sessions = s.sessions := rfl
@[simp] theorem State_setTruss_tokens (s : State) (p i : Nat) (t : Truss) : (s.setTruss p i t).tokens = s.tokens := rfl
@[simp] theorem State_setTruss_tid (s : State) (p i : Nat) (t : Truss) : (s.setTruss p i t).tid = s.tid := rfl
@[simp] theorem State_setTruss_tap (s : State) (p i : Nat) (t : Truss) : (s.setTruss p i t).tap = s.tap := rfl
@[simp] theorem State_setTruss_repairs (s : State) (p i : Nat) (t : Truss) : (s.setTruss p i t).repairs = s.repairs := rfl
@[simp] theorem State_setTruss_zeroed (s : State) (p i : Nat) (t : Truss) : (s.setTruss p i t).zeroed = s.zeroed := rfl
@[simp] theorem State_setTruss_spinePos (s : State) (p i : Nat) (t : Truss) : (s.setTruss p i t).spinePos = s.spinePos := rfl
@[simp] theorem State_setTruss_suspectT (s : State) (p i : Nat) (t : Truss) : (s.setTruss p i t).suspectT = s.suspectT := rfl
@[simp] theorem State_setTruss_bentCyc (s : State) (p i : Nat) (t : Truss) : (s.setTruss p i t).bentCyc = s.bentCyc := rfl
@[simp] theorem State_setTruss_isleHold (s : State) (p i : Nat) (t : Truss) : (s.setTruss p i t).isleHold = s.isleHold := rfl
@[simp] theorem State_setTruss_mesh (s : State) (p i : Nat) (t : Truss) : (s.setTruss p i t).mesh = s.mesh := rfl
@[simp] theorem State_setTruss_pwrOk (s : State) (p i : Nat) (t : Truss) : (s.setTruss p i t).pwrOk = s.pwrOk := rfl
@[simp] theorem State_setTruss_thermtripN (s : State) (p i : Nat) (t : Truss) : (s.setTruss p i t).thermtripN = s.thermtripN := rfl
@[simp] theorem State_setTruss_cyc (s : State) (p i : Nat) (t : Truss) : (s.setTruss p i t).cyc = s.cyc := rfl
@[simp] theorem State_setJctx_pending (s : State) (p i : Nat) (j : JCtx) : (s.setJctx p i j).pending = s.pending := rfl
@[simp] theorem State_setJctx_regs (s : State) (p i : Nat) (j : JCtx) : (s.setJctx p i j).regs = s.regs := rfl
@[simp] theorem State_setJctx_plumb (s : State) (p i : Nat) (j : JCtx) : (s.setJctx p i j).plumb = s.plumb := rfl
@[simp] theorem State_setJctx_isle (s : State) (p i : Nat) (j : JCtx) : (s.setJctx p i j).isle = s.isle := rfl
@[simp] theorem State_setJctx_draws (s : State) (p i : Nat) (j : JCtx) : (s.setJctx p i j).draws = s.draws := rfl
@[simp] theorem State_setJctx_mem (s : State) (p i : Nat) (j : JCtx) : (s.setJctx p i j).mem = s.mem := rfl
@[simp] theorem State_setJctx_poison (s : State) (p i : Nat) (j : JCtx) : (s.setJctx p i j).poison = s.poison := rfl
@[simp] theorem State_setJctx_starts (s : State) (p i : Nat) (j : JCtx) : (s.setJctx p i j).starts = s.starts := rfl
@[simp] theorem State_setJctx_configured (s : State) (p i : Nat) (j : JCtx) : (s.setJctx p i j).configured = s.configured := rfl
@[simp] theorem State_setJctx_classes (s : State) (p i : Nat) (j : JCtx) : (s.setJctx p i j).classes = s.classes := rfl
@[simp] theorem State_setJctx_cores (s : State) (p i : Nat) (j : JCtx) : (s.setJctx p i j).cores = s.cores := rfl
@[simp] theorem State_setJctx_xfers (s : State) (p i : Nat) (j : JCtx) : (s.setJctx p i j).xfers = s.xfers := rfl
@[simp] theorem State_setJctx_sends (s : State) (p i : Nat) (j : JCtx) : (s.setJctx p i j).sends = s.sends := rfl
@[simp] theorem State_setJctx_supplies (s : State) (p i : Nat) (j : JCtx) : (s.setJctx p i j).supplies = s.supplies := rfl
@[simp] theorem State_setJctx_ags (s : State) (p i : Nat) (j : JCtx) : (s.setJctx p i j).ags = s.ags := rfl
@[simp] theorem State_setJctx_trusses (s : State) (p i : Nat) (j : JCtx) : (s.setJctx p i j).trusses = s.trusses := rfl
@[simp] theorem State_setJctx_colrecs (s : State) (p i : Nat) (j : JCtx) : (s.setJctx p i j).colrecs = s.colrecs := rfl
@[simp] theorem State_setJctx_jprogs (s : State) (p i : Nat) (j : JCtx) : (s.setJctx p i j).jprogs = s.jprogs := rfl
@[simp] theorem State_setJctx_nextId (s : State) (p i : Nat) (j : JCtx) : (s.setJctx p i j).nextId = s.nextId := rfl
@[simp] theorem State_setJctx_waiters (s : State) (p i : Nat) (j : JCtx) : (s.setJctx p i j).waiters = s.waiters := rfl
@[simp] theorem State_setJctx_signals (s : State) (p i : Nat) (j : JCtx) : (s.setJctx p i j).signals = s.signals := rfl
@[simp] theorem State_setJctx_badPegs (s : State) (p i : Nat) (j : JCtx) : (s.setJctx p i j).badPegs = s.badPegs := rfl
@[simp] theorem State_setJctx_pools (s : State) (p i : Nat) (j : JCtx) : (s.setJctx p i j).pools = s.pools := rfl
@[simp] theorem State_setJctx_deck (s : State) (p i : Nat) (j : JCtx) : (s.setJctx p i j).deck = s.deck := rfl
@[simp] theorem State_setJctx_bays (s : State) (p i : Nat) (j : JCtx) : (s.setJctx p i j).bays = s.bays := rfl
@[simp] theorem State_setJctx_replies (s : State) (p i : Nat) (j : JCtx) : (s.setJctx p i j).replies = s.replies := rfl
@[simp] theorem State_setJctx_taken (s : State) (p i : Nat) (j : JCtx) : (s.setJctx p i j).taken = s.taken := rfl
@[simp] theorem State_setJctx_chanErr (s : State) (p i : Nat) (j : JCtx) : (s.setJctx p i j).chanErr = s.chanErr := rfl
@[simp] theorem State_setJctx_lastRead (s : State) (p i : Nat) (j : JCtx) : (s.setJctx p i j).lastRead = s.lastRead := rfl
@[simp] theorem State_setJctx_parts (s : State) (p i : Nat) (j : JCtx) : (s.setJctx p i j).parts = s.parts := rfl
@[simp] theorem State_setJctx_vfs (s : State) (p i : Nat) (j : JCtx) : (s.setJctx p i j).vfs = s.vfs := rfl
@[simp] theorem State_setJctx_evq (s : State) (p i : Nat) (j : JCtx) : (s.setJctx p i j).evq = s.evq := rfl
@[simp] theorem State_setJctx_evDrop (s : State) (p i : Nat) (j : JCtx) : (s.setJctx p i j).evDrop = s.evDrop := rfl
@[simp] theorem State_setJctx_suspects (s : State) (p i : Nat) (j : JCtx) : (s.setJctx p i j).suspects = s.suspects := rfl
@[simp] theorem State_setJctx_retired (s : State) (p i : Nat) (j : JCtx) : (s.setJctx p i j).retired = s.retired := rfl
@[simp] theorem State_setJctx_inspects (s : State) (p i : Nat) (j : JCtx) : (s.setJctx p i j).inspects = s.inspects := rfl
@[simp] theorem State_setJctx_pkgRecord (s : State) (p i : Nat) (j : JCtx) : (s.setJctx p i j).pkgRecord = s.pkgRecord := rfl
@[simp] theorem State_setJctx_engEpoch (s : State) (p i : Nat) (j : JCtx) : (s.setJctx p i j).engEpoch = s.engEpoch := rfl
@[simp] theorem State_setJctx_orders (s : State) (p i : Nat) (j : JCtx) : (s.setJctx p i j).orders = s.orders := rfl
@[simp] theorem State_setJctx_pendingSub (s : State) (p i : Nat) (j : JCtx) : (s.setJctx p i j).pendingSub = s.pendingSub := rfl
@[simp] theorem State_setJctx_resTimes (s : State) (p i : Nat) (j : JCtx) : (s.setJctx p i j).resTimes = s.resTimes := rfl
@[simp] theorem State_setJctx_latches (s : State) (p i : Nat) (j : JCtx) : (s.setJctx p i j).latches = s.latches := rfl
@[simp] theorem State_setJctx_msgs (s : State) (p i : Nat) (j : JCtx) : (s.setJctx p i j).msgs = s.msgs := rfl
@[simp] theorem State_setJctx_ports (s : State) (p i : Nat) (j : JCtx) : (s.setJctx p i j).ports = s.ports := rfl
@[simp] theorem State_setJctx_sflows (s : State) (p i : Nat) (j : JCtx) : (s.setJctx p i j).sflows = s.sflows := rfl
@[simp] theorem State_setJctx_rflows (s : State) (p i : Nat) (j : JCtx) : (s.setJctx p i j).rflows = s.rflows := rfl
@[simp] theorem State_setJctx_replay (s : State) (p i : Nat) (j : JCtx) : (s.setJctx p i j).replay = s.replay := rfl
@[simp] theorem State_setJctx_avoid (s : State) (p i : Nat) (j : JCtx) : (s.setJctx p i j).avoid = s.avoid := rfl
@[simp] theorem State_setJctx_pegMsgs (s : State) (p i : Nat) (j : JCtx) : (s.setJctx p i j).pegMsgs = s.pegMsgs := rfl
@[simp] theorem State_setJctx_twIn (s : State) (p i : Nat) (j : JCtx) : (s.setJctx p i j).twIn = s.twIn := rfl
@[simp] theorem State_setJctx_twOut (s : State) (p i : Nat) (j : JCtx) : (s.setJctx p i j).twOut = s.twOut := rfl
@[simp] theorem State_setJctx_twDone (s : State) (p i : Nat) (j : JCtx) : (s.setJctx p i j).twDone = s.twDone := rfl
@[simp] theorem State_setJctx_keys (s : State) (p i : Nat) (j : JCtx) : (s.setJctx p i j).keys = s.keys := rfl
@[simp] theorem State_setJctx_keySwitch (s : State) (p i : Nat) (j : JCtx) : (s.setJctx p i j).keySwitch = s.keySwitch := rfl
@[simp] theorem State_setJctx_trayIdx (s : State) (p i : Nat) (j : JCtx) : (s.setJctx p i j).trayIdx = s.trayIdx := rfl
@[simp] theorem State_setJctx_links (s : State) (p i : Nat) (j : JCtx) : (s.setJctx p i j).links = s.links := rfl
@[simp] theorem State_setJctx_pkgFence (s : State) (p i : Nat) (j : JCtx) : (s.setJctx p i j).pkgFence = s.pkgFence := rfl
@[simp] theorem State_setJctx_pldmRecv (s : State) (p i : Nat) (j : JCtx) : (s.setJctx p i j).pldmRecv = s.pldmRecv := rfl
@[simp] theorem State_setJctx_pldmQueue (s : State) (p i : Nat) (j : JCtx) : (s.setJctx p i j).pldmQueue = s.pldmQueue := rfl
@[simp] theorem State_setJctx_maintRun (s : State) (p i : Nat) (j : JCtx) : (s.setJctx p i j).maintRun = s.maintRun := rfl
@[simp] theorem State_setJctx_maintQueue (s : State) (p i : Nat) (j : JCtx) : (s.setJctx p i j).maintQueue = s.maintQueue := rfl
@[simp] theorem State_setJctx_trayGen (s : State) (p i : Nat) (j : JCtx) : (s.setJctx p i j).trayGen = s.trayGen := rfl
@[simp] theorem State_setJctx_pkg (s : State) (p i : Nat) (j : JCtx) : (s.setJctx p i j).pkg = s.pkg := rfl
@[simp] theorem State_setJctx_resetPin (s : State) (p i : Nat) (j : JCtx) : (s.setJctx p i j).resetPin = s.resetPin := rfl
@[simp] theorem State_setJctx_worked (s : State) (p i : Nat) (j : JCtx) : (s.setJctx p i j).worked = s.worked := rfl
@[simp] theorem State_setJctx_power (s : State) (p i : Nat) (j : JCtx) : (s.setJctx p i j).power = s.power := rfl
@[simp] theorem State_setJctx_flash (s : State) (p i : Nat) (j : JCtx) : (s.setJctx p i j).flash = s.flash := rfl
@[simp] theorem State_setJctx_boot (s : State) (p i : Nat) (j : JCtx) : (s.setJctx p i j).boot = s.boot := rfl
@[simp] theorem State_setJctx_probePack (s : State) (p i : Nat) (j : JCtx) : (s.setJctx p i j).probePack = s.probePack := rfl
@[simp] theorem State_setJctx_unitProbed (s : State) (p i : Nat) (j : JCtx) : (s.setJctx p i j).unitProbed = s.unitProbed := rfl
@[simp] theorem State_setJctx_copies (s : State) (p i : Nat) (j : JCtx) : (s.setJctx p i j).copies = s.copies := rfl
@[simp] theorem State_setJctx_snapAt (s : State) (p i : Nat) (j : JCtx) : (s.setJctx p i j).snapAt = s.snapAt := rfl
@[simp] theorem State_setJctx_snapWelyar (s : State) (p i : Nat) (j : JCtx) : (s.setJctx p i j).snapWelyar = s.snapWelyar := rfl
@[simp] theorem State_setJctx_shadow (s : State) (p i : Nat) (j : JCtx) : (s.setJctx p i j).shadow = s.shadow := rfl
@[simp] theorem State_setJctx_evlog (s : State) (p i : Nat) (j : JCtx) : (s.setJctx p i j).evlog = s.evlog := rfl
@[simp] theorem State_setJctx_evMarks (s : State) (p i : Nat) (j : JCtx) : (s.setJctx p i j).evMarks = s.evMarks := rfl
@[simp] theorem State_setJctx_sessions (s : State) (p i : Nat) (j : JCtx) : (s.setJctx p i j).sessions = s.sessions := rfl
@[simp] theorem State_setJctx_tokens (s : State) (p i : Nat) (j : JCtx) : (s.setJctx p i j).tokens = s.tokens := rfl
@[simp] theorem State_setJctx_tid (s : State) (p i : Nat) (j : JCtx) : (s.setJctx p i j).tid = s.tid := rfl
@[simp] theorem State_setJctx_tap (s : State) (p i : Nat) (j : JCtx) : (s.setJctx p i j).tap = s.tap := rfl
@[simp] theorem State_setJctx_repairs (s : State) (p i : Nat) (j : JCtx) : (s.setJctx p i j).repairs = s.repairs := rfl
@[simp] theorem State_setJctx_zeroed (s : State) (p i : Nat) (j : JCtx) : (s.setJctx p i j).zeroed = s.zeroed := rfl
@[simp] theorem State_setJctx_spinePos (s : State) (p i : Nat) (j : JCtx) : (s.setJctx p i j).spinePos = s.spinePos := rfl
@[simp] theorem State_setJctx_suspectT (s : State) (p i : Nat) (j : JCtx) : (s.setJctx p i j).suspectT = s.suspectT := rfl
@[simp] theorem State_setJctx_bentCyc (s : State) (p i : Nat) (j : JCtx) : (s.setJctx p i j).bentCyc = s.bentCyc := rfl
@[simp] theorem State_setJctx_isleHold (s : State) (p i : Nat) (j : JCtx) : (s.setJctx p i j).isleHold = s.isleHold := rfl
@[simp] theorem State_setJctx_mesh (s : State) (p i : Nat) (j : JCtx) : (s.setJctx p i j).mesh = s.mesh := rfl
@[simp] theorem State_setJctx_pwrOk (s : State) (p i : Nat) (j : JCtx) : (s.setJctx p i j).pwrOk = s.pwrOk := rfl
@[simp] theorem State_setJctx_thermtripN (s : State) (p i : Nat) (j : JCtx) : (s.setJctx p i j).thermtripN = s.thermtripN := rfl
@[simp] theorem State_setJctx_cyc (s : State) (p i : Nat) (j : JCtx) : (s.setJctx p i j).cyc = s.cyc := rfl
@[simp] theorem State_setPool_pending (s : State) (d q : Nat) (v : Pool) : (s.setPool d q v).pending = s.pending := rfl
@[simp] theorem State_setPool_regs (s : State) (d q : Nat) (v : Pool) : (s.setPool d q v).regs = s.regs := rfl
@[simp] theorem State_setPool_plumb (s : State) (d q : Nat) (v : Pool) : (s.setPool d q v).plumb = s.plumb := rfl
@[simp] theorem State_setPool_isle (s : State) (d q : Nat) (v : Pool) : (s.setPool d q v).isle = s.isle := rfl
@[simp] theorem State_setPool_draws (s : State) (d q : Nat) (v : Pool) : (s.setPool d q v).draws = s.draws := rfl
@[simp] theorem State_setPool_mem (s : State) (d q : Nat) (v : Pool) : (s.setPool d q v).mem = s.mem := rfl
@[simp] theorem State_setPool_poison (s : State) (d q : Nat) (v : Pool) : (s.setPool d q v).poison = s.poison := rfl
@[simp] theorem State_setPool_starts (s : State) (d q : Nat) (v : Pool) : (s.setPool d q v).starts = s.starts := rfl
@[simp] theorem State_setPool_configured (s : State) (d q : Nat) (v : Pool) : (s.setPool d q v).configured = s.configured := rfl
@[simp] theorem State_setPool_classes (s : State) (d q : Nat) (v : Pool) : (s.setPool d q v).classes = s.classes := rfl
@[simp] theorem State_setPool_cores (s : State) (d q : Nat) (v : Pool) : (s.setPool d q v).cores = s.cores := rfl
@[simp] theorem State_setPool_xfers (s : State) (d q : Nat) (v : Pool) : (s.setPool d q v).xfers = s.xfers := rfl
@[simp] theorem State_setPool_sends (s : State) (d q : Nat) (v : Pool) : (s.setPool d q v).sends = s.sends := rfl
@[simp] theorem State_setPool_supplies (s : State) (d q : Nat) (v : Pool) : (s.setPool d q v).supplies = s.supplies := rfl
@[simp] theorem State_setPool_ags (s : State) (d q : Nat) (v : Pool) : (s.setPool d q v).ags = s.ags := rfl
@[simp] theorem State_setPool_trusses (s : State) (d q : Nat) (v : Pool) : (s.setPool d q v).trusses = s.trusses := rfl
@[simp] theorem State_setPool_colrecs (s : State) (d q : Nat) (v : Pool) : (s.setPool d q v).colrecs = s.colrecs := rfl
@[simp] theorem State_setPool_jctxs (s : State) (d q : Nat) (v : Pool) : (s.setPool d q v).jctxs = s.jctxs := rfl
@[simp] theorem State_setPool_jprogs (s : State) (d q : Nat) (v : Pool) : (s.setPool d q v).jprogs = s.jprogs := rfl
@[simp] theorem State_setPool_nextId (s : State) (d q : Nat) (v : Pool) : (s.setPool d q v).nextId = s.nextId := rfl
@[simp] theorem State_setPool_waiters (s : State) (d q : Nat) (v : Pool) : (s.setPool d q v).waiters = s.waiters := rfl
@[simp] theorem State_setPool_signals (s : State) (d q : Nat) (v : Pool) : (s.setPool d q v).signals = s.signals := rfl
@[simp] theorem State_setPool_badPegs (s : State) (d q : Nat) (v : Pool) : (s.setPool d q v).badPegs = s.badPegs := rfl
@[simp] theorem State_setPool_deck (s : State) (d q : Nat) (v : Pool) : (s.setPool d q v).deck = s.deck := rfl
@[simp] theorem State_setPool_bays (s : State) (d q : Nat) (v : Pool) : (s.setPool d q v).bays = s.bays := rfl
@[simp] theorem State_setPool_replies (s : State) (d q : Nat) (v : Pool) : (s.setPool d q v).replies = s.replies := rfl
@[simp] theorem State_setPool_taken (s : State) (d q : Nat) (v : Pool) : (s.setPool d q v).taken = s.taken := rfl
@[simp] theorem State_setPool_chanErr (s : State) (d q : Nat) (v : Pool) : (s.setPool d q v).chanErr = s.chanErr := rfl
@[simp] theorem State_setPool_lastRead (s : State) (d q : Nat) (v : Pool) : (s.setPool d q v).lastRead = s.lastRead := rfl
@[simp] theorem State_setPool_parts (s : State) (d q : Nat) (v : Pool) : (s.setPool d q v).parts = s.parts := rfl
@[simp] theorem State_setPool_vfs (s : State) (d q : Nat) (v : Pool) : (s.setPool d q v).vfs = s.vfs := rfl
@[simp] theorem State_setPool_evq (s : State) (d q : Nat) (v : Pool) : (s.setPool d q v).evq = s.evq := rfl
@[simp] theorem State_setPool_evDrop (s : State) (d q : Nat) (v : Pool) : (s.setPool d q v).evDrop = s.evDrop := rfl
@[simp] theorem State_setPool_suspects (s : State) (d q : Nat) (v : Pool) : (s.setPool d q v).suspects = s.suspects := rfl
@[simp] theorem State_setPool_retired (s : State) (d q : Nat) (v : Pool) : (s.setPool d q v).retired = s.retired := rfl
@[simp] theorem State_setPool_inspects (s : State) (d q : Nat) (v : Pool) : (s.setPool d q v).inspects = s.inspects := rfl
@[simp] theorem State_setPool_pkgRecord (s : State) (d q : Nat) (v : Pool) : (s.setPool d q v).pkgRecord = s.pkgRecord := rfl
@[simp] theorem State_setPool_engEpoch (s : State) (d q : Nat) (v : Pool) : (s.setPool d q v).engEpoch = s.engEpoch := rfl
@[simp] theorem State_setPool_orders (s : State) (d q : Nat) (v : Pool) : (s.setPool d q v).orders = s.orders := rfl
@[simp] theorem State_setPool_pendingSub (s : State) (d q : Nat) (v : Pool) : (s.setPool d q v).pendingSub = s.pendingSub := rfl
@[simp] theorem State_setPool_resTimes (s : State) (d q : Nat) (v : Pool) : (s.setPool d q v).resTimes = s.resTimes := rfl
@[simp] theorem State_setPool_latches (s : State) (d q : Nat) (v : Pool) : (s.setPool d q v).latches = s.latches := rfl
@[simp] theorem State_setPool_msgs (s : State) (d q : Nat) (v : Pool) : (s.setPool d q v).msgs = s.msgs := rfl
@[simp] theorem State_setPool_ports (s : State) (d q : Nat) (v : Pool) : (s.setPool d q v).ports = s.ports := rfl
@[simp] theorem State_setPool_sflows (s : State) (d q : Nat) (v : Pool) : (s.setPool d q v).sflows = s.sflows := rfl
@[simp] theorem State_setPool_rflows (s : State) (d q : Nat) (v : Pool) : (s.setPool d q v).rflows = s.rflows := rfl
@[simp] theorem State_setPool_replay (s : State) (d q : Nat) (v : Pool) : (s.setPool d q v).replay = s.replay := rfl
@[simp] theorem State_setPool_avoid (s : State) (d q : Nat) (v : Pool) : (s.setPool d q v).avoid = s.avoid := rfl
@[simp] theorem State_setPool_pegMsgs (s : State) (d q : Nat) (v : Pool) : (s.setPool d q v).pegMsgs = s.pegMsgs := rfl
@[simp] theorem State_setPool_twIn (s : State) (d q : Nat) (v : Pool) : (s.setPool d q v).twIn = s.twIn := rfl
@[simp] theorem State_setPool_twOut (s : State) (d q : Nat) (v : Pool) : (s.setPool d q v).twOut = s.twOut := rfl
@[simp] theorem State_setPool_twDone (s : State) (d q : Nat) (v : Pool) : (s.setPool d q v).twDone = s.twDone := rfl
@[simp] theorem State_setPool_keys (s : State) (d q : Nat) (v : Pool) : (s.setPool d q v).keys = s.keys := rfl
@[simp] theorem State_setPool_keySwitch (s : State) (d q : Nat) (v : Pool) : (s.setPool d q v).keySwitch = s.keySwitch := rfl
@[simp] theorem State_setPool_trayIdx (s : State) (d q : Nat) (v : Pool) : (s.setPool d q v).trayIdx = s.trayIdx := rfl
@[simp] theorem State_setPool_links (s : State) (d q : Nat) (v : Pool) : (s.setPool d q v).links = s.links := rfl
@[simp] theorem State_setPool_pkgFence (s : State) (d q : Nat) (v : Pool) : (s.setPool d q v).pkgFence = s.pkgFence := rfl
@[simp] theorem State_setPool_pldmRecv (s : State) (d q : Nat) (v : Pool) : (s.setPool d q v).pldmRecv = s.pldmRecv := rfl
@[simp] theorem State_setPool_pldmQueue (s : State) (d q : Nat) (v : Pool) : (s.setPool d q v).pldmQueue = s.pldmQueue := rfl
@[simp] theorem State_setPool_maintRun (s : State) (d q : Nat) (v : Pool) : (s.setPool d q v).maintRun = s.maintRun := rfl
@[simp] theorem State_setPool_maintQueue (s : State) (d q : Nat) (v : Pool) : (s.setPool d q v).maintQueue = s.maintQueue := rfl
@[simp] theorem State_setPool_trayGen (s : State) (d q : Nat) (v : Pool) : (s.setPool d q v).trayGen = s.trayGen := rfl
@[simp] theorem State_setPool_pkg (s : State) (d q : Nat) (v : Pool) : (s.setPool d q v).pkg = s.pkg := rfl
@[simp] theorem State_setPool_resetPin (s : State) (d q : Nat) (v : Pool) : (s.setPool d q v).resetPin = s.resetPin := rfl
@[simp] theorem State_setPool_worked (s : State) (d q : Nat) (v : Pool) : (s.setPool d q v).worked = s.worked := rfl
@[simp] theorem State_setPool_power (s : State) (d q : Nat) (v : Pool) : (s.setPool d q v).power = s.power := rfl
@[simp] theorem State_setPool_flash (s : State) (d q : Nat) (v : Pool) : (s.setPool d q v).flash = s.flash := rfl
@[simp] theorem State_setPool_boot (s : State) (d q : Nat) (v : Pool) : (s.setPool d q v).boot = s.boot := rfl
@[simp] theorem State_setPool_probePack (s : State) (d q : Nat) (v : Pool) : (s.setPool d q v).probePack = s.probePack := rfl
@[simp] theorem State_setPool_unitProbed (s : State) (d q : Nat) (v : Pool) : (s.setPool d q v).unitProbed = s.unitProbed := rfl
@[simp] theorem State_setPool_copies (s : State) (d q : Nat) (v : Pool) : (s.setPool d q v).copies = s.copies := rfl
@[simp] theorem State_setPool_snapAt (s : State) (d q : Nat) (v : Pool) : (s.setPool d q v).snapAt = s.snapAt := rfl
@[simp] theorem State_setPool_snapWelyar (s : State) (d q : Nat) (v : Pool) : (s.setPool d q v).snapWelyar = s.snapWelyar := rfl
@[simp] theorem State_setPool_shadow (s : State) (d q : Nat) (v : Pool) : (s.setPool d q v).shadow = s.shadow := rfl
@[simp] theorem State_setPool_evlog (s : State) (d q : Nat) (v : Pool) : (s.setPool d q v).evlog = s.evlog := rfl
@[simp] theorem State_setPool_evMarks (s : State) (d q : Nat) (v : Pool) : (s.setPool d q v).evMarks = s.evMarks := rfl
@[simp] theorem State_setPool_sessions (s : State) (d q : Nat) (v : Pool) : (s.setPool d q v).sessions = s.sessions := rfl
@[simp] theorem State_setPool_tokens (s : State) (d q : Nat) (v : Pool) : (s.setPool d q v).tokens = s.tokens := rfl
@[simp] theorem State_setPool_tid (s : State) (d q : Nat) (v : Pool) : (s.setPool d q v).tid = s.tid := rfl
@[simp] theorem State_setPool_tap (s : State) (d q : Nat) (v : Pool) : (s.setPool d q v).tap = s.tap := rfl
@[simp] theorem State_setPool_repairs (s : State) (d q : Nat) (v : Pool) : (s.setPool d q v).repairs = s.repairs := rfl
@[simp] theorem State_setPool_zeroed (s : State) (d q : Nat) (v : Pool) : (s.setPool d q v).zeroed = s.zeroed := rfl
@[simp] theorem State_setPool_spinePos (s : State) (d q : Nat) (v : Pool) : (s.setPool d q v).spinePos = s.spinePos := rfl
@[simp] theorem State_setPool_suspectT (s : State) (d q : Nat) (v : Pool) : (s.setPool d q v).suspectT = s.suspectT := rfl
@[simp] theorem State_setPool_bentCyc (s : State) (d q : Nat) (v : Pool) : (s.setPool d q v).bentCyc = s.bentCyc := rfl
@[simp] theorem State_setPool_isleHold (s : State) (d q : Nat) (v : Pool) : (s.setPool d q v).isleHold = s.isleHold := rfl
@[simp] theorem State_setPool_mesh (s : State) (d q : Nat) (v : Pool) : (s.setPool d q v).mesh = s.mesh := rfl
@[simp] theorem State_setPool_pwrOk (s : State) (d q : Nat) (v : Pool) : (s.setPool d q v).pwrOk = s.pwrOk := rfl
@[simp] theorem State_setPool_thermtripN (s : State) (d q : Nat) (v : Pool) : (s.setPool d q v).thermtripN = s.thermtripN := rfl
@[simp] theorem State_setPool_cyc (s : State) (d q : Nat) (v : Pool) : (s.setPool d q v).cyc = s.cyc := rfl
@[simp] theorem State_setSflow_pending (s : State) (k : FlowKey) (f : SFlow) : (s.setSflow k f).pending = s.pending := rfl
@[simp] theorem State_setSflow_regs (s : State) (k : FlowKey) (f : SFlow) : (s.setSflow k f).regs = s.regs := rfl
@[simp] theorem State_setSflow_plumb (s : State) (k : FlowKey) (f : SFlow) : (s.setSflow k f).plumb = s.plumb := rfl
@[simp] theorem State_setSflow_isle (s : State) (k : FlowKey) (f : SFlow) : (s.setSflow k f).isle = s.isle := rfl
@[simp] theorem State_setSflow_draws (s : State) (k : FlowKey) (f : SFlow) : (s.setSflow k f).draws = s.draws := rfl
@[simp] theorem State_setSflow_mem (s : State) (k : FlowKey) (f : SFlow) : (s.setSflow k f).mem = s.mem := rfl
@[simp] theorem State_setSflow_poison (s : State) (k : FlowKey) (f : SFlow) : (s.setSflow k f).poison = s.poison := rfl
@[simp] theorem State_setSflow_starts (s : State) (k : FlowKey) (f : SFlow) : (s.setSflow k f).starts = s.starts := rfl
@[simp] theorem State_setSflow_configured (s : State) (k : FlowKey) (f : SFlow) : (s.setSflow k f).configured = s.configured := rfl
@[simp] theorem State_setSflow_classes (s : State) (k : FlowKey) (f : SFlow) : (s.setSflow k f).classes = s.classes := rfl
@[simp] theorem State_setSflow_cores (s : State) (k : FlowKey) (f : SFlow) : (s.setSflow k f).cores = s.cores := rfl
@[simp] theorem State_setSflow_xfers (s : State) (k : FlowKey) (f : SFlow) : (s.setSflow k f).xfers = s.xfers := rfl
@[simp] theorem State_setSflow_sends (s : State) (k : FlowKey) (f : SFlow) : (s.setSflow k f).sends = s.sends := rfl
@[simp] theorem State_setSflow_supplies (s : State) (k : FlowKey) (f : SFlow) : (s.setSflow k f).supplies = s.supplies := rfl
@[simp] theorem State_setSflow_ags (s : State) (k : FlowKey) (f : SFlow) : (s.setSflow k f).ags = s.ags := rfl
@[simp] theorem State_setSflow_trusses (s : State) (k : FlowKey) (f : SFlow) : (s.setSflow k f).trusses = s.trusses := rfl
@[simp] theorem State_setSflow_colrecs (s : State) (k : FlowKey) (f : SFlow) : (s.setSflow k f).colrecs = s.colrecs := rfl
@[simp] theorem State_setSflow_jctxs (s : State) (k : FlowKey) (f : SFlow) : (s.setSflow k f).jctxs = s.jctxs := rfl
@[simp] theorem State_setSflow_jprogs (s : State) (k : FlowKey) (f : SFlow) : (s.setSflow k f).jprogs = s.jprogs := rfl
@[simp] theorem State_setSflow_nextId (s : State) (k : FlowKey) (f : SFlow) : (s.setSflow k f).nextId = s.nextId := rfl
@[simp] theorem State_setSflow_waiters (s : State) (k : FlowKey) (f : SFlow) : (s.setSflow k f).waiters = s.waiters := rfl
@[simp] theorem State_setSflow_signals (s : State) (k : FlowKey) (f : SFlow) : (s.setSflow k f).signals = s.signals := rfl
@[simp] theorem State_setSflow_badPegs (s : State) (k : FlowKey) (f : SFlow) : (s.setSflow k f).badPegs = s.badPegs := rfl
@[simp] theorem State_setSflow_pools (s : State) (k : FlowKey) (f : SFlow) : (s.setSflow k f).pools = s.pools := rfl
@[simp] theorem State_setSflow_deck (s : State) (k : FlowKey) (f : SFlow) : (s.setSflow k f).deck = s.deck := rfl
@[simp] theorem State_setSflow_bays (s : State) (k : FlowKey) (f : SFlow) : (s.setSflow k f).bays = s.bays := rfl
@[simp] theorem State_setSflow_replies (s : State) (k : FlowKey) (f : SFlow) : (s.setSflow k f).replies = s.replies := rfl
@[simp] theorem State_setSflow_taken (s : State) (k : FlowKey) (f : SFlow) : (s.setSflow k f).taken = s.taken := rfl
@[simp] theorem State_setSflow_chanErr (s : State) (k : FlowKey) (f : SFlow) : (s.setSflow k f).chanErr = s.chanErr := rfl
@[simp] theorem State_setSflow_lastRead (s : State) (k : FlowKey) (f : SFlow) : (s.setSflow k f).lastRead = s.lastRead := rfl
@[simp] theorem State_setSflow_parts (s : State) (k : FlowKey) (f : SFlow) : (s.setSflow k f).parts = s.parts := rfl
@[simp] theorem State_setSflow_vfs (s : State) (k : FlowKey) (f : SFlow) : (s.setSflow k f).vfs = s.vfs := rfl
@[simp] theorem State_setSflow_evq (s : State) (k : FlowKey) (f : SFlow) : (s.setSflow k f).evq = s.evq := rfl
@[simp] theorem State_setSflow_evDrop (s : State) (k : FlowKey) (f : SFlow) : (s.setSflow k f).evDrop = s.evDrop := rfl
@[simp] theorem State_setSflow_suspects (s : State) (k : FlowKey) (f : SFlow) : (s.setSflow k f).suspects = s.suspects := rfl
@[simp] theorem State_setSflow_retired (s : State) (k : FlowKey) (f : SFlow) : (s.setSflow k f).retired = s.retired := rfl
@[simp] theorem State_setSflow_inspects (s : State) (k : FlowKey) (f : SFlow) : (s.setSflow k f).inspects = s.inspects := rfl
@[simp] theorem State_setSflow_pkgRecord (s : State) (k : FlowKey) (f : SFlow) : (s.setSflow k f).pkgRecord = s.pkgRecord := rfl
@[simp] theorem State_setSflow_engEpoch (s : State) (k : FlowKey) (f : SFlow) : (s.setSflow k f).engEpoch = s.engEpoch := rfl
@[simp] theorem State_setSflow_orders (s : State) (k : FlowKey) (f : SFlow) : (s.setSflow k f).orders = s.orders := rfl
@[simp] theorem State_setSflow_pendingSub (s : State) (k : FlowKey) (f : SFlow) : (s.setSflow k f).pendingSub = s.pendingSub := rfl
@[simp] theorem State_setSflow_resTimes (s : State) (k : FlowKey) (f : SFlow) : (s.setSflow k f).resTimes = s.resTimes := rfl
@[simp] theorem State_setSflow_latches (s : State) (k : FlowKey) (f : SFlow) : (s.setSflow k f).latches = s.latches := rfl
@[simp] theorem State_setSflow_msgs (s : State) (k : FlowKey) (f : SFlow) : (s.setSflow k f).msgs = s.msgs := rfl
@[simp] theorem State_setSflow_ports (s : State) (k : FlowKey) (f : SFlow) : (s.setSflow k f).ports = s.ports := rfl
@[simp] theorem State_setSflow_rflows (s : State) (k : FlowKey) (f : SFlow) : (s.setSflow k f).rflows = s.rflows := rfl
@[simp] theorem State_setSflow_replay (s : State) (k : FlowKey) (f : SFlow) : (s.setSflow k f).replay = s.replay := rfl
@[simp] theorem State_setSflow_avoid (s : State) (k : FlowKey) (f : SFlow) : (s.setSflow k f).avoid = s.avoid := rfl
@[simp] theorem State_setSflow_pegMsgs (s : State) (k : FlowKey) (f : SFlow) : (s.setSflow k f).pegMsgs = s.pegMsgs := rfl
@[simp] theorem State_setSflow_twIn (s : State) (k : FlowKey) (f : SFlow) : (s.setSflow k f).twIn = s.twIn := rfl
@[simp] theorem State_setSflow_twOut (s : State) (k : FlowKey) (f : SFlow) : (s.setSflow k f).twOut = s.twOut := rfl
@[simp] theorem State_setSflow_twDone (s : State) (k : FlowKey) (f : SFlow) : (s.setSflow k f).twDone = s.twDone := rfl
@[simp] theorem State_setSflow_keys (s : State) (k : FlowKey) (f : SFlow) : (s.setSflow k f).keys = s.keys := rfl
@[simp] theorem State_setSflow_keySwitch (s : State) (k : FlowKey) (f : SFlow) : (s.setSflow k f).keySwitch = s.keySwitch := rfl
@[simp] theorem State_setSflow_trayIdx (s : State) (k : FlowKey) (f : SFlow) : (s.setSflow k f).trayIdx = s.trayIdx := rfl
@[simp] theorem State_setSflow_links (s : State) (k : FlowKey) (f : SFlow) : (s.setSflow k f).links = s.links := rfl
@[simp] theorem State_setSflow_pkgFence (s : State) (k : FlowKey) (f : SFlow) : (s.setSflow k f).pkgFence = s.pkgFence := rfl
@[simp] theorem State_setSflow_pldmRecv (s : State) (k : FlowKey) (f : SFlow) : (s.setSflow k f).pldmRecv = s.pldmRecv := rfl
@[simp] theorem State_setSflow_pldmQueue (s : State) (k : FlowKey) (f : SFlow) : (s.setSflow k f).pldmQueue = s.pldmQueue := rfl
@[simp] theorem State_setSflow_maintRun (s : State) (k : FlowKey) (f : SFlow) : (s.setSflow k f).maintRun = s.maintRun := rfl
@[simp] theorem State_setSflow_maintQueue (s : State) (k : FlowKey) (f : SFlow) : (s.setSflow k f).maintQueue = s.maintQueue := rfl
@[simp] theorem State_setSflow_trayGen (s : State) (k : FlowKey) (f : SFlow) : (s.setSflow k f).trayGen = s.trayGen := rfl
@[simp] theorem State_setSflow_pkg (s : State) (k : FlowKey) (f : SFlow) : (s.setSflow k f).pkg = s.pkg := rfl
@[simp] theorem State_setSflow_resetPin (s : State) (k : FlowKey) (f : SFlow) : (s.setSflow k f).resetPin = s.resetPin := rfl
@[simp] theorem State_setSflow_worked (s : State) (k : FlowKey) (f : SFlow) : (s.setSflow k f).worked = s.worked := rfl
@[simp] theorem State_setSflow_power (s : State) (k : FlowKey) (f : SFlow) : (s.setSflow k f).power = s.power := rfl
@[simp] theorem State_setSflow_flash (s : State) (k : FlowKey) (f : SFlow) : (s.setSflow k f).flash = s.flash := rfl
@[simp] theorem State_setSflow_boot (s : State) (k : FlowKey) (f : SFlow) : (s.setSflow k f).boot = s.boot := rfl
@[simp] theorem State_setSflow_probePack (s : State) (k : FlowKey) (f : SFlow) : (s.setSflow k f).probePack = s.probePack := rfl
@[simp] theorem State_setSflow_unitProbed (s : State) (k : FlowKey) (f : SFlow) : (s.setSflow k f).unitProbed = s.unitProbed := rfl
@[simp] theorem State_setSflow_copies (s : State) (k : FlowKey) (f : SFlow) : (s.setSflow k f).copies = s.copies := rfl
@[simp] theorem State_setSflow_snapAt (s : State) (k : FlowKey) (f : SFlow) : (s.setSflow k f).snapAt = s.snapAt := rfl
@[simp] theorem State_setSflow_snapWelyar (s : State) (k : FlowKey) (f : SFlow) : (s.setSflow k f).snapWelyar = s.snapWelyar := rfl
@[simp] theorem State_setSflow_shadow (s : State) (k : FlowKey) (f : SFlow) : (s.setSflow k f).shadow = s.shadow := rfl
@[simp] theorem State_setSflow_evlog (s : State) (k : FlowKey) (f : SFlow) : (s.setSflow k f).evlog = s.evlog := rfl
@[simp] theorem State_setSflow_evMarks (s : State) (k : FlowKey) (f : SFlow) : (s.setSflow k f).evMarks = s.evMarks := rfl
@[simp] theorem State_setSflow_sessions (s : State) (k : FlowKey) (f : SFlow) : (s.setSflow k f).sessions = s.sessions := rfl
@[simp] theorem State_setSflow_tokens (s : State) (k : FlowKey) (f : SFlow) : (s.setSflow k f).tokens = s.tokens := rfl
@[simp] theorem State_setSflow_tid (s : State) (k : FlowKey) (f : SFlow) : (s.setSflow k f).tid = s.tid := rfl
@[simp] theorem State_setSflow_tap (s : State) (k : FlowKey) (f : SFlow) : (s.setSflow k f).tap = s.tap := rfl
@[simp] theorem State_setSflow_repairs (s : State) (k : FlowKey) (f : SFlow) : (s.setSflow k f).repairs = s.repairs := rfl
@[simp] theorem State_setSflow_zeroed (s : State) (k : FlowKey) (f : SFlow) : (s.setSflow k f).zeroed = s.zeroed := rfl
@[simp] theorem State_setSflow_spinePos (s : State) (k : FlowKey) (f : SFlow) : (s.setSflow k f).spinePos = s.spinePos := rfl
@[simp] theorem State_setSflow_suspectT (s : State) (k : FlowKey) (f : SFlow) : (s.setSflow k f).suspectT = s.suspectT := rfl
@[simp] theorem State_setSflow_bentCyc (s : State) (k : FlowKey) (f : SFlow) : (s.setSflow k f).bentCyc = s.bentCyc := rfl
@[simp] theorem State_setSflow_isleHold (s : State) (k : FlowKey) (f : SFlow) : (s.setSflow k f).isleHold = s.isleHold := rfl
@[simp] theorem State_setSflow_mesh (s : State) (k : FlowKey) (f : SFlow) : (s.setSflow k f).mesh = s.mesh := rfl
@[simp] theorem State_setSflow_pwrOk (s : State) (k : FlowKey) (f : SFlow) : (s.setSflow k f).pwrOk = s.pwrOk := rfl
@[simp] theorem State_setSflow_thermtripN (s : State) (k : FlowKey) (f : SFlow) : (s.setSflow k f).thermtripN = s.thermtripN := rfl
@[simp] theorem State_setSflow_cyc (s : State) (k : FlowKey) (f : SFlow) : (s.setSflow k f).cyc = s.cyc := rfl
@[simp] theorem State_setLink_pending (s : State) (l : Nat) (v : Link) : (s.setLink l v).pending = s.pending := rfl
@[simp] theorem State_setLink_regs (s : State) (l : Nat) (v : Link) : (s.setLink l v).regs = s.regs := rfl
@[simp] theorem State_setLink_plumb (s : State) (l : Nat) (v : Link) : (s.setLink l v).plumb = s.plumb := rfl
@[simp] theorem State_setLink_isle (s : State) (l : Nat) (v : Link) : (s.setLink l v).isle = s.isle := rfl
@[simp] theorem State_setLink_draws (s : State) (l : Nat) (v : Link) : (s.setLink l v).draws = s.draws := rfl
@[simp] theorem State_setLink_mem (s : State) (l : Nat) (v : Link) : (s.setLink l v).mem = s.mem := rfl
@[simp] theorem State_setLink_poison (s : State) (l : Nat) (v : Link) : (s.setLink l v).poison = s.poison := rfl
@[simp] theorem State_setLink_starts (s : State) (l : Nat) (v : Link) : (s.setLink l v).starts = s.starts := rfl
@[simp] theorem State_setLink_configured (s : State) (l : Nat) (v : Link) : (s.setLink l v).configured = s.configured := rfl
@[simp] theorem State_setLink_classes (s : State) (l : Nat) (v : Link) : (s.setLink l v).classes = s.classes := rfl
@[simp] theorem State_setLink_cores (s : State) (l : Nat) (v : Link) : (s.setLink l v).cores = s.cores := rfl
@[simp] theorem State_setLink_xfers (s : State) (l : Nat) (v : Link) : (s.setLink l v).xfers = s.xfers := rfl
@[simp] theorem State_setLink_sends (s : State) (l : Nat) (v : Link) : (s.setLink l v).sends = s.sends := rfl
@[simp] theorem State_setLink_supplies (s : State) (l : Nat) (v : Link) : (s.setLink l v).supplies = s.supplies := rfl
@[simp] theorem State_setLink_ags (s : State) (l : Nat) (v : Link) : (s.setLink l v).ags = s.ags := rfl
@[simp] theorem State_setLink_trusses (s : State) (l : Nat) (v : Link) : (s.setLink l v).trusses = s.trusses := rfl
@[simp] theorem State_setLink_colrecs (s : State) (l : Nat) (v : Link) : (s.setLink l v).colrecs = s.colrecs := rfl
@[simp] theorem State_setLink_jctxs (s : State) (l : Nat) (v : Link) : (s.setLink l v).jctxs = s.jctxs := rfl
@[simp] theorem State_setLink_jprogs (s : State) (l : Nat) (v : Link) : (s.setLink l v).jprogs = s.jprogs := rfl
@[simp] theorem State_setLink_nextId (s : State) (l : Nat) (v : Link) : (s.setLink l v).nextId = s.nextId := rfl
@[simp] theorem State_setLink_waiters (s : State) (l : Nat) (v : Link) : (s.setLink l v).waiters = s.waiters := rfl
@[simp] theorem State_setLink_signals (s : State) (l : Nat) (v : Link) : (s.setLink l v).signals = s.signals := rfl
@[simp] theorem State_setLink_badPegs (s : State) (l : Nat) (v : Link) : (s.setLink l v).badPegs = s.badPegs := rfl
@[simp] theorem State_setLink_pools (s : State) (l : Nat) (v : Link) : (s.setLink l v).pools = s.pools := rfl
@[simp] theorem State_setLink_deck (s : State) (l : Nat) (v : Link) : (s.setLink l v).deck = s.deck := rfl
@[simp] theorem State_setLink_bays (s : State) (l : Nat) (v : Link) : (s.setLink l v).bays = s.bays := rfl
@[simp] theorem State_setLink_replies (s : State) (l : Nat) (v : Link) : (s.setLink l v).replies = s.replies := rfl
@[simp] theorem State_setLink_taken (s : State) (l : Nat) (v : Link) : (s.setLink l v).taken = s.taken := rfl
@[simp] theorem State_setLink_chanErr (s : State) (l : Nat) (v : Link) : (s.setLink l v).chanErr = s.chanErr := rfl
@[simp] theorem State_setLink_lastRead (s : State) (l : Nat) (v : Link) : (s.setLink l v).lastRead = s.lastRead := rfl
@[simp] theorem State_setLink_parts (s : State) (l : Nat) (v : Link) : (s.setLink l v).parts = s.parts := rfl
@[simp] theorem State_setLink_vfs (s : State) (l : Nat) (v : Link) : (s.setLink l v).vfs = s.vfs := rfl
@[simp] theorem State_setLink_evq (s : State) (l : Nat) (v : Link) : (s.setLink l v).evq = s.evq := rfl
@[simp] theorem State_setLink_evDrop (s : State) (l : Nat) (v : Link) : (s.setLink l v).evDrop = s.evDrop := rfl
@[simp] theorem State_setLink_suspects (s : State) (l : Nat) (v : Link) : (s.setLink l v).suspects = s.suspects := rfl
@[simp] theorem State_setLink_retired (s : State) (l : Nat) (v : Link) : (s.setLink l v).retired = s.retired := rfl
@[simp] theorem State_setLink_inspects (s : State) (l : Nat) (v : Link) : (s.setLink l v).inspects = s.inspects := rfl
@[simp] theorem State_setLink_pkgRecord (s : State) (l : Nat) (v : Link) : (s.setLink l v).pkgRecord = s.pkgRecord := rfl
@[simp] theorem State_setLink_engEpoch (s : State) (l : Nat) (v : Link) : (s.setLink l v).engEpoch = s.engEpoch := rfl
@[simp] theorem State_setLink_orders (s : State) (l : Nat) (v : Link) : (s.setLink l v).orders = s.orders := rfl
@[simp] theorem State_setLink_pendingSub (s : State) (l : Nat) (v : Link) : (s.setLink l v).pendingSub = s.pendingSub := rfl
@[simp] theorem State_setLink_resTimes (s : State) (l : Nat) (v : Link) : (s.setLink l v).resTimes = s.resTimes := rfl
@[simp] theorem State_setLink_latches (s : State) (l : Nat) (v : Link) : (s.setLink l v).latches = s.latches := rfl
@[simp] theorem State_setLink_msgs (s : State) (l : Nat) (v : Link) : (s.setLink l v).msgs = s.msgs := rfl
@[simp] theorem State_setLink_ports (s : State) (l : Nat) (v : Link) : (s.setLink l v).ports = s.ports := rfl
@[simp] theorem State_setLink_sflows (s : State) (l : Nat) (v : Link) : (s.setLink l v).sflows = s.sflows := rfl
@[simp] theorem State_setLink_rflows (s : State) (l : Nat) (v : Link) : (s.setLink l v).rflows = s.rflows := rfl
@[simp] theorem State_setLink_replay (s : State) (l : Nat) (v : Link) : (s.setLink l v).replay = s.replay := rfl
@[simp] theorem State_setLink_avoid (s : State) (l : Nat) (v : Link) : (s.setLink l v).avoid = s.avoid := rfl
@[simp] theorem State_setLink_pegMsgs (s : State) (l : Nat) (v : Link) : (s.setLink l v).pegMsgs = s.pegMsgs := rfl
@[simp] theorem State_setLink_twIn (s : State) (l : Nat) (v : Link) : (s.setLink l v).twIn = s.twIn := rfl
@[simp] theorem State_setLink_twOut (s : State) (l : Nat) (v : Link) : (s.setLink l v).twOut = s.twOut := rfl
@[simp] theorem State_setLink_twDone (s : State) (l : Nat) (v : Link) : (s.setLink l v).twDone = s.twDone := rfl
@[simp] theorem State_setLink_keys (s : State) (l : Nat) (v : Link) : (s.setLink l v).keys = s.keys := rfl
@[simp] theorem State_setLink_keySwitch (s : State) (l : Nat) (v : Link) : (s.setLink l v).keySwitch = s.keySwitch := rfl
@[simp] theorem State_setLink_trayIdx (s : State) (l : Nat) (v : Link) : (s.setLink l v).trayIdx = s.trayIdx := rfl
@[simp] theorem State_setLink_pkgFence (s : State) (l : Nat) (v : Link) : (s.setLink l v).pkgFence = s.pkgFence := rfl
@[simp] theorem State_setLink_pldmRecv (s : State) (l : Nat) (v : Link) : (s.setLink l v).pldmRecv = s.pldmRecv := rfl
@[simp] theorem State_setLink_pldmQueue (s : State) (l : Nat) (v : Link) : (s.setLink l v).pldmQueue = s.pldmQueue := rfl
@[simp] theorem State_setLink_maintRun (s : State) (l : Nat) (v : Link) : (s.setLink l v).maintRun = s.maintRun := rfl
@[simp] theorem State_setLink_maintQueue (s : State) (l : Nat) (v : Link) : (s.setLink l v).maintQueue = s.maintQueue := rfl
@[simp] theorem State_setLink_trayGen (s : State) (l : Nat) (v : Link) : (s.setLink l v).trayGen = s.trayGen := rfl
@[simp] theorem State_setLink_pkg (s : State) (l : Nat) (v : Link) : (s.setLink l v).pkg = s.pkg := rfl
@[simp] theorem State_setLink_resetPin (s : State) (l : Nat) (v : Link) : (s.setLink l v).resetPin = s.resetPin := rfl
@[simp] theorem State_setLink_worked (s : State) (l : Nat) (v : Link) : (s.setLink l v).worked = s.worked := rfl
@[simp] theorem State_setLink_power (s : State) (l : Nat) (v : Link) : (s.setLink l v).power = s.power := rfl
@[simp] theorem State_setLink_flash (s : State) (l : Nat) (v : Link) : (s.setLink l v).flash = s.flash := rfl
@[simp] theorem State_setLink_boot (s : State) (l : Nat) (v : Link) : (s.setLink l v).boot = s.boot := rfl
@[simp] theorem State_setLink_probePack (s : State) (l : Nat) (v : Link) : (s.setLink l v).probePack = s.probePack := rfl
@[simp] theorem State_setLink_unitProbed (s : State) (l : Nat) (v : Link) : (s.setLink l v).unitProbed = s.unitProbed := rfl
@[simp] theorem State_setLink_copies (s : State) (l : Nat) (v : Link) : (s.setLink l v).copies = s.copies := rfl
@[simp] theorem State_setLink_snapAt (s : State) (l : Nat) (v : Link) : (s.setLink l v).snapAt = s.snapAt := rfl
@[simp] theorem State_setLink_snapWelyar (s : State) (l : Nat) (v : Link) : (s.setLink l v).snapWelyar = s.snapWelyar := rfl
@[simp] theorem State_setLink_shadow (s : State) (l : Nat) (v : Link) : (s.setLink l v).shadow = s.shadow := rfl
@[simp] theorem State_setLink_evlog (s : State) (l : Nat) (v : Link) : (s.setLink l v).evlog = s.evlog := rfl
@[simp] theorem State_setLink_evMarks (s : State) (l : Nat) (v : Link) : (s.setLink l v).evMarks = s.evMarks := rfl
@[simp] theorem State_setLink_sessions (s : State) (l : Nat) (v : Link) : (s.setLink l v).sessions = s.sessions := rfl
@[simp] theorem State_setLink_tokens (s : State) (l : Nat) (v : Link) : (s.setLink l v).tokens = s.tokens := rfl
@[simp] theorem State_setLink_tid (s : State) (l : Nat) (v : Link) : (s.setLink l v).tid = s.tid := rfl
@[simp] theorem State_setLink_tap (s : State) (l : Nat) (v : Link) : (s.setLink l v).tap = s.tap := rfl
@[simp] theorem State_setLink_repairs (s : State) (l : Nat) (v : Link) : (s.setLink l v).repairs = s.repairs := rfl
@[simp] theorem State_setLink_zeroed (s : State) (l : Nat) (v : Link) : (s.setLink l v).zeroed = s.zeroed := rfl
@[simp] theorem State_setLink_spinePos (s : State) (l : Nat) (v : Link) : (s.setLink l v).spinePos = s.spinePos := rfl
@[simp] theorem State_setLink_suspectT (s : State) (l : Nat) (v : Link) : (s.setLink l v).suspectT = s.suspectT := rfl
@[simp] theorem State_setLink_bentCyc (s : State) (l : Nat) (v : Link) : (s.setLink l v).bentCyc = s.bentCyc := rfl
@[simp] theorem State_setLink_isleHold (s : State) (l : Nat) (v : Link) : (s.setLink l v).isleHold = s.isleHold := rfl
@[simp] theorem State_setLink_mesh (s : State) (l : Nat) (v : Link) : (s.setLink l v).mesh = s.mesh := rfl
@[simp] theorem State_setLink_pwrOk (s : State) (l : Nat) (v : Link) : (s.setLink l v).pwrOk = s.pwrOk := rfl
@[simp] theorem State_setLink_thermtripN (s : State) (l : Nat) (v : Link) : (s.setLink l v).thermtripN = s.thermtripN := rfl
@[simp] theorem State_setLink_cyc (s : State) (l : Nat) (v : Link) : (s.setLink l v).cyc = s.cyc := rfl

end Sys2Proof.Laws
end

