-- ==== Sys2Proof/Tests/Slice0.lean ====
section
/-! SUPPORT. Tests: ill-formed commands that the check refuses, small examples of the spec, and for the hypotheses of every
statement a state and operands that meet them. -/
namespace Sys2Proof.Tests
set_option Elab.async false
open Sys2Proof Sys2Proof.Machine Sys2Proof.Spec

/-! ### Small states -/

/-- A scalar instruction: op, rd or ra, ra or rb, rb. -/
def ins (op a b c : Nat) : Word := BitVec.ofNat 32 (op * 2 ^ 26 + a * 2 ^ 21 + b * 2 ^ 16 + c * 2 ^ 11)

/-- A scalar instruction with an immediate. -/
def imm (op a b i : Nat) : Word := BitVec.ofNat 32 (op * 2 ^ 26 + a * 2 ^ 21 + b * 2 ^ 16 + i)

/-- Partition 0: bent 0, cores 0 and 1 in use and core 2 in reserve, channel 0, port 0, everything of die 0's spine;
virtual page 0 is the scratchpads of cores 0 to 31, page 1 lies in channel 0. -/
def part0 : Part :=
  { built := true, bents := [0], chans := [0], ports := [0], ways := [0xFFFF, 0, 0, 0], pegblk := [0xFFFF, 0, 0, 0]
    pools := [0xFFFF, 0, 0, 0], coreMap := [0, 1], coreEpoch := [0#8, 0#8], migTime := [none, none], reserve := [2], leaves := [(0, ⟨0x700000, true, false⟩), (1, ⟨0, true, false⟩)] }

/-- A started package: the link up, partition 0 built, VF 1 bound to it. -/
def on : State :=
  { pkg := .on, resetPin := true, configured := true, plumb := BitVec.ofNat 64 (2 ^ 40)
    regs := [(⟨.mgtHostLink, 0, 0⟩, 1#32)]
    parts := (Vector.replicate 8 {}).set 0 part0, vfs := [(1, { bound := some 0 })] }

/-- A context that runs a stream of eight words at 0. -/
def running : Ctx := { st := .running, len := 32#14 }

/-- Core 0 runs context 0 on these words. -/
def runs (v : Ctx) (l : List Word) : State :=
  { on with cores := [(0, { ctxs := (Vector.replicate 4 {}).set 0 v, imem := (l.zipIdx).map fun e => (e.2, e.1) })] }

/-- 64 bytes with numbers at some offsets: offset, size, value. -/
def bytes64 (l : List (Nat × Nat × Nat)) : List Byte :=
  leBytes 64 ((l.map fun e => e.2.2 * 256 ^ e.1).foldl (· + ·) 0)

/-- The words of 64 bytes. -/
def words (d : List Byte) : List (Nat × Word) := (List.range 16).map fun i => (i, BitVec.ofNat 32 (dfield d (4 * i) 4))

/-- Two open rings of BF16 lines: ring 0 at 0, ring 1 at 1,024. -/
def rings2 : Vector Ring 8 :=
  ((Vector.replicate 8 {}).set 0 { opened := true, base := 0, lines := 16 }).set 1 { opened := true, base := 1024, lines := 16 }

/-- A truss entry of partition 0 of one block, whose one member is its cores 0 and 1: reduce, or gather for `op` 3. -/
def truss1 (op fmt : Nat) : Truss :=
  { op := op, fmt := fmt, alg := 0, joiner := false, rfmt := 0, nmem := 1, members := [⟨0, 0, 0, 1⟩], nelem := 64, ld := 0
    rshift := 0, rpool := 0, donePeg := .spine 0 0, estate := 0, dst := 0, dseed := 0, gbuf := 0, jctx := 0
    own := [{ pos := 0, die := 0 }] }

/-- Core 0 runs context 0 on these words, with two rings and a truss entry. -/
def runs2 (v : Ctx) (t : Truss) (l : List Word) : State :=
  { on with cores := [(0, { ctxs := (Vector.replicate 4 {}).set 0 v, imem := (l.zipIdx).map fun e => (e.2, e.1), rings := rings2 })]
            trusses := [((0, 0), t)] }

/-- Bytes in the scratchpad of core 0, which is virtual page 0 of partition 0. -/
def holds (s : State) (l : List Byte) : State := s.pokeBytes 0xE0000000000 l

/-- A register holds this value. -/
def withReg (s : State) (k : RKey) (w : Word) : State := { s with regs := (k, w) :: s.regs }

/-- Bytes at the start of channel 1, which no partition holds and which reads as zero elsewhere. -/
def free (s : State) (l : List Byte) : State := ({ s with zeroed := [1] } : State).pokeBytes 0x80000000 l

/-! ### The scalar processor -/

/-- Segment 0 names pegs 0 to 15 of the context itself; peg 0 holds 5. -/
def pegged : Ctx :=
  { running with psegLo := (Vector.replicate 4 0#32).set 0 0x0F000001#32, cpeg := (Vector.replicate 16 0#32).set 0 5#32
                 s := ((Vector.replicate 32 0#32).set 1 5#32).set 2 0x1C#32, dmem := [(255, 7#32)] }

theorem witness_ScalarOpsAndDataMemory :
    (∀ op ∈ [0x00, 0x01, 0x02, 0x03, 0x04, 0x05, 0x06, 0x07, 0x08, 0x09, 0x0A],
      Issues (runs running [ins op 1 2 3]) 0 0 (ins op 1 2 3) op) ∧
    (∀ op ∈ [0x10, 0x11, 0x12, 0x13, 0x15, 0x16, 0x17], Issues (runs running [imm op 1 2 3]) 0 0 (imm op 1 2 3) op) ∧
    Issues (runs running [imm 0x14 1 0 3]) 0 0 (imm 0x14 1 0 3) 0x14 ∧
    (∀ op ∈ [0x18, 0x19], ∀ i ∈ [0x000, 0x3FC],
      Issues (runs pegged [imm op 1 0 i]) 0 0 (imm op 1 0 i) op ∧
      (pegged.sreg (fB (imm op 1 0 i)) + (imm16 (imm op 1 0 i)).signExtend 32).toNat = i ∧ pegged.dmPoison.contains (i / 4) = false) := by
  unfold Issues; and_intros <;> decide +kernel

theorem witness_ScalarStateAndBranches :
    (∀ op ∈ [0x1A, 0x1C, 0x1D], Issues (runs running [imm op (if op = 0x1A then 1 else 0) 0 3]) 0 0 (imm op (if op = 0x1A then 1 else 0) 0 3) op) ∧
    (∀ i < 7, Issues (runs running [imm 0x1B 1 0 i]) 0 0 (imm 0x1B 1 0 i) 0x1B ∧ (imm16 (imm 0x1B 1 0 i)).toNat % 16 = i) ∧
    on.lcoreOf 0 = some 0 ∧
    (∀ op ∈ [0x20, 0x21, 0x22, 0x23, 0x24, 0x25], ∀ i ∈ [0, 7], ∀ b ∈ [1, 2],
      Issues (runs pegged [imm op 1 b i]) 0 0 (imm op 1 b i) op ∧ pegged.inRegion (i * 4) = true) ∧
    pegged.sreg 1#5 = 5#32 ∧ pegged.sreg 2#5 = 0x1C#32 ∧
    (∀ i ∈ [0, 7], Issues (runs pegged [imm 0x26 1 0 i]) 0 0 (imm 0x26 1 0 i) 0x26 ∧ pegged.inRegion (i * 4) = true) ∧
    Issues (runs pegged [imm 0x27 0 2 0]) 0 0 (imm 0x27 0 2 0) 0x27 ∧ fB (imm 0x27 0 2 0) = 2#5 ∧ pegged.inRegion 0x1C = true := by
  unfold Issues; and_intros <;> decide +kernel

theorem witness_ScalarPegOps :
    (∀ i ∈ [0x000, 0x400],
      let s := runs pegged [imm 0x28 0 1 i]
      Issues s 0 0 (imm 0x28 0 1 i) 0x28 ∧ s.pegOf 0 0 0 = some (.ctx 0 0 0) ∧ s.badPegs.contains (.ctx 0 0 0) = false ∧
      (pegged.sreg (fB (imm 0x28 0 1 i))).toNat ≤ (s.peg (.ctx 0 0 0)).toNat) ∧
    (∀ op ∈ [0x29, 0x2A, 0x2F], Issues (runs pegged [imm op 0 0 0]) 0 0 (imm op 0 0 0) op) ∧
    (∀ x < 4, ∀ r : Bool,
      let k : Core := { ctxs := (Vector.replicate 4 {}).setIfInBounds x { st := .ready }, rotate := r }
      let s : State := { on with cores := [(0, k)] }
      s.clocked 0 = true ∧ s.running 0 = none ∧ [0, 1, 2, 3].find? (fun y => (s.ctx 0 y).st == .ready) = some x) := by
  unfold Issues; and_intros <;> decide +kernel

/-! ### The long instructions -/

/-- Registers: s1 = 1,024, s2 = 2,048; data memory holds a transfer descriptor at 0. -/
def armed (d : List Byte) : Ctx :=
  { running with s := ((Vector.replicate 32 0#32).set 1 0x400#32).set 2 0x800#32, dmem := words d }

/-- Words 0 to 3 of a tile instruction with rings 0 and 1 and output at s2. -/
def tileWords (op : Nat) : List Word :=
  [BitVec.ofNat 32 (op * 2 ^ 26 + 2 ^ 19), 0#32, BitVec.ofNat 32 (1 * 2 ^ 17 + 2 * 2 ^ 22), 0#32]

theorem witness_TileInstructionsIssue :
    (∀ e ∈ [(0x30, TileOp.mmul, 0, 0), (0x31, .rs, 0, 0), (0x32, .ag, 3, 2), (0x33, .ar, 1, 0)],
      let v := armed []
      let s := runs2 v (truss1 e.2.2.1 e.2.2.2) (tileWords e.1)
      let w (i : Nat) : Word := (tileWords e.1).getD i 0#32
      let a := tileArgs v (w 0) (w 1, w 2, w 3)
      IssuesLong s 0 0 (w 0) (w 1, w 2, w 3) e.1 ∧ tileLegal0 (w 0) = true ∧ tileLegal e.2.1 (w 0) (w 1, w 2, w 3) = true ∧
      s.tileRanges 0 e.2.1 a = true ∧ s.tileTruss 0 e.2.1 a = true ∧ (e.2.1 = .ag → a.fmt ≠ 2) ∧ s.sigPeg 0 0 (w 0) = some none ∧
      (s.core 0).queue.length < 4 ∧ v.stopAt = 0xFFFFFFFF#32) ∧
    (let v := armed []
     let s := runs2 v (truss1 0 0) [BitVec.ofNat 32 (0x39 * 2 ^ 26), 0x820#32, 0#32, 0#32]
     IssuesLong s 0 0 (BitVec.ofNat 32 (0x39 * 2 ^ 26)) (0x820#32, 0#32, 0#32) 0x39 ∧
     xferLegal0 (BitVec.ofNat 32 (0x39 * 2 ^ 26)) = true ∧ v.sreg 0#5 = 0#32 ∧ v.sreg 1#5 = 0x400#32 ∧ v.sreg 2#5 = 0x800#32 ∧
     s.partOfCore 0 = some 0 ∧ s.trussAt 0 0 = some (truss1 0 0) ∧ (s.memberOf 0 0 (truss1 0 0)).isSome = true ∧
     s.sigPeg 0 0 (BitVec.ofNat 32 (0x39 * 2 ^ 26)) = some none ∧ (s.sendsOf 0 0).length < 8) := by
  unfold IssuesLong; and_intros <;> decide +kernel

/-- The first two words of an XFER whose descriptor lies at 0. -/
abbrev xw0 : Word := BitVec.ofNat 32 (0x38 * 2 ^ 26)

/-- Core 0 issues the transfer of this descriptor. -/
def xfers (d : List Byte) : State := runs2 (armed d) (truss1 0 0) [xw0, 0#32, 0#32, 0#32]

/-- Descriptors of every kind, the smallest of its checks: COPY, ASTREAM, WSTREAM, REQUANT, FILL. -/
def descs : List (Nat × List Byte) :=
  [(1, bytes64 [(0, 1, 1), (0x10, 8, 64), (0x18, 4, 1), (0x1C, 4, 1)]),
   (2, bytes64 [(0, 1, 2), (1, 1, 4), (0x18, 4, 1), (0x1C, 4, 1)]),
   (3, bytes64 [(0, 1, 3), (1, 1, 4), (0x18, 4, 1), (0x1C, 4, 1)]),
   (4, bytes64 [(0, 1, 4), (1, 1, 12), (0x10, 8, 64), (0x18, 4, 1), (0x1C, 4, 1)]),
   (5, bytes64 [(0, 1, 5), (0x18, 4, 1), (0x1C, 4, 4)])]

/-- RING_OPEN at 4,096, RING_CLOSE of the ring at 0, a GATHER of one empty bag. -/
def descOpen : List Byte := bytes64 [(0, 1, 8), (1, 1, 4), (0x10, 8, 4096), (0x18, 4, 16)]
def descClose : List Byte := bytes64 [(0, 1, 9), (1, 1, 4)]
def descGather : List Byte := bytes64 [(0, 1, 0x10), (4, 2, 1), (0x1C, 4, 1)]

theorem witness_TransfersIssue :
    (∀ e ∈ descs, IssuesXfer (xfers e.2) 0 0 e.2 none 0 e.1) ∧ IssuesXfer (xfers descOpen) 0 0 descOpen none 2 8 ∧
    IssuesXfer (xfers descClose) 0 0 descClose none 0 9 ∧ IssuesXfer (xfers descGather) 0 0 descGather none 0 0x10 ∧
    (let s := Xfered (xfers descGather) 0 0
     let g := Gather.ofBytes descGather
     (match s.gatherBags 0 g with | .ok _ => true | _ => false) = true ∧ (xferOf (xfers descGather) 0 0 descGather none 0).part = 0 ∧
     ((List.range g.nout).foldl (fun w o => w.gatherRow (xferOf (xfers descGather) 0 0 descGather none 0) g 0 o)
       ({ s := s } : Work)).bad = false) := by
  refine ⟨fun e h => ⟨xw0, (0#32, 0#32, 0#32), ?_⟩, ⟨xw0, (0#32, 0#32, 0#32), ?_⟩, ⟨xw0, (0#32, 0#32, 0#32), ?_⟩,
    ⟨xw0, (0#32, 0#32, 0#32), ?_⟩, ?_⟩
  · revert h; revert e; unfold IssuesLong; decide
  · unfold IssuesLong; decide
  · unfold IssuesLong; decide
  · unfold IssuesLong; decide
  · decide

/-- Pool 0 of die 0 is enabled for partition 0, one buffer; `tags` are its owned buffers. -/
def pooled (d : List Byte) (tags : List (Nat × Word)) : State :=
  { xfers d with regs := (⟨.spnPoolCfg, 0, 0⟩, 0x80#32) :: on.regs, pools := [(0, { tags := tags })] }

/-- The same pool, with this request issued and not yet served. -/
def requested (d : List Byte) (tags : List (Nat × Word)) : State :=
  { pooled d tags with xfers := [xferOf (pooled d []) 0 0 d none 0], pools := [(0, { tags := tags, reqs := [0] })] }

def descAlloc : List Byte := bytes64 [(0, 1, 0xC0)]
def descFree : List Byte := bytes64 [(0, 1, 0xC1)]
def descGive : List Byte := bytes64 [(0, 1, 0xC2), (0x10, 4, 1)]

theorem witness_PoolRequests :
    IssuesXfer (pooled descAlloc []) 0 0 descAlloc none 0 0xC0 ∧ (pooled descAlloc []).poolOn 0 0 0 = true ∧
    (requested descAlloc []).poolFree 0 0 = some 0 ∧
    (∀ e ∈ [(descFree, 0xC1), (descGive, 0xC2)],
      IssuesXfer (pooled e.1 [(0, 0#32)]) 0 0 e.1 none 0 e.2 ∧ (pooled e.1 [(0, 0#32)]).poolOn 0 0 0 = true) ∧
    (∀ e ∈ [(descAlloc, 0xC0), (descFree, 0xC1), (descGive, 0xC2)],
      let s := requested e.1 [(0, 0#32)]
      let t := xferOf (pooled e.1 []) 0 0 e.1 none 0
      (s.pool 0 0).reqs = [t.id] ∧ (s.pool 0 0).eng = [] ∧ s.rbit ⟨.spnPoolCmd, 0, 0⟩ 0 = false ∧
      s.xfers.find? (fun y => y.id == t.id) = some t ∧ dfield e.1 0 1 = e.2 ∧ dfield e.1 8 8 = s.poolBase 0 0 ∧ s.poolCount 0 0 = 1 ∧
      aget (s.pool 0 0).tags 0 = some t.tag) ∧ dfield descGive 0x10 4 = 1 := by
  refine ⟨⟨xw0, (0#32, 0#32, 0#32), ?_⟩, ?_, ?_, fun e h => ⟨⟨xw0, (0#32, 0#32, 0#32), ?_⟩, ?_⟩, ?_, ?_⟩
  · unfold IssuesLong; decide
  · decide
  · decide
  · revert h; revert e; unfold IssuesLong; decide
  · revert h; revert e; decide
  · decide
  · decide

/-- A tile instruction of one row, column and step on rings 0 and 1, with its output kept at 2,048. -/
def tile1 : Tile :=
  { op := .mmul, ctx := 0, fmt := 0, cls := 0, acc := false, ofmt := 1, sig := none, mc := 1, m := 1, k := 1, n := 1, ra := 0
    rw := 1, sc := 2048, sx := 0, truss := 0, key := 0#32, keep := true, mode := 0#2, index := 0#32, off := 0, lcore := some 0
    epoch := 0#8 }

/-- A COPY of one element. -/
def descMove : List Byte := bytes64 [(0, 1, 1), (0x10, 8, 64), (0x18, 4, 1), (0x1C, 4, 1)]

/-- Core 0 in this state, with two rings. -/
def core0 (f : Core → Core) : State := { on with cores := [(0, f { rings := rings2 })] }

/-- The line of ring 1 that the array reads next is written: counts 1 and 0. -/
def lineReady : Vector Ring 8 := rings2.set 1 { opened := true, base := 1024, lines := 16, prod := 1#32 }

theorem witness_TilesAndTransfersComplete :
    (let s := core0 fun k => { k with queue := [tile1] }
     s.clocked 0 = true ∧ (s.core 0).run = none ∧ (s.core 0).queue = [tile1] ∧ (s.core 0).accBusy tile1 = false) ∧
    (let u : Run := { tile := tile1 }
     let s := core0 fun k => { k with tail := [u] }
     s.clocked 0 = true ∧ (s.core 0).tail = [u] ∧ u.banks = [] ∧ u.stopped = false ∧ u.tile.op = .mmul) ∧
    (let s := core0 fun k => { k with rings := rings2.set 0 { opened := true, lines := 16, closing := some 0 } }
     ∀ g, g = (s.core 0).rings.getD 0 {} → g.opened = true ∧ g.closing.isSome = true ∧ g.prod = g.cons ∧
       s.ringNamed 0 0 = false ∧ s.clocked 0 = true) ∧
    (let g : Csend := { id := 3, core := 0, ctx := 0, part := 0, lcore := some 0, epoch := 0#8, truss := 0, base := 0, len := 64
                        key := 0#32, sig := none, pos := 64 }
     let s : State := { on with sends := [g] }
     s.sends.find? (fun y => y.id == 3) = some g ∧ g.len ≤ g.pos) ∧
    (let y := { xferOf (xfers descGather) 0 0 descGather none 0 with ready := true }
     let s : State := { on with xfers := [y] }
     s.xfers.find? (fun z => z.id == 0) = some y ∧ y.ready = true ∧ y.moves = false ∧ s.backPressed y.part 7 = false) ∧
    (let y := { xferOf (xfers descMove) 0 0 descMove none 0 with ready := true }
     let s : State := { on with xfers := [y] }
     s.xfers.find? (fun z => z.id == 0) = some y ∧ y.ready = true ∧ y.moves = true ∧ s.clocked y.core = true ∧
     s.backPressed y.part 6 = false) := by
  refine ⟨by decide, by decide, fun g h => ?_, by decide, by decide, by decide⟩
  subst h; decide

theorem witness_ArrayLinesAndRows :
    (let r : Run := { tile := tile1 }
     let s := core0 fun k => { k with run := some r, rings := lineReady }
     s.clocked 0 = true ∧ (s.core 0).run = some r ∧ r.close = false ∧ r.pre = false ∧ (s.ringRead 0 r.tile.rw r.tile.lfmt).isSome = true) ∧
    (∀ close : Bool,
     let r : Run := { tile := tile1, pre := true, close := close }
     let s := core0 fun k => { k with run := some r }
     s.clocked 0 = true ∧ (s.core 0).run = some r ∧ r.pre = true ∧ r.close = close) ∧
    (let b : Bank := { chunk := 0, npass := 0, rows := 1, cols := 1, ent := [[(0x3F800000#32, false)]], full := true, drained := 0 }
     let r : Run := { tile := tile1, banks := [b] }
     let s := core0 fun k => { k with tail := [r] }
     s.clocked 0 = true ∧ (s.core 0).oldestFull = some (r, b) ∧ r.tile.op = .mmul ∧ r.tile.keep = true ∧
     r.tile.nanTrap = false) ∧
    (let d := bytes64 [(0, 1, 2), (1, 1, 4), (0x18, 4, 1), (0x1C, 4, 1)]
     let y := { xferOf (xfers d) 0 0 d none 0 with begun := true }
     let s : State := { core0 id with xfers := [y] }
     s.xfers.find? (fun z => z.id == 0) = some y ∧ y.begun = true ∧ y.ready = false ∧
     ((s.xfers.filter fun z => z.core == 0 && z.ring == 0 && !z.ready && (dfield z.desc 0 1 == 2 || dfield z.desc 0 1 == 3)).head?.map
       (·.id)) = some 0 ∧ s.clocked 0 = true ∧ s.backPressed y.part 6 = false ∧ (((s.core 0).rings.getD 0 {}).prod - ((s.core 0).rings.getD 0 {}).cons).toNat < 16 ∧
     ((s.core 0).rings.getD 0 {}).lines = 16) := by
  and_intros <;> decide +kernel

theorem witness_NanResultsAreCanonical :
    FFmt.fp32.isNan (addFp32 0x7F800000#32 0xFF800000#32).1.toNat = true ∧
    FFmt.fp32.isNan (cell (FFmt.bf16.decode 0x7FC1) (FFmt.bf16.decode 0x3F80) 0#32).1.toNat = true ∧
    FFmt.fp32.isNan (cell (FFmt.fp16.decode 0x7E01) (FFmt.fp16.decode 0x3C00) 0#32).1.toNat = true ∧
    FFmt.fp32.isNan (loaderConvert .bf16 .fp32 false 0xFFC1).1 = true ∧ FFmt.bf16.isNan (loaderConvert .fp32 .bf16 false 0x7F800001).1 = true ∧
    FFmt.fp16.isNan (loaderConvert .fp32 .fp16 false 0x7FC00001).1 = true ∧ FFmt.bf16.isNan (drainConvert .bf16 false 0xFFFFFFFF#32).1 = true ∧
    FFmt.fp16.isNan (drainConvert .fp16 true 0x7FC00001#32).1 = true ∧ FFmt.fp32.isNan (drainConvert .fp32 true 0x7F800001#32).1 = true := by
  decide

/-- A block of width 1 and one of width 8: 6 and 34 bytes. -/
theorem witness_LathBlockLayout :
    (∀ e ∈ [(1, 6), (8, 34)],
      let b := Blk.ofBytes (0#8 :: BitVec.ofNat 8 (e.1 - 1) :: List.replicate (e.2 - 2) 0#8) false
      b.w = e.1 ∧ 2 + 4 * b.w = e.2) := by
  decide

/-! ### The bay controller and the context window -/

/-- An image of one END instruction; a patch list of one record that adds 7 to p3 of context 0. -/
def image1 : List Byte :=
  let code := leBytes 4 (0x2F * 2 ^ 26)
  leBytes 32 (0x7E24 + 2 ^ 16 + 4 * 2 ^ 32 + 0xFFFFFFFF * 2 ^ 96 + crc32 code * 2 ^ 160) ++ code
def patch1 : List Byte := leBytes 24 (7 * 2 ^ 64 + 3 * 2 ^ 128 + 1 * 2 ^ 136 + 1 * 2 ^ 144)

/-- Core 0 with context 0 in this state and a stream loaded. -/
def ctx0 (v : Ctx) : State :=
  { on with regs := (⟨.bayCsCores, 0, 0⟩, 0#32) :: on.regs, cores := [(0, { ctxs := (Vector.replicate 4 {}).set 0 v })] }
def stopped0 : Ctx := { st := .stopped, len := 4#14 }
def empty0 : Ctx := { len := 4#14 }

/-- The named core is core 0; one patch record. -/
def named (s : State) : State := { s with regs := (⟨.bayCsArg, 0, 0⟩, 0x10000#32) :: s.regs }

theorem witness_BayCommandsAndTheirContexts :
    (let s := holds (ctx0 stopped0) image1
     BayFree s 0 .welyar ∧ ((BayGo s 0 1 1#4).bayLoad 0 1#4).2 = 0) ∧
    (∀ m ∈ [0#4, 1#4],
      let s := named (holds (ctx0 empty0) patch1)
      let r := (BayGo s 0 2 m).patchRead 0
      BayFree s 0 .welyar ∧ (match r.2 with | .inr rs => !(r.1.patchBusy 0 rs) && rs.length == 1 | .inl _ => false) = true ∧
      CanStart r.1 (r.1.bayPairs 0 m)) ∧
    (let s := ctx0 empty0
     BayFree s 0 .welyar ∧ (BayGo s 0 3 1#4).bayPairs 0 1#4 = [(0, 0)] ∧ CanStart (BayGo s 0 3 1#4) [(0, 0)]) ∧
    (let s := ctx0 stopped0
     BayFree s 0 .welyar ∧ (BayGo s 0 5 1#4).bayPairs 0 1#4 = [(0, 0)] ∧ ((BayGo s 0 5 1#4).ctx 0 0).st = .stopped) ∧
    BayFree on 0 .welyar ∧ on.outstanding 0 0 = false ∧ on.pendingSub.contains 0 = false ∧
    ({ on with pendingSub := [0] } : State).pendingSub.contains 0 = true ∧
    (core0 fun k => { k with queue := [tile1] }).outstanding 0 0 = true := by
  unfold BayFree Reaches CanStart; and_intros <;> decide +kernel

theorem witness_WindowModeStopAndReset :
    aget ({ on with bays := [(0, { cmd := 1, result := 2 })] } : State).bays 0 = some { cmd := 1, result := 2 } ∧
    (∀ st ∈ [CtxSt.empty, .stopped],
      let s := ctx0 { st := st, heldStart := true }
      (s.ctx 0 0).heldStart = true ∧ s.outstanding 0 0 = false ∧ s.pendingSub.contains 0 = false ∧ (s.ctx 0 0).st = st ∧
      s.baySel 0 = some (0, 0) ∧ s.psegOk 0 0x0F000001#32 = true ∧ (∀ i ∈ [0, 63], Reaches s .pf ⟨.bayCtxP, 0, i⟩) ∧
      Reaches s (.vf 1) ⟨.bayCtxStopat, 0, 0⟩ ∧ ∀ i ∈ [0, 3], Reaches s (.vf 1) ⟨.bayCtxPsegHi, 0, i⟩ ∧
      Reaches s (.vf 1) ⟨.bayCtxPsegLo, 0, i⟩) ∧
    Reaches on (.vf 1) ⟨.coreCtxMode, 0, 0⟩ ∧ Reaches (ctx0 running) (.vf 1) ⟨.coreCtxCmd, 0, 0⟩ ∧
    ((ctx0 running).ctx 0 0).inRun = true ∧
    (let s : State := { on with parts := Vector.replicate 8 {} }
     Reaches s .pf ⟨.coreCtxCmd, 0, 0⟩ ∧ s.partOfCore 0 = none) := by
  unfold Reaches; and_intros <;> decide +kernel

theorem witness_ParameterWritesDuringARun :
    (∀ v ∈ [running, empty0, stopped0],
      let s := ctx0 v
      s.baySel 0 = some (0, 0) ∧ (∀ i ∈ [0, 63], Reaches s (.vf 1) ⟨.bayCtxP, 0, i⟩) ∧ Reaches s (.vf 1) ⟨.bayCtxStopat, 0, 0⟩) ∧
    running.inRun = true ∧ empty0.st = .empty ∧ stopped0.st = .stopped := by
  unfold Reaches; and_intros <;> decide +kernel

/-! ### Pegs and pools -/

/-- A context that waits on peg 0 of die 0's spine for a value of 5, polling or not. -/
def waits (poll : Bool) : Ctx := { st := .waiting, wait := .peg 0 (.spine 0 0) 5#32 true poll, len := 4#14 }

def sig1 (id : Nat) (v : Word) : Signal :=
  { id := id, home := .spine 0 0, amount := v, engine := false, die := 0, core := 0, ctx := 0, part := 0 }

theorem witness_PegsPoolsAndDetector :
    (let s : State := { ctx0 (waits false) with signals := [sig1 0 2#32, sig1 1 3#32]
                                                waiters := [{ home := .spine 0 0, core := 0, ctx := 0, thr := 5#32, sub := true }] }
     s.homeRuns (.spine 0 0) = true ∧ s.homeRuns (.bent 0 4095) = true ∧ s.homeRuns (.ctx 0 0 15) = true ∧ s.pegMsgs = [] ∧
     s.peg (.spine 0 0) < ((sortSigs s.signals).foldl State.applySig s).peg (.spine 0 0)) ∧
    (let s := withReg (ctx0 (waits true)) ⟨.pegSpnVal, 0, 0⟩ 5#32
     s.clocked 0 = true ∧ (s.ctx 0 0).st = .waiting ∧ (s.ctx 0 0).wait = .peg 0 (.spine 0 0) 5#32 true true ∧
     s.badPegs.contains (.spine 0 0) = false ∧ 5 ≤ ((s.count .pegPollCnt (PegHome.dom (.spine 0 0)) 1).peg (.spine 0 0)).toNat) ∧
    Reaches on .pf ⟨.pegBentVal, 0, 4095⟩ ∧ Reaches on (.vf 1) ⟨.pegSpnVal, 0, 4095⟩ ∧
    Reaches (ctx0 empty0) (.vf 1) ⟨.bayCtxPeg, 0, 15⟩ ∧ (ctx0 empty0).baySel 0 = some (0, 0) ∧
    (let s1 := withReg (ctx0 { waits false with progress := BitVec.ofNat 64 (2 ^ 40 - 65536) }) ⟨.pegDldCtl, 0, 0⟩ 1#32
     let s : State := { s1 with parts := s1.parts.set 0 { part0 with dldSince := some (BitVec.ofNat 64 (2 ^ 40 - 65536)) } }
     s.dldStart 0 = some (BitVec.ofNat 64 (2 ^ 40 - 65536)) ∧ s.deadlocked 0 = true ∧ s.partStopped 0 = false ∧
     65536 ≤ (s.spineTime 0 - BitVec.ofNat 64 (2 ^ 40 - 65536)).toNat ∧ (s.part 0).dldFired = false) ∧
    Reaches on (.vf 1) ⟨.spnPoolCmd, 0, 0⟩ ∧
    (let s : State := { withReg on ⟨.spnPoolCmd, 0, 0⟩ 1#32 with pools := [(0, { tags := [(0, 0#32), (3, 5#32)] })] }
     (s.pool 0 0).reqs = [] ∧ (s.pool 0 0).eng = [] ∧ s.rbit ⟨.spnPoolCmd, 0, 0⟩ 0 = true ∧ (s.pool 0 0).queue = []) ∧
    (on.rbit ⟨.spnPoolCfg, 63, 0⟩ 7 = false ∧ Reaches on .pf ⟨.spnPoolBaseLo, 63, 0⟩ ∧ Reaches on .pf ⟨.spnPoolCfg, 63, 0⟩) ∧
    (let s := withReg on ⟨.spnPoolCfg, 0, 0⟩ 0x80#32
     s.rbit ⟨.spnPoolCfg, 0, 0⟩ 7 = true ∧ Reaches s .pf ⟨.spnPoolCfg, 0, 0⟩ ∧ (s.setPool 0 0 { tags := [(0, 0#32)] }).rbit
       ⟨.spnPoolCfg, 0, 0⟩ 7 = true ∧ ((s.setPool 0 0 { tags := [(0, 0#32)] }).pool 0 0).tags ≠ []) := by
  unfold Reaches; and_intros <;> decide +kernel

/-- Segments of the four kinds and one that is not valid, at the first and the last offset of their length. -/
def segs (lo : Word) : State :=
  ctx0 { running with psegLo := ((Vector.replicate 4 0#32).set 0 lo).set 3 lo, psegHi := (Vector.replicate 4 0#32).set 3 0x2F000A#32 }

theorem witness_PegIdsTranslate :
    (∀ e ∈ [(0x0F000001#32, 0, 15), (0xFF000003#32, 3, 255), (0xFF000005#32, 0, 255), (0xFF000007#32, 3, 255)],
      ∀ o ∈ [0, e.2.2], ((segs e.1).ctx 0 0).psegLo.getD e.2.1 0#32 = e.1 ∧ e.1.getLsbD 0 = true ∧ o < wbits e.1 31 24 + 1 ∧
        wbits e.1 23 10 + o < 4096) ∧
    (0x0F000000#32).getLsbD 0 = false ∧ wbits 0x0F000001#32 31 24 + 1 ≤ 16 ∧
    (on.partOfBent 0).isSome = true ∧ on.partOfBent 0 = on.partOfCore 0 ∧ on.partOfPeg (.spine 0 255) = on.partOfCore 0 := by
  decide +kernel

/-- R189's example: peg id 0x213 in segment 2 of kind 2, die 1, base 0x1000, length 256 is spine peg 0x1013 of die 1. -/
theorem test_peg_id_example :
    let s1 := ctx0 { running with psegLo := (Vector.replicate 4 0#32).set 2 (BitVec.ofNat 32 (1 + 2 * 2 + 8 + 0x1000 * 1024 + 255 * 2 ^ 24)) }
    let s : State := { s1 with parts := s1.parts.set 0 { part0 with pegblk := [0, 0xFFFF0000, 0, 0] } }
    s.pegOf 0 0 0x213 = some (.spine 1 0x1013) := by decide +kernel

theorem witness_SignalAddsAndSaturates :
    (on.peg (.bent 95 4095)).toNat + (0xFFFFFFFF#32).toNat ≤ 0xFFFFFFFF ∧
    0xFFFFFFFF < ((on.setPeg (.spine 3 16383) 1#32).peg (.spine 3 16383)).toNat + (0xFFFFFFFF#32).toNat := by decide +kernel

/-! ### Collectives and trusses -/

/-- A reduce entry of three members: one of package 5, then cores 0 and 1 of this partition; package 5 owns block 0. -/
def truss3 : Truss :=
  { truss1 1 0 with nmem := 3, members := [⟨5, 0, 0, 0⟩, ⟨0, 0, 0, 0⟩, ⟨0, 0, 1, 1⟩], own := [{ pos := 1, die := 0 }, { pos := 2, die := 0 }] }

/-- This entry is installed as entry 0 of partition 0, and this record has arrived; pool 0 has four buffers of 256 bytes. -/
def colState (t : Truss) (l : List ColRec) : State :=
  withReg { on with trusses := [((0, 0), t)], colrecs := l } ⟨.spnPoolCfg, 0, 0⟩ 0x30082#32

def colRec (kind dst : Nat) : ColRec := { id := 7, part := 0, entry := 0, kind := kind, step := 0#8, cnt := 1, b := 0, dst := dst }

theorem witness_CollectivesAndTrusses :
    (let s := colState truss3 [colRec 0 1]
     (s.colTake 7 [0]).2 = some (colRec 0 1, truss3) ∧ truss3.ownerRank 0 ≠ s.ownRank 0 truss3 ∧ truss3.sums = [] ∧
     (colRec 0 1).cnt < truss3.expect 0 (s.ownRank 0 truss3)) ∧
    (let y : ColSum := { b := 0, step := 0#8, max := true, fb := false, rt := false, acc := { colRec 2 1 with cnt := 0 } }
     let t := { truss3 with sums := [y] }
     let s := colState t [colRec 2 1]
     (s.colTake 7 [2]).2 = some (colRec 2 1, t) ∧ (colRec 2 1).cnt ≠ 0 ∧
     t.sums.find? (fun y => y.b == 0 && y.step == 0#8 && y.max) = some y ∧ t.ownerRank 0 ≠ s.ownRank 0 t ∧
     y.acc.cnt + (colRec 2 1).cnt < t.expect 0 (s.ownRank 0 t)) ∧
    (∀ k ∈ [3, 4, 6], ((colState (truss1 1 0) [colRec k 0]).colTake 7 [k]).2 = some (colRec k 0, truss1 1 0)) ∧
    (let t := { truss1 2 0 with owner := [{ b := 0, result := some (colRec 1 0) }] }
     ((colState t [colRec 5 0]).colTake 7 [5]).2 = some (colRec 5 0, t) ∧ (t.ownerOf 0).result = some (colRec 1 0)) ∧
    (let t := truss1 2 0
     ((colState t [colRec 1 0]).colTake 7 [1]).2 = some (colRec 1 0, t) ∧ (colRec 1 0).rt = false ∧
     (colRec 1 0).dig = digestOf t.dseed 0 (flipWords [] (colRec 1 0).q)) ∧
    (let u : Supply := { ctx := 0, part := 0, truss := 0, lcore := some 0, epoch := 0#8, elems := [(0, (0x3F800000#32, false))] }
     let t := { truss1 1 0 with bufs := [{ pos := 0, b := 0, step := 0, vals := [], die := 0, buf := 0 }] }
     let s : State := { colState t [] with supplies := [(0, u)] }
     aget s.supplies 0 = some u ∧ s.backPressed u.part 7 = false ∧
     (s.supplyAll u.part u.truss 0 u.lcore u.epoch (u.elems.map fun e => (e.1, e.2, []))).2.1 = 1) ∧
    (let g : Csend := { id := 3, core := 0, ctx := 0, part := 0, lcore := some 0, epoch := 0#8, truss := 0, base := 0, len := 64
                        key := 0#32, sig := none, pos := 60 }
     let t := truss1 1 0
     let s : State := { colState t [] with sends := [g] }
     let l := s.pbytes (spadAddr 0 60) 64
     let els := (List.range (min (64 / t.sendSize) ((g.len - g.pos) / t.sendSize))).map fun i =>
       let e := (l.drop (i * t.sendSize)).take t.sendSize
       (g.key.toNat + g.pos / t.sendSize + i, (BitVec.ofNat 32 (leNat (dataOf e)), anyPoison e), e)
     s.sends.find? (fun g => g.id == 3) = some g ∧ g.pos < g.len ∧ s.clocked 0 = true ∧ s.backPressed 0 7 = false ∧
     s.trussAt 0 0 = some t ∧ els.length = 1 ∧ (s.supplyAll 0 0 0 (some 0) 0#8 els).2.2 = false) ∧
    (∀ e ∈ [(0, 0), (1, 1), (255, 0)],
      let own := [{ pos := 0, die := 0, step := if e.1 = 255 then 256 else 0 : OwnMem }]
      let lo := (own.map (·.step)).foldl min ((own.map (·.step)).headD 0)
      e.1 = 255 ∧ BitVec.ofNat 8 lo = 0#8 ∨ BitVec.ofNat 8 (lo + e.2) = BitVec.ofNat 8 e.1) := by
  and_intros <;> decide +kernel

/-- The 128 bytes of a reduce entry of one block with one member, and its member record. -/
def entry1 : List Byte :=
  leBytes 128 (1 + 1 * 2 ^ 32 + 128 * 2 ^ 64 + 64 * 2 ^ 128) ++ leBytes 8 (2 ^ 43)

theorem witness_CollectivesAndTrusses_commands :
    (let s := holds (colState (truss1 1 0) []) entry1
     let s0 := ({ s with trusses := [] } : State).trsCmd 0 0 1
     let d := dataOf (s0.pbytes 0xE0000000000 128)
     let ml := dataOf (s0.pbytes 0xE0000000080 8)
     Reaches { s with trusses := [] } (.vf 1) ⟨.trsCmd, 0, 0⟩ ∧ (s0.part 0).built = true ∧ s0.trussAt 0 0 = none ∧
     (s0.reg ⟨.trsBaseLo, 0, 0⟩).toNat + 2 ^ 32 * s0.rfld ⟨.trsBaseHi, 0, 0⟩ 15 0 = 0 ∧
     (s0.vload 0 0 128 0).map (·.2) = some (s0.pbytes 0xE0000000000 128) ∧ anyPoison (s0.pbytes 0xE0000000000 128) = false ∧
     trussFields d = true ∧ dfield d 8 8 = 128 ∧ dfield d 4 4 = 1 ∧
     (s0.vload 0 128 8 0).map (·.2) = some (s0.pbytes 0xE0000000080 8) ∧ anyPoison (s0.pbytes 0xE0000000080 8) = false ∧
     (match s0.trussCheck 0 d (membersOf 1 ml) with | .inr t => s0.trussJoinerOk 0 0 t | .inl _ => false) = true) ∧
    (let s := (colState (truss1 1 0) []).trsCmd 0 0 2
     Reaches (colState (truss1 1 0) []) .pf ⟨.trsCmd, 0, 0⟩ ∧ s.trussAt 0 0 = some (truss1 1 0) ∧ (truss1 1 0).active = false) ∧
    (let m : OwnMem := { pos := 0, die := 0, last := BitVec.ofNat 64 (2 ^ 40 - 100) }
     let t := { truss1 1 0 with own := [m], bufs := [{ pos := 0, b := 0, step := 0, vals := [], die := 0, buf := 0, sent := true }] }
     let s := withReg (colState t []) ⟨.prtWdCol, 0, 0⟩ 100#32
     s.trussAt 0 0 = some t ∧ t.own.find? (fun m => m.pos == 0) = some m ∧ (s.reg ⟨.prtWdCol, 0, 0⟩).toNat = 100 ∧
     t.stalled m = true ∧ 100 ≤ s.since m.last ∧ s.partStopped 0 = false) := by
  unfold Reaches; and_intros <;> decide +kernel

/-! ### Memory and decks -/

def reply1 (d : Issuer) : Reply :=
  { id := 4, part := 0, pepoch := 0#8, dest := d, data := [], err := false, latency := none, t0 := 0#64 }

theorem witness_MemoryRequestsAndStaleOnes :
    on.served 0 0 128 = true ∧ on.served 0 (0x48000000 - 32) 32 = true ∧ on.staleWrite 0 0 (.core 0 0 0#8 0) = false ∧ on.staleWrite 0 0 (.engine 3 (on.eepoch 3)) = false ∧
    Issuer.core 0 0 0#8 0 ≠ .welyar ∧ (0x48000000 : Nat) < 2 ^ 44 ∧ (free on []).reachable 0x80000000 128 = true ∧
    (twLen 4 = true ∧ twLen 512 = true ∧ twLen 516 = false) ∧
    (∀ d ∈ [Issuer.engine 3 (on.eepoch 3), .core 0 0 0#8 0, .welyar],
      ({ on with replies := [reply1 d] } : State).replies.find? (fun y => y.id == 4) = some (reply1 d)) ∧
    on.fresh 0 (some 0) 0#8 = true ∧ (on.part 0).epoch = 0#8 ∧ (on.part 7).epoch ≠ 1#8 := by
  and_intros <;> decide +kernel

theorem witness_ChannelsAndDecks :
    (let s : State := { on with parts := on.parts.set 0 { part0 with prio := true } }
     s.partOfChan 0 = some 0 ∧ (s.part 0).prio = true ∧ s.rfld ⟨.hbmArb, s.physChan 0, 0⟩ 15 0 ≤ 65535) ∧
    (let s : State := { withReg on ⟨.mgtScrubCtl, 0, 0⟩ 1#32 with deck :=
       [{ die := 0, line := 0, way := 0, part := 0, keep := false, dirty := false, old := [], oldPoison := [] }] }
     s.rbit ⟨.mgtScrubCtl, 0, 0⟩ 0 = true ∧ s.place 0x47FFFFE0 = .hbm 0 0x47FFFFE0 ∧ (MemErr.ue 127).addr = some 127 ∧ hbmDie 127 = 0 ∧ (s.deckFind 0 (127 / 128)).isSome = true) ∧
    on.reaches (.vf 1) ⟨.hbmLatMax, 0, 0⟩ false = true ∧ Reaches on .pf ⟨.dckCmd, deckUnit 3 7, 0⟩ ∧
    on.rbit ⟨.dckCmd, deckUnit 3 7, 0⟩ 0 = false ∧ (withReg on ⟨.dckCmd, 0, 0⟩ 1#32).rbit ⟨.dckCmd, deckUnit 0 0, 0⟩ 0 = true := by
  unfold Reaches; and_intros <;> decide +kernel

theorem witness_MemoryReadsWhatWasWritten :
    Memory.wf [(5, 1#8), (2 ^ 41 - 1, 0#8), (0xE0000000000, 3#8)] ∧ (2 ^ 41 : Nat) ≠ 2 ^ 41 - 1 := by decide +kernel

/-- The examples of R27: the scratchpad and the bay buffer of core 0x47B96, channel 5 of the second fast stack of tile 2. -/
theorem test_address_examples :
    spadAddr 0x47B96 0 = 0xE047B960000 ∧ coreAddr 2 7 11 150 = 0x47B96 ∧ bayOf 0x47B96 = 891 ∧ bayBase + 891 * 2 ^ 20 = 0xE0837B00000 ∧
    on.place 0x11280000000 = .hbm 421 0 := by decide +kernel

/-! ### Joiners -/

/-- A joiner context of zero fields, an element program of one word. -/
def jctx1 : JCtx := JCtx.ofBytes 0 (List.replicate 256 0#8)
def prog1 : JProg := { part := 0, form := 0, na := 1, nb := 0, nc := 0, code := [0x04000000#32] }

/-- The context is installed for entry 0, whose owner offers block 0; the program is loaded. -/
def jnrState (j : JCtx) : State :=
  { on with trusses := [((0, 0), { truss1 1 0 with joiner := true, owner := [{ b := 0, offered := some (colRec 0 0, false) }] })]
            jctxs := [((0, 0), j)], jprogs := [(0, prog1)] }

/-- Active on slot 0 with block 0 accepted. -/
def jactive (q : List JBlock) : JCtx := { jctx1 with active := some { consts := [], prog := 0 }, queue := q, ext := some (truss1 1 0).ext }

theorem witness_JoinerWork :
    (let s := jnrState (jactive [])
     s.offeredBlock 0 0 0 = some ({ truss1 1 0 with joiner := true, owner := [{ b := 0, offered := some (colRec 0 0, false) }] },
       { b := 0, offered := some (colRec 0 0, false) }, (colRec 0 0, false)) ∧
     aget s.jctxs (0, 0) = some (jactive []) ∧ (jactive []).active.isSome = true ∧ (jactive []).done.contains 0 = false ∧
     s.dispatcherLoad 0 < 256) ∧
    (let q : JBlock := { crec := colRec 0 0, pos := 0 }
     let s := jnrState (jactive [q])
     (s.jnrTake 0 0 0 0).map (·.2.2) = some q ∧ q.crec.poison = false ∧ q.crec.nf = false ∧
     s.pubHeld 0 (jactive [q]) = false ∧ s.backPressed 0 7 = false ∧
     (s.jnrProgOf 0 (jactive [q])).map (·.2) = some prog1 ∧ (jactive [q]).dim = 0) ∧
    (let q : JBlock := { crec := colRec 0 0, pos := 0 }
     let j := { jactive [q] with dim := 32 }
     let s : State := { jnrState j with jprogs := [(0, { prog1 with form := 1 })] }
     aget s.jctxs (0, 0) = some j ∧ (s.jnrTake 0 0 0 (1 * j.dim / 64)).isSome = true ∧ (s.jnrProgOf 0 j).isSome = true) ∧
    (let j := { jctx1 with gate := some (.spine 0 0) }
     let s := withReg (jnrState j) ⟨.pegSpnVal, 0, 0⟩ 1#32
     aget s.jctxs (0, 0) = some j ∧ (s.trussAt 0 j.entry).map (fun t => (t.joiner, t.jctx, t.owner.any fun o => o.offered.isSome)) =
       some (true, 0, true) ∧ j.active = none ∧ j.xp = none ∧ j.granted = false ∧ j.gated = false ∧ 1 ≤ (s.peg (.spine 0 0)).toNat) := by
  and_intros <;> decide +kernel

/-- A program image: the head and one word. -/
def progImage : List Byte :=
  leBytes 16 (0x7E4A + 2 ^ 16 + 1 * 2 ^ 32 + crc32 (leBytes 4 0x04000000) * 2 ^ 64) ++ leBytes 4 0x04000000

theorem witness_JoinerWork_commands :
    (let s0 : State := { jnrState jctx1 with jctxs := [] }
     let s := s0.jnrCmd 0 0 1
     Reaches s0 (.vf 1) ⟨.jnrCmd, 0, 0⟩ ∧ (s.part 0).built = true ∧ aget s.jctxs (0, 0) = none ∧
     (match s.vload 0 (s.jnrBase 0) 256 0 with | some (s1, l) => s1.jctxCheck 0 l == 0 | none => false) = true) ∧
    (let s0 : State := { jnrState jctx1 with trusses := [] }
     let s := s0.jnrCmd 0 0 2
     Reaches s0 .pf ⟨.jnrCmd, 0, 0⟩ ∧ aget s.jctxs (0, 0) = some jctx1 ∧ jctx1.active = none ∧ jctx1.gated = false ∧
     (s.trusses.any fun e => e.1.1 == 0 && e.2.joiner && e.2.jctx == 0) = false) ∧
    (let s0 : State := holds { jnrState jctx1 with jprogs := [] } progImage
     let s := s0.progCmd 0 (s0.progPart .pf 0) 1
     Reaches s0 .pf ⟨.jnrProgCmd, 0, 0⟩ ∧ aget s.jprogs 0 = none ∧
     (s.jctxs.any fun e => match e.2.active with | some a => a.prog == 0 | none => false) = false ∧
     (match s.vload 0 0 16 0 with
      | some (s1, h) => (match s1.vload 0 16 (4 * (dfield (dataOf h) 4 1 + dfield (dataOf h) 5 1 + dfield (dataOf h) 6 1)) 0 with
        | some (_, c) => progOf 0 (dataOf h) (dataOf c) == some prog1 && !(anyPoison h) && !(anyPoison c)
        | none => false)
      | none => false) = true) ∧
    (let s0 : State := { jnrState jctx1 with jctxs := [] }
     let s := s0.progCmd 0 (s0.progPart (.vf 1) 0) 2
     Reaches s0 (.vf 1) ⟨.jnrProgCmd, 0, 0⟩ ∧ aget s.jprogs 0 = some prog1 ∧ prog1.part = s0.progPart (.vf 1) 0 ∧ s.slotNamed 0 0 = false) ∧
    (∀ op ∈ [1, 2],
      let s := holds (jnrState jctx1) [BitVec.ofNat 8 op]
      Reaches s (.vf 1) ⟨.jnrXpCmd, 0, 0⟩ ∧ s.rbit ⟨.jnrXpCmd, 0, 0⟩ 0 = false ∧ (s.part 0).built = true ∧
      (match s.vload 0 0 64 0 with
       | some (s1, l) => !(anyPoison l) && dfield (dataOf l) 0 1 == op && aget s1.jctxs (0, dfield (dataOf l) 2 2) == some jctx1
       | none => false) = true) := by
  unfold Reaches; and_intros <;> decide +kernel

/-! ### Maintenance, errors and probes -/

theorem witness_MaintenanceAndErrors :
    (∀ e ∈ [(1, 95), (10, 0)], on.maintFree on.maintQueue ⟨e.1, e.2⟩ = true) ∧
    (let s : State := { on with maintRun := [⟨1, 5⟩] }
     s.maintFree s.maintQueue ⟨1, 5⟩ = false ∧ s.maintQueue.length < 256 ∧ s.maintRun.contains ⟨1, 5⟩ = true) ∧
    Reaches on .i3c ⟨.mgtMaintCtl, 0, 0⟩ ∧
    (let s : State := { on with pendingSub := [0], maintRun := [⟨4, 0⟩] }
     s.partOfCore 0 = some 0 ∧ s.lcoreOf 0 = some 0 ∧ s.pendingSub.contains 0 = true ∧ (s.part 0).fenced = false ∧
     (s.pendingSub.filter fun y => (s.part 0).coreMap.contains y && decide (y < 0)).length < (s.part 0).reserve.length ∧
     (∀ x < 4, (s.ctx 0 x).st = .empty) ∧ s.inFlight 0 = false ∧ s.maintRun.contains ⟨4, bentOf 0⟩ = true ∧
     (s.part 0).reserve.head? = some 2) ∧
    (∀ e ∈ [(0, 31), (767, 736)],
      let s : State := { on with suspects := [((6, e.1), 0#64)], maintRun := [⟨6, e.1 / 32⟩] }
      (aget s.suspects (6, e.1)).isSome = true ∧ e.1 / 32 = e.2 / 32 ∧ e.1 < 768 ∧ s.partOfChan e.2 = none ∧
      s.retired.contains (6, e.2) = false ∧ s.slotHole e.2 = false ∧ s.rbit ⟨.hbmChMap, e.2, 0⟩ 5 = false ∧
      s.rbit ⟨.hbmChMap, e.2, 0⟩ 6 = false ∧ s.rbit ⟨.hbmChMap, e.1, 0⟩ 6 = false ∧ s.slotHole e.1 = false ∧
      s.maintRun.contains ⟨6, e.1 / 32⟩ = true) ∧
    aget ({ on with copies := [(0, (31, 0#64))] } : State).copies 0 = some (31, 0#64) ∧
    on.badPegs.contains (.bent 0 0) = false ∧ validCore 0 = true ∧ validCore (coreAddr 3 23 15 199) = true := by
  unfold Reaches; and_intros <;> decide +kernel

/-- A pack of one item and 4,723 bytes of signature. -/
def packState : State :=
  withReg (free on (leBytes 64 (0x5B0E + 2 ^ 16 + 4787 * 2 ^ 64 + 1 * 2 ^ 96 + 1 * 2 ^ 256))) ⟨.mgtProbeAddrLo, 0, 0⟩ 0x80000000#32

theorem pbytes_clean {s : State} (hp : s.poison = []) (hc : s.cores = []) (a n : Nat) : anyPoison (s.pbytes a n) = false := by
  have h : ∀ i, s.poisoned i = false := by
    intro i
    unfold State.poisoned
    split
    · simp [State.core, hc, hp, aget, Core.slotAt]
    · simp [hp]
  simp [anyPoison, State.pbytes, h]

theorem witness_Probes :
    (∀ k ∈ [2, 5],
      let s : State := { on with probePack := [0#8], suspects := [((k, 3), 0#64)] }
      s.probePack ≠ [] ∧ s.unitHeld k (if k = 2 then 63 else 3) = false ∧ (aget s.suspects (k, 3)).isSome = true) ∧
    (∀ k ∈ [1, 2, 5],
      let s : State := { on with plumb := BitVec.ofNat 64 (2 ^ 46 + 7), probePack := [0#8], unitProbed := [((k, 0), 7#64)] }
      aget s.unitProbed (k, 0) = some 7#64 ∧ 2 ^ 46 ≤ s.since 7#64 ∧ aget s.unitProbed (k, coreAddr 0 1 0 0) = none ∧
      s.enabled (coreAddr 0 1 0 0) = true ∧ s.partOfCore (coreAddr 0 1 0 0) = none) ∧
    (∀ e ∈ [(0, true), (1, false)],
      Reaches on (.vf 1) ⟨.prtProbeGrant, 0, 0⟩ ∧ (on.part 0).window = none ∧ (on.part 0).built = true ∧ (on.part 0).fenced = false ∧
      (((upto e.1 (127 + 1 - e.1)).filterMap (on.bentIndex 0)) ≠ [] ↔ e.2 = true)) ∧
    (∀ v ∈ [running, empty0],
      let w : Window := { bents := [0, 1], t0 := 0#64 }
      let s : State := { ctx0 v with parts := on.parts.set 0 { part0 with window := some w }, maintRun := [⟨5, 0⟩] }
      (s.part 0).window = some w ∧ w.bents = 0 :: 1 :: [] ∧ s.maintRun.contains ⟨5, 0⟩ = true ∧ (s.ctx 0 0).inRun = v.inRun ∧
      coresOfBent 0 ≠ [] ∧ (coresOfBent 0).contains 0 = true ∧ running.inRun = true ∧ empty0.inRun = false) ∧
    (∀ bs ∈ [[], [0]],
      let w : Window := { bents := bs, t0 := 0#64 }
      let s : State := { on with parts := on.parts.set 0 { part0 with window := some w } }
      (s.part 0).window = some w ∧ w.bents = bs ∧ (s.reg ⟨.prtProbeBudget, 0, 0⟩).toNat ≤ s.since w.t0) ∧
    (∀ fwd ∈ [false, true],
      let s1 := packState.setReg kProbeCmd (BitVec.ofNat 32 (if fwd then 2 else 1))
      let pa := (s1.reg ⟨.mgtProbeAddrLo, 0, 0⟩).toNat + 2 ^ 32 * s1.rfld ⟨.mgtProbeAddrHi, 0, 0⟩ 11 0
      let len := dfield (s1.bytes pa 0x20) 8 4
      Reaches packState .welyar kProbeCmd ∧ ((List.range 8).any fun p => (s1.part p).window.isSome) = false ∧ s1.freeHbm pa 0x20 = true ∧
      packFields (s1.bytes pa 0x20) = true ∧ pa % 4096 = 0 ∧ len ≤ 2 ^ 26 ∧ 0x20 + 32 * dfield (s1.bytes pa 0x20) 0xC 2 + 4723 ≤ len ∧
      s1.freeHbm pa len = true ∧ packItems (s1.bytes pa len) = true) ∧
    (∀ (fwd : Bool) (pa len : Nat), anyPoison ((packState.setReg kProbeCmd (BitVec.ofNat 32 (if fwd then 2 else 1))).pbytes pa len) = false) := by
  unfold Reaches; and_intros <;> first | exact fun _ _ _ => pbytes_clean rfl rfl _ _ | decide +kernel

/-! ### The fabric -/

/-- Port 0 in this state. -/
def port0 (q : Port) : State := { on with ports := on.ports.set 0 q }
def up0 : Port := { st := .up, lanes := List.range 16, spares := [16, 17] }

theorem witness_PortsTrainSleepAndWake :
    (∀ k ∈ [16, 18],
      let errs : List (Option Nat) := (List.range 18).map fun i => if i < k then some i else none
      let es := (List.range 18).map fun i => if (port0 { st := .training }).assemblyBad 2 0 i then none else (errs[i]?).bind id
      ((port0 { st := .training }).port 0).st = .training ∧ 16 ≤ ((List.range 18).filter fun i => ((es[i]?).bind id).isSome).length) ∧
    (let s := port0 { st := .down, held := true, fence := some (BitVec.ofNat 64 (2 ^ 40 - 2 ^ 32)) }
     (s.port 0).held = true ∧ s.trainHeld 0 = false ∧ Reaches s (.vf 1) ⟨.lmdCtl, 0, 0⟩ ∧ (s.port 0).st ≠ .off) ∧
    (∀ e ∈ [(16, true, 16), (15, true, 8), (8, true, 8), (15, false, 0), (7, true, 0)],
      (if 16 ≤ e.1 then 16 else if 8 ≤ e.1 ∧ (withReg on ⟨.lmdCtl, 0, 0⟩ (if e.2.1 then 2#32 else 0#32)).rbit ⟨.lmdCtl, 0, 0⟩ 1 = true
        then 8 else 0) = e.2.2) ∧
    ((port0 { up0 with lastCtl := BitVec.ofNat 64 (2 ^ 40 - 2 ^ 20) }).port 0).st = .up ∧
    2 ^ 20 ≤ on.since (BitVec.ofNat 64 (2 ^ 40 - 2 ^ 20)) ∧ 65536 ≤ on.since (BitVec.ofNat 64 (2 ^ 40 - 65536)) ∧
    ((port0 { st := .waking, wakeT := BitVec.ofNat 64 (2 ^ 40 - 65536) }).port 0).st = .waking ∧
    (∀ l ∈ [0, 15], ((port0 up0).port 0).st = .up ∧ l < up0.lanes.length ∧ up0.spares ≠ [] ∧ up0.swapAsked.contains l = false ∧
      up0.sleepAt = none ∧ (let s := port0 { up0 with laneErr := List.replicate 17 (on.plumb, l) }
        (withReg s ⟨.lmdSwapTh, 0, 0⟩ 16#32).laneCount 0 l = 17) ∧ (port0 up0).maintFree [] ⟨9, 0⟩ = true ∧
      ({ port0 up0 with maintRun := [⟨9, 0⟩] } : State).maintFree [] ⟨9, 0⟩ = false ∧
      { up0 with swapAsked := [l] }.swapAsked.contains l = true ∧ up0.sent + 1024 ≤ 1024 ∧
      { up0 with swap := some (l, 7), sent := 7 }.swap = some (l, 7) ∧ { up0 with swapWait := some (l, 7) }.swapWait = some (l, 7)) ∧ ({ on with maintRun := [⟨9, 0⟩] } : State).maintRun.contains ⟨9, 0⟩ = true ∧
    (let s := withReg (port0 { up0 with sleepAt := some 5, sleepAcked := true, sent := 5 }) ⟨.lmdCtl, 0, 0⟩ 1#32
     s.sleepOk 0 = true ∧ (s.port 0).sleepAt = some 5 ∧ (s.port 0).sleepAcked = true ∧ 5 ≤ (s.port 0).sent) ∧
    (withReg (port0 up0) ⟨.lmdCtl, 0, 0⟩ 1#32).sleepOk 0 = true ∧
    ((port0 { st := .sleeping }).port 0).st = .sleeping ∧
    (let s : State := { on with ports := on.ports.set 7 { st := .waking } }
     (s.port 7).st = .waking ∧ s.partOfPort 7 = none ∧
     (timeDiff (s.timeOf (domOfSpine 3)) (BitVec.ofNat 64 (2 ^ 40 - 65536)) 0).natAbs ≤ 65536 ∧
     65536 < (timeDiff (s.timeOf (domOfSpine 3)) (BitVec.ofNat 64 (2 ^ 40 - 65538)) 0).natAbs) := by
  unfold Reaches; and_intros <;> decide +kernel

/-- A frame with this head to package 0, with an empty body. -/
def frameTo (h : Head) : Frame := { head := h.bytes, body := [], tag := [] }
def head1 : Head :=
  { dst := 0, dpart := 0, src := 5, spart := 0, slice := 9, oseq := 0, plen := 1, ftype := 1, kidx := 0, rty := 0, epoch := 0 }

/-- Partition 0 has slice number 9 and keys. -/
def sliced : State :=
  { port0 up0 with parts := on.parts.set 0 { part0 with slice := 9#24 }, keys := [((0, 0), [1#8]), ((0, 1), [2#8]), ((8, 0), [3#8])] }

theorem witness_FramesLeaveArriveOrAreRejected :
    (∀ n ∈ [1, 1024],
      let key : FlowKey := ⟨false, 0, 5, 0⟩
      let s : State := { sliced with sflows := [(key, { buf := List.replicate n 0#8, marks := if n = 1 then [(1, 0)] else [] })] }
      let f := (s.pump key).sflow key
      min 1024 f.buf.length = n ∧ ((s.pump key).part 0).fenced = false ∧ ((s.pump key).part 0).parked = false ∧ (s.pump key).phase = 0 ∧
      (n = 1024 ∨ f.marks ≠ []) ∧ (s.pump key).crowded key = false ∧ ((s.pump key).sendFrame key f.epoch (f.buf.take n)).isSome = true) ∧
    (∀ e ∈ [(1, 0), (4, 1)],
      let h := Head.ofBytes (frameTo { head1 with ftype := e.1, kidx := e.2 }).head
      let s := Received sliced 0 []
      sliced.rxUp 0 = true ∧ (sliced.receive 0 []).2 = true ∧ h.ftype = e.1 ∧ h.dst = s.fabricAddr ∧ s.phase = 0 ∧ h.kidx < 2 ∧ s.sliceOk 0 h = true ∧
      (s.part h.dpart).parked = false ∧ aget (s.followKey ⟨false, h.dpart, h.src, h.spart⟩ h.kidx).rflows ⟨false, h.dpart, h.src, h.spart⟩ = none) ∧
    (let h := Head.ofBytes (frameTo { head1 with ftype := 2, kidx := 2, src := 3 }).head
     h.ftype = 2 ∧ h.dst = sliced.fabricAddr ∧ (Received sliced 0 []).trayOk h = true) ∧
    (∀ t ∈ [0, 3], (Head.ofBytes (frameTo { head1 with ftype := t }).head).ftype = t) ∧
    (Head.ofBytes (frameTo { head1 with dst := 1 }).head).dst ≠ (Received sliced 0 []).fabricAddr ∧
    (Received sliced 0 []).sliceOk 0 (Head.ofBytes (frameTo { head1 with slice := 8 }).head) = false ∧
    (let h := Head.ofBytes (frameTo { head1 with ftype := 2 }).head
     h.src / 4 ≠ sliced.fabricAddr / 4 ∧ h.dst = (Received sliced 0 []).fabricAddr) ∧
    (Head.ofBytes (frameTo { head1 with ftype := 3 }).head).ftype = 3 ∧
    (∀ n ∈ [16, 17], (sliced.receive 0 [List.range n]).2 = decide (n = 16)) := by
  and_intros <;> decide +kernel

/-- A frame whose first four tag bytes are the CRC and whose other tag bytes are 0 has a good check. -/
theorem witness_FramesWithAGoodCheck (head body : List Byte) :
    ({ head := head, body := body, tag := leBytes 4 (crc32 (head ++ body)) ++ List.replicate 12 0#8 } : Frame).crcOk = true := by
  have h := Laws.leNat_leBytes 4 (crc32 (head ++ body))
  have e : (leBytes 4 (crc32 (head ++ body)) ++ List.replicate 12 0#8).take 4 = leBytes 4 (crc32 (head ++ body)) := by
    rw [List.take_left' (Laws.length_leBytes 4 _)]
  have d : (leBytes 4 (crc32 (head ++ body)) ++ List.replicate 12 0#8).drop 4 = List.replicate 12 0#8 := by
    rw [List.drop_left' (Laws.length_leBytes 4 _)]
  simp only [Frame.crcOk, e, d, h]
  rw [Nat.mod_eq_of_lt (Nat.lt_of_lt_of_le (Laws.crc32_lt _) (by decide))]
  simp

theorem witness_FlowTimersAndPegMessages :
    (let key : FlowKey := ⟨false, 0, 5, 0⟩
     let f : RFlow := { epoch := 0, unacked := 1, ackT := BitVec.ofNat 64 (2 ^ 40 - 4096), last := BitVec.ofNat 64 (2 ^ 40 - 2 ^ 32) }
     let g (n : Nat) : RFlow :=
       { epoch := 0, kept := [(1, { port := 0, data := [], at_ := 0#64 })], naks := if n = 0 then [] else [(0, (n, 0#64))] }
     let r : Replay := { key := key, seq := 0, rty := 0, payload := [], port := 0, tried := [0], epoch := 0#8, sent := BitVec.ofNat 64 (2 ^ 40 - 2 ^ 20) }
     let s : State := { sliced with rflows := [(key, f), (⟨false, 1, 5, 0⟩, g 3), (⟨false, 2, 5, 0⟩, g 0)], replay := [r], avoid := [((5, 0), (2, BitVec.ofNat 64 (2 ^ 40 - 2 ^ 30)))]
                                    keySwitch := [(0, BitVec.ofNat 64 (2 ^ 40 - 2 ^ 32))] }
     aget s.rflows key = some f ∧ f.broken = false ∧ f.unacked ≠ 0 ∧ 4096 ≤ s.since f.ackT ∧ 2 ^ 32 ≤ s.since f.last ∧ f.kept = [] ∧
     (∀ e ∈ [(1, 3), (2, 0)], aget s.rflows ⟨false, e.1, 5, 0⟩ = some (g e.2) ∧
       s.gapTo ⟨false, e.1, 5, 0⟩ ≤ s.since ((g e.2).gapSince s.plumb) ∧ ((aget (g e.2).naks (g e.2).next).map (·.1)).getD 0 = e.2) ∧
     s.replay.find? (fun r => r.key == key && r.seq == 0 && r.epoch == s.flowEpoch key) = some r ∧ 2 ^ 20 ≤ s.since r.sent ∧
     aget s.avoid (5, 0) = some (2, BitVec.ofNat 64 (2 ^ 40 - 2 ^ 30)) ∧ 2 ^ 30 ≤ s.since (BitVec.ofNat 64 (2 ^ 40 - 2 ^ 30)) ∧
     aget s.keySwitch 0 = some (BitVec.ofNat 64 (2 ^ 40 - 2 ^ 32)) ∧ (s.slotKey 0 (s.keyIdx 0)).isSome = true) ∧
    (∀ p ∈ [0, 1],
      let m : PegMsg := { src := 5, part := p, peg := .spine 0 0, amount := 1#32, port := 0, epoch := 0#8 }
      ({ on with pegMsgs := [m] } : State).pegMsgs = [m] ∧ (on.partOfPeg m.peg = some m.part ↔ p = 0)) := by
  and_intros <;> decide +kernel

/-! ### Partitions -/

/-- A descriptor of partition 1: bent 1, channel 2, a page table there, a share of die 0. -/
def buildDesc : List Byte :=
  leBytes 256 (1 + 2 * 2 ^ 64 + 1 * 2 ^ (8 * 0x68) + 0x100000000 * 2 ^ (8 * 0x70) + 1 * 2 ^ (8 * 0x78) + 4 * 2 ^ (8 * 0x80))

/-- This descriptor lies at the start of channel 1. -/
def describes (d : List Byte) : State := withReg (free on d) ⟨.prtDescLo, 0, 0⟩ 0x80000000#32

theorem witness_PartitionBuildAndDissolve :
    (let s1 := PrtSet (describes buildDesc) 1 1 0
     let pa := (s1.reg ⟨.prtDescLo, 0, 0⟩).toNat + 2 ^ 32 * s1.rfld ⟨.prtDescHi, 0, 0⟩ 11 0
     let l := s1.pbytes pa 256
     PrtFree (describes buildDesc) .pf ∧ s1.place pa = .hbm 1 0 ∧ s1.partOfChan 1 = none ∧ pa % 256 = 0 ∧
     (s1.applyClasses (Part.ofDesc (dataOf l)).bents).buildCheck 1 l = 0) ∧
    (let s1 := PrtSet (describes []) 1 1 0
     let pa := (s1.reg ⟨.prtDescLo, 0, 0⟩).toNat + 2 ^ 32 * s1.rfld ⟨.prtDescHi, 0, 0⟩ 11 0
     let l := s1.pbytes pa 256
     PrtFree (describes []) .pf ∧ s1.place pa = .hbm 1 0 ∧ s1.partOfChan 1 = none ∧ pa % 256 = 0 ∧
     (s1.applyClasses (Part.ofDesc (dataOf l)).bents).buildCheck 1 l = 1) ∧
    PrtFree on .pf ∧ ((PrtSet on 0 2 0).part 0).built = true ∧ ((PrtSet on 7 2 0).part 7).built = false := by
  unfold PrtFree Reaches; and_intros <;> decide +kernel

theorem witness_DissolvedPartitionHoldsNothing : (63 : Nat) < 64 ∧ (on.vf 1).bound = some 0 := by decide +kernel

theorem witness_SharesBindingAndMigration :
    PrtFree on .pf ∧ ((PrtSet on 0 4 0).part 0).built = true ∧
    (let s := withReg on ⟨.prtArg0, 0, 0⟩ 60#32
     PrtFree s .pf ∧ (PrtSet s 0 4 0).sharesBad 0 part0 [60, 0, 0, 0] = false ∧ (PrtSet on 0 4 0).sharesBad 0 part0 [0, 0, 0, 0] = true) ∧
    (let s := withReg on ⟨.prtArg0, 0, 0⟩ 60#32
     PrtFree s .pf ∧ (PrtSet s 0 5 63).bindOk 0 63 ((PrtSet s 0 5 63).rfld ⟨.prtArg0, 0, 0⟩ 5 0) = true ∧
     (PrtSet s 0 5 0).bindOk 0 0 ((PrtSet s 0 5 0).rfld ⟨.prtArg0, 0, 0⟩ 5 0) = false) ∧
    ((PrtSet on 0 6 1).vf 1).bound.isSome = true ∧ ((PrtSet on 0 6 63).vf 63).bound = none ∧
    (∀ run ∈ [none, some { tile := tile1 }],
      let s := withReg (core0 fun k => { k with run := run }) ⟨.prtArg1, 0, 0⟩ 2#32
      let s2 := ((PrtSet s 0 3 0).stopAll 0).setFld kPrtCmd 12 12 1
      PrtFree s .pf ∧ (s.part 0).coreMap[(s.reg ⟨.prtArg0, 0, 0⟩).toNat]? = some 0 ∧
      (s.part 0).reserve.contains (s.rfld ⟨.prtArg1, 0, 0⟩ 18 0) = true ∧ (s.part 0).migTime.getD 0 none = none ∧
      (s2.part 0).coreMap[0]? = some 0 ∧ s2.inFlight 0 = run.isSome) ∧
    (let t := BitVec.ofNat 64 (2 ^ 40 - 2 ^ 25 + 1)
     let s : State := { on with parts := on.parts.set 0 { part0 with migTime := [some t, none] } }
     (s.part 0).migTime.getD 0 none = some t ∧ (PrtSet s 0 3 0).since t < 2 ^ 25) := by
  unfold PrtFree Reaches; and_intros <;> decide +kernel

theorem witness_PagesAndVfMasks :
    MapFree on 1 0 ∧
    (let s0 : State := { on with parts := on.parts.set 0 { part0 with ptpages := 1 } }
     let s := (withReg (withReg s0 ⟨.prtMapVaLo, 1, 0⟩ 0x400000#32) ⟨.prtMapPaHi, 1, 0⟩ 0xE00#32).setReg (mapKey 1) 13#32
     (match s.mapCheck 0 (s.mapVa 1) (s.mapPa 1) 1 true true with | .inr _ => true | .inl _ => false) = true) ∧
    (let s0 : State := { on with parts := on.parts.set 0 { part0 with ptpages := 1 } }
     let s := (withReg (withReg s0 ⟨.prtMapVaLo, 1, 0⟩ 0#32) ⟨.prtMapPaHi, 1, 0⟩ 0xE00#32).setReg (mapKey 1) 13#32
     (match s.mapCheck 0 (s.mapVa 1) (s.mapPa 1) 1 true true with | .inr _ => true | .inl _ => false) = false) ∧
    (let s := on.setReg (mapKey 1) 2#32
     s.mapVa 1 % 2 ^ 21 = 0 ∧ s.mapVa 1 + 2 ^ 21 ≤ 2 ^ 48 ∧ (aget (s.part 0).leaves (s.mapVa 1 / 2 ^ 21)).isSome = true) ∧
    (withReg on ⟨.prtMapVaLo, 1, 0⟩ 1#32).mapVa 1 % 2 ^ 21 ≠ 0 ∧
    (withReg on (mapKey 1) 0x2000#32).rbit (mapKey 1) 13 = true ∧
    Reaches on (.vf 1) ⟨.prtVfMask, 1, 0⟩ ∧ (∀ c < 18, on.rbit ⟨.prtVfCause, 1, 0⟩ c = false) := by
  unfold MapFree Reaches; and_intros <;> decide +kernel

/-! ### Resets and watchdogs -/

theorem witness_PartitionAndPackageResets :
    (∀ b : Bool,
      let s : State := { on with parts := on.parts.set 0 { part0 with parked := b } }
      Reaches s .pf ⟨.prtRst, 0, 0⟩ ∧ (s.part 0).built = true ∧ (s.part 0).reset = none ∧ (s.part 0).resetWait = none ∧
      (s.part 0).parked = b ∧ s.swapping 0 = false) ∧ ({ on with maintRun := [⟨1, 0⟩] } : State).swapping 0 = true ∧
    (∀ n ∈ [2 ^ 16 + 2 ^ 26, 3221225472],
      let t := BitVec.ofNat 64 (2 ^ 40 - n)
      let s : State := { on with parts := on.parts.set 0 { part0 with fenced := true, reset := some (5, t) } }
      (s.part 0).reset = some (5, t) ∧ s.phase = 0 ∧ 2 ^ 16 + s.rfld ⟨.prtFence, 0, 0⟩ 26 0 ≤ s.since t ∧
      n ≤ s.since t) ∧
    (let t := BitVec.ofNat 64 (2 ^ 40 - 9663676416)
     let s : State := { on with pkg := .held, pkgFence := some t }
     s.pkgFence = some t ∧ s.pkg = .held ∧ 9663676416 ≤ s.since t) ∧
    Reaches on .pf ⟨.mgtRstCmd, 0, 0⟩ ∧ on.pkg = .on := by
  unfold Reaches; and_intros <;> decide +kernel

theorem witness_PackageResetLeaves : on.pkg = .on ∧ on.phase = 0 ∧ (2 ^ 41 - 1 : Nat) < 2 ^ 41 := by decide +kernel

theorem witness_EngineResetAndWatchdogs :
    (on.ordered 2 (engNum .collective 0)).2 = false ∧
    (let s : State := { on with orders := [((2, engNum .collective 0), [on.plumb, on.plumb])] }
     (s.ordered 2 (engNum .collective 0)).2 = true ∧ EngKind.inBay .collective = false) ∧
    (∀ st ∈ [CtxSt.ready, .running],
      let s := withReg (ctx0 { st := st, progress := BitVec.ofNat 64 (2 ^ 40 - 1000) }) ⟨.prtWdCtx, 0, 0⟩ 1000#32
      s.partOfCore 0 = some 0 ∧ (s.reg ⟨.prtWdCtx, 0, 0⟩).toNat = 1000 ∧ s.watched 0 = true ∧ (s.core 0).run = none ∧
      (s.ctx 0 0).st = st ∧ 1000 ≤ s.since (s.ctx 0 0).progress) := by
  and_intros <;> decide +kernel

/-! ### Links between dies -/

/-- Bundle 0 of link 0 with this state. -/
def bundled (b : Bundle) : State := { on with links := on.links.set 0 { st := 2, bundles := [b] } }
def flit1 : Flit := { part := none, head := 0, payload := 0, code := 0, poison := false, epoch := 0#8 }
def good1 : Bundle := { st := 3, lanes := List.range 64, spares := [64, 65, 66, 67] }

theorem witness_LinksBetweenDies :
    (∀ n ∈ [0, 4095], ∀ e ∈ [0, 1],
      let s := bundled (good1.setSent 1 { next := (n + 1) % 4096, expect := n, acked := n, buf := [(n, flit1)], wire := [(n + e) % 4096, n] })
      let b := (s.link (d2dLink 0 0)).bundle 0
      d2dLink 0 0 = 0 ∧ b.good = true ∧ (b.sent 1).wire = (n + e) % 4096 :: [n] ∧ aget (b.sent 1).buf n = some flit1 ∧
      ((n + e) % 4096 = (b.sent 1).expect ↔ e = 0)) ∧ ((((bundled good1).link 0).bundle 0).sent 1).wire = [] ∧
    (∀ r ∈ [14, 15],
      let d := ((bundled (good1.setSent 0 { next := 3, expect := 1, acked := 4095, replays := r })).link 0).bundle 0 |>.sent 0
      seqDist d.acked 4095 < seqDist d.acked d.expect ∧ seqDist d.acked 0 < seqDist d.acked d.expect ∧ 1 = d.expect ∧ d.expect ≠ d.next ∧
      d.replays = r) ∧
    (let s := bundled good1
     good1.good = true ∧ good1.spares.isEmpty = false ∧ good1.swap = none ∧ (s.reg ⟨.d2dSwapTh, 0, 0⟩).toNat < 2 ^ 32 ∧
     (s.maintAsk ⟨8, 0⟩).2 ≠ 1 ∧ (s.link 0).bundle 0 = good1) ∧
    (let s : State := { bundled { good1 with swap := some (63, none) } with maintRun := [⟨8, 0⟩] }
     ((s.link 0).bundle 0).swap = some (63, none) ∧ s.maintRun.contains ⟨8, 0⟩ = true) ∧
    (let s : State := { bundled { good1 with swap := some (63, some on.plumb) } with maintRun := [⟨8, 0⟩] }
     ((s.link 0).bundle 0).swap = some (63, some on.plumb) ∧ on.plumb.toNat ≤ s.plumb.toNat) ∧
    ((({ good1 with spares := [] } : Bundle).good = true)) ∧
    (∀ k ∈ [63, 64],
      let s := bundled { st := 5 }
      ((s.link 0).bundle 0).st = 5 ∧ (s.bundleLanes 0 ((List.range 68).map fun i => if i < k then some 0 else none)).1.length = k) := by
  and_intros <;> decide +kernel

/-! ### Plumb time, power and heat -/

/-- A started package at this plumb time. -/
def timed (t : Nat) : State := { on with plumb := BitVec.ofNat 64 t }

/-- Time `n` before the plumb time of `on`. -/
def ago (n : Nat) : Time := BitVec.ofNat 64 (2 ^ 40 - n)

/-- The package with these parts of its power state. -/
def powered (w : Power) : State := { on with power := w }

theorem witness_PlumbTimeFollowsThePulse :
    on.pkg = .on ∧
    (∀ n ∈ [2 ^ 29 - 1, 2 ^ 29, 2 ^ 32], (powered { pps := some (ago n) }).since (ago n) = n) ∧
    (timed (2 ^ 40 + 2 ^ 20)).plumb.toNat / 2 ^ 20 ≠ (timed (2 ^ 40 + 2 ^ 20)).power.corr ∧
    (∀ l ∈ [65, -1, 0], (powered { left := l }).power.left = l) ∧
    Reaches on .pf ⟨.plbCmd, 0, 0⟩ ∧ on.worked = false ∧ ({ on with worked := true } : State).worked = true ∧
    (∀ d ∈ [98, 99], d < 100 ∧ d ≠ domOfSpine 0 ∧ (d % 25 = 24 ↔ d = 99) ∧ on.rbit ⟨.bentClk, d / 25 * 24 + d % 25, 0⟩ 18 = false) ∧
    (withReg on ⟨.bentClk, 95, 0⟩ 0x40000#32).rbit ⟨.bentClk, 98 / 25 * 24 + 98 % 25, 0⟩ 18 = true ∧
    (∀ d ∈ [(8 : Int), -8], d.natAbs ≤ 8) ∧ (-9 : Int) < -8 ∧ (8 : Int) < 9 ∧ (∀ d ∈ [(4 : Int), -4], d.natAbs ≤ 4) := by
  unfold Reaches; and_intros <;> decide +kernel

/-- The state of a second pulse. -/
def pulsed : State := { powered { pps := some (ago (2 ^ 30)) } with regs := (kRate, BitVec.ofNat 32 rateMax) :: on.regs }

theorem witness_CorrectedRateStaysInBounds :
    rateMin ≤ (pulsed.reg kRate).toNat ∧ (pulsed.reg kRate).toNat ≤ rateMax ∧ pulsed.power.pps = some (ago (2 ^ 30)) ∧
    ∃ t, Next .ppsPulse pulsed t := by
  refine ⟨?_, ?_, ?_, _, rfl⟩ <;> decide +kernel

theorem witness_SnapshotsAndDumps :
    Reaches on .pf ⟨.plbSnapCmd, 0, 0⟩ ∧ on.snapAt = none ∧
    (∀ e ∈ [(2 ^ 14, true), (2 ^ 14 - 1, false)],
      let s := withReg (withReg on ⟨.plbSnapTHi, 0, 0⟩ 0x100#32) ⟨.plbSnapTLo, 0, 0⟩ (BitVec.ofNat 32 e.1)
      decide (s.plumb.toNat + 2 ^ 14 ≤ ((s.reg ⟨.plbSnapTHi, 0, 0⟩) ++ (s.reg ⟨.plbSnapTLo, 0, 0⟩) : Time).toNat) = e.2) ∧
    Reaches on .pf kSnapPer ∧
    ({ on with snapWelyar := some (ago 0) } : State).snapWelyar = some (ago 0) ∧ (ago 0).toNat ≤ on.plumb.toNat ∧
    (let s := { withReg on kSnapPer 0x10000#32 with snapAt := some (ago 0) }
     s.snapAt = some (ago 0) ∧ (ago 0).toNat ≤ s.plumb.toNat ∧ (s.reg kSnapPer).toNat ≠ 0) ∧
    (let s : State := { on with snapAt := some (ago 0), vfs := [(1, { bound := some 0, dump := some ⟨[1#8]⟩ })] }
     s.snapAt = some (ago 0) ∧ (s.reg kSnapPer).toNat = 0 ∧ (s.vf 1).dump = some ⟨[1#8]⟩ ∧ (s.vf 1).bound = some 0) := by
  unfold Reaches; and_intros <;> decide +kernel

theorem witness_GovernorFollowsTheCap :
    on.pkg = .on ∧ on.phase = 0 ∧
    (∀ e ∈ [(14873, 100, 1, true), (0, 0, 2, true), (14872, 0, 3, true), (0, 15001, 4, false)],
      let s1 := ((on.setReg ⟨.pwrIn, 0, 0⟩ (BitVec.ofNat 32 (min e.1 0xFFFF))).setReg ⟨.pwrFloor, 0, 0⟩
        (BitVec.ofNat 32 (min e.2.1 0xFFFF)))
      let s := s1.setReg ⟨.pwrCap, 0, 0⟩ 15000#32
      s.cap = 15000 ∧ s.rbit kPwrStatus 0 = false ∧ decide (e.2.1 ≤ s.cap) = e.2.2.2 ∧
      (if s.cap < e.2.1 then 4 else if s.cap < e.1 + 128 then 1 else if 64 * e.1 + 640 + 8192 ≤ 64 * s.cap then 2 else 3) = e.2.2.1) ∧
    (let s1 := (((on.setReg ⟨.pwrCap, 0, 0⟩ 1000#32).setReg ⟨.pwrIn, 0, 0⟩ 0#32).setReg ⟨.pwrFloor, 0, 0⟩ 1001#32)
     s1.cap < 1001 ∧ s1.infeasible.rbit kPwrStatus 0 = true) ∧
    (∀ e ∈ [(2 ^ 14 - 1, true), (2 ^ 14, false)],
      let s := powered { peakT := some (ago e.1) }
      s.power.peakT.any (fun t => decide (s.since t < 2 ^ 14)) = e.2) := by
  and_intros <;> decide +kernel

/-- Bents 1 and 6, the neighbours of bent 0, are stopped; bent 0 is at this point. -/
def corner (point : Nat) : State :=
  withReg (withReg (withReg on (kClk 0) (BitVec.ofNat 32 point)) (kClk 1) 0x40000#32) (kClk 6) 0x40000#32

theorem witness_PointsParkingAndPowerRegisters :
    (∀ k ∈ [11, 9],
      let s : State := { corner 10 with power := { moves := [(0, (k, 5, ago 1074))] } }
      aget s.power.moves 0 = some (k, 5, ago 1074) ∧ aget s.power.switched 0 = none ∧ s.stopped 0 = false ∧ s.point 0 = 10 ∧
      1074 ≤ s.since (ago 1074) ∧ s.partOfBent 0 = some 0 ∧ s.rbit (kPart 0) 0 = false ∧ s.rbit kPwrStatus 0 = false) ∧
    (let s := { corner 10 with power := { xSince := ago (2 ^ 20), boostT := ago (2 ^ 20) } }
     let boost (s : State) := (List.range 96).filter fun b =>
       (match s.partOfBent b with | some p => !(s.rbit (kPart p) 0) | none => false) && !(s.stopped b) &&
         (aget s.power.moves b).isNone
     let fmax (s : State) (b : Nat) : Nat := match s.partOfBent b with | some p => s.rfld (kPart p) 10 6 | none => 0
     let u := withReg (withReg s (kPart 0) 0x580#32) ⟨.pwrCap, 0, 0⟩ 15000#32
     let t := withReg s kPwrStatus 0x10000#32
     s.pkg = .on ∧ 2 ^ 20 ≤ s.since s.power.xSince ∧ 2 ^ 20 ≤ s.since s.power.boostT ∧ t.rbit kPwrStatus 0 = false ∧ t.phase = 0 ∧
     0 < t.xPwr ∧ bestBent (fun a b => decide (t.point b < t.point a)) ((boost t).filter fun b => decide (0 < t.point b)) = some 0 ∧
     u.xPwr = 0 ∧ u.rbit kPwrStatus 0 = false ∧ u.rfld ⟨.pwrIn, 0, 0⟩ 15 0 + 700 ≤ u.cap ∧
     bestBent (fun a b => decide (u.point a < u.point b)) ((boost u).filter fun b =>
       decide (u.bentTemp b < 760) && decide (u.point b < fmax u b) &&
       (neighbours b).all fun n => u.overLimit b (u.point b + 1) n == 0) = some 0) ∧
    (∀ e ∈ [(false, some 0), (true, none)],
      let s0 := withReg on kPwrStatus 1#32
      let s : State := { s0 with power := { infeas := some (ago 214748365) }, parts := on.parts.set 0 { part0 with parked := e.1 } }
      let s1 := s.setReg ⟨.pwrFloor, 0, 0⟩ (BitVec.ofNat 32 (min 65535 0xFFFF))
      s.rbit kPwrStatus 0 = true ∧ s.power.infeas = some (ago 214748365) ∧ 214748365 ≤ s.since (ago 214748365) ∧
      s.power.parkT = none ∧ s.cap < 65535 ∧ s.phase = 0 ∧
      ((List.range 8).reverse.find? fun p =>
        (s1.part p).built && !(s1.part p).parked && (s1.part p).bents.any fun b => !(s1.stopped b)) = e.2) ∧
    (let s : State := { on with parts := on.parts.set 0 { part0 with parked := true } }
     s.power.parkT = none ∧ 0 + 256 ≤ s.cap ∧ s.phase = 0 ∧ ((List.range 8).find? fun p => (s.part p).parked) = some 0) ∧
    Reaches on .pf ⟨.pwrCap, 0, 0⟩ ∧ on.cyc.cap = none ∧
    ({ on with cyc := { on.cyc with cap := some 9000 } } : State).cyc.cap = some 9000 ∧ wbits 15000#32 15 0 ≤ 15000 ∧ 15000 < wbits 15001#32 15 0 ∧ Reaches on .pf (kPart 7) ∧
    (wbits 0x5AC#32 5 1 ≤ 22 ∧ wbits 0x5AC#32 10 6 ≤ 22 ∧ wbit 0x5AC#32 0 = false) ∧ 22 < wbits 0x2E#32 5 1 := by
  unfold Reaches; and_intros <;> decide +kernel

/-- In this phase of the shutdown sequence. -/
def phased (n : Nat) (w : Power) : State := withReg (powered w) ⟨.pwrPfStatus, 0, 0⟩ (BitVec.ofNat 32 n)

theorem witness_ShutdownSequence :
    on.pkg ≠ .off ∧ on.phase = 0 ∧
    (∀ n ∈ [1, 2, 3, 4], (phased n {}).pkg ≠ .off ∧ (phased n {}).phase = n ∧ (phased n {}).rbit ⟨.pwrPfStatus, 0, 0⟩ 3 = false) ∧
    (phased 1 {}).replies = [] ∧ ({ phased 1 {} with replies := [reply1 .welyar] } : State).replies ≠ [] ∧
    (phased 1 { phaseT := ago 4194303 }).since (phased 1 { phaseT := ago 4194303 }).power.phaseT < 4194304 ∧ 4194304 ≤ (phased 1 { phaseT := ago 4194304 }).since (phased 1 { phaseT := ago 4194304 }).power.phaseT ∧
    (∀ n ∈ [(2 ^ 26, true), (0, false)],
      let s := withReg (phased 3 { phaseT := ago n.1 }) ⟨.pwrRide, 0, 0⟩ 1000#32
      s.phase = 3 ∧ s.power.ride0 = false ∧ decide ((s.reg ⟨.pwrRide, 0, 0⟩).toNat ≤ s.since s.power.phaseT) = n.2) ∧
    (∀ b : Bool, let s : State := { on with pkg := .off, power := { thermal := b } }; s.pkg = .off ∧ s.power.thermal = b) := by
  and_intros <;> decide +kernel

/-- Both ways out of the flush: the input stays away, or is back. -/
theorem witness_ShutdownSequence_flush :
    ∀ b : Bool,
      let s := phased 2 { returned := b }
      let s1 := (List.range 32).foldl (fun s i => s.deckFlush (i / 8) (i % 8)) s
      let still (s : State) (n : Nat) : Port :=
        { s.port n with sleepAt := none, sleepAcked := false, swap := none, swapWait := none, swapAsked := [] }
      let s2 := s1.portsStep ((List.range 8).filter fun n => (s1.port n).st == .up) fun s n =>
        ((s.swapsEnd n).portStep n (still s n) .down).pldmEvent 0x0009 n
      s.phase = 2 ∧ (s2.toPhase 3).power.returned = b ∧ (s2.toPhase 3).rbit ⟨.pwrPfStatus, 0, 0⟩ 3 = false := by
  decide +kernel

theorem witness_TemperaturesAndTrips :
    on.pkg = .on ∧ (95 : Nat) < 96 ∧
    (let lim := 8 * on.rfld ⟨.pwrTlim, 0, 0⟩ 6 0
     lim < lim + 1 ∧ lim ≤ (lim - 16) + 16 ∧ 17 ≤ lim) ∧
    (phased 0 {}).phase = 0 ∧ (phased 3 {}).phase = 3 ∧
    (let s := powered { tripT := [(0, ago (2 ^ 34))] }
     (0, ago (2 ^ 34)) ∈ s.power.tripT ∧ 2 ^ 34 ≤ s.since (ago (2 ^ 34)) ∧ s.phase = 0) ∧
    (let s := withReg (powered { coolT := [(0, ago (2 ^ 30))] }) (kDieTemp 0) 0x1000#32
     aget s.power.coolT 0 = some (ago (2 ^ 30)) ∧ s.rbit (kDieTemp 0) 12 = true ∧ 2 ^ 30 ≤ s.since (ago (2 ^ 30))) := by
  and_intros <;> decide +kernel

/-! ### Boot, security, update -/

/-- The selector, flash and site parts of a start. -/
def booted (b : Boot) : State := { on with boot := b }

theorem witness_BootAndTakeover :
    (∀ site ∈ [0, 1],
      let s : State := { pkg := .held, tap := { ir := .bypass }, boot := { site := site } }
      s.pkg = .held ∧ s.tap.ir = .bypass ∧ s.boot.site = site ∧ s.siteRetired 0 = false ∧ s.siteRetired 1 = false) ∧
    (∀ n ∈ [(2 ^ 28, true), (2 ^ 28 - 1, false)],
      let s : State := { withReg on ⟨.pkgTopo, 0, 0⟩ 8#32 with pkg := .failed, boot := { released := some (ago n.1) } }
      s.pkg = .failed ∧ s.boot.released = some (ago n.1) ∧ s.boot.site = 0 ∧ s.rbit ⟨.pkgTopo, 0, 0⟩ 3 = true ∧
      decide (2 ^ 28 ≤ s.since (ago n.1)) = n.2) ∧
    (∀ e ∈ [([], false), ([(9, 0, 1, 0#64)], true)],
      let s : State := { booted { site := 1 } with plumb := BitVec.ofNat 64 (2 ^ 42), flash := { retire := e.1 } }
      s.pkg = .on ∧ s.boot.site = (1#1).toNat ∧
      (s.flash.retire.any fun e => e.1 == 9 && e.2.2.1 == 1 && decide (s.since e.2.2.2 ≤ 2 ^ 42)) = e.2) ∧
    (let s := booted { dateAsked := some (ago (2 ^ 30)) }
     s.boot.dateAsked = some (ago (2 ^ 30)) ∧ s.worked = false ∧ 2 ^ 30 ≤ s.since (ago (2 ^ 30)) ∧
     ({ s with worked := true } : State).boot.dateAsked = some (ago (2 ^ 30)) ∧ s.since (ago (2 ^ 30 - 1)) < 2 ^ 30) := by
  and_intros <;> decide +kernel

theorem witness_ImagesAreWrittenAndApplied :
    (let s : State := { withReg (free on []) ⟨.secUpdAddrLo, 0, 0⟩ 0x80000000#32 with maintRun := [⟨10, 0⟩] }
     let go := s.setReg kUpdCmd (BitVec.ofNat 32 (1 + 8))
     Reaches s .pf kUpdCmd ∧ s.rbit kUpdCmd 3 = false ∧ go.staged = some (List.replicate 32 0#8, false) ∧
     go.maintQueue.contains ⟨10, 0⟩ = false ∧ go.maintRun.contains ⟨10, 0⟩ = true) ∧
    (let s : State := withReg (free on []) ⟨.secUpdAddrLo, 0, 0⟩ 0x80000000#32
     (({ s with poison := [0x80000000 / 32] } : State).setReg kUpdCmd (BitVec.ofNat 32 (1 + 8))).staged.map (·.2) = some true) ∧
    (on.setReg kUpdCmd (BitVec.ofNat 32 (1 + 8))).staged = none ∧
    (∀ m ∈ [0, 1, 2], (booted { mode := m }).boot.mode = m) := by
  unfold Reaches; and_intros <;> decide +kernel

theorem witness_SecurityVersionNeverFalls :
    ∃ t, Next (.svnCommit .pf) on t := ⟨_, rfl⟩

theorem witness_KeysAndSpdm :
    Reaches on .pf kKeyCmd ∧ on.freeHbm 0 0x140 = false ∧
    (let s := withReg (free on []) ⟨.secKeyAddrLo, 0, 0⟩ 0x80000000#32
     let pa := (s.reg ⟨.secKeyAddrLo, 0, 0⟩).toNat + 2 ^ 32 * s.rfld ⟨.secKeyAddrHi, 0, 0⟩ 11 0
     let n := 0x140 + min (dfield (s.bytes pa 0x140) 0x130 2) 3776
     s.freeHbm pa 0x140 = true ∧ pa % 64 = 0 ∧ n = 0x140 ∧ s.poison = [] ∧
     anyPoison (({ s with poison := [0x80000000 / 32] } : State).pbytes pa 0x140) = true) ∧
    (let s := withReg (free on (List.replicate 0x130 0#8 ++ [64#8])) ⟨.secKeyAddrLo, 0, 0⟩ 0x80000000#32
     let t : State := { s with poison := [0x80000140 / 32] }
     t.freeHbm 0x80000000 0x180 = true ∧ dfield (t.bytes 0x80000000 0x140) 0x130 2 = 64 ∧
     anyPoison (t.pbytes 0x80000000 0x140) = false ∧ anyPoison (t.pbytes 0x80000000 0x180) = true) ∧
    (let s := (free on []).pokeBytes 0xC7FFFFF0 [64#8]
     s.freeHbm 0xC7FFFEC0 0x140 = true ∧ dfield (s.bytes 0xC7FFFEC0 0x140) 0x130 2 = 64 ∧ s.freeHbm 0xC7FFFEC0 0x180 = false) ∧
    (withReg on ⟨.secKeyAddrLo, 0, 0⟩ 0x80000020#32).reg ⟨.secKeyAddrLo, 0, 0⟩ % 64#32 ≠ 0#32 ∧
    Reaches on .pf ⟨.secPartRoot, 0, 11⟩ ∧ (11 : Nat) < 12 ∧ (on.part 0).built = true ∧ on.slotKey 0 (on.keyIdx 0) = none ∧
    (on.part 1).built = false ∧
    (∀ i ∈ [5, 16], i ≠ 255 ∧ (on.measurement i).isSome = true) ∧ on.measurement 0 = none ∧
    (let l (n : Nat) : List Session := (List.range n).map fun i => { id := i, last := ago (60 * 2 ^ 30) }
     (l 15).length < 16 ∧ (∀ x ∈ l 15, x.id ≠ 15) ∧ 16 ≤ (l 16).length ∧
     (∀ x ∈ l 1, x.id = 0 ∧ 60 * 2 ^ 30 ≤ on.since x.last) ∧
     (∀ x ∈ ([{ id := 0, last := ago (60 * 2 ^ 30 - 1) }] : List Session), on.since x.last < 60 * 2 ^ 30)) := by
  unfold Reaches; and_intros <;> decide +kernel

/-! ### Registers, counters and logs -/

/-- The physical offset of a register. -/
def offsetIn (k : RKey) : Nat := k.addr.getD 0

theorem witness_RegisterAccess :
    (7#4 : BitVec 4) ≠ 0xF#4 ∧
    (∀ e ∈ [((⟨.d2dSwapTh, 0, 0⟩ : RKey), false), (⟨.lmdIdleTo, 0, 0⟩, true), (⟨.d2dCeCnt, 0, 0⟩, false)],
      offsetIn e.1 < 2 ^ 32 ∧ on.keyAt .pf (offsetIn e.1) = some e.1 ∧ Reaches on .pf e.1 ∧
      (on.writeOwn .pf e.1 1#32).isNone = true ∧ on.dropsWrite e.1 1#32 = e.2 ∧
      e.1.reg ≠ .coreCtxFlags ∧ e.1.reg ≠ .prtHqCfg ∧ e.1.reg ≠ .prtTelCtl ∧ e.1.reg ≠ .mgtHostMask) ∧
    (RKey.reg ⟨.d2dCeCnt, 0, 0⟩).fields.any (fun f => f.acc == .cnt) = true ∧
    (let k : RKey := ⟨.d2dSwapTh, 0, 0⟩
     let s : State := { on with cyc := { soft := [(k, srcRank .welyar)] } }
     Reaches s .pf k ∧ (s.writeOwn .pf k 1#32).isNone = true ∧ aget s.cyc.soft k = some 65 ∧ srcRank .pf < 65 ∧
     s.dropsWrite k 1#32 = false ∧ s.dropsWrite k (s.standing k 1#32) = false) := by
  unfold Reaches; decide +kernel

theorem witness_RegisterAccess_go :
    on.keyAt .pf 0x40006000 = some kPrtCmd ∧ PrtFree on .pf ∧
    wbit 0x1000#32 12 = true ∧ wbits 0x1000#32 5 3 = 0 ∧ wbit 0x1038#32 12 = true ∧ wbits 0x1038#32 5 3 = 7 := by
  unfold PrtFree Reaches; decide +kernel

theorem witness_RegisterAccess_read :
    on.srcLive .pf = true ∧
    (∀ e ∈ [((⟨.plbTimeLo, 0, 0⟩ : RKey), 0x40009000, some Reg.plbTimeHi), (⟨.plbTimeHi, 0, 0⟩, 0x40009004, none)],
      on.keyAt .pf e.2.1 = some e.1 ∧ on.reaches .pf e.1 false = true ∧ on.fencedRead .pf e.2.1 = none ∧ e.1.reg.isHi = e.2.2.isNone ∧ e.1.reg.hiOf = e.2.2) := by
  decide +kernel

/-- Partition 1 owns nothing that partition 0 does. -/
def two : State :=
  { on with parts := (on.parts.set 1 { built := true }), vfs := [(1, { bound := some 0 }), (2, { bound := some 1 })] }

/-- Partition 0 is fenced. -/
def shut : State := { two with parts := two.parts.set 0 { part0 with fenced := true } }

theorem witness_VirtualFunctionsStayInTheirWindow :
    (∃ off, two.srcLive (.vf 1) = true ∧ two.keyAt (.vf 1) off = none ∧ (off < 0x10000 ∨ 0x10400 ≤ off) ∧ (two.vf 1).bound = some 0) ∧
    (∃ off k, shut.keyAt (.vf 1) off = some k ∧ shut.reaches (.vf 1) k true = false) ∧
    (two.vf 1).bound = some 0 ∧ (two.vf 2).bound = some 1 ∧ (0 : Nat) ≠ 1 ∧
    (∀ b, (two.part 0).bents.contains b = true → (two.part 1).bents.contains b = false) ∧
    (∀ c, (two.part 0).chans.contains c = true → (two.part 1).chans.contains c = false) ∧
    (∀ n, (two.part 0).ports.contains n = true → (two.part 1).ports.contains n = false) ∧
    (∀ d i, ((two.part 0).pools.getD d 0).testBit i = true → ((two.part 1).pools.getD d 0).testBit i = false) ∧
    (∀ d i, ((two.part 0).pegblk.getD d 0).testBit i = true → ((two.part 1).pegblk.getD d 0).testBit i = false) ∧
    two.reaches (.vf 1) ⟨.jnrProgCmd, 0, 0⟩ true = true ∧ two.reaches (.vf 2) ⟨.jnrProgCmd, 0, 0⟩ true = true := by
  have h : two.part 1 = { built := true } := by decide +kernel
  have z : ∀ d i, (([0, 0, 0, 0] : List Nat).getD d 0).testBit i = false := by
    intro d i
    rcases d with _ | _ | _ | _ | d <;> simp
  refine ⟨⟨0x10400, ?_⟩, ⟨0x20308, ⟨.jnrProgCmd, 0, 0⟩, ?_⟩, ?_⟩
  · and_intros <;> decide +kernel
  · and_intros <;> decide +kernel
  · rw [h]
    refine ⟨?_, ?_, ?_, fun _ _ => rfl, fun _ _ => rfl, fun _ _ => rfl, fun d i _ => z d i, fun d i _ => z d i, ?_, ?_⟩ <;>
      decide +kernel

/-! ### Logs, bring-up, the host interface -/

def event1 : Event := { t := 0#64, code := 0x0205, part := 255, src := 0#32, arg0 := 0#64, arg1 := 0#64 }

theorem witness_EventsAndLogs :
    (∃ q e, ({ on with evq := on.evq.set 2 [event1] } : State).nextEvent = some (q, e)) ∧ (∀ d, on.evq.get d = []) ∧
    (let s : State := { withReg on ⟨.mgtEvlogHead, 0, 0⟩ 5#32 with evlog := [event1, event1] }
     Reaches s .pf ⟨.mgtEvlogSel, 0, 0⟩ ∧
     ∀ n ∈ [3, 4], (s.reg ⟨.mgtEvlogHead, 0, 0⟩).toNat - s.evlog.length ≤ n ∧
       s.evlog[n - ((s.reg ⟨.mgtEvlogHead, 0, 0⟩).toNat - s.evlog.length)]? = some event1) ∧
    Reaches on (.vf 1) (kLogCtl 1) ∧ on.rbit (kLogCtl 1) 0 = false ∧
    (8 ≤ wbits 0x201#32 10 6 ∧ wbit 0x201#32 0 = true) ∧ (wbits 0x500#32 10 6 ≤ 20 ∧ wbit 0x500#32 0 = false) ∧
    wbits 0x1C0#32 10 6 < 8 ∧ 20 < wbits 0x540#32 10 6 ∧
    Reaches on (.vf 1) ⟨.prtLogTail, 1, 0⟩ ∧
    (let s := withReg on (kLogCtl 1) 0x200#32; (0xFF#32).toNat < 2 ^ s.rfld (kLogCtl 1) 10 6 ∧ 2 ^ s.rfld (kLogCtl 1) 10 6 ≤ (0x100#32).toNat) := by
  refine ⟨⟨2, event1, ?_⟩, ?_⟩
  · decide +kernel
  · unfold Reaches; and_intros <;> decide +kernel

/-- A channel test with the activity granted, in package debug. -/
def testing : State := { withReg on kDbgState 1#32 with maintRun := [⟨7, 0⟩] }

theorem witness_DebugTokensAndHbmTests :
    Reaches on .pf ⟨.tstDbgCmd, 0, 0⟩ ∧ on.freeHbm 0 0x50 = false ∧
    (let s := withReg (free on []) ⟨.tstDbgAddrLo, 0, 0⟩ 0x80000000#32
     let pa := (s.reg ⟨.tstDbgAddrLo, 0, 0⟩).toNat + 2 ^ 32 * s.rfld ⟨.tstDbgAddrHi, 0, 0⟩ 11 0
     let n := max 0x50 (dfield (s.bytes pa 0x50) 4 4)
     s.freeHbm pa 0x50 = true ∧ pa % 64 = 0 ∧ s.freeHbm pa n = true ∧ s.poison = [] ∧
     anyPoison (({ s with poison := [0x80000000 / 32] } : State).pbytes pa 0x50) = true) ∧
    (let s := withReg (free on [0#8, 0#8, 0#8, 0#8, 0x80#8]) ⟨.tstDbgAddrLo, 0, 0⟩ 0x80000000#32
     let t : State := { s with poison := [0x80000060 / 32] }
     max 0x50 (dfield (t.bytes 0x80000000 0x50) 4 4) = 0x80 ∧ t.freeHbm 0x80000000 0x80 = true ∧
     anyPoison (t.pbytes 0x80000000 0x50) = false ∧ anyPoison (t.pbytes 0x80000000 0x80) = true) ∧
    Reaches on .pf ⟨.tstRecSel, 0, 0⟩ ∧ Reaches on .pf kHbmCmd ∧ on.rbit kHbmCmd 13 = false ∧ (23 : Nat) < 24 ∧
    (∀ op ∈ [3, 4, 5, 6],
      let go (s : State) (stack chan : Nat) : State := s.setReg kHbmCmd (BitVec.ofNat 32 (op + stack * 8 + chan * 256 + 2 ^ 13))
      (go on 0 0).maintQueue = [] ∧ (go on 0 0).maintRun = [] ∧ (go on 0 1).pkgDebug = false ∧
      ((go (withReg on kDbgState 1#32) 0 0).partOfChan 0).isSome = true ∧
      (go { withReg on kDbgState 1#32 with cyc := { builds := [0] } } 0 0).pkgDebug = true ∧
      (go { withReg on kDbgState 1#32 with cyc := { builds := [0] } } 0 0).justBuilt 0 = true ∧
      (go testing 0 1).maintQueue = [] ∧ (go testing 0 1).maintRun.contains ⟨7, 0⟩ = true ∧ (go testing 0 1).pkgDebug = true ∧
      (go testing 0 1).partOfChan 1 = none) := by
  unfold Reaches; and_intros <;> decide +kernel

/-- A vector of the PF that waits for its unmasking, with the link up. -/
def vectored : State := { on with vfs := (0, { msixPend := 1#64 }) :: on.vfs }

theorem witness_HostLinkAndAperture :
    on.pkg = .on ∧ on.resetPin = true ∧ ({ on with pkg := .held } : State).pkg = .held ∧ on.tableLive 0 = true ∧
    State.reset.tableLive 0 = false ∧ (3#2 : BitVec 2) ≠ 0#2 ∧ on.hostUp = true ∧ (63#6 : BitVec 6) ≠ 0#6 ∧
    vectored.tableLive 0 = true ∧ (vectored.vf 0).msixPend.getLsbD 0 = true ∧ (vectored.vf 0).msixPend.getLsbD 63 = false ∧
    (let s := free on []
     let a := s.rfld ⟨.mgtHostAper, 0, 0⟩ 7 0 * 2 ^ 36 + 0x80000000
     s.srcLive .pf = true ∧ (0x80000000 : Nat) + 4096 ≤ 2 ^ 36 ∧ (∀ i < 8, s.freeMem (a + i) = true) ∧
     s.freeMem (s.rfld ⟨.mgtHostAper, 0, 0⟩ 7 0 * 2 ^ 36 + 0x7FFFFFFF) = false) := by
  and_intros <;> decide +kernel

/-- Queue 0 of VF 1 holds a descriptor. -/
def queued : State := withReg (withReg on (kHq .prtHqCfg 1 0) 0x804#32) (kHq .prtHqTail 1 0) 1#32

/-- A descriptor of four bytes at virtual address 0x200000. -/
def hq (op flags : Nat) : List Byte := bytes64 [(0, 1, op), (1, 1, flags), (0x10, 8, 0x200000), (0x18, 4, 4)]

theorem witness_HostQueueDescriptors :
    Reaches queued (.vf 1) (kHq .prtHqTail 1 0) ∧ wbits 15#32 15 0 < 2 ^ queued.rfld (kHq .prtHqCfg 1 0) 4 0 ∧
    2 ^ queued.rfld (kHq .prtHqCfg 1 0) 4 0 ≤ wbits 16#32 15 0 ∧
    queued.hqReady 1 0 = some 0 ∧ queued.hqBad 0 (hq 3 0) = true ∧ queued.hqBad 0 (hq 1 0) = false ∧ dfield (hq 1 0) 0 1 = 1 ∧
    dfield (hq 1 0) 0x18 4 = 4 ∧ queued.hqBad 0 (hq 2 2) = false ∧ dfield (hq 2 2) 0 1 = 2 ∧
    (let s : State := { on with vfs := [(1, { bound := some 0, jobs := [(0, { desc := hq 1 0, status := 1 })] })] }
     aget (s.vf 1).jobs 0 = some { desc := hq 1 0, status := 1 } ∧ dfield (hq 1 0) 1 1 = 0) := by
  unfold Reaches; and_intros <;> decide +kernel

/-! ### The management path, the tray window, the JTAG port -/

theorem witness_ManagementRequestsAreAnswered :
    on.pkg ≠ .off ∧ on.pkg = .on ∧ ({ on with pkg := .halted } : State).pkg = .halted ∧
    State.i3cMay 0x40000000 false = true ∧ State.i3cMay 0x40000000 true = true ∧ State.i3cMay 0x4000D000 false = true ∧
    State.i3cMay 0x4000D000 true = false ∧ State.i3cMay 0x3FFFFFFF false = false ∧ on.rbit kUpdCmd 3 = false ∧ on.cyc.cap = none ∧
    ({ on with cyc := { on.cyc with cap := some 9000 } } : State).cyc.cap = some 9000 := by
  and_intros <;> decide +kernel

/-- Welyar holds this tray-window message; a request with tag 9 to package 1 awaits its reply. -/
def trayed (op a : Nat) : State :=
  let m : TwMsg := { peer := 1, op := op, tag := 9, addr := a }
  { free on [] with twIn := [m], twOut := [{ msg := { peer := 1, op := 1, tag := 9 }, by_ := .welyar, t0 := ago (2 ^ 20) }] }

theorem witness_TrayWindowMessages :
    (∀ op ∈ [1, 2, 3, 4, 5], (trayed op 0x80000000).pkg = .on ∧ ((trayed op 0x80000000).takeTw op).isSome = true) ∧
    (trayed 1 0x80000000).trayShut = false ∧ ({ trayed 1 0 with starts := 2 ^ 24 } : State).trayShut = true ∧
    (trayed 1 0).twReason { peer := 1, op := 1, tag := 9, addr := 0x7FFFFFFF } ≠ 0 ∧
    (trayed 1 0).twReason { peer := 1, op := 1, tag := 9, addr := 0x80000000 } = 0 ∧
    ((trayed 3 0).twOut.find? (fun q => q.msg.tag == 9 && q.msg.peer == 1)).isSome = true ∧
    ((trayed 3 0).twOut.find? (fun q => q.msg.tag == 9 && decide (2 ^ 20 ≤ (trayed 3 0).since q.t0))).isSome = true := by
  and_intros <;> decide +kernel

/-- A debug access word of an operation at a memory address. -/
def dbg (op a : Nat) : BitVec 88 := BitVec.ofNat 88 (op + 4 + a * 64)

theorem witness_JtagInstructions :
    on.resetPin = true ∧ ({ on with resetPin := false } : State).resetPin = false ∧ on.pkgDebug = false ∧
    (let s := free testing []
     s.pkgDebug = true ∧ s.tap.busy = false ∧ ({ s with tap := { busy := true } } : State).tap.busy = true ∧
     bitsOf (dbg 0 0).toNat 1 0 = 0 ∧
     ∀ op ∈ [1, 2], bitsOf (dbg op 0x80000000).toNat 1 0 = op ∧ (dbg op 0x80000000).getLsbD 3 = false ∧
       s.reachable (dbgAddr (dbg op 0x80000000)) 4 = true ∧ (∀ i < 4, s.heldAt (dbgAddr (dbg op 0x80000000) + i) = none) ∧
       s.heldAt (dbgAddr (dbg op 0) + 3) = some 0 ∧ s.partDebug 0 = false ∧
       (let other : BitVec 88 := dbg op 0x80000000 ||| 0x18#88
        other.getLsbD 3 = true ∧ bitsOf other.toNat 1 0 = op ∧ bitsOf other.toNat 5 4 = 1 ∧ s.ownSlot = 0 ∧ s.trayShut = false ∧
        ({ s with starts := 2 ^ 24 } : State).trayShut = true ∧ (withReg s ⟨.pkgTopo, 0, 0⟩ 1#32).ownSlot = 1)) := by
  and_intros <;> decide +kernel

/-! ### The block as a whole -/

/-- A waiting command, an event in a queue, a byte in memory. -/
def busy1 : State := { holds on [1#8] with pending := [.ppsPulse, .jtagReset], evq := on.evq.set 0 [event1], pldmQueue := [(1, 2)] }

theorem witness_QueueIsFirstInFirstOut :
    busy1.pending = .ppsPulse :: [.jtagReset] ∧ (∃ t, Next .ppsPulse busy1 t) ∧ ∃ t, step busy1 = .next t :=
  ⟨rfl, ⟨_, rfl⟩, _, rfl⟩

theorem witness_MemoryStaysCanonical : Memory.wf busy1.mem ∧ busy1.mem.length = 1 ∧ ∃ t, step busy1 = .next t := by
  refine ⟨?_, ?_, _, rfl⟩ <;> decide +kernel

theorem witness_EventQueuesStayBounded :
    (∀ d : Fin 4, (busy1.evq.get d).length ≤ 1024) ∧ busy1.pldmQueue.length ≤ 64 ∧ ∃ t, step busy1 = .next t := by
  refine ⟨?_, ?_, _, rfl⟩ <;> decide +kernel

theorem witness_FrameOfRegisterInstructions :
    (∀ op ∈ [0x00, 0x08, 0x0A, 0x10, 0x1A], ∃ w, Issues (runs running [w]) 0 0 w op ∧ (fA w = 0#5 ∨ fA w = 1#5)) ∧
    ∃ t, Next (.opAdd 0) (runs running [ins 0x00 0 2 3]) t := by
  refine ⟨?_, _, rfl⟩
  have h : ∀ op ∈ [0x00, 0x08, 0x0A, 0x10, 0x1A], Issues (runs running [imm op 1 0 0]) 0 0 (imm op 1 0 0) op ∧
      (fA (imm op 1 0 0) = 0#5 ∨ fA (imm op 1 0 0) = 1#5) := by unfold Issues; decide +kernel
  exact fun op ho => ⟨_, h op ho⟩

/-! ### Ill-formed commands -/

theorem test_refused_units :
    WellFormed (.opAdd 0x18000#19) = false ∧ WellFormed (.opAdd 200#19) = false ∧ WellFormed (.opAdd 199#19) = true ∧
    WellFormed (.bayLoad 1536 .pf 1#4) = false ∧ WellFormed (.pointSwitch 96) = false ∧ WellFormed (.hbmScrubPass 768 []) = false ∧
    WellFormed (.islandTimeSync 100 0) = false ∧ WellFormed (.channelSubstitute 0 768) = false ∧
    WellFormed (.nextKeyInstall 9) = false ∧ WellFormed (.lumderLaneFail 0 18) = false ∧
    WellFormed (.d2dBundleRetrainDone 0 48 []) = false ∧ WellFormed (.d2dBundleFail 0 0 68) = false ∧
    WellFormed (.memRead 0 0 (.engine 0 0) (2 ^ 44) 64 0 false 0 []) = false ∧ WellFormed (.hostLinkUp 1 4) = false := by
  decide +kernel

theorem test_refused_operands :
    WellFormed (.packageReset (.vf 64)) = false ∧ WellFormed (.packageReset (.vf 0)) = false ∧
    WellFormed (.ackSend ⟨false, 8, 0, 0⟩) = false ∧ WellFormed (.ackSend ⟨true, 1, 0, 0⟩) = false ∧
    WellFormed (.idleFrame 0 [] { head := [], body := [], tag := [] }) = false ∧
    WellFormed (.pegSignalArrive (.spine 0 16384) []) = false ∧ WellFormed (.pegSignalArrive (.bent 96 0) []) = false ∧
    WellFormed (.arrayLineRead 0 [.adder 17]) = false ∧ WellFormed (.pwrCapWrite [(.vf 64, 0#32)]) = false := by
  decide +kernel

/-! ### Examples of the spec -/

/-- The example of R101: a drained entry rounds up to BF16; an exact tie goes to the even encoding. -/
theorem test_bf16_example :
    drainConvert .bf16 false 0x40A88082#32 = (0x40A9, fInexact) ∧ drainConvert .bf16 false 0x40A88000#32 = (0x40A8, fInexact) := by
  decide +kernel

/-- The examples of the standards that R337 and R339 name: SHA-384 of "abc" (FIPS 180-4) and AES-256 of FIPS 197, C.3. -/
theorem test_sha384_example : (sha384 [0x61, 0x62, 0x63]).take 8 = [0xCB, 0x00, 0x75, 0x3F, 0x45, 0xA3, 0x5E, 0x8B] := by decide +kernel

theorem test_aes256_example :
    (aesBlock (aesKeys ((List.range 32).map (BitVec.ofNat 8))) ((List.range 16).map fun i => BitVec.ofNat 8 (i * 17))).take 8 =
      [0x8E, 0xA2, 0xB7, 0xCA, 0x51, 0x67, 0x45, 0xBF] := by decide +kernel

/-- The example of R336: a frame head and its bytes on the wire. -/
theorem test_head_example :
    let h : Head := { dst := 0x0A22, dpart := 2, src := 0x10413, spart := 1, slice := 0x3E51, oseq := 0x12C0, plen := 1024, ftype := 1
                      kidx := 0, rty := 0, epoch := 7 }
    h.bytes = [0x22, 0x0A, 0x34, 0x41, 0x30, 0x51, 0x3E, 0x00, 0xC0, 0x12, 0x00, 0x00, 0xFF, 0x07, 0x0E, 0x00] ∧ Head.ofBytes h.bytes = h := by
  decide +kernel

/-- The examples of R74 and R549: core registers of one core. -/
theorem test_register_examples :
    (⟨.coreState, 0x47B96, 0⟩ : RKey).addr = some 0x217DDB00 ∧ (⟨.coreIdleCollLo, 0x47B96, 0⟩ : RKey).addr = some 0x2172CB88 := by
  decide +kernel

/-- An example of the section on the kerf (R140): one block quantised at width 4. -/
theorem test_quantise_example :
    let x (n : Bool) (m : Nat) (e : Int) : FV := .fin n m e
    let l : List FV := [x false 3 (-2), x true 5 (-1), x false 9 (-3), x false 11 (-1), x false 0 0, x true 5 (-4)] ++
      List.replicate 25 (x false 0 0) ++ [x false 1 (-4)]
    let r := quantGroup l 32 4
    r.u = 127 ∧ r.q.take 6 = [1, -2, 1, 6, 0, 0] ∧ r.clamps = 0 ∧ r.flags = fInexact ∧
    ((quantVec ⟨4, 0, 0, 0, 4, 4, 0, 0, 0, 0⟩ l []).1.map fun b => (b.bytes 4).take 4) = [[0x7F, 0x03, 0xE1, 0x61]] := by
  decide +kernel

/-- The kerf bytes of the same example, and the targets of its next step. -/
theorem test_kerf_example :
    let x (n : Bool) (m : Nat) (e : Int) : FV := .fin n m e
    let l : List (FV × Int) := [(x false 3 (-2), 1), (x true 5 (-1), -2), (x false 9 (-3), 1), (x false 11 (-1), 6), (x false 0 0, 0), (x true 5 (-4), 0)]
    (l.map fun e => kerfNew e.1 e.2 127) = [0xE0#8, 0xC0#8, 0x10#8, 0xC0#8, 0x00#8, 0xD8#8].map (fun b => (b, false)) ∧
    ([(x false 3 (-2), 0xE0#8), (x true 5 (-1), 0xC0#8), (x false 9 (-3), 0x10#8), (x false 21 (-2), 0xC0#8), (x true 5 (-4), 0xD8#8)].map
      fun e => (quantElem 4 127 (kerfTarget e.1 (kerfOf e.2) 127)).1) = [0, -3, 1, 5, -1] := by
  decide +kernel

end Sys2Proof.Tests
end

section
/-! Proofs about register accesses (14, 19) and the state at power-up. -/
namespace Sys2Proof.Proofs
open Sys2Proof Sys2Proof.Machine Sys2Proof.Spec

/-! ### A write that reaches its register -/

theorem accessW_of_reaches {s : State} {src : Src} {k : RKey} {f : State → State} (h : Reaches s src k) :
    s.accessW src k f = f s := by
  obtain ⟨hlive, hreach⟩ := h
  simp [State.accessW, hlive, hreach]

/-- Each field takes the value by its access type, a latched mark stays (R14, R545). -/
theorem writeFields_eq (s : State) (k : RKey) (v : Word) :
    s.writeFields k v = s.setReg k (k.reg.fields.foldl (fun w f =>
      if (aget s.cyc.latched k).isSome = true ∧ f.acc = .w1c then w else f.write w v) (s.reg k)) := by
  simp [State.writeFields]

@[simp] theorem writeFields_cyc (s : State) (k : RKey) (v : Word) : (s.writeFields k v).cyc = s.cyc := rfl

/-- The registers that `writePlain` treats by their access types alone. -/
theorem writePlain_eq_writeFields {s : State} {k : RKey} {v : Word} (hdrop : s.dropsWrite k v = false)
    (hflags : k.reg ≠ .coreCtxFlags) (hcfg : k.reg ≠ .prtHqCfg) (htel : k.reg ≠ .prtTelCtl) (hmask : k.reg ≠ .mgtHostMask) :
    s.writePlain k v = s.writeFields k v := by
  unfold State.writePlain
  rw [if_neg (by simp [hdrop])]
  split
  next h => exact absurd h hflags
  next h => exact absurd h hcfg
  next h => exact absurd h htel
  next h => exact absurd h hmask
  next => rfl

theorem writeSoft_of_drops {s : State} {src : Src} {k : RKey} {v : Word} (h : s.dropsWrite k v = true) :
    s.writeSoft src k v = s := by
  simp [State.writeSoft, h]

/-- No source served later has written the register in the cycle: the write is stored and its source noted (R544). -/
theorem writeSoft_of_not_overtaken {s : State} {src : Src} {k : RKey} {v : Word} (hdrop : s.dropsWrite k v = false)
    (hplain : s.writePlain k v = s.writeFields k v) (h : ∀ r, aget s.cyc.soft k = some r → r ≤ srcRank src) :
    s.writeSoft src k v =
      { s.writeFields k v with cyc := { s.cyc with soft := aset s.cyc.soft k (srcRank src) } } := by
  have hno : ((aget s.cyc.soft k).any fun r => decide (srcRank src < r)) = false := by
    cases hr : aget s.cyc.soft k with
    | none => rfl
    | some r => simpa using h r hr
  simp only [State.writeSoft, hdrop, hno, hplain, writeFields_cyc, Bool.false_eq_true, if_false]

/-- A source served later has written the register in the cycle: what it stored stands (R544). -/
theorem writeSoft_of_overtaken {s : State} {src : Src} {k : RKey} {v : Word} {r : Nat} (hdrop : s.dropsWrite k v = false)
    (hr : aget s.cyc.soft k = some r) (hlt : srcRank src < r) :
    s.writeSoft src k v = s.writePlain k (s.standing k v) := by
  simp [State.writeSoft, hdrop, hr, hlt]

/-! ### REGISTER_WRITE -/

theorem exec_registerWrite (src : Src) (off : Nat) (value : Word) (enables : BitVec 4) (s : State) :
    exec (.registerWrite src off value enables) s = execRegisterWrite src off value enables s := rfl

theorem registerWrite_of_disabled (s : State) (src : Src) (off : Nat) (value : Word) {enables : BitVec 4} (h : enables ≠ 0xF#4) :
    Next (.registerWrite src off value enables) s s := by
  unfold Next
  rw [exec_registerWrite, execRegisterWrite, if_pos h]

/-- A register without a behaviour of its own, below the MSI-X table of the PF. -/
theorem registerWrite_of_plain {s : State} {src : Src} {off : Nat} {value : Word} {k : RKey} (hoff : src = .pf → off < 2 ^ 32)
    (hkey : s.keyAt src off = some k) (hreach : Reaches s src k) (hown : s.writeOwn src k value = none) :
    Next (.registerWrite src off value 0xF#4) s (s.writeSoft src k value) := by
  have hreg : ¬ (src = .pf ∧ 2 ^ 32 ≤ off) := fun ⟨hpf, hle⟩ => Nat.not_lt.mpr hle (hoff hpf)
  have hword : s.writeOff src off value = s.writeSoft src k value := by
    simp [State.writeOff, hkey, State.writeReg, hreach.2, hown, accessW_of_reaches hreach]
  unfold Next
  rw [exec_registerWrite, execRegisterWrite, if_neg (by simp), if_neg hreg, hword]

/-! ### COUNTER_WRITE -/

theorem exec_counterWrite (src : Src) (off : Nat) (value : Word) (lost : Nat) (s : State) :
    exec (.counterWrite src off value lost) s = execCounterWrite src off value lost s := rfl

/-- No increment was lost in the cycle of the write (R546). -/
theorem counterWrite_of_cnt {s : State} {src : Src} {off : Nat} {value : Word} {k : RKey} (hkey : s.keyAt src off = some k)
    (hreach : Reaches s src k) (hcnt : k.reg.fields.any (fun f => f.acc == .cnt) = true) :
    Next (.counterWrite src off value 0) s (s.writeFields k value) := by
  unfold Next
  rw [exec_counterWrite, execCounterWrite]
  simp only [hkey, hcnt, accessW_of_reaches hreach, Bool.not_true, Bool.false_eq_true, if_false, if_true]

/-! ### RESERVED_OP_COMMAND -/

theorem exec_reservedOpCommand (src : Src) (off : Nat) (value : Word) (s : State) :
    exec (.reservedOpCommand src off value) s = execReservedOpCommand src off value s := rfl

/-- An operation that PRT_CMD does not have ends with result 2 once its fields are stored (R405). -/
theorem reservedOp_prtCmd {s : State} {v : Word} (hidle : s.rbit kPrtCmd 12 = false)
    (hop : wbits v 5 3 = 0 ∨ wbits v 5 3 = 7) : ∃ w, s.reservedOp kPrtCmd v = (s.setReg kPrtCmd w).prtDone 2 0 := by
  have hundef : ¬ ((1 ≤ wbits v 5 3 ∧ wbits v 5 3 ≤ 6) ∨ s.rbit kPrtCmd 12 = true) := by
    simp only [hidle, Bool.false_eq_true, or_false]
    omega
  exact ⟨_, if_neg hundef⟩

theorem reservedOpCommand_of_go {s : State} {src : Src} {off b : Nat} {value : Word} {k : RKey} (hkey : s.keyAt src off = some k)
    (hreach : Reaches s src k) (hbit : k.reg.goBit = some b) (hgo : wbit value b = true) :
    Next (.reservedOpCommand src off value) s (s.reservedOp k value) := by
  unfold Next
  rw [exec_reservedOpCommand, execReservedOpCommand]
  simp only [hkey, hbit, hgo, if_true, accessW_of_reaches hreach]

/-! ### COUNTER_LO_READ -/

theorem exec_counterLoRead (src : Src) (off : Nat) (s : State) :
    exec (.counterLoRead src off) s = execCounterLoRead src off s := rfl

/-- A fence keeps the read from its function (R420). -/
theorem counterLoRead_of_fenced {s : State} {src : Src} {off v : Nat} (h : s.fencedRead src off = some v) :
    Next (.counterLoRead src off) s
      { (s.readOff src off).1 with msgs := (s.readOff src off).1.msgs ++ [.hostRead v none], lastRead := none } := by
  unfold Next
  rw [exec_counterLoRead, execCounterLoRead]
  simp only [h]

theorem counterLoRead_of_register {s : State} {src : Src} {off : Nat} {k : RKey} (hkey : s.keyAt src off = some k)
    (hfence : s.fencedRead src off = none) :
    Next (.counterLoRead src off) s { (s.readBy src k).1 with lastRead := some (s.readBy src k).2 } := by
  have hread : s.readOff src off = s.readBy src k := by simp [State.readOff, hkey]
  unfold Next
  rw [exec_counterLoRead, execCounterLoRead]
  simp only [hfence, hread]

/-- A LO half shows its word and latches its HI half for the source (R547). -/
theorem readBy_lo {s : State} {src : Src} {k : RKey} {h : Reg} (hlive : s.srcLive src = true)
    (hreach : s.reaches src k false = true) (hhi : k.reg.isHi = false) (hlo : k.reg.hiOf = some h) :
    s.readBy src k =
      ({ s with latches := aset s.latches (src, { k with reg := h }) (s.readReg { k with reg := h }) }, s.readReg k) := by
  simp [State.readBy, hlive, hreach, hhi, hlo]

/-- A HI half shows the latch of the source (R547). -/
theorem readBy_hi {s : State} {src : Src} {k : RKey} (hlive : s.srcLive src = true)
    (hreach : s.reaches src k false = true) (hhi : k.reg.isHi = true) :
    s.readBy src k = (s, (aget s.latches (src, k)).getD 0#32) := by
  simp [State.readBy, hlive, hreach, hhi]

/-- Settles O46. A write comes down to `writeSoft` of its register, which drops it, stores it, or keeps what a later source
stored; the other three commands each have one equation. -/
theorem registerAccess : Obligations.RegisterAccess := by
  unfold Obligations.RegisterAccess
  refine ⟨fun s src off value _ h => registerWrite_of_disabled s src off value h, ?write, ?go, ?fenced, ?read⟩
  case write =>
    intro s src off value k hoff hkey hreach put
    have hput (v : Word) : s.writeFields k v = put v := writeFields_eq s k v
    have hnext (hown : s.writeOwn src k value = none) := registerWrite_of_plain hoff hkey hreach hown
    refine ⟨fun hown hdrop => ?dropped,
      fun hown hdrop hflags hcfg htel hmask => ⟨fun hfirst => ?stored, fun r hr hlt hdrop' => ?overtaken⟩,
      fun hcnt => hput value ▸ counterWrite_of_cnt hkey hreach hcnt⟩
    case dropped => simpa only [writeSoft_of_drops hdrop] using hnext hown
    case stored =>
      have hplain := writePlain_eq_writeFields hdrop hflags hcfg htel hmask
      rw [← hput, ← writeSoft_of_not_overtaken hdrop hplain hfirst]
      exact hnext hown
    case overtaken =>
      rw [← hput, ← writePlain_eq_writeFields hdrop' hflags hcfg htel hmask, ← writeSoft_of_overtaken hdrop hr hlt]
      exact hnext hown
  case go =>
    intro s src off value hkey ⟨hreach, hidle⟩ hgo hop
    obtain ⟨w, hw⟩ := reservedOp_prtCmd hidle hop
    exact ⟨_, w, reservedOpCommand_of_go hkey hreach rfl hgo, hw⟩
  case fenced => exact fun s src off v h => counterLoRead_of_fenced h
  case read =>
    intro s src off k hlive hkey hreach hfence
    have hnext := counterLoRead_of_register hkey hfence
    refine ⟨fun h hhi hlo => ?_, fun hhi => ?_⟩
    · rwa [readBy_lo hlive hreach hhi hlo] at hnext
    · rwa [readBy_hi hlive hreach hhi] at hnext

/-! ### The state at power-up -/

theorem vget_replicate {α : Type} (n i : Nat) (d : α) : (Vector.replicate n d).getD i d = d := by
  simp only [Vector.getD, Array.getD_eq_getD_getElem?, Vector.toArray_replicate, Array.getElem?_replicate]
  split <;> rfl

theorem reset_part (p : Nat) : State.reset.part p = ({} : Part) := vget_replicate 8 p ({} : Part)

theorem reset_ctx (c x : Nat) : State.reset.ctx c x = ({} : Ctx) := vget_replicate 4 x ({} : Ctx)

theorem reset_port (n : Nat) : State.reset.port n = ({} : Port) := vget_replicate 8 n ({} : Port)

theorem reset_evq (d : Fin 4) : State.reset.evq.get d = [] := by simp [State.reset, Vector.get]

/-- No register is written yet. -/
theorem reset_reg (k : RKey) : State.reset.reg k = k.resetVal := rfl

/-- The rate starts within the bounds of R462. -/
theorem reset_rate_within : rateMin ≤ kRate.resetVal.toNat ∧ kRate.resetVal.toNat ≤ rateMax := by decide

/-- Settles O56: partitions, contexts, ports and event queues read as the defaults of their vectors, no VF is bound and no
register written, so each register reads its reset value. -/
theorem resetState : Obligations.ResetState := by
  unfold Obligations.ResetState
  refine ⟨rfl, rfl, rfl, rfl, fun p _ => ?parts, fun _ => rfl, fun c x => ?ctxs, fun n _ => ?ports, reset_reg, ?mem, fun d => ?evq,
    Nat.zero_le _, reset_rate_within⟩
  case parts => rw [reset_part]
  case ctxs => rw [reset_ctx]
  case ports => rw [reset_port]
  case mem => exact ⟨List.Pairwise.nil, by simp [State.reset]⟩
  case evq => simp [reset_evq]

end Sys2Proof.Proofs
end

section
/-! Proofs about the architecture (01): memory and its requests (07, 14), the shutdown (16), the start (17), the tray window
(11). -/
namespace Sys2Proof.Proofs
open Sys2Proof Sys2Proof.Machine Sys2Proof.Spec Sys2Proof.Laws

/-! ### The branches of a command's outcome -/

theorem next_of_pos {i : Instr} {s t u : State} {c : Prop} [Decidable c] (h : Next i s (if c then t else u)) (hc : c) :
    Next i s t := by
  rwa [if_pos hc] at h

theorem next_of_neg {i : Instr} {s t u : State} {c : Prop} [Decidable c] (h : Next i s (if c then t else u)) (hc : ¬ c) :
    Next i s u := by
  rwa [if_neg hc] at h

/-! ### Canonical memory (R24, R250) -/

@[simp] theorem aget_mput_self {α : Type} (m : List (Nat × α)) (k : Nat) (v : α) : aget (mput m k v) k = some v := by
  induction m with
  | nil => simp only [mput, aget, if_true]
  | cons e r ih =>
    obtain ⟨k', v'⟩ := e
    rcases Nat.lt_trichotomy k k' with h | h | h
    · simp only [mput, if_pos h, aget, if_true]
    · simp only [mput, h, Nat.lt_irrefl, aget, if_true, if_false]
    · simp only [mput, if_neg (Nat.lt_asymm h), if_neg (Nat.ne_of_gt h), aget, if_neg (Nat.ne_of_lt h), ih]

theorem aget_mput_ne {α : Type} (m : List (Nat × α)) {k j : Nat} (v : α) (hj : j ≠ k) :
    aget (mput m k v) j = aget m j := by
  induction m with
  | nil => simp only [mput, aget, if_neg hj.symm]
  | cons e r ih =>
    obtain ⟨k', v'⟩ := e
    rcases Nat.lt_trichotomy k k' with h | h | h
    · simp only [mput, if_pos h, aget, if_neg hj.symm]
    · subst h
      simp only [mput, Nat.lt_irrefl, aget, if_true, if_false, if_neg hj.symm]
    · simp only [mput, if_neg (Nat.lt_asymm h), if_neg (Nat.ne_of_gt h), aget, ih]

theorem aget_eq_none_of_lt {α : Type} {m : List (Nat × α)} {k : Nat} (h : ∀ a ∈ m.map Prod.fst, k < a) :
    aget m k = none := by
  induction m with
  | nil => rfl
  | cons e r ih =>
    obtain ⟨hk, hr⟩ := List.forall_mem_cons.1 h
    simp only [aget, if_neg (Nat.ne_of_gt hk), ih hr]

/-- A key is listed once, so none is left. -/
theorem aget_mdel_self {α : Type} {m : List (Nat × α)} {k : Nat} (h : (m.map Prod.fst).Pairwise (· < ·)) :
    aget (mdel m k) k = none := by
  induction m with
  | nil => rfl
  | cons e r ih =>
    obtain ⟨k', v'⟩ := e
    obtain ⟨hlt, hr⟩ := List.pairwise_cons.1 h
    by_cases hk : k = k'
    · simp only [mdel, if_pos hk]
      exact aget_eq_none_of_lt (hk ▸ hlt)
    · simp only [mdel, if_neg hk, aget, if_neg (Ne.symm hk), ih hr]

theorem aget_mdel_ne {α : Type} (m : List (Nat × α)) {k j : Nat} (hj : j ≠ k) : aget (mdel m k) j = aget m j := by
  induction m with
  | nil => rfl
  | cons e r ih =>
    obtain ⟨k', v'⟩ := e
    by_cases hk : k = k'
    · simp only [mdel, if_pos hk, aget, if_neg (hk ▸ hj.symm)]
    · simp only [mdel, if_neg hk, aget, ih]

theorem memory_read_write_self {m : List (Nat × Byte)} (a : Nat) (v : Byte) (h : Memory.wf m) :
    Memory.read (Memory.write m a v) a = some v := by
  by_cases hv : Memory.unlisted a = some v
  · simp [Memory.read, Memory.write, hv, aget_mdel_self h.1]
  · simp [Memory.read, Memory.write, hv]

theorem memory_read_write_ne (m : List (Nat × Byte)) {a b : Nat} (v : Byte) (hb : b ≠ a) :
    Memory.read (Memory.write m a v) b = Memory.read m b := by
  by_cases hv : Memory.unlisted a = some v
  · simp [Memory.read, Memory.write, hv, aget_mdel_ne m hb]
  · simp [Memory.read, Memory.write, hv, aget_mput_ne m v hb]

/-- Settles O20: a write puts the byte's entry in, or takes it out where the byte is what an unlisted address reads as. -/
theorem memoryReadsWhatWasWritten : Obligations.MemoryReadsWhatWasWritten := by
  unfold Obligations.MemoryReadsWhatWasWritten
  exact fun m a _ v h => ⟨Memory_write_wf h, memory_read_write_self a v h, memory_read_write_ne m v⟩

/-! ### Requests at the home spine -/

section
variable {s : State} {p : BitVec 3} {e : BitVec 8} {by_ : Issuer} {pa len : Nat} {hint : BitVec 2} {lat : Bool} {t0 : Time}
  {data : List (Byte × Bool)} {errs : List MemErr}

/-- A request of an engine or a core goes to the partition's path. -/
theorem next_memRead (hby : by_ ≠ .welyar) (hpa : pa < 2 ^ 44) :
    Next (.memRead p e by_ pa len hint lat t0 errs) s (s.memRead p.toNat e by_ pa len hint lat t0 errs) := by
  change execMemRead p e by_ pa len hint lat t0 errs s = _
  unfold execMemRead
  rw [if_pos hpa]
  cases by_ with
  | core | engine => rfl
  | welyar => exact absurd rfl hby

theorem next_memWrite (hby : by_ ≠ .welyar) (hpa : pa < 2 ^ 44) :
    Next (.memWrite p e by_ pa hint data errs) s (s.memWrite p.toNat e by_ pa hint data errs) := by
  change execMemWrite p e by_ pa hint data errs s = _
  unfold execMemWrite
  rw [if_pos hpa]
  cases by_ with
  | core | engine => rfl
  | welyar => exact absurd rfl hby

theorem next_memRead_welyar (hpa : pa < 2 ^ 44) (hreach : s.reachable pa len = true) :
    Next (.memRead p e .welyar pa len hint lat t0 errs) s
      ((s.readPkg pa len).1.reply p.toNat e .welyar (s.readPkg pa len).2 false none t0) := by
  change execMemRead p e .welyar pa len hint lat t0 errs s = _
  unfold execMemRead
  rw [if_pos hpa]
  simp [hreach]

theorem next_memWrite_welyar (hpa : pa < 2 ^ 44) (hreach : s.reachable pa data.length = true) :
    Next (.memWrite p e .welyar pa hint data errs) s
      ((s.writePkg Issuer.welyar.rank pa (dataOf data)).reply p.toNat e .welyar [] false none s.plumb) := by
  change execMemWrite p e .welyar pa hint data errs s = _
  unfold execMemWrite
  rw [if_pos hpa]
  simp [hreach]

/-- From 2^44 on the address is one of the tray window (R30). -/
theorem next_memRead_tray (hpa : 2 ^ 44 ≤ pa) (hlen : twLen len = true) :
    Next (.memRead p e by_ pa len hint lat t0 errs) s (s.trayRequest p.toNat e by_ pa len none) := by
  change execMemRead p e by_ pa len hint lat t0 errs s = _
  unfold execMemRead
  rw [if_neg (Nat.not_lt.mpr hpa), if_pos hlen]

theorem next_memWrite_tray (hpa : 2 ^ 44 ≤ pa) (hlen : twLen data.length = true) :
    Next (.memWrite p e by_ pa hint data errs) s (s.trayRequest p.toNat e by_ pa data.length (some (dataOf data))) := by
  change execMemWrite p e by_ pa hint data errs s = _
  unfold execMemWrite
  rw [if_neg (Nat.not_lt.mpr hpa), if_pos hlen]

end

theorem memRead_of_stale {s : State} {P : Nat} {e : BitVec 8} (h : (s.part P).epoch ≠ e) (by_ : Issuer) (pa len : Nat)
    (hint : BitVec 2) (lat : Bool) (t0 : Time) (errs : List MemErr) :
    s.memRead P e by_ pa len hint lat t0 errs = s.count .prtEpochDropCnt P 1 := if_pos h

theorem memWrite_of_stale {s : State} {P : Nat} {e : BitVec 8} (h : (s.part P).epoch ≠ e) (by_ : Issuer) (pa : Nat)
    (hint : BitVec 2) (data : List (Byte × Bool)) (errs : List MemErr) :
    s.memWrite P e by_ pa hint data errs = s.count .prtEpochDropCnt P 1 := if_pos h

/-- No error struck and no latency is asked for. -/
theorem memRead_of_served {s : State} {P pa len : Nat} (h : s.served P pa len = true) (by_ : Issuer) (hint : BitVec 2)
    (t0 : Time) :
    s.memRead P (s.part P).epoch by_ pa len hint false t0 [] =
      (s.loadP P pa len hint.toNat).1.reply P (s.part P).epoch by_ (s.loadP P pa len hint.toNat).2 false none t0 := by
  rw [State.memRead, if_neg (not_not_intro rfl), if_neg (by simp [h])]
  cases s.place pa <;> rfl

theorem memWrite_of_served {s : State} {P pa : Nat} {by_ : Issuer} {data : List (Byte × Bool)}
    (h : s.served P pa data.length = true) (hfresh : s.staleWrite P pa by_ = false) (hint : BitVec 2) :
    s.memWrite P (s.part P).epoch by_ pa hint data [] =
      ((s.storeBy by_.rank P pa hint.toNat data).windowBytes pa data.length).reply P (s.part P).epoch by_ [] false none
        s.plumb := by
  simp [State.memWrite, h, hfresh]

/-! ### What the bookkeeping of an access leaves -/

@[simp] theorem windowBytes_mem (s : State) (a n : Nat) : (s.windowBytes a n).mem = s.mem := by
  unfold State.windowBytes; split <;> rfl
@[simp] theorem windowBytes_poison (s : State) (a n : Nat) : (s.windowBytes a n).poison = s.poison := by
  unfold State.windowBytes; split <;> rfl
@[simp] theorem windowBytes_replies (s : State) (a n : Nat) : (s.windowBytes a n).replies = s.replies := by
  unfold State.windowBytes; split <;> rfl

/-! ### MEM_REPLY_ARRIVE -/

/-- The epochs that a reply carries are current; a reply to Welyar carries none (R402, R416). -/
def ReplyCurrent (s : State) (r : Reply) : Prop :=
  match r.dest with
  | .welyar => True
  | .engine n e => r.pepoch = (s.part r.part).epoch ∧ e = s.eepoch n
  | .core _ l e _ => r.pepoch = (s.part r.part).epoch ∧ s.fresh r.part (some l) e = true

theorem memReplyArrive_of_current {s : State} {id : Nat} {r : Reply}
    (hfind : s.replies.find? (fun y => y.id == id) = some r) (hcur : ReplyCurrent s r) :
    Next (.memReplyArrive id) s ({ s with replies := s.replies.filter fun y => y.id != id }.takeReply r) := by
  change execMemReplyArrive id s = _
  rw [execMemReplyArrive]
  cases hdest : r.dest with
  | welyar => simp only [hfind, hdest]
  | engine n e =>
    obtain ⟨hpart, hengine⟩ : r.pepoch = (s.part r.part).epoch ∧ e = s.eepoch n := by simpa [ReplyCurrent, hdest] using hcur
    simp [hfind, hdest, hpart, hengine]
  | core c l e x =>
    obtain ⟨hpart, hcore⟩ : r.pepoch = (s.part r.part).epoch ∧ s.fresh r.part (some l) e = true := by
      simpa [ReplyCurrent, hdest] using hcur
    simp [hfind, hdest, hpart, hcore]

theorem memReplyArrive_of_stale {s : State} {id : Nat} {r : Reply}
    (hfind : s.replies.find? (fun y => y.id == id) = some r) (hold : (s.part r.part).epoch ≠ r.pepoch)
    (hdest : r.dest ≠ .welyar) :
    Next (.memReplyArrive id) s
      ({ s with replies := s.replies.filter fun y => y.id != id }.count .prtEpochDropCnt r.part 1) := by
  change execMemReplyArrive id s = _
  rw [execMemReplyArrive]
  cases hd : r.dest with
  | engine | core => simp [hfind, hd, hold]
  | welyar => exact absurd hd hdest

/-- Settles O18. An engine's or core's request takes the partition's path, Welyar's its own, one from 2^44 on the tray
window's; the epochs decide first. -/
theorem memoryRequestsAndStaleOnes : Obligations.MemoryRequestsAndStaleOnes := by
  unfold Obligations.MemoryRequestsAndStaleOnes
  refine ⟨⟨?read, ?write, fun s p e pa len hint lat t0 data hpa => ⟨next_memRead_welyar hpa, next_memWrite_welyar hpa⟩,
    fun s p e by_ pa len hint lat t0 data hpa => ⟨next_memRead_tray hpa, next_memWrite_tray hpa⟩, ?reply⟩,
    fun s p e hold => ⟨?staleRead, ?staleWrite, ?staleReply⟩⟩
  case read =>
    intro s p by_ pa len hint t0 hby hpa hserved
    refine ⟨_, next_memRead hby hpa, ?_⟩
    rw [memRead_of_served hserved]
    exact ⟨rfl, _, rfl, rfl, rfl, rfl, rfl⟩
  case write =>
    intro s p by_ pa hint data hby hpa hserved hfresh
    refine ⟨_, next_memWrite hby hpa, ?_⟩
    rw [memWrite_of_served hserved hfresh]
    exact ⟨windowBytes_mem .., windowBytes_poison .., _, congrArg (· ++ _) (windowBytes_replies ..), rfl, rfl⟩
  case reply =>
    intro s id r hfind hepoch
    have htaken := memReplyArrive_of_current hfind
    exact ⟨fun n hdest => htaken (by simp [ReplyCurrent, hdest, hepoch]), fun hdest => htaken (by simp [ReplyCurrent, hdest]),
      fun c l e x hdest hfresh => htaken (by simp [ReplyCurrent, hdest, hepoch, hfresh])⟩
  case staleRead =>
    intro by_ pa len hint lat t0 errs hby hpa
    exact memRead_of_stale hold by_ pa len hint lat t0 errs ▸ next_memRead hby hpa
  case staleWrite =>
    intro by_ pa hint data errs hby hpa
    exact memWrite_of_stale hold by_ pa hint data errs ▸ next_memWrite hby hpa
  case staleReply =>
    rintro id r hfind hpart rfl hdest
    rw [← hpart] at hold ⊢
    exact memReplyArrive_of_stale hfind hold hdest

section
variable {s : State}

/-! ### The start of the shutdown sequence -/

theorem next_pwrfailFall (hup : s.pkg ≠ .off) :
    Next .pwrfailFall s (if s.phase = 0 then s.shutdown false false
      else { s with power := { s.power with returned := false } }) := by
  change execPwrfailFall s = _
  rw [execPwrfailFall, if_neg hup]

theorem next_bladeUndervolt (hup : s.pkg ≠ .off) :
    Next .bladeUndervolt s (if s.phase = 0 then s.shutdown true false
      else
        let s1 := { s.noResume with power := { s.power with returned := false } }
        if s.phase = 3 then s1.commit else s1) := by
  change execBladeUndervolt s = _
  rw [execBladeUndervolt, if_neg hup]

theorem next_bladeCollapse (hup : s.pkg ≠ .off) : Next .bladeCollapse s (s.powerOff 3) := by
  change execBladeCollapse s = _
  rw [execBladeCollapse, if_neg hup]

/-! ### The hold -/

theorem next_pfHoldDone (hhold : s.phase = 1) : Next .pfHoldDone s (if s.replies = [] then s.toFlush else s) := by
  change execPfHoldDone s = _
  rw [execPfHoldDone]
  simp [hhold]

theorem next_holdBoundExpire (hhold : s.phase = 1) :
    Next .holdBoundExpire s (if 4194304 ≤ s.since s.power.phaseT then s.noResume.toFlush else s) := by
  change execHoldBoundExpire s = _
  rw [execHoldBoundExpire]
  simp only [hhold, true_and]

/-- The input that is back during the hold is noted, and the hold runs to its end (R488). -/
theorem inputReturn_of_hold (hhold : s.phase = 1) (hmay : s.rbit ⟨.pwrPfStatus, 0, 0⟩ 3 = false) :
    Next .inputReturn s { s with power := { s.power with returned := true } } := by
  change execInputReturn s = _
  rw [execInputReturn]
  simp [hhold, hmay]

/-! ### The flush -/

/-- The decks are written back and the ports that are Up sleep or go Down. -/
def afterFlush (s : State) : State :=
  let s1 := (List.range 32).foldl (fun s i => s.deckFlush (i / 8) (i % 8)) s
  (s1.portsStep ((List.range 8).filter fun n => (s1.port n).st == .up) State.flushStep).toPhase 3

theorem next_pfFlushDone (hflush : s.phase = 2) :
    Next .pfFlushDone s
      (if (afterFlush s).power.returned && !((afterFlush s).rbit ⟨.pwrPfStatus, 0, 0⟩ 3) then (afterFlush s).resume
       else afterFlush s) := by
  change execPfFlushDone s = _
  rw [execPfFlushDone, if_neg (by simp [hflush])]
  rfl

/-! ### Self-refresh -/

section
variable (hrefresh : s.phase = 3) (hride : s.power.ride0 = false) (hmay : s.rbit ⟨.pwrPfStatus, 0, 0⟩ 3 = false)
include hrefresh hride hmay

theorem next_rideExpire :
    Next .rideExpire s (if (s.reg ⟨.pwrRide, 0, 0⟩).toNat ≤ s.since s.power.phaseT then s.commit else s) := by
  change execRideExpire s = _
  rw [execRideExpire]
  simp [hrefresh, hride, hmay]

theorem inputReturn_of_refresh :
    Next .inputReturn s (if (s.reg ⟨.pwrRide, 0, 0⟩).toNat ≤ s.since s.power.phaseT then s else s.resume) := by
  change execInputReturn s = _
  rw [execInputReturn]
  simp [hrefresh, hride, hmay]

end

/-! ### The rails -/

theorem next_railsDownDone (hdown : s.phase = 4) : Next .railsDownDone s (s.powerOff s.flash.outcome) := by
  change execRailsDownDone s = _
  rw [execRailsDownDone, if_pos hdown]

theorem next_bladesInRange (hoff : s.pkg = .off) : Next .bladesInRange s s.railsUp := by
  change execBladesInRange s = _
  rw [execBladesInRange, if_pos hoff]

theorem next_coldStart (hoff : s.pkg = .off) : Next .coldStart s (if s.power.thermal then s else s.railsUp) := by
  change execColdStart s = _
  rw [execColdStart]
  cases s.power.thermal <;> simp [hoff]

end

/-- Settles O40, phase by phase: what each command does in its phase, on each side of its limit. -/
theorem shutdownSequence : Obligations.ShutdownSequence := by
  unfold Obligations.ShutdownSequence
  refine ⟨?start, ?hold, ?flush, ?refresh, ?rails⟩
  case start =>
    exact fun s hup => ⟨fun hrun => ⟨next_of_pos (next_pwrfailFall hup) hrun, next_of_pos (next_bladeUndervolt hup) hrun⟩,
      fun hseq => ⟨next_of_neg (next_pwrfailFall hup) hseq, next_of_neg (next_bladeUndervolt hup) hseq⟩, next_bladeCollapse hup⟩
  case hold =>
    exact fun s hhold => ⟨next_of_pos (next_pfHoldDone hhold), next_of_neg (next_pfHoldDone hhold),
      next_of_pos (next_holdBoundExpire hhold), fun hearly => next_of_neg (next_holdBoundExpire hhold) (Nat.not_le.mpr hearly),
      inputReturn_of_hold hhold⟩
  case flush =>
    intro s hflush s1 still stop s3
    have hstop : stop = State.flushStep := rfl
    have hs3 : s3 = afterFlush s := by rw [afterFlush, ← hstop]
    have hnext := next_pfFlushDone hflush
    rw [← hs3] at hnext
    refine ⟨fun hstay => next_of_neg hnext ?_, fun hback hmay => next_of_pos hnext (by simp [hback, hmay])⟩
    rcases hstay with hstay | hstay <;> simp [hstay]
  case refresh =>
    intro s hrefresh hride hmay
    have hreturn := inputReturn_of_refresh hrefresh hride hmay
    exact ⟨fun hend => ⟨next_of_pos (next_rideExpire hrefresh hride hmay) hend, next_of_pos hreturn hend⟩,
      fun hbefore => next_of_neg hreturn (Nat.not_le.mpr hbefore)⟩
  case rails =>
    exact fun s => ⟨next_railsDownDone, fun hoff => ⟨next_bladesInRange hoff,
      fun hcool => next_of_neg (next_coldStart hoff) (ne_true_of_eq_false hcool), next_of_pos (next_coldStart hoff)⟩⟩

/-! ### The release of PKG_RESET_N -/

/-- Can site 1 serve? -/
def siteReady (s : State) (inp : StartIn) : Bool := inp.site1 && !(s.siteRetired 1)

/-- The release is seen: the slot and the standby site show in PKG_TOPO, and the time is noted. -/
def afterRelease (s : State) (inp : StartIn) : State :=
  let s1 := ({ s with resetPin := true }.setFld ⟨.pkgTopo, 0, 0⟩ 1 0 inp.slot).setFld ⟨.pkgTopo, 0, 0⟩ 3 3 (b2n (siteReady s inp))
  { s1 with boot := { s1.boot with released := some s1.plumb } }

theorem next_bootSequence {s : State} (inp : StartIn) (hheld : s.pkg = .held) (hir : s.tap.ir = .bypass) :
    Next (.bootSequence inp) s
      (if s.boot.site = 1 then
        (if siteReady s inp then (afterRelease s inp).start 1 inp else { afterRelease s inp with pkg := .failed })
       else if inp.site0 && !(s.siteRetired 0) then (afterRelease s inp).start 0 inp
       else { afterRelease s inp with pkg := .failed }) := by
  have htap : (if s.tap.ir = .extest ∨ s.tap.ir = .clamp ∨ s.tap.ir = .highz then { s.tap with ir := .bypass } else s.tap) =
      s.tap := if_neg (by simp [hir])
  change execBootSequence inp s = _
  rw [execBootSequence, if_neg (not_not_intro hheld)]
  simp only [htap]
  rfl

/-! ### The standby site and a lockstep mismatch -/

theorem next_standbyTakeover {s : State} (inp : StartIn) {t : Time} (hfail : s.pkg = .failed) (hrel : s.boot.released = some t)
    (hsite : s.boot.site = 0) (hstandby : s.rbit ⟨.pkgTopo, 0, 0⟩ 3 = true) :
    Next (.standbyTakeover inp) s (if 2 ^ 28 ≤ s.since t then s.start 1 inp else s) := by
  change execStandbyTakeover inp s = _
  rw [execStandbyTakeover]
  simp only [hfail, hrel, hsite, hstandby, true_and, and_true, decide_eq_true_eq]

/-- Did the site already have a mismatch within 2^42 pt? -/
def mismatchedBefore (s : State) (n : Nat) : Bool :=
  s.flash.retire.any fun e => e.1 == 9 && e.2.2.1 == n && decide (s.since e.2.2.2 ≤ 2 ^ 42)

/-- What a mismatch of site `n` adds to the retirement list. -/
def mismatchEntries (n : Nat) (t : Time) (again : Bool) : List (Nat × Nat × Nat × Time) :=
  [(9, 0, n, t)] ++ if again then [(8, 0, n, t)] else []

theorem next_lockstepMismatch {s : State} {site : BitVec 1} {again : Bool} (hon : s.pkg = .on)
    (hsite : s.boot.site = site.toNat) (hagain : mismatchedBefore s site.toNat = again) :
    Next (.lockstepMismatch site) s
      ({ s with flash := { s.flash with retire := s.flash.retire ++ mismatchEntries site.toNat s.plumb again } }.orderPackage
        0x0A) := by
  change execLockstepMismatch site s = _
  rw [execLockstepMismatch, if_neg (by simp [hon, hsite]), ← hagain]
  rfl

/-! ### The date (R465, R534) -/

/-- The fraction that goes with loaded seconds: from the first pulse, if there was one. -/
def plumbFraction (s : State) : Nat :=
  match s.power.pps1 with
  | some t => s.since t % 2 ^ 30
  | none => s.plumb.toNat % 2 ^ 30

/-- Once a partition has accepted work nothing more is noted. -/
theorem noteWork_of_worked {s : State} (h : s.worked = true) : s.noteWork = s := by
  cases s
  simp_all [State.noteWork]

theorem loadSeconds_of_worked {s : State} (h : s.worked = true) (sec : Nat) :
    s.loadSeconds sec = { s with boot := { s.boot with dateAsked := none } }.count .plbErrCnt 0 1 := by
  rw [State.loadSeconds, if_pos h]
  exact noteWork_of_worked h

theorem loadSeconds_of_idle {s : State} (h : s.worked = false) (sec : Nat) :
    s.loadSeconds sec = ({ s with boot := { s.boot with dateAsked := none } }.loadPlumb
      (BitVec.ofNat 64 (sec * 2 ^ 30 + plumbFraction s))).noteWork := by
  unfold plumbFraction
  cases hpps : s.power.pps1 <;> simp only [State.loadSeconds, h, hpps, Bool.false_eq_true, if_false]

/-- Every copy of plumb time holds `t`, and the package accepts work from here on. -/
structure PlumbLoaded (s : State) (t : Time) (u : State) : Prop where
  plumb : u.plumb = t
  asked : u.boot.dateAsked = none
  isle : u.isle = []
  worked : u.worked = (List.range 8).any fun p => (s.part p).built
  regs : u.regs = s.regs

theorem loadPlumb_noteWork_loaded {s : State} (h : s.worked = false) (t : Time) :
    PlumbLoaded s t ({ s with boot := { s.boot with dateAsked := none } }.loadPlumb t).noteWork :=
  ⟨rfl, rfl, rfl, congrArg (· || _) h, rfl⟩

theorem next_datetimeReply (s : State) (sec : Nat) :
    Next (.datetimeReply sec) s (if s.boot.dateAsked.isSome then s.loadSeconds sec else s) := rfl

theorem next_datetimeTimeout {s : State} {t : Time} (hasked : s.boot.dateAsked = some t) :
    Next .datetimeTimeout s (if 2 ^ 30 ≤ s.since t then s.loadSeconds 0 else s) := by
  change execDatetimeTimeout s = _
  rw [execDatetimeTimeout]
  simp only [hasked, decide_eq_true_eq]

theorem datetimeTimeout_of_unasked {s : State} (hasked : s.boot.dateAsked = none) : Next .datetimeTimeout s s := by
  change execDatetimeTimeout s = _
  rw [execDatetimeTimeout]
  simp [hasked]

/-- Settles O42: the site that serves decides the start, the time since the release the takeover, the retirement list a
mismatch, and whether a partition has accepted work what the date does. -/
theorem bootAndTakeover : Obligations.BootAndTakeover := by
  unfold Obligations.BootAndTakeover
  refine ⟨?start, ?takeover, ?mismatch, ?date, ?lateDate, ?unasked⟩
  case start =>
    intro s inp hheld hir
    have hnext := next_bootSequence inp hheld hir
    have hsite0 (h : s.boot.site = 0) := next_of_neg hnext (by simp [h])
    exact ⟨fun h htest hkept => next_of_pos (hsite0 h) (by simp [htest, hkept]),
      fun h hfail => next_of_neg (hsite0 h) (by rcases hfail with hfail | hfail <;> simp [hfail]),
      fun h hready => next_of_pos (next_of_pos hnext h) hready⟩
  case takeover =>
    intro s inp t hfail hrel hsite hstandby
    have hnext := next_standbyTakeover inp hfail hrel hsite hstandby
    exact ⟨next_of_pos hnext, fun hearly => next_of_neg hnext (Nat.not_le.mpr hearly)⟩
  case mismatch =>
    intro s site hon hsite
    exact ⟨next_lockstepMismatch hon hsite, next_lockstepMismatch hon hsite⟩
  case date =>
    intro s t sec hasked hidle frac loaded
    have hload (n : Nat) : loaded n (s.loadSeconds n) := by
      rw [loadSeconds_of_idle hidle]
      obtain ⟨hplumb, hnone, hisle, hworked, hregs⟩ :=
        loadPlumb_noteWork_loaded hidle (BitVec.ofNat 64 (n * 2 ^ 30 + plumbFraction s))
      exact ⟨hplumb, hnone, hisle, hworked, hregs⟩
    have hlate := next_datetimeTimeout hasked
    exact ⟨⟨_, next_of_pos (next_datetimeReply s sec) (by simp [hasked]), hload sec⟩,
      fun hdue => ⟨_, next_of_pos hlate hdue, hload 0⟩, fun hearly => next_of_neg hlate (Nat.not_le.mpr hearly)⟩
  case lateDate =>
    intro s t sec hasked hworked late
    have hcount (n : Nat) : s.loadSeconds n = late := loadSeconds_of_worked hworked n
    exact ⟨hcount sec ▸ next_of_pos (next_datetimeReply s sec) (by simp [hasked]),
      fun hdue => hcount 0 ▸ next_of_pos (next_datetimeTimeout hasked) hdue⟩
  case unasked =>
    exact fun s sec hasked => ⟨next_of_neg (next_datetimeReply s sec) (by simp [hasked]), datetimeTimeout_of_unasked hasked⟩

theorem answers_of_on {s : State} (h : s.pkg = .on) : s.answers = true := by simp [State.answers, h]

/-! ### Requests of the tray window -/

section
variable {s s1 : State} {m : TwMsg} (hon : s.pkg = .on)
include hon

/-- The three ends of a read request: none while the window is shut, an error with its reason, its data. -/
theorem next_twRead (htake : s.takeTw 1 = some (s1, m)) :
    Next .twRead s (if s1.trayShut then s1
      else if s1.twReason m ≠ 0 then s1.sendTw (m.error (s1.twReason m))
      else (s1.readPkg m.addr m.len).1.sendTw
        { m with op := 3, poison := anyPoison (s1.readPkg m.addr m.len).2, reason := 0
                 data := dataOf (s1.readPkg m.addr m.len).2 }) := by
  change execTwRead s = _
  rw [execTwRead]
  simp only [answers_of_on hon, htake, Bool.not_true, Bool.false_eq_true, if_false]

theorem next_twWrite (htake : s.takeTw 2 = some (s1, m)) :
    Next .twWrite s (if s1.trayShut then s1
      else if s1.twReason m ≠ 0 then s1.sendTw (m.error (s1.twReason m))
      else (s1.writePkg rankTray m.addr (m.data.take m.len)).sendTw
        { m with op := 4, poison := false, reason := 0, data := [] }) := by
  change execTwWrite s = _
  rw [execTwWrite]
  simp only [answers_of_on hon, htake, Bool.not_true, Bool.false_eq_true, if_false]

end

/-! ### Replies of the tray window -/

/-- A reply ends the request of its tag and peer. -/
theorem twReply_of_open {s s1 : State} {op : Nat} {m : TwMsg} {q : TwReq} (htake : s.takeTw op = some (s1, m))
    (hopen : s1.twOut.find? (fun q => q.msg.tag == m.tag && q.msg.peer == m.peer) = some q) :
    s.twReply op = s1.endTw q (some m) := by
  simp only [State.twReply, htake, hopen]

theorem next_twReadData {s : State} (hon : s.pkg = .on) : Next .twReadData s (s.twReply 3) :=
  congrArg Host.Outcome.next (if_pos (answers_of_on hon))

theorem next_twWriteDone {s : State} (hon : s.pkg = .on) : Next .twWriteDone s (s.twReply 4) :=
  congrArg Host.Outcome.next (if_pos (answers_of_on hon))

theorem next_twError {s : State} (hon : s.pkg = .on) : Next .twError s (s.twReply 5) :=
  congrArg Host.Outcome.next (if_pos (answers_of_on hon))

theorem next_twReplyTimeout {s : State} {tag : Nat} {q : TwReq}
    (hlate : s.twOut.find? (fun q => q.msg.tag == tag && decide (2 ^ 20 ≤ s.since q.t0)) = some q) :
    Next (.twReplyTimeout tag) s (s.endTw q none) := by
  change execTwReplyTimeout tag s = _
  rw [execTwReplyTimeout]
  simp only [hlate]

/-- Settles O53: a request has one of three ends, a reply finds the request of its tag, and no reply in time is one, too. -/
theorem trayWindowMessages : Obligations.TrayWindowMessages := by
  unfold Obligations.TrayWindowMessages
  refine ⟨fun s s1 m hon => ⟨fun htake => ?read, fun htake => ?write, fun q hopen => ?reply⟩,
    fun s tag q => next_twReplyTimeout⟩
  case read =>
    have hnext := next_twRead hon htake
    have hopen (h : s1.trayShut = false) := next_of_neg hnext (ne_true_of_eq_false h)
    exact ⟨next_of_pos hnext, fun h => next_of_pos (hopen h), fun h hserved => next_of_neg (hopen h) (not_not_intro hserved)⟩
  case write =>
    have hnext := next_twWrite hon htake
    have hopen (h : s1.trayShut = false) := next_of_neg hnext (ne_true_of_eq_false h)
    exact ⟨next_of_pos hnext, fun h => next_of_pos (hopen h), fun h hserved => next_of_neg (hopen h) (not_not_intro hserved)⟩
  case reply =>
    exact ⟨fun htake => twReply_of_open htake hopen ▸ next_twReadData hon,
      fun htake => twReply_of_open htake hopen ▸ next_twWriteDone hon,
      fun htake => twReply_of_open htake hopen ▸ next_twError hon⟩

end Sys2Proof.Proofs
end

section
/-! Proofs about the core and its array (02): the issue of instructions (05), tiles and transfers (06), lines and rows. -/
namespace Sys2Proof.Proofs
open Sys2Proof Sys2Proof.Machine Sys2Proof.Spec Sys2Proof.Laws

/-! ### Fields of an instruction word (R154) -/

/-- A field that ends at bit 0 lies in the immediate. -/
theorem wbits_eq_imm16 (w : Word) {n : Nat} (hn : n < 16) : wbits w n 0 = (imm16 w).toNat % 2 ^ (n + 1) := by
  have hdvd : 2 ^ (n + 1) ∣ 2 ^ 16 := Nat.pow_dvd_pow 2 hn
  simp [wbits, bitsOf, imm16, BitVec.extractLsb'_toNat, -Nat.reducePow, Nat.mod_mod_of_dvd _ hdvd]

/-- The peg id of PWAIT, PSIG and PREAD (R155). -/
theorem wbits_pegId (w : Word) : wbits w 9 0 = (imm16 w).toNat % 1024 := wbits_eq_imm16 w (by decide)

/-- A five-bit field is a register number. -/
theorem wbits_reg (w : Word) (lo : Nat) : wbits w (lo + 4) lo = w.toNat / 2 ^ lo % 32 := by
  have hwidth : lo + 4 + 1 - lo = 5 := by omega
  rw [wbits, bitsOf, hwidth, show 2 ^ 5 = 32 from rfl]

/-! ### The scalar registers of a context (R152) -/

theorem sreg_zero (v : Ctx) : v.sreg 0#5 = 0#32 := rfl

/-- A write of a scalar register changes the registers alone. -/
theorem setSreg_eq (v : Ctx) (r : BitVec 5) (a : Word) : v.setSreg r a = { v with s := (v.setSreg r a).s } := by
  unfold Ctx.setSreg
  split <;> rfl

theorem sreg_setSreg_ne (v : Ctx) {r q : BitVec 5} (a : Word) (hq : q ≠ r) : (v.setSreg r a).sreg q = v.sreg q := by
  have hne : r.toNat ≠ q.toNat := fun h => hq (BitVec.eq_of_toNat_eq h.symm)
  by_cases hr : r = 0#5
  · rw [Ctx.setSreg, if_pos hr]
  · have hget : (v.s.set r.toNat a r.isLt).get q.toFin = v.s.get q.toFin := Vector.getElem_set_ne _ _ hne
    simp only [Ctx.setSreg, if_neg hr, Ctx.sreg, hget]

/-- The context that runs is one of the four (R69). -/
theorem lt_four_of_running {s : State} {c x : Nat} (h : s.running c = some x) : x < 4 :=
  List.mem_range.1 (List.mem_of_find?_eq_some h)

/-! ### Issue of an instruction (R150, R158) -/

theorem fetch_eq_word {s : State} {c x : Nat} (hclock : s.clocked c = true) (hfence : s.fencedCore c = false)
    (hrun : s.running c = some x) (hregion : (s.ctx c x).inRegion (s.ctx c x).pc.toNat = true)
    (hclean : (s.core c).imPoison.contains ((s.ctx c x).pc.toNat / 4) = false) :
    s.fetch c = .word x (s.ctx c x).pc.toNat (wget (s.core c).imem ((s.ctx c x).pc.toNat / 4)) := by
  simp only [State.fetch, hclock, hfence, hrun, hregion, hclean, Bool.not_true, Bool.or_self, Bool.false_eq_true, if_false]

theorem issue_of_fetch {s : State} {c x pc op : Nat} {w : Word} (hfetch : s.fetch c = .word x pc w) (hop : opOf w = op)
    (hdef : opDefined op = true) (f : State → Nat → Word → State) : s.issue c op f = f s x w := by
  subst hop
  simp only [State.issue, hfetch, hdef, ne_eq, not_true_eq_false, Bool.not_true, Bool.false_eq_true, if_false]

theorem issueScalar_of_issues {s : State} {c x op : Nat} {w : Word} (h : Issues s c x w op) (hdef : opDefined op = true)
    (f : State → Nat → Word → State) : s.issueScalar c op f = f s x w := by
  obtain ⟨hclock, hfence, hrun, hregion, hclean, rfl, hop, hlegal⟩ := h
  rw [State.issueScalar, issue_of_fetch (fetch_eq_word hclock hfence hrun hregion hclean) hop hdef, if_pos hlegal]

theorem issueLong_of_issues {s : State} {c x op : Nat} {w0 : Word} {ws : Words3} (h : IssuesLong s c x w0 ws op)
    (hdef : opDefined op = true) {legal0 : Word → Bool} {legal : Word → Words3 → Bool} (hlegal0 : legal0 w0 = true)
    (hlegal : legal w0 ws = true) (f : State → Nat → Word → Words3 → State) :
    s.issueLong c op legal0 legal f = f s x w0 ws := by
  obtain ⟨w1, w2, w3⟩ := ws
  obtain ⟨hclock, hfence, hrun, hregion, hclean, rfl, rfl, rfl, rfl, hop⟩ := h
  simp only [List.forall_mem_cons, List.not_mem_nil, false_implies, implies_true, and_true, Nat.add_zero] at hregion hclean
  obtain ⟨hin0, hin1, hin2, hin3⟩ := hregion
  obtain ⟨hclean0, hclean1, hclean2, hclean3⟩ := hclean
  rw [State.issueLong, issue_of_fetch (fetch_eq_word hclock hfence hrun hin0 hclean0) hop hdef]
  simp [hlegal0, hlegal, hin1, hin2, hin3, hclean1, hclean2, hclean3, -List.contains_eq_mem]

theorem lt_four_of_issues {s : State} {c x op : Nat} {w : Word} (h : Issues s c x w op) : x < 4 := by
  obtain ⟨_, _, hrun, _⟩ := h
  exact lt_four_of_running hrun

theorem lt_four_of_issuesLong {s : State} {c x op : Nat} {w0 : Word} {ws : Words3} (h : IssuesLong s c x w0 ws op) :
    x < 4 := by
  obtain ⟨_, _, hrun, _⟩ := h
  exact lt_four_of_running hrun

/-! ### Instructions that write a scalar register (R155) -/

/-- An instruction that retires with its register rd written, and nothing else changed. -/
def WritesRd (i : CoreAddr → Instr) (op : Nat) : Prop :=
  ∀ (s : State) (core : CoreAddr) (x : Nat) (w : Word), Issues s core.toNat x w op →
    ∃ a, Next (i core) s (Retires s core.toNat x ((s.ctx core.toNat x).setSreg (fA w) a))

section
variable {i : CoreAddr → Instr} {op : Nat} {s : State} {core : CoreAddr} {x : Nat} {w : Word} (hdef : opDefined op = true)
  (h : Issues s core.toNat x w op)
include hdef h

theorem next_scalar {f : State → Nat → Word → State} (hexec : exec (i core) s = .next (s.issueScalar core.toNat op f)) :
    Next (i core) s (f s x w) :=
  hexec.trans (congrArg Host.Outcome.next (issueScalar_of_issues h hdef f))

theorem next_rr (hexec : exec (i core) s = .next (s.rr core.toNat op)) :
    Next (i core) s (Retires s core.toNat x ((s.ctx core.toNat x).setSreg (fA w)
      (aluOp op ((s.ctx core.toNat x).sreg (fB w)) ((s.ctx core.toNat x).sreg (fC w))))) :=
  (next_scalar hdef h hexec :)

theorem next_ri {f : Word → Word → Word} (hexec : exec (i core) s = .next (s.ri core.toNat op f)) :
    Next (i core) s (Retires s core.toNat x ((s.ctx core.toNat x).setSreg (fA w) (f ((s.ctx core.toNat x).sreg (fB w)) w))) :=
  (next_scalar hdef h hexec :)

end

theorem writesRd_of_rr {i : CoreAddr → Instr} {op : Nat} (hdef : opDefined op = true)
    (hexec : ∀ core s, exec (i core) s = .next (s.rr core.toNat op)) : WritesRd i op :=
  fun _ _ _ _ h => ⟨_, next_rr hdef h (hexec _ _)⟩

theorem writesRd_of_ri {i : CoreAddr → Instr} {op : Nat} {f : Word → Word → Word} (hdef : opDefined op = true)
    (hexec : ∀ core s, exec (i core) s = .next (s.ri core.toNat op f)) : WritesRd i op :=
  fun _ _ _ _ h => ⟨_, next_ri hdef h (hexec _ _)⟩

theorem next_getp {s : State} {core : CoreAddr} {x : Nat} {w : Word} (h : Issues s core.toNat x w 0x1A) :
    Next (.opGetp core) s (Retires s core.toNat x
      ((s.ctx core.toNat x).setSreg (fA w) ((s.ctx core.toNat x).p.getD (wbits w 5 0) 0#32))) :=
  (next_scalar (i := .opGetp) rfl h rfl :)

/-- The register instructions: ADD to SLTU, ADDI to SRAI and GETP, each with its op. -/
def registerInstrs : List ((CoreAddr → Instr) × Nat) :=
  [(.opAdd, 0x00), (.opSub, 0x01), (.opAnd, 0x02), (.opOr, 0x03), (.opXor, 0x04), (.opSll, 0x05), (.opSrl, 0x06),
    (.opSra, 0x07), (.opMul, 0x08), (.opSlt, 0x09), (.opSltu, 0x0A), (.opAddi, 0x10), (.opAndi, 0x11), (.opOri, 0x12),
    (.opXori, 0x13), (.opLui, 0x14), (.opSlli, 0x15), (.opSrli, 0x16), (.opSrai, 0x17), (.opGetp, 0x1A)]

theorem writesRd_of_mem : ∀ e ∈ registerInstrs, WritesRd e.1 e.2 := by
  have hrr {i : CoreAddr → Instr} {op : Nat} := writesRd_of_rr (i := i) (op := op)
  have hri {i : CoreAddr → Instr} {op : Nat} {f : Word → Word → Word} := writesRd_of_ri (i := i) (op := op) (f := f)
  simp only [registerInstrs, List.forall_mem_cons]
  exact ⟨hrr rfl fun _ _ => rfl, hrr rfl fun _ _ => rfl, hrr rfl fun _ _ => rfl, hrr rfl fun _ _ => rfl,
    hrr rfl fun _ _ => rfl, hrr rfl fun _ _ => rfl, hrr rfl fun _ _ => rfl, hrr rfl fun _ _ => rfl,
    hrr rfl fun _ _ => rfl, hrr rfl fun _ _ => rfl, hrr rfl fun _ _ => rfl, hri rfl fun _ _ => rfl,
    hri rfl fun _ _ => rfl, hri rfl fun _ _ => rfl, hri rfl fun _ _ => rfl, hri rfl fun _ _ => rfl,
    hri rfl fun _ _ => rfl, hri rfl fun _ _ => rfl, hri rfl fun _ _ => rfl, fun _ _ _ _ h => ⟨_, next_getp h⟩,
    fun _ h => absurd h List.not_mem_nil⟩

/-! ### What an instruction that retires leaves -/

@[simp] theorem setCtx_core_self (s : State) (c x : Nat) (v : Ctx) : (s.setCtx c x v).core c = (s.core c).setCtx x v :=
  State_setCore_core s c _

theorem retires_ctx_self (s : State) (c : Nat) {x : Nat} (v : Ctx) (hx : x < 4) :
    (Retires s c x v).ctx c x = { v with pc := v.pc + 4#13, progress := s.plumb } :=
  State_setCtx_ctx s c _ hx

theorem retires_ctx_ne (s : State) {c x a b : Nat} (v : Ctx) (h : (a, b) ≠ (c, x)) :
    (Retires s c x v).ctx a b = s.ctx a b :=
  State_setCtx_ctx_ne s _ h

theorem retires_imem (s : State) (c x : Nat) (v : Ctx) : ((Retires s c x v).core c).imem = (s.core c).imem := by
  rw [Retires, setCtx_core_self]
  rfl

/-- Settles O60: each of the twenty retires with rd written, and that write is all that is left of it. -/
theorem frameOfRegisterInstructions : Obligations.FrameOfRegisterInstructions := by
  unfold Obligations.FrameOfRegisterInstructions
  intro s t core x op w i hmem hissue hnext c v u
  have hx : x < 4 := lt_four_of_issues hissue
  obtain ⟨a, hretires⟩ := writesRd_of_mem (i, op) hmem s core x w hissue
  obtain rfl : t = Retires s c x (v.setSreg (fA w) a) := Host.Outcome.next.inj (hnext.symm.trans hretires)
  have hu : u = { v.setSreg (fA w) a with pc := (v.setSreg (fA w) a).pc + 4#13, progress := s.plumb } :=
    retires_ctx_self s c _ hx
  refine ⟨rfl, rfl, rfl, rfl, rfl, fun a b => retires_ctx_ne s _, retires_imem s c x _, fun r hr => ?_, sreg_zero u, ?_⟩
  · rw [hu]
    exact sreg_setSreg_ne v a hr
  · rw [hu, setSreg_eq]
    exact ⟨rfl, rfl, rfl, rfl, rfl, rfl⟩

/-! ### Pegs (R191 to R193) -/

/-- A threshold that the peg has reached is met at once, and subtracted if the instruction says so. -/
theorem waitCheck_of_le {s : State} {h : PegHome} {thr : Word} (hle : thr.toNat ≤ (s.peg h).toNat) (c x id : Nat) (sub : Bool) :
    s.waitCheck c x id h thr sub = (if sub then s.setPeg h (s.peg h - thr) else s, true) := by
  have hmet : thr ≤ s.peg h := hle
  rw [State.waitCheck, if_pos hmet]

section
variable {s : State} {core : CoreAddr} {x : Nat} {w : Word} {h : PegHome}

theorem next_pwait (hissue : Issues s core.toNat x w 0x28)
    (hpeg : s.pegOf core.toNat x ((imm16 w).toNat % 1024) = some h) (hlocal : h.isRemote = false)
    (hgood : s.badPegs.contains h = false)
    (hle : ((s.ctx core.toNat x).sreg (fB w)).toNat ≤ (s.peg h).toNat) {s1 : State}
    (hs1 : s1 = if w.getLsbD 10 then s.setPeg h (s.peg h - (s.ctx core.toNat x).sreg (fB w)) else s) :
    Next (.opPwait core) s (Retires s1 core.toNat x (s1.ctx core.toNat x)) := by
  have hnext := next_scalar (i := .opPwait) rfl hissue rfl
  simp only [wbits_pegId, hpeg, hlocal, hgood, waitCheck_of_le hle, Bool.false_eq_true, if_false] at hnext
  subst hs1
  exact hnext

theorem next_psig (hissue : Issues s core.toNat x w 0x29)
    (hpeg : s.pegOf core.toNat x ((imm16 w).toNat % 1024) = some h) :
    Next (.opPsig core) s (Retires (s.sendSignal { id := 0, home := h, amount := (s.ctx core.toNat x).sreg (fB w), engine := false
                                                   die := coreDie core.toNat, core := core.toNat, ctx := x
                                                   part := (s.partOfCore core.toNat).getD 255 })
      core.toNat x (s.ctx core.toNat x)) := by
  have hnext := next_scalar (i := .opPsig) rfl hissue rfl
  simp only [wbits_pegId, hpeg] at hnext
  exact hnext

theorem next_pread (hissue : Issues s core.toNat x w 0x2A)
    (hpeg : s.pegOf core.toNat x ((imm16 w).toNat % 1024) = some h) (hlocal : h.isRemote = false)
    (hgood : s.badPegs.contains h = false) :
    Next (.opPread core) s (Retires s core.toNat x ((s.ctx core.toNat x).setSreg (fA w) (s.peg h))) := by
  have hnext := next_scalar (i := .opPread) rfl hissue rfl
  simp only [wbits_pegId, hpeg, hlocal, hgood, Bool.false_eq_true, if_false] at hnext
  exact hnext

theorem next_end (hissue : Issues s core.toNat x w 0x2F) :
    Next (.opEnd core) s
      (Retires (s.depart core.toNat x) core.toNat x { s.ctx core.toNat x with st := .empty }) :=
  (next_scalar (i := .opEnd) rfl hissue rfl :)

end

/-- The order in which an idle scalar processor looks for a Ready context (R71). -/
def switchOrder (k : Core) : List Nat :=
  if k.rotate then [k.cur + 1, k.cur + 2, k.cur + 3, k.cur + 4].map (· % 4) else [0, 1, 2, 3]

theorem next_contextSwitch {s : State} {core : CoreAddr} {x : Nat} (hclock : s.clocked core.toNat = true)
    (hidle : s.running core.toNat = none)
    (hready : (switchOrder (s.core core.toNat)).find? (fun y => (s.ctx core.toNat y).st == .ready) = some x) :
    Next (.contextSwitch core) s (s.setCore core.toNat
      ({ s.core core.toNat with cur := x, rotate := false }.setCtx x
        { s.ctx core.toNat x with st := .running, progress := s.plumb })) := by
  have horder : (if (s.core core.toNat).rotate then (upto ((s.core core.toNat).cur + 1) 4).map (· % 4) else upto 0 4) =
      switchOrder (s.core core.toNat) := rfl
  change execContextSwitch core s = _
  simp only [execContextSwitch, horder, hclock, hidle, hready, Bool.not_true, Option.isSome_none, Bool.or_self,
    Bool.false_eq_true, if_false]

/-- Settles O3: the fetch brings each instruction to its effect, and the checks on its peg leave one branch. -/
theorem scalarPegOps : Obligations.ScalarPegOps := by
  unfold Obligations.ScalarPegOps
  refine ⟨?pwait, ?psig, ?pread, fun _ _ _ _ => next_end,
    fun s core x hclock hidle hready => next_contextSwitch hclock hidle hready⟩
  case pwait => exact fun s core x w h hissue hpeg hlocal hgood hle => next_pwait hissue hpeg hlocal hgood hle rfl
  case psig =>
    exact fun s core x w h hissue hpeg => ⟨_, next_psig hissue hpeg, retires_ctx_self _ _ _ (lt_four_of_issues hissue),
      _, rfl, rfl, rfl, rfl, rfl⟩
  case pread => exact fun s core x w h hissue hpeg hlocal hgood => next_pread hissue hpeg hlocal hgood

/-! ### Issue of a tile instruction (R70, R104, R159 to R163) -/

/-- The lines that an MMUL.AG asks for join those that the collective engine owes. -/
theorem addAg_eq (s : State) (c : Nat) (a : TileArgs) (ring : Nat) :
    ∃ ags n, s.addAg c a ring = { s with ags := ags, nextId := n } := by
  unfold State.addAg
  split
  · exact ⟨s.ags, s.nextId, rfl⟩
  · split
    · exact ⟨s.ags, s.nextId, rfl⟩
    · exact ⟨_, _, rfl⟩

/-- Without a stop index the context goes on after its tile instruction (R176). -/
theorem tileIssued_of_unmarked {s : State} {c x : Nat} (h : (s.ctx c x).stopAt = 0xFFFFFFFF#32) :
    s.tileIssued c x = s.setCtx c x
      { s.ctx c x with pc := (s.ctx c x).pc + 16#13, progress := s.plumb, index := (s.ctx c x).index + 1#32 } :=
  if_neg fun hmarked => hmarked.1 h

/-- The entry that a tile instruction of word 0 at the pc of context `x` puts into the tile queue. -/
def tileOf (s : State) (c x : Nat) (op : TileOp) (a : TileArgs) (sig : Option PegHome) : Tile :=
  { op := op, ctx := x, fmt := a.fmt, cls := a.cls, acc := a.acc, ofmt := a.ofmt, sig := sig, mc := a.mc
    m := a.m, k := a.k, n := a.n, ra := ((s.core c).ringAt a.sa.toNat).getD 0, rw := ((s.core c).ringAt a.sw.toNat).getD 0
    sc := a.sc.toNat, sx := a.sx.toNat, truss := a.rt.toNat, key := a.rk, keep := a.writes op, mode := (s.ctx c x).mode
    index := (s.ctx c x).index, off := (s.ctx c x).pc.toNat - (s.ctx c x).base.toNat, lcore := s.lcoreOf c
    epoch := match s.lcoreOf c with
      | some l => s.cepoch ((s.partOfCore c).getD 255) l
      | none => 0#8 }

/-- The tile joins the queue of its core, and an MMUL.AG asks for its lines. -/
def joinTile (s : State) (c : Nat) (a : TileArgs) (q : Tile) : State :=
  let s1 := s.setCore c { s.core c with queue := (s.core c).queue ++ [q] }
  if q.op == .ag then s1.addAg c a q.ra else s1

theorem joinTile_eq (s : State) (c : Nat) (a : TileArgs) (q : Tile) : ∃ ags n, joinTile s c a q =
    { s.setCore c { s.core c with queue := (s.core c).queue ++ [q] } with ags := ags, nextId := n } := by
  unfold joinTile
  split
  · exact addAg_eq ..
  · exact ⟨s.ags, s.nextId, rfl⟩

theorem joinTile_core (s : State) (c : Nat) (a : TileArgs) (q : Tile) :
    (joinTile s c a q).core c = { s.core c with queue := (s.core c).queue ++ [q] } := by
  obtain ⟨ags, n, hjoin⟩ := joinTile_eq s c a q
  rw [hjoin]
  exact State_setCore_core s c _

theorem joinTile_plumb (s : State) (c : Nat) (a : TileArgs) (q : Tile) : (joinTile s c a q).plumb = s.plumb := by
  obtain ⟨ags, n, hjoin⟩ := joinTile_eq s c a q
  rw [hjoin]
  rfl

theorem joinTile_ctx (s : State) (c x : Nat) (a : TileArgs) (q : Tile) : (joinTile s c a q).ctx c x = s.ctx c x := by
  rw [State.ctx, joinTile_core]
  rfl

/-- The checks pass and the queue has a place. -/
theorem tile_of_issues {s : State} {c x opc : Nat} {op : TileOp} {w0 : Word} {ws : Words3} {sig : Option PegHome}
    (hissue : IssuesLong s c x w0 ws opc) (hdef : opDefined opc = true) (hlegal0 : tileLegal0 w0 = true)
    (hlegal : tileLegal op w0 ws = true) (hranges : s.tileRanges c op (tileArgs (s.ctx c x) w0 ws) = true)
    (htruss : s.tileTruss c op (tileArgs (s.ctx c x) w0 ws) = true)
    (hfmt : op = .ag → (tileArgs (s.ctx c x) w0 ws).fmt ≠ 2) (hsig : s.sigPeg c x w0 = some sig)
    (hroom : (s.core c).queue.length < 4) :
    s.tile c opc op = (joinTile s c (tileArgs (s.ctx c x) w0 ws)
      (tileOf s c x op (tileArgs (s.ctx c x) w0 ws) sig)).tileIssued c x := by
  have hformat : ((op == .ag && (tileArgs (s.ctx c x) w0 ws).fmt == 2) ||
      !s.tileTruss c op (tileArgs (s.ctx c x) w0 ws)) = false := by
    simpa [htruss] using hfmt
  rw [State.tile, issueLong_of_issues hissue hdef hlegal0 hlegal]
  simp only [hranges, hformat, hsig, Nat.not_le.mpr hroom, Bool.not_true, Bool.false_eq_true, if_false]
  rfl

theorem tileIssue_of_exec {i : CoreAddr → Instr} {opc : Nat} {op : TileOp} (hdef : opDefined opc = true)
    (hexec : ∀ core s, exec (i core) s = .next (s.tile core.toNat opc op)) : TileIssue i opc op := by
  intro s core x w0 ws sig hissue hlegal0 hlegal c v a hranges htruss hfmt hsig hroom hstop
  have hx : x < 4 := lt_four_of_issuesLong hissue
  have hjoin : Next (i core) s ((joinTile s c a (tileOf s c x op a sig)).tileIssued c x) :=
    (hexec core s).trans (congrArg Host.Outcome.next
      (tile_of_issues hissue hdef hlegal0 hlegal hranges htruss hfmt hsig hroom))
  rw [tileIssued_of_unmarked (by rw [joinTile_ctx]; exact hstop), joinTile_ctx, joinTile_plumb] at hjoin
  refine ⟨_, tileOf s c x op a sig, hjoin, ?queue, rfl, rfl, rfl, rfl, rfl, rfl, rfl, rfl, rfl, rfl, rfl, rfl, rfl, rfl, ?ctx⟩
  case queue =>
    rw [setCtx_core_self, joinTile_core]
    rfl
  case ctx => exact State_setCtx_ctx _ _ _ hx

/-! ### CSEND (R165) -/

/-- The send that context `x` issues for these register values. -/
def csendOf (s : State) (c x p : Nat) (rt rs rl rk : Word) (sig : Option PegHome) : Csend :=
  { id := s.nextId, core := c, ctx := x, part := p, lcore := s.lcoreOf c
    epoch := match s.lcoreOf c with
      | some l => s.cepoch p l
      | none => 0#8
    truss := rt.toNat, base := rs.toNat, len := rl.toNat, key := rk, sig := sig }

theorem spadBaseOk_of_lt {w : Word} (hlt : w.toNat < 65536) (halign : w.toNat % 64 = 0) : spadBaseOk w = true :=
  decide_eq_true ⟨hlt, halign⟩

theorem next_csend {s : State} {core : CoreAddr} {x p : Nat} {tr : Truss} {w0 : Word} {ws : Words3} {sig : Option PegHome}
    {r : Nat → Word} (hr : ∀ lo, r lo = (s.ctx core.toNat x).sreg (BitVec.ofNat 5 (wbits ws.1 (lo + 4) lo)))
    (hissue : IssuesLong s core.toNat x w0 ws 0x39) (hlegal0 : xferLegal0 w0 = true)
    (hws : (wbits ws.1 31 20 == 0 && ws.2.1 == 0#32 && ws.2.2 == 0#32) = true)
    (htruss : (r 0).toNat < 4096) (hbase : spadBaseOk (r 5) = true) (hlen : (r 10).toNat % 64 = 0)
    (hmin : 64 ≤ (r 10).toNat) (hfit : (r 5).toNat + (r 10).toNat ≤ 65536) (hpart : s.partOfCore core.toNat = some p)
    (hentry : s.trussAt p (r 0).toNat = some tr) (hmember : (s.memberOf p core.toNat tr).isSome = true)
    (hsig : s.sigPeg core.toNat x w0 = some sig) (hroom : (s.sendsOf core.toNat x).length < 8) :
    Next (.csend core) s
      ({ s with sends := s.sends ++ [csendOf s core.toNat x p (r 0) (r 5) (r 10) (r 15) sig], nextId := s.nextId + 1 }.setCtx
        core.toNat x ((s.ctx core.toNat x).next16 s.plumb)) := by
  have hranges : (decide ((r 0).toNat < 4096) && spadBaseOk (r 5) && (r 10).toNat % 64 == 0 && decide (64 ≤ (r 10).toNat) &&
      decide ((r 5).toNat + (r 10).toNat ≤ 65536)) = true := by
    simp [htruss, hbase, hlen, hmin, hfit]
  change execCsend core s = _
  rw [execCsend, issueLong_of_issues hissue rfl hlegal0 hws]
  simp only [← hr, hranges, hpart, hentry, Option.isNone_eq_false_iff.2 hmember, hsig, Nat.not_le.mpr hroom, Bool.not_true,
    Bool.false_eq_true, if_false]
  rfl

/-- Settles O6: the four tile instructions are one issue with four operations; the checks of CSEND leave its send. -/
theorem tileInstructionsIssue : Obligations.TileInstructionsIssue := by
  unfold Obligations.TileInstructionsIssue
  have htile {i : CoreAddr → Instr} {opc : Nat} {op : TileOp} := tileIssue_of_exec (i := i) (opc := opc) (op := op)
  refine ⟨htile rfl fun _ _ => rfl, htile rfl fun _ _ => rfl, htile rfl fun _ _ => rfl, htile rfl fun _ _ => rfl, ?csend⟩
  intro s core x p tr w0 ws sig hissue hlegal0 hw1 hw2 hw3 c v r htruss hbase hlen hmin hfit hpart hentry hmember hsig hroom
  have hws : (wbits ws.1 31 20 == 0 && ws.2.1 == 0#32 && ws.2.2 == 0#32) = true := by
    have hhigh : wbits ws.1 31 20 = 0 := by rw [wbits, bitsOf, Nat.div_eq_of_lt hw1, Nat.zero_mod]
    simp [hhigh, hw2, hw3]
  have hspad : spadBaseOk (r 5) = true := spadBaseOk_of_lt (by omega) hbase
  exact ⟨_, _, next_csend (r := r) (fun lo => by rw [wbits_reg]) hissue hlegal0 hws htruss hspad hlen hmin hfit hpart hentry
    hmember hsig hroom, rfl, rfl, rfl, rfl, rfl, rfl, rfl, rfl, rfl, State_setCtx_ctx _ _ _ (lt_four_of_issuesLong hissue)⟩

/-! ### Operations that leave every core -/

theorem core_eq_of_cores {s t : State} (h : t.cores = s.cores) (c : Nat) : t.core c = s.core c := by
  rw [State.core, State.core, h]

/-- A fold of operations that leave every core leaves every core. -/
theorem foldl_cores {α : Type} {f : State → α → State} (hf : ∀ s a, (f s a).cores = s.cores) (l : List α) (s : State) :
    (l.foldl f s).cores = s.cores :=
  List.foldlRecOn l f (motive := fun u => u.cores = s.cores) rfl fun u hu a _ => (hf u a).trans hu

/-! ### Tiles on the array and after it (R70, R98, R106) -/

section
variable {s : State} {core : CoreAddr}

theorem next_tileStart {q : Tile} {l : List Tile} (hclock : s.clocked core.toNat = true) (hfree : (s.core core.toNat).run = none)
    (hqueue : (s.core core.toNat).queue = q :: l) (hacc : (s.core core.toNat).accBusy q = false) :
    Next (.tileStart core) s
      (s.setCore core.toNat { s.core core.toNat with queue := l, run := some { tile := q, lastLine := s.plumb } }) := by
  change execTileStart core s = _
  simp only [execTileStart, hclock, hfree, hqueue, hacc, Bool.not_true, Option.isSome_none, Bool.or_self, Bool.false_eq_true,
    if_false]

/-- The rows of the oldest instruction are drained, and the engine holds none of a fused send. -/
theorem next_tileComplete {u : Run} {l : List Run} (hclock : s.clocked core.toNat = true)
    (htail : (s.core core.toNat).tail = u :: l) (hbanks : u.banks = []) (hruns : u.stopped = false)
    (hsent : (u.tile.fused && (aget s.supplies core.toNat).isSome) = false) :
    Next (.tileComplete core) s
      ((((s.setCore core.toNat { s.core core.toNat with tail := l }).setCtx core.toNat u.tile.ctx
        { s.ctx core.toNat u.tile.ctx with flags := (s.ctx core.toNat u.tile.ctx).flags ||| u.flags }).signalDone core.toNat
          u.tile.ctx u.tile.lcore u.tile.epoch u.tile.sig).tileEnd core.toNat u) := by
  change execTileComplete core s = _
  simp only [execTileComplete, hclock, htail, hbanks, hruns, hsent, List.isEmpty_nil, Bool.not_true, Bool.or_self,
    Bool.false_eq_true, if_false]

/-- MMUL and MMUL.AG send nothing; a fused send that the engine took is gone. -/
theorem not_sending {u : Run} {o : Option Supply} (h : u.tile.op = .mmul ∨ u.tile.op = .ag ∨ o = none) :
    (u.tile.fused && o.isSome) = false := by
  rcases h with h | h | h <;> simp [Tile.fused, h]

end

/-! ### A ring closes (R226, R251) -/

theorem markGranule_cores (s : State) (g : Nat) (m : Bool) : (s.markGranule g m).cores = s.cores := rfl

theorem ringMarks_cores (s : State) (c : Nat) (g : Ring) (slots : List Nat) : (s.ringMarks c g slots).cores = s.cores :=
  foldl_cores (fun u q => markGranule_cores u q _) _ s

/-- The requests to close ring `r` of core `c` are complete. -/
def closeReady (c r : Nat) (l : List Xfer) : List Xfer :=
  l.map fun x => if x.core = c ∧ x.ring = r ∧ dfield x.desc 0 1 = 9 then { x with ready := true } else x

theorem ready_of_mem_closeReady {c r : Nat} {l : List Xfer} {y : Xfer} (h : y ∈ closeReady c r l) (hcore : y.core = c)
    (hring : y.ring = r) (hkind : dfield y.desc 0 1 = 9) : y.ready = true := by
  obtain ⟨x, -, rfl⟩ := List.mem_map.1 h
  by_cases hx : x.core = c ∧ x.ring = r ∧ dfield x.desc 0 1 = 9
  · rw [if_pos hx]
  · rw [if_neg hx] at hcore hring hkind
    exact absurd ⟨hcore, hring, hkind⟩ hx

/-- The state in which the tracker is free again and the granules under it carry its marks. -/
def ringClosed (s : State) (c r : Nat) : State :=
  let k := s.core c
  let g := k.rings.getD r {}
  let keep := k.slotPoison.filter fun o => decide (o * 16 < g.base ∨ g.base + g.lines * lineBytes g.lfmt ≤ o * 16)
  (s.setCore c { k with rings := k.rings.setIfInBounds r {}, slotPoison := keep }).ringMarks c g k.slotPoison

theorem ringClosed_ring (s : State) (c : Nat) {r : Nat} (hr : r < 8) :
    ((ringClosed s c r).core c).rings.getD r {} = {} := by
  rw [ringClosed, core_eq_of_cores (ringMarks_cores ..), State_setCore_core]
  exact vget_set_self _ _ _ hr

theorem next_ringCloseComplete {s : State} {core : CoreAddr} {ring : BitVec 3} {g : Ring}
    (hg : (s.core core.toNat).rings.getD ring.toNat {} = g) (hopen : g.opened = true) (hclosing : g.closing.isSome = true)
    (hcounts : g.prod = g.cons) (hnamed : s.ringNamed core.toNat ring.toNat = false) (hclock : s.clocked core.toNat = true) :
    Next (.ringCloseComplete core ring) s { ringClosed s core.toNat ring.toNat with
      xfers := closeReady core.toNat ring.toNat (ringClosed s core.toNat ring.toNat).xfers } := by
  have hdue : (!g.opened || g.closing.isNone || g.prod != g.cons || s.ringNamed core.toNat ring.toNat ||
      !s.clocked core.toNat) = false := by
    simp [hopen, Option.isNone_eq_false_iff.2 hclosing, hcounts, hnamed, hclock]
  subst hg
  change execRingCloseComplete core ring s = _
  rw [execRingCloseComplete, if_neg (ne_true_of_eq_false hdue)]
  rfl

/-! ### Transfers and sends complete (R98, R166, R167) -/

theorem next_sendComplete {s : State} {id : Nat} {g : Csend} (hfind : s.sends.find? (fun y => y.id == id) = some g)
    (hdone : g.len ≤ g.pos) :
    Next (.transferComplete true id) s
      (({ s with sends := s.sends.filter fun y => y.id != id }.signalDone g.core g.ctx g.lcore g.epoch g.sig).ctxReclaim
        g.core g.ctx) := by
  change execTransferComplete true id s = _
  simp only [execTransferComplete, hfind, Nat.not_lt.mpr hdone, if_true, if_false]

/-- The transfer leaves its place: its flags join those of the context and it is counted; a GATHER is counted by its engine,
too. -/
def xferCounted (s : State) (y : Xfer) (id : Nat) : State :=
  let v := s.ctx y.core y.ctx
  let s1 := ((s.dropXfer id).setCtx y.core y.ctx { v with flags := v.flags ||| y.flags }).count .ldrXferCnt (bayOf y.core) 1
  if dfield y.desc 0 1 = 0x10 then s1.count .spnTblReqCnt y.ring 1 else s1

theorem next_xferComplete {s : State} {id : Nat} {y : Xfer} (hfind : s.xfers.find? (fun y => y.id == id) = some y)
    (hready : y.ready = true) (hclock : y.moves = true → s.clocked y.core = true)
    (hpress : s.backPressed y.part (if y.moves then 6 else 7) = false) :
    Next (.transferComplete false id) s
      (State.beginAll (bayOf y.core) 16
        (((xferCounted s y id).signalDone y.core y.ctx y.lcore y.epoch y.sig).ctxReclaim y.core y.ctx)) := by
  have hdue : (!y.ready || (y.moves && !s.clocked y.core) || s.backPressed y.part (if y.moves then 6 else 7)) = false := by
    simpa [hready, hpress] using hclock
  change execTransferComplete false id s = _
  simp only [execTransferComplete, hfind, hdue, Bool.false_eq_true, if_false]
  rfl

/-- Settles O9: each command finds its unit ready, and what it does is one branch. -/
theorem tilesAndTransfersComplete : Obligations.TilesAndTransfersComplete := by
  unfold Obligations.TilesAndTransfersComplete
  refine ⟨?start, ?complete, ?close, ?send, ?xfer⟩
  case start => exact fun s core q r hclock hfree hqueue hacc => next_tileStart hclock hfree hqueue hacc
  case complete =>
    exact fun s core u r hclock htail hbanks hruns hop => next_tileComplete hclock htail hbanks hruns (not_sending hop)
  case close =>
    intro s core ring c g hopen hclosing hcounts hnamed hclock
    exact ⟨_, next_ringCloseComplete rfl hopen hclosing hcounts hnamed hclock, ringClosed_ring s c ring.isLt,
      fun y hmem => ready_of_mem_closeReady hmem⟩
  case send => exact fun s id g hfind hdone => next_sendComplete hfind hdone
  case xfer => exact fun s id y hfind hready hclock hpress => next_xferComplete hfind hready hclock hpress

/-! ### Steps of the array (R41 to R46) -/

section
variable {s : State} {core : CoreAddr} {r : Run} (hclock : s.clocked core.toNat = true) (hrun : (s.core core.toNat).run = some r)
  (errs : List ArrayFault)
include hclock hrun

theorem next_arrayLineRead : Next (.arrayLineRead core errs) s
    (if r.close then s.arrayClose core.toNat r errs else if r.pre then s.arrayLine core.toNat r errs
      else s.arrayFirst core.toNat r) := by
  change execArrayLineRead core errs s = _
  simp only [execArrayLineRead, hclock, hrun, Bool.not_true, Bool.false_eq_true, if_false]

theorem next_firstWeightLine {s1 : State} {w : Line} (hclose : r.close = false) (hpre : r.pre = false)
    (hread : s.ringRead core.toNat r.tile.rw r.tile.lfmt = some (s1, w)) :
    Next (.arrayLineRead core errs) s
      (s1.setCore core.toNat { s1.core core.toNat with run := some { r with pre := true, wl := [w], lastLine := s.plumb } }) := by
  have hfirst := next_of_neg (next_of_neg (next_arrayLineRead hclock hrun errs) (ne_true_of_eq_false hclose))
    (ne_true_of_eq_false hpre)
  simpa only [State.arrayFirst, hread] using hfirst

end

/-! ### A row drains (R53 to R56) -/

/-- The elements of the row that leaves a bank. -/
def drainRow (r : Run) (b : Bank) : List ((Nat × Bool) × FpFlags) := (b.ent.getD b.drained []).map (drainElem r.tile)

/-- The run without the row: its bank is gone with its last one, its flags have joined. -/
def afterDrain (r : Run) (b : Bank) : Run :=
  { r with banks := if b.drained + 1 = b.rows then r.banks.tail else { b with drained := b.drained + 1 } :: r.banks.tail
           flags := (drainRow r b).foldl (fun f e => f ||| e.2) r.flags }

/-- A row of a tile that stays in the scratchpad is written there. -/
def pokeRow (s : State) (c : Nat) (r : Run) (b : Bank) : State :=
  s.pokeP (spadAddr c (r.tile.sc + ((b.chunk * r.tile.mc + b.drained) * r.tile.n + b.npass * s.nwidth c) * esize r.tile.ofmt))
    ((drainRow r b).flatMap fun e => (leBytes (esize r.tile.ofmt) e.1.1).map fun y => (y, e.1.2))

/-- A tile that no fused send takes, without a NaN trap. -/
theorem next_rowDrain {s : State} {core : CoreAddr} {r : Run} {b : Bank} (hclock : s.clocked core.toNat = true)
    (hfull : (s.core core.toNat).oldestFull = some (r, b)) (hop : r.tile.op = .mmul) (hkeep : r.tile.keep = true)
    (htrap : r.tile.nanTrap = false) :
    Next (.rowDrain core) s ((pokeRow s core.toNat r b).setCore core.toNat
      (((pokeRow s core.toNat r b).core core.toNat).putOldest (afterDrain r b))) := by
  have hplain : r.tile.fused = false := by simp [Tile.fused, hop]
  change execRowDrain core s = _
  simp only [execRowDrain, hclock, hfull, hplain, hkeep, htrap, Bool.not_true, Bool.false_and, Bool.or_false,
    Bool.false_eq_true, if_false, if_true]
  rfl

/-! ### A loader writes a line (R227 to R232) -/

theorem latchBy_cores (s : State) (ov : Bool) (k : RKey) (rank : Nat) (st : Word) (others : List (RKey × Word)) :
    (s.latchBy ov k rank st others).cores = s.cores := by
  have hothers : (others.foldl (fun s kv => s.setReg kv.1 kv.2) s).cores = s.cores :=
    foldl_cores (f := fun s kv => s.setReg kv.1 kv.2) (fun _ _ => rfl) others s
  simp [State.latchBy, apply_ite State.cores, hothers]

theorem event_cores (s : State) (d dom code part : Nat) (src : Word) (a0 a1 : Nat) :
    (s.event d dom code part src a0 a1).cores = s.cores := by
  unfold State.event State.emit
  split <;> rfl

theorem fmtError_cores (s : State) (x : Xfer) (e : Nat × Nat × Nat) : (s.fmtError x e).cores = s.cores := by
  obtain ⟨va, r, w⟩ := e
  exact (event_cores ..).trans (latchBy_cores ..)

theorem ldrCount_cores (s : State) (c bytes clamps : Nat) : (s.ldrCount c bytes clamps).cores = s.cores := rfl

theorem layVec_cores (s : State) (x : Xfer) (lf nmax : Nat) (v : Vec) (p : Nat) : (s.layVec x lf nmax v p).cores = s.cores :=
  foldl_cores (fun u e => fmtError_cores u x e) _ _

/-- The ring of a stream after a line: one more produced, the next slot. -/
def lineProduced (g : Ring) : Ring := { g with prod := g.prod + 1#32, wslot := (g.wslot + 1) % g.lines }

/-- The shape of the tile that a stream transfer feeds (R228, R229). -/
def streamShape (s : State) (y : Xfer) : Shape :=
  let d := Desc.ofBytes y.desc
  ⟨d.mc, d.rows, d.cols, d.n, kdepth (if d.dfmt = 3 then 2 else 0) d.lf.cls, s.nwidth y.core⟩

/-- The line of a stream that its transfer produces next, and the vectors whose blocks it lays first (R228, R229). -/
def nextLine (s : State) (y : Xfer) (lf : Nat) : Line × List (Vec × Nat) :=
  (Desc.ofBytes y.desc).streamLine (streamShape s y) lf y.prep y.lines

/-- The next line of a transfer stands in its slot with its mark and side byte, and the tracker counts it (R227, R251). -/
def writeLine (s : State) (y : Xfer) (g : Ring) : State :=
  let l := (nextLine s y g.lfmt).1
  let o := g.base + g.wslot * lineBytes g.lfmt
  let s1 := (s.pokeBytes (spadAddr y.core o) l.data).markSlot y.core (o / 16) l.poison
  let k := s1.core y.core
  s1.setCore y.core { k with rings := k.rings.setIfInBounds y.ring (lineProduced g), side := aset k.side (o / 16) l.side }

theorem writeLine_ring (s : State) {y : Xfer} (g : Ring) (hring : y.ring < 8) :
    ((writeLine s y g).core y.core).rings.getD y.ring {} = lineProduced g := by
  rw [writeLine, State_setCore_core]
  exact vget_set_self _ _ _ hring

/-- The loader counts the bytes of a line and what its blocks add (R128, R130). -/
def countLine (s : State) (y : Xfer) (lf : Nat) (lay : List (Vec × Nat)) : State :=
  lay.foldl (fun s e => s.layVec y lf (Desc.ofBytes y.desc).lf.nmax e.1 e.2) (s.ldrCount y.core (lineBytes lf) 0)

theorem countLine_cores (s : State) (y : Xfer) (lf : Nat) (lay : List (Vec × Nat)) : (countLine s y lf lay).cores = s.cores := by
  unfold countLine
  refine (foldl_cores (fun u e => ?_) lay _).trans (ldrCount_cores ..)
  exact layVec_cores u y lf _ e.1 e.2

/-- The transfer is the first of its ring, its loader may write and the ring has room. -/
theorem next_lineProduce {s : State} {id : Nat} {y : Xfer} {g : Ring} (hg : (s.core y.core).rings.getD y.ring {} = g)
    (hfind : s.xfers.find? (fun z => z.id == id) = some y) (hbegun : y.begun = true) (hready : y.ready = false)
    (hfirst : ((s.xfers.filter fun z => z.core == y.core && z.ring == y.ring && !z.ready &&
      (dfield z.desc 0 1 == 2 || dfield z.desc 0 1 == 3)).head?.map (·.id)) = some id)
    (hclock : s.clocked y.core = true) (hpress : s.backPressed y.part 6 = false)
    (hroom : (g.prod - g.cons).toNat < g.lines) :
    Next (.lineProduce id) s ((countLine (writeLine s y g) y g.lfmt (nextLine s y g.lfmt).2).putXfer
      { y with lines := y.lines + 1, ready := decide (y.lines + 1 = (Desc.ofBytes y.desc).streamLines (streamShape s y))
               t0 := s.plumb }) := by
  subst hg
  change execLineProduce id s = _
  simp only [execLineProduce, hfind, hbegun, hready, hfirst, hclock, hpress, Nat.not_le.mpr hroom, bne_self_eq_false,
    Bool.not_true, Bool.or_self, Bool.false_eq_true, if_false]
  rfl

/-- Settles O10: the flags of the run choose the step of the array, a plain drained row reaches memory alone, and of what a
line changes only its own write reaches the tracker. -/
theorem arrayLinesAndRows : Obligations.ArrayLinesAndRows := by
  unfold Obligations.ArrayLinesAndRows
  refine ⟨?first, ?line, ?close, ?drain, ?produce⟩
  case first =>
    exact fun s s1 core errs r w hclock hrun hclose hpre hread => next_firstWeightLine hclock hrun errs hclose hpre hread
  case line =>
    exact fun s core errs r hclock hrun hclose hpre =>
      next_of_pos (next_of_neg (next_arrayLineRead hclock hrun errs) (ne_true_of_eq_false hclose)) hpre
  case close => exact fun s core errs r hclock hrun hclose => next_of_pos (next_arrayLineRead hclock hrun errs) hclose
  case drain =>
    exact fun s core r b hclock hfull hop hkeep htrap => ⟨_, next_rowDrain hclock hfull hop hkeep htrap, rfl, rfl⟩
  case produce =>
    intro s id y c g mine hfind hbegun hready hfirst hclock hpress hroom hring
    refine ⟨_, next_lineProduce rfl hfind hbegun hready hfirst hclock hpress hroom, ?_⟩
    have hcores := core_eq_of_cores (countLine_cores (writeLine s y g) y g.lfmt (nextLine s y g.lfmt).2) c
    have hline := writeLine_ring s g hring
    exact congrArg Ring.prod ((congrArg (fun k : Core => k.rings.getD y.ring {}) hcores).trans hline)

end Sys2Proof.Proofs
end

section
/-! Proofs about the arithmetic (03), and about the context window, modes, stops and resets of contexts (05, 14). -/
namespace Sys2Proof.Proofs
open Sys2Proof Sys2Proof.Machine Sys2Proof.Spec Sys2Proof.Laws

/-! ### Encodings of a NaN (R80, R89) -/

/-- The exponent field is all ones and the fraction is not zero. -/
theorem isNan_iff (f : FFmt) (w : Nat) :
    f.isNan w = true ↔ w / 2 ^ f.fbits % 2 ^ f.ebits = 2 ^ f.ebits - 1 ∧ w % 2 ^ f.fbits ≠ 0 := by
  simp only [FFmt.isNan, FFmt.decode, beq_iff_eq]
  split
  next hexp =>
    split
    next hfrac => simp only [hfrac, reduceCtorEq, ne_eq, not_true_eq_false, and_false]
    next hfrac => simp only [hexp, hfrac, ne_eq, not_false_eq_true, and_self]
  next hexp =>
    split
    next => simp only [hexp, reduceCtorEq, false_and]
    next => simp only [hexp, reduceCtorEq, false_and]

/-- A zero and an infinity have the fraction 0. -/
theorem not_isNan_of_dvd {f : FFmt} {w : Nat} (h : 2 ^ f.fbits ∣ w) : f.isNan w = false :=
  Bool.eq_false_iff.2 fun hnan => ((isNan_iff f w).1 hnan).2 (Nat.mod_eq_zero_of_dvd h)

theorem fbits_dvd_signBit (f : FFmt) : 2 ^ f.fbits ∣ f.signBit := Nat.pow_dvd_pow 2 (Nat.le_add_left ..)

theorem fbits_dvd_zeroEnc (f : FFmt) (neg : Bool) : 2 ^ f.fbits ∣ f.zeroEnc neg := by
  cases neg
  case false => exact Nat.dvd_zero _
  case true => exact fbits_dvd_signBit f

theorem not_isNan_zeroEnc (f : FFmt) (neg : Bool) : f.isNan (f.zeroEnc neg) = false :=
  not_isNan_of_dvd (fbits_dvd_zeroEnc f neg)

theorem not_isNan_infEnc (f : FFmt) (neg : Bool) : f.isNan (f.infEnc neg) = false :=
  not_isNan_of_dvd (Nat.dvd_add (Nat.dvd_mul_left ..) (fbits_dvd_zeroEnc f neg))

/-- Below the exponent mask the exponent field is not all ones, whatever the sign. -/
theorem not_isNan_of_lt {f : FFmt} {enc : Nat} (neg : Bool) (h : enc < f.expMask) : f.isNan (f.zeroEnc neg + enc) = false := by
  have hexp : enc / 2 ^ f.fbits < 2 ^ f.ebits - 1 := Nat.div_lt_of_lt_mul (Nat.mul_comm .. ▸ h)
  have hfield : (f.zeroEnc neg + enc) / 2 ^ f.fbits % 2 ^ f.ebits = enc / 2 ^ f.fbits := by
    have hfits : enc / 2 ^ f.fbits % 2 ^ f.ebits = enc / 2 ^ f.fbits := Nat.mod_eq_of_lt (Nat.lt_of_lt_pred hexp)
    cases neg
    case false => rw [show f.zeroEnc false = 0 from rfl, Nat.zero_add, hfits]
    case true =>
      have hsign : f.zeroEnc true = 2 ^ f.fbits * 2 ^ f.ebits := (Nat.pow_add ..).trans (Nat.mul_comm ..)
      rw [hsign, Nat.mul_add_div (Nat.two_pow_pos _), Nat.add_mod_left, hfits]
  exact Bool.eq_false_iff.2 fun hnan => Nat.ne_of_lt hexp (hfield ▸ ((isNan_iff f _).1 hnan).1)

/-- A rounded value is an infinity from the exponent mask on, and below it has its sign (R86). -/
theorem round_of_ne_zero (f : FFmt) (neg : Bool) {mag : Nat} (exp : Int) (h : mag ≠ 0) :
    ∃ enc, (f.round neg mag exp).1 = if f.expMask ≤ enc then f.infEnc neg else f.zeroEnc neg + enc := by
  simp only [FFmt.round, if_neg h, apply_ite Prod.fst, ite_self]
  exact ⟨_, rfl⟩

theorem not_isNan_round (f : FFmt) (neg : Bool) (mag : Nat) (exp : Int) : f.isNan (f.round neg mag exp).1 = false := by
  by_cases hzero : mag = 0
  · rw [FFmt.round, if_pos hzero]
    exact not_isNan_zeroEnc f neg
  · obtain ⟨enc, henc⟩ := round_of_ne_zero f neg exp hzero
    rw [henc]
    split
    next => exact not_isNan_infEnc f neg
    next hlt => exact not_isNan_of_lt neg (Nat.lt_of_not_le hlt)

/-! ### Conversions (R90, R94, R101) -/

/-- An encoding is the canonical NaN of its format or no NaN. -/
def CanonicalNan (f : FFmt) (w : Nat) : Prop := f.isNan w = true → w = f.nan

theorem canonicalNan_nan (f : FFmt) : CanonicalNan f f.nan := fun _ => rfl

theorem canonicalNan_of_not_isNan {f : FFmt} {w : Nat} (h : f.isNan w = false) : CanonicalNan f w :=
  fun hnan => absurd hnan (ne_true_of_eq_false h)

theorem canonicalNan_convertEnc (src dst : FFmt) (w : Nat) : CanonicalNan dst (convertEnc src dst w).1 := by
  unfold convertEnc
  split
  next => exact canonicalNan_nan dst
  next n _ => exact canonicalNan_of_not_isNan (not_isNan_infEnc dst n)
  next n m e _ => exact canonicalNan_of_not_isNan (not_isNan_round dst n m e)

/-- What the exit rule flushes becomes a zero. -/
theorem canonicalNan_exit {f : FFmt} {w : Nat} (h : CanonicalNan f w) (den : Bool) : CanonicalNan f (f.exit den w).1 := by
  unfold FFmt.exit
  split
  next => exact canonicalNan_of_not_isNan (not_isNan_of_dvd (Nat.dvd_mul_left_of_dvd (fbits_dvd_signBit f) _))
  next => exact h

theorem canonicalNan_drainConvert (dst : FFmt) (den : Bool) (w : Word) : CanonicalNan dst (drainConvert dst den w).1 :=
  canonicalNan_exit (canonicalNan_convertEnc .fp32 dst w.toNat) den

theorem canonicalNan_loaderConvert (src dst : FFmt) (den : Bool) (w : Nat) :
    CanonicalNan dst (loaderConvert src dst den w).1 := by
  unfold loaderConvert
  split
  next => exact canonicalNan_nan dst
  next =>
    simp only [apply_ite Prod.fst]
    split
    next => exact canonicalNan_convertEnc src dst _
    next => exact canonicalNan_exit (canonicalNan_convertEnc src dst _) den

/-! ### Sums and cells (R82, R85, R87) -/

theorem eq_nan32_of_canonicalNan {r : Word} (h : CanonicalNan .fp32 r.toNat) (hnan : FFmt.fp32.isNan r.toNat = true) :
    r = nan32 :=
  BitVec.eq_of_toNat_eq (h hnan)

theorem canonicalNan_nan32 : CanonicalNan .fp32 nan32.toNat := canonicalNan_nan .fp32

theorem canonicalNan_inf32 (neg : Bool) : CanonicalNan .fp32 (inf32 neg).toNat := by
  cases neg <;> exact canonicalNan_of_not_isNan (by decide)

/-- A word holds every bit that the format reads. -/
theorem isNan_ofNat (w : Nat) : FFmt.fp32.isNan (BitVec.ofNat 32 w).toNat = FFmt.fp32.isNan w := by
  have hexp : w % 2 ^ 32 / 2 ^ 23 % 2 ^ 8 = w / 2 ^ 23 % 2 ^ 8 := by omega
  have hfrac : w % 2 ^ 32 % 2 ^ 23 = w % 2 ^ 23 := by omega
  rw [Bool.eq_iff_iff, isNan_iff, isNan_iff, BitVec.toNat_ofNat]
  simp only [FFmt.fp32, hexp, hfrac]

theorem canonicalNan_rneFp32 (neg : Bool) (mag : Nat) (exp : Int) : CanonicalNan .fp32 (rneFp32 neg mag exp).1.toNat :=
  canonicalNan_of_not_isNan ((isNan_ofNat _).trans (not_isNan_round .fp32 neg mag exp))

theorem canonicalNan_addFV (x y : FV) : CanonicalNan .fp32 (addFV x y).1.toNat := by
  unfold addFV
  split
  next => exact canonicalNan_nan32
  next => exact canonicalNan_nan32
  next a _ =>
    split
    next => exact canonicalNan_inf32 a
    next => exact canonicalNan_nan32
  next a _ _ _ => exact canonicalNan_inf32 a
  next b => exact canonicalNan_inf32 b
  next =>
    simp only
    split
    next =>
      split
      next => exact canonicalNan_of_not_isNan (by decide)
      next => exact canonicalNan_of_not_isNan (by decide)
    next => exact canonicalNan_rneFp32 _ _ _

theorem canonicalNan_cell (a w : FV) (s : Word) : CanonicalNan .fp32 (cell a w s).1.toNat := by
  unfold cell
  split
  next => exact canonicalNan_nan32
  next =>
    split
    next => exact canonicalNan_nan32
    next p _ _ _ => exact canonicalNan_addFV p (fv32 s)

/-- Settles O4: a conversion gives the canonical NaN, an infinity or a rounded value, a cell and a sum likewise, and the
exit rule makes no NaN. -/
theorem nanResultsAreCanonical : Obligations.NanResultsAreCanonical := by
  unfold Obligations.NanResultsAreCanonical
  refine ⟨fun x y => ?sum, fun f a w x _ => ?cell, fun src dst den w _ => ?loader, fun den w => ?drain⟩
  case sum => exact eq_nan32_of_canonicalNan (canonicalNan_addFV (fv32 x) (fv32 y))
  case cell => exact eq_nan32_of_canonicalNan (canonicalNan_cell (f.decode a) (f.decode w) x)
  case loader =>
    have hload := canonicalNan_loaderConvert src dst den w
    refine ⟨?_, ?_, ?_⟩ <;> (rintro rfl; exact hload)
  case drain =>
    have hdrain (dst : FFmt) := canonicalNan_drainConvert dst den w
    exact ⟨hdrain .fp32, hdrain .bf16, hdrain .fp16⟩

/-! ### BAY_COMMAND_DONE and HELD_START_RELEASE (R170, R171, R394) -/

theorem next_bayCommandDone {s : State} {bay : Nat} {b : BayCmd} (hcmd : aget s.bays bay = some b)
    (hruns : s.bentRuns (bay / 16) = true) :
    let s1 := { s with bays := adel s.bays bay }.setFld ⟨.bayCsCmd, bay, 0⟩ 8 8 0
    let s2 := if b.result = 0 then s1 else s1.count .bayCsRejectCnt bay 1
    Next (.bayCommandDone bay) s (s2.cmdDone ⟨.bayCsStatus, bay, 0⟩ b.result 0 0 (s2.partOfBay bay)) := by
  change execBayCommandDone bay s = _
  simp only [execBayCommandDone, hcmd, hruns, Bool.not_true, Bool.false_eq_true, if_false]

/-- An Empty context starts, a Stopped one resumes, once nothing holds it. -/
theorem next_heldStartRelease {s : State} {core : CoreAddr} {x : BitVec 2} {v : Ctx}
    (hheld : (s.ctx core.toNat x.toNat).heldStart = true) (hwork : s.outstanding core.toNat x.toNat = false)
    (hsub : s.pendingSub.contains core.toNat = false) (hclock : s.clocked core.toNat = true)
    (hst : (s.ctx core.toNat x.toNat).st = .empty ∧ v = (s.ctx core.toNat x.toNat).started s.plumb ∨
      (s.ctx core.toNat x.toNat).st = .stopped ∧ v = (s.ctx core.toNat x.toNat).resumed s.plumb) :
    Next (.heldStartRelease core x) s (s.setCtx core.toNat x.toNat v) := by
  change execHeldStartRelease core x s = _
  simp only [execHeldStartRelease, State.mustHold, hheld, hwork, hsub, hclock, Bool.not_true, Bool.or_self,
    Bool.false_eq_true, if_false]
  rcases hst with ⟨h, rfl⟩ | ⟨h, rfl⟩ <;> simp only [h]

/-! ### Writes of the context window (R175, R191) -/

theorem not_inRun_of_empty_or_stopped {v : Ctx} (hst : v.st = .empty ∨ v.st = .stopped) : v.inRun ≠ true := by
  rcases hst with h | h <;> (rw [Ctx.inRun, h]; decide)

/-- The write reaches the selected context and its register takes it. -/
theorem window_of_some {s : State} {bay c x : Nat} {src : Src} {k : RKey} {f : State → Nat → Ctx → Option Ctx} {v : Ctx}
    (hreach : Reaches s src k) (hsel : s.baySel bay = some (c, x)) (htake : f s c (s.ctx c x) = some v) :
    s.window bay src k f = s.setCtx c x v := by
  rw [State.window, accessW_of_reaches hreach]
  simp only [hsel, htake]

section
variable {s : State} {bay c x : Nat} {src : Src} {value : Word} (hsel : s.baySel bay = some (c, x))
  (hst : (s.ctx c x).st = .empty ∨ (s.ctx c x).st = .stopped)
include hsel hst

theorem next_bayCtxPWrite {i : BitVec 6} (hreach : Reaches s src ⟨.bayCtxP, bay, i.toNat⟩) :
    Next (.bayCtxPWrite bay src i value) s
      (s.setCtx c x { s.ctx c x with p := (s.ctx c x).p.setIfInBounds i.toNat value }) :=
  congrArg Host.Outcome.next (window_of_some hreach hsel (if_pos (by simpa only [Bool.or_eq_true, beq_iff_eq] using hst)))

theorem next_bayCtxStopatWrite (hreach : Reaches s src ⟨.bayCtxStopat, bay, 0⟩) :
    Next (.bayCtxStopatWrite bay src value) s (s.setCtx c x { s.ctx c x with stopAt := value }) :=
  congrArg Host.Outcome.next (window_of_some hreach hsel (if_pos (by simpa only [Bool.or_eq_true, beq_iff_eq] using hst)))

theorem next_bayCtxPsegHiWrite {seg : BitVec 2} (hreach : Reaches s src ⟨.bayCtxPsegHi, bay, seg.toNat⟩) :
    Next (.bayCtxPsegWrite bay src seg true value) s
      (s.setCtx c x { s.ctx c x with
        psegHi := (s.ctx c x).psegHi.setIfInBounds seg.toNat (value &&& 0x00FFFFFF#32) }) :=
  congrArg Host.Outcome.next (window_of_some hreach hsel (if_neg (not_inRun_of_empty_or_stopped hst)))

/-- A segment that the write makes valid passes its check. -/
theorem next_bayCtxPsegLoWrite {seg : BitVec 2} (hreach : Reaches s src ⟨.bayCtxPsegLo, bay, seg.toNat⟩)
    (hok : value.getLsbD 0 = false ∨ s.psegOk c value = true) :
    Next (.bayCtxPsegWrite bay src seg false value) s
      (s.setCtx c x { s.ctx c x with psegLo := (s.ctx c x).psegLo.setIfInBounds seg.toNat value }) := by
  have hpass : (wbit value 0 && !s.psegOk c value) = false := by
    rcases hok with h | h
    · rw [wbit, h, Bool.false_and]
    · rw [h, Bool.not_true, Bool.and_false]
  exact congrArg Host.Outcome.next (window_of_some hreach hsel
    ((if_neg (not_inRun_of_empty_or_stopped hst)).trans (if_neg (ne_true_of_eq_false hpass))))

end

/-! ### Writes of several contexts of a core -/

/-- A fold that gives each context of a list its new value from its old one. -/
theorem foldl_setCtx_ctx (c : Nat) (g : Nat → Ctx → Ctx) {l : List Nat} (hnodup : l.Nodup) (hlt : ∀ y ∈ l, y < 4)
    (s : State) (x : Nat) : (l.foldl (fun s y => s.setCtx c y (g y (s.ctx c y))) s).ctx c x =
      if x ∈ l then g x (s.ctx c x) else s.ctx c x := by
  induction l generalizing s with
  | nil => rfl
  | cons y l ih =>
    obtain ⟨hy, hnodup⟩ := List.nodup_cons.1 hnodup
    obtain ⟨hy4, hlt⟩ := List.forall_mem_cons.1 hlt
    rw [List.foldl_cons, ih hnodup hlt]
    by_cases hxy : x = y
    · subst hxy
      rw [if_neg hy, if_pos List.mem_cons_self, State_setCtx_ctx _ _ _ hy4]
    · rw [State_setCtx_ctx_ne _ _ (fun h => hxy (Prod.mk.inj h).2)]
      simp only [List.mem_cons, hxy, false_or]

/-- The contexts of a core with their modes from the bytes of a word (R104). -/
def modesSet (s : State) (c : Nat) (value : Word) : State :=
  (List.range 4).foldl (fun s x => s.setCtx c x { s.ctx c x with mode := BitVec.ofNat 2 (wbits value (8 * x + 1) (8 * x)) }) s

theorem next_coreCtxModeWrite {s : State} {core : CoreAddr} {src : Src} (value : Word)
    (hreach : Reaches s src ⟨.coreCtxMode, core.toNat, 0⟩) :
    Next (.coreCtxModeWrite core src value) s (modesSet s core.toNat value) :=
  congrArg Host.Outcome.next (accessW_of_reaches hreach)

theorem wbits_two (w : Word) (lo : Nat) : wbits w (lo + 1) lo = w.toNat / 2 ^ lo % 4 := by
  have hwidth : lo + 1 + 1 - lo = 2 := by omega
  rw [wbits, bitsOf, hwidth, show 2 ^ 2 = 4 from rfl]

theorem modesSet_ctx (s : State) (c : Nat) (value : Word) {x : Nat} (hx : x < 4) :
    (modesSet s c value).ctx c x = { s.ctx c x with mode := BitVec.ofNat 2 (value.toNat / 2 ^ (8 * x) % 4) } := by
  have hfold := foldl_setCtx_ctx c (fun x v => { v with mode := BitVec.ofNat 2 (wbits value (8 * x + 1) (8 * x)) })
    List.nodup_range (fun y => List.mem_range.1) s x
  rw [if_pos (List.mem_range.2 hx), wbits_two] at hfold
  exact hfold

/-! ### Stops (R177, R183) -/

theorem ctxsOf_one (x : BitVec 2) : ctxsOf (1#4 <<< x.toNat) = [x.toNat] := by
  revert x
  decide

theorem setCore_setCtx_ctx (s : State) (c : Nat) (k : Core) {x : Nat} (v : Ctx) (hx : x < 4) :
    (s.setCore c (k.setCtx x v)).ctx c x = v := by
  rw [State.ctx, State_setCore_core]
  exact vget_set_self _ _ _ hx

theorem next_ctxStop {s : State} {core : CoreAddr} {src : Src} {x : BitVec 2}
    (hreach : Reaches s src ⟨.coreCtxCmd, core.toNat, 0⟩) :
    Next (.ctxStop core src (1#4 <<< x.toNat)) s (s.stopCtx core.toNat x.toNat) := by
  change execCtxStop core src (1#4 <<< x.toNat) s = _
  rw [execCtxStop, accessW_of_reaches hreach, ctxsOf_one, List.foldl_cons, List.foldl_nil]

theorem stopCtx_ctx {s : State} {c x : Nat} (hrun : (s.ctx c x).inRun = true) (hx : x < 4) :
    (s.stopCtx c x).ctx c x = { ((s.depart c x).unwait c x).ctx c x with st := .stopped, cause := 0#8, wait := .none } := by
  rw [State.stopCtx, if_pos hrun]
  exact setCore_setCtx_ctx _ _ _ _ hx

/-! ### Resets (R183, R426) -/

/-- A write of a core that leaves its contexts. -/
theorem setCore_ctx_of_ctxs {s : State} {c : Nat} {k : Core} (h : k.ctxs = (s.core c).ctxs) (a b : Nat) :
    (s.setCore c k).ctx a b = s.ctx a b := by
  by_cases ha : a = c
  · rw [ha, State.ctx, State_setCore_core, h, State.ctx]
  · rw [State.ctx, State_setCore_core_ne s k ha, State.ctx]

/-- The partitions, and what a reset of context `x` of core `c` reads of the context, stand as before. -/
structure KeepsStart (c x : Nat) (s t : State) : Prop where
  parts : t.parts = s.parts
  base : (t.ctx c x).base = (s.ctx c x).base
  entry : (t.ctx c x).entry = (s.ctx c x).entry

section
variable {c x : Nat}

theorem KeepsStart.refl (s : State) : KeepsStart c x s s := ⟨rfl, rfl, rfl⟩

theorem KeepsStart.trans {s t u : State} (h : KeepsStart c x s t) (h' : KeepsStart c x t u) : KeepsStart c x s u :=
  ⟨h'.parts.trans h.parts, h'.base.trans h.base, h'.entry.trans h.entry⟩

theorem keepsStart_of_ctx {s t : State} (hparts : t.parts = s.parts) (hctx : t.ctx c x = s.ctx c x) : KeepsStart c x s t :=
  ⟨hparts, congrArg Ctx.base hctx, congrArg Ctx.entry hctx⟩

theorem keepsStart_setCore {s : State} {a : Nat} {k : Core} (h : k.ctxs = (s.core a).ctxs) : KeepsStart c x s (s.setCore a k) :=
  keepsStart_of_ctx rfl (setCore_ctx_of_ctxs h c x)

theorem keepsStart_depart (s : State) (a b : Nat) : KeepsStart c x s (s.depart a b) := by
  simp only [State.depart]
  split
  next => exact keepsStart_setCore rfl
  next => exact .refl s

theorem keepsStart_unwait (s : State) (a b : Nat) : KeepsStart c x s (s.unwait a b) := ⟨rfl, rfl, rfl⟩

theorem keepsStart_putXfer (s : State) (y : Xfer) : KeepsStart c x s (s.putXfer y) := ⟨rfl, rfl, rfl⟩

theorem keepsStart_setPool (s : State) (d q : Nat) (v : Pool) : KeepsStart c x s (s.setPool d q v) := ⟨rfl, rfl, rfl⟩

theorem keepsStart_cutTiles (s : State) (a b : Nat) (now : Bool) : KeepsStart c x s (s.cutTiles a b now) := by
  simp only [State.cutTiles]
  split
  next =>
    split
    next => exact keepsStart_setCore rfl
    next =>
      split
      next => exact keepsStart_setCore rfl
      next => exact keepsStart_setCore rfl
  next => exact keepsStart_setCore rfl

theorem keepsStart_setCtx (hx : x < 4) {s : State} {a b : Nat} {v : Ctx} (hbase : v.base = (s.ctx a b).base)
    (hentry : v.entry = (s.ctx a b).entry) : KeepsStart c x s (s.setCtx a b v) := by
  by_cases heq : (c, x) = (a, b)
  · obtain ⟨rfl, rfl⟩ := Prod.mk.inj heq
    have hctx := State_setCtx_ctx s c v hx
    exact ⟨rfl, (congrArg Ctx.base hctx).trans hbase, (congrArg Ctx.entry hctx).trans hentry⟩
  · exact keepsStart_of_ctx rfl (State_setCtx_ctx_ne s v heq)

/-- The result of an alloc goes to the data memory of its context. -/
theorem keepsStart_allocResult (hx : x < 4) (s : State) (y : Xfer) (va : Nat) : KeepsStart c x s (s.allocResult y va) := by
  simp only [State.allocResult]
  refine .trans ?_ (keepsStart_putXfer _ _)
  exact keepsStart_setCtx hx rfl rfl

theorem keepsStart_endAllocs (hx : x < 4) (s : State) (a b : Nat) : KeepsStart c x s (s.endAllocs a b) := by
  refine List.foldlRecOn _ _ (motive := KeepsStart c x s) (.refl s) fun u hu y _ => hu.trans ?_
  simp only
  split
  next => exact (keepsStart_setPool u _ _ _).trans (keepsStart_allocResult hx _ y 0)
  next => exact .refl u

end

theorem partOfCore_of_parts {s t : State} (h : t.parts = s.parts) (c : Nat) : t.partOfCore c = s.partOfCore c := by
  simp only [State.partOfCore, State.partOfBent, State.part, h]

/-- A core that no partition holds has no buffers to reclaim. -/
theorem ctxReclaim_ctx {s : State} {c x : Nat} (hpart : s.partOfCore c = none) (hx : x < 4) :
    ∃ b, (s.ctxReclaim c x).ctx c x = { s.ctx c x with reclaim := b } := by
  simp only [State.ctxReclaim, hpart]
  split
  next => exact ⟨false, State_setCtx_ctx _ _ _ hx⟩
  next => exact ⟨_, rfl⟩

/-- The state in which a reset of a context finds it: out of the processor and the waiter lists, its tile instructions and
allocs ended. -/
def detached (s : State) (c x : Nat) : State := (((s.depart c x).unwait c x).cutTiles c x false).endAllocs c x

theorem keepsStart_detached (s : State) (c : Nat) {x : Nat} (hx : x < 4) : KeepsStart c x s (detached s c x) :=
  (((keepsStart_depart s c x).trans (keepsStart_unwait _ c x)).trans (keepsStart_cutTiles _ c x false)).trans
    (keepsStart_endAllocs hx _ c x)

theorem resetCtx_ctx {s : State} {c x : Nat} (hpart : s.partOfCore c = none) (hx : x < 4) :
    ∃ b, (s.resetCtx c x).ctx c x = { ((detached s c x).ctx c x).reset with reclaim := b } := by
  have hnone : (detached s c x).partOfCore c = none := (partOfCore_of_parts (keepsStart_detached s c hx).parts c).trans hpart
  obtain ⟨b, hb⟩ := ctxReclaim_ctx (s := (detached s c x).setCore c
    ((((detached s c x).core c).discard x).setCtx x ((detached s c x).ctx c x).reset)) hnone hx
  rw [setCore_setCtx_ctx _ _ _ _ hx] at hb
  exact ⟨b, hb⟩

theorem next_ctxReset {s : State} {core : CoreAddr} {src : Src} {x : BitVec 2}
    (hreach : Reaches s src ⟨.coreCtxCmd, core.toNat, 0⟩) (hsrc : src ≠ .welyar) (hpart : s.partOfCore core.toNat = none) :
    Next (.ctxReset core src (1#4 <<< x.toNat)) s (s.resetCtx core.toNat x.toNat) := by
  change execCtxReset core src (1#4 <<< x.toNat) s = _
  rw [execCtxReset, accessW_of_reaches hreach, ctxsOf_one, List.foldl_cons, List.foldl_nil, if_neg hsrc, State.ctxResetOne]
  simp only [hpart]

/-- Settles O12: each command is the branch that its hypotheses leave, and a reset reads the context as it was before. -/
theorem windowModeStopAndReset : Obligations.WindowModeStopAndReset := by
  unfold Obligations.WindowModeStopAndReset
  refine ⟨⟨fun s bay b => next_bayCommandDone, ?held, ?window⟩, ?mode, ?stop, ?reset⟩
  case held =>
    intro s core x c v hheld hwork hsub hclock
    have hrelease {v'} := next_heldStartRelease (v := v') hheld hwork hsub hclock
    exact ⟨fun hst => hrelease (.inl ⟨hst, rfl⟩), fun hst => hrelease (.inr ⟨hst, rfl⟩)⟩
  case window =>
    exact fun s bay c x src value hsel hst =>
      ⟨fun i => next_bayCtxPWrite hsel hst, next_bayCtxStopatWrite hsel hst, fun seg => next_bayCtxPsegHiWrite hsel hst,
        fun seg => next_bayCtxPsegLoWrite hsel hst⟩
  case mode =>
    exact fun s core src value hreach => ⟨_, next_coreCtxModeWrite value hreach, rfl, rfl, fun x => modesSet_ctx s _ value⟩
  case stop =>
    intro s core src x hreach hrun
    refine ⟨_, next_ctxStop hreach, ?_⟩
    rw [stopCtx_ctx hrun x.isLt]
    exact ⟨rfl, rfl⟩
  case reset =>
    intro s core src x hreach hsrc hpart
    obtain ⟨b, hb⟩ := resetCtx_ctx hpart x.isLt
    have hkeeps := keepsStart_detached s core.toNat x.isLt
    refine ⟨_, next_ctxReset hreach hsrc hpart, ?_⟩
    rw [hb, ← hkeeps.base, ← hkeeps.entry]
    exact ⟨rfl, rfl, rfl, rfl, rfl, rfl⟩

end Sys2Proof.Proofs
end

section
/-! Proofs about the layout of a Lath block (04): the bits of its payload, the integers they give, its length. -/
namespace Sys2Proof.Proofs
open Sys2Proof Sys2Proof.Machine Sys2Proof.Laws

/-! ### Bits of little-endian bytes (R12) -/

/-- Bit j of a little-endian number is bit j mod 8 of byte j / 8; past its bytes both are false. -/
theorem testBit_leNat (l : List Byte) (j : Nat) : (leNat l).testBit j = (l.getD (j / 8) 0#8).getLsbD (j % 8) := by
  induction l generalizing j with
  | nil => simp [leNat]
  | cons b r ih =>
    rw [leNat, Nat.add_comm, show 256 = 2 ^ 8 from rfl, Nat.testBit_two_pow_mul_add _ b.isLt]
    split
    next hlow => rw [Nat.div_eq_of_lt hlow, Nat.mod_eq_of_lt hlow, List.getD_cons_zero, BitVec.testBit_toNat]
    next hhigh =>
      have hbyte : j / 8 = (j - 8) / 8 + 1 := by omega
      have hbit : (j - 8) % 8 = j % 8 := by omega
      rw [ih, hbyte, List.getD_cons_succ, hbit]

/-- The same for the `n` bytes from byte `k` on. -/
theorem testBit_leNat_take_drop (l : List Byte) {k n j : Nat} (hj : j / 8 < n) :
    (leNat ((l.drop k).take n)).testBit j = (l.getD (k + j / 8) 0#8).getLsbD (j % 8) := by
  simp only [testBit_leNat, List.getD_eq_getElem?_getD, List.getElem?_take_of_lt hj, List.getElem?_drop]

/-! ### The elements of a block (R115, R116) -/

/-- The payload bits i × n to i × n + n - 1 of the slot `l`, as a number (R116). -/
def elemCode (l : List Byte) (n i : Nat) : Nat := leNat ((l.drop 2).take (4 * n)) / 2 ^ (i * n) % 2 ^ n

theorem elemCode_lt (l : List Byte) (n i : Nat) : elemCode l n i < 2 ^ n := Nat.mod_lt _ (Nat.two_pow_pos n)

theorem testBit_elemCode (l : List Byte) {n i j : Nat} (hi : i < 32) (hj : j < n) :
    (elemCode l n i).testBit j = (l.getD (2 + (i * n + j) / 8) 0#8).getLsbD ((i * n + j) % 8) := by
  have hbyte : (i * n + j) / 8 < 4 * n := by
    have hrow : i * n ≤ 31 * n := Nat.mul_le_mul_right n (Nat.le_of_lt_succ hi)
    omega
  rw [elemCode, Nat.testBit_mod_two_pow, decide_eq_true hj, Bool.true_and, Nat.testBit_div_two_pow, Nat.add_comm j,
    testBit_leNat_take_drop l hbyte]

/-- Two's complement, and the two signs at width 1. -/
theorem qOf_eq (n code : Nat) :
    qOf n code = if n = 1 then (if code = 0 then 1 else -1)
      else if code < 2 ^ (n - 1) then (code : Int) else (code : Int) - 2 ^ n := by
  have hpow : ((2 ^ n : Nat) : Int) = 2 ^ n := Int.natCast_pow 2 n
  simp only [qOf, ge_iff_le, ← Nat.not_lt, ite_not, hpow]

theorem ofBytes_q_getElem? (l : List Byte) (poison : Bool) {i : Nat} (hi : i < 32) :
    (Blk.ofBytes l poison).q[i]? =
      some (qOf (Blk.ofBytes l poison).w (elemCode l (Blk.ofBytes l poison).w i)) := by
  rw [Blk.ofBytes, List.getElem?_map, List.getElem?_range hi]
  rfl

theorem vals_getElem? (b : Blk) (i : Nat) : b.vals[i]? = (b.q[i]?).map fun q => FV.ofSigned (q, (b.u : Int) - 127) :=
  List.getElem?_map

/-! ### The length of a block (R116, R117) -/

/-- A block fills its slot when it is no wider than the slot. -/
theorem length_bytes (b : Blk) {nmax : Nat} (h : b.w ≤ nmax) : (b.bytes nmax).length = slotBytes nmax := by
  simp only [Blk.bytes, slotBytes, List.length_append, length_leBytes, List.length_replicate]
  omega

/-- Settles O5: the code of an element is its slice of the payload, whose bits are those of the payload's bytes. -/
theorem lathBlockLayout : Obligations.LathBlockLayout := by
  unfold Obligations.LathBlockLayout
  refine ⟨?elements, fun b _ _ => length_bytes b (Nat.le_refl _)⟩
  case elements =>
    intro l b _ i hi
    exact ⟨elemCode l b.w i, elemCode_lt l b.w i, fun j hj => testBit_elemCode l hi hj,
      (ofBytes_q_getElem? l false hi).trans (congrArg some (qOf_eq b.w _)), vals_getElem? b i⟩

end Sys2Proof.Proofs
end

section
/-! Proofs about the programming of the core (05): scalar instructions and branches, the issue of transfers (06, 07), the
commands of the bay controller and the parameter writes of its context window. -/
namespace Sys2Proof.Proofs
open Sys2Proof Sys2Proof.Machine Sys2Proof.Spec Sys2Proof.Laws

/-! ### Register and data memory instructions (R151, R155, R253) -/

theorem rr_of_exec {i : CoreAddr → Instr} {op : Nat} {f : Word → Word → Word} (hdef : opDefined op = true)
    (hexec : ∀ core s, exec (i core) s = .next (s.rr core.toNat op)) (halu : ∀ a b, aluOp op a b = f a b) : Rr i op f := by
  obtain rfl : aluOp op = f := funext fun a => funext fun b => halu a b
  exact fun s core _ _ h => next_rr hdef h (hexec core s)

theorem ri_of_exec {i : CoreAddr → Instr} {op : Nat} {g : Word → Word → Word} {f : Word → BitVec 16 → Word}
    (hdef : opDefined op = true) (hexec : ∀ core s, exec (i core) s = .next (s.ri core.toNat op g))
    (himm : ∀ a w, g a w = f a (imm16 w)) : Ri i op f := by
  obtain rfl : g = fun a w => f a (imm16 w) := funext fun a => funext fun w => himm a w
  exact fun s core _ _ h => next_ri hdef h (hexec core s)

/-- An immediate without sign has the value of its field. -/
theorem toNat_zimm (w : Word) : (zimm w).toNat = (imm16 w).toNat :=
  BitVec.toNat_setWidth_of_le (by decide)

/-- A word of the data memory that is aligned and within 0x000 to 0x3FC is legal. -/
theorem dmLegal_of_le {a : Word} (halign : a.toNat % 4 = 0) (hle : a.toNat ≤ 0x3FC) : dmLegal a = true :=
  decide_eq_true ⟨halign, hle⟩

section
variable {s : State} {core : CoreAddr} {x : Nat} {w : Word}

theorem next_lw (h : Issues s core.toNat x w 0x18) {a : Nat}
    (ha : ((s.ctx core.toNat x).sreg (fB w) + simm w).toNat = a) (halign : a % 4 = 0) (hle : a ≤ 0x3FC)
    (hclean : (s.ctx core.toNat x).dmPoison.contains (a / 4) = false) :
    Next (.opLw core) s (Retires s core.toNat x
      ((s.ctx core.toNat x).setSreg (fA w) (wget (s.ctx core.toNat x).dmem (a / 4)))) := by
  subst ha
  have hnext := next_scalar (i := .opLw) rfl h rfl
  simp only [dmLegal_of_le halign hle, hclean, Bool.not_true, Bool.false_eq_true, if_false] at hnext
  exact hnext

theorem next_sw (h : Issues s core.toNat x w 0x19) {a : Nat}
    (ha : ((s.ctx core.toNat x).sreg (fB w) + simm w).toNat = a) (halign : a % 4 = 0) (hle : a ≤ 0x3FC) :
    Next (.opSw core) s (Retires s core.toNat x
      { s.ctx core.toNat x with
        dmem := wput (s.ctx core.toNat x).dmem (a / 4) ((s.ctx core.toNat x).sreg (fA w))
        dmPoison := sdel (s.ctx core.toNat x).dmPoison (a / 4) }) := by
  subst ha
  have hnext := next_scalar (i := .opSw) rfl h rfl
  simp only [dmLegal_of_le halign hle, Bool.not_true, Bool.false_eq_true, if_false] at hnext
  exact hnext

end

/-- Settles O1: each register instruction gives the result of its op, and a legal clean word leaves one branch of LW and
SW. -/
theorem scalarOpsAndDataMemory : Obligations.ScalarOpsAndDataMemory := by
  unfold Obligations.ScalarOpsAndDataMemory
  have hrr {i : CoreAddr → Instr} {op : Nat} {f : Word → Word → Word} := rr_of_exec (i := i) (op := op) (f := f)
  have hri {i : CoreAddr → Instr} {op : Nat} {g : Word → Word → Word} {f : Word → BitVec 16 → Word} :=
    ri_of_exec (i := i) (op := op) (g := g) (f := f)
  refine ⟨⟨hrr rfl (fun _ _ => rfl) fun _ _ => rfl, hrr rfl (fun _ _ => rfl) fun _ _ => rfl,
    hrr rfl (fun _ _ => rfl) fun _ _ => rfl, hrr rfl (fun _ _ => rfl) fun _ _ => rfl,
    hrr rfl (fun _ _ => rfl) fun _ _ => rfl, hrr rfl (fun _ _ => rfl) fun _ _ => rfl,
    hrr rfl (fun _ _ => rfl) fun _ _ => rfl, hrr rfl (fun _ _ => rfl) fun _ _ => rfl,
    hrr rfl (fun _ _ => rfl) fun _ _ => rfl, hrr rfl (fun _ _ => rfl) ?slt, hrr rfl (fun _ _ => rfl) ?sltu⟩,
    hri rfl (fun _ _ => rfl) fun _ _ => rfl, hri rfl (fun _ _ => rfl) fun _ _ => rfl,
    hri rfl (fun _ _ => rfl) fun _ _ => rfl, hri rfl (fun _ _ => rfl) fun _ _ => rfl,
    hri rfl (fun _ _ => rfl) fun _ _ => rfl, hri rfl (fun _ _ => rfl) ?slli, hri rfl (fun _ _ => rfl) ?srli,
    hri rfl (fun _ _ => rfl) ?srai, fun s core x w h => next_lw h rfl, fun s core x w h => next_sw h rfl⟩
  case slt => simp [aluOp, BitVec.slt]
  case sltu => simp [aluOp, BitVec.ult]
  case slli | srli | srai =>
    intro a w
    simp only [aluOp, toNat_zimm]

/-! ### State items, flags and modes (R155, R157) -/

section
variable {s : State} {core : CoreAddr} {x : Nat} {w : Word}

/-- The item of GETS (R157). -/
theorem wbits_item (w : Word) : wbits w 3 0 = (imm16 w).toNat % 16 := wbits_eq_imm16 w (by decide)

theorem getsItem_lcore {c l : Nat} (h : s.lcoreOf c = some l) (x : Nat) (v : Ctx) : s.getsItem c x v 1 = BitVec.ofNat 32 l := by
  simp only [State.getsItem, h]

/-- Each item of GETS but the upper half of the time, which is latched, leaves the context as it is. -/
theorem next_gets (h : Issues s core.toNat x w 0x1B) {i : Nat} (hi : (imm16 w).toNat % 16 = i) (hne : i ≠ 5) {a : Word}
    (ha : s.getsItem core.toNat x (s.ctx core.toNat x) i = a) :
    Next (.opGets core) s (Retires s core.toNat x ((s.ctx core.toNat x).setSreg (fA w) a)) := by
  have hnext := next_scalar (i := .opGets) rfl h rfl
  simp only [wbits_item, hi, ha, hne, if_false] at hnext
  exact hnext

theorem next_gets_time (h : Issues s core.toNat x w 0x1B) (hi : (imm16 w).toNat % 16 = 5) :
    Next (.opGets core) s (Retires s core.toNat x
      { (s.ctx core.toNat x).setSreg (fA w) ((s.timeOf (domOfBent (bentOf core.toNat))).truncate 32) with
        plbHi := (s.timeOf (domOfBent (bentOf core.toNat)) >>> 32).truncate 32 }) := by
  have hnext := next_scalar (i := .opGets) rfl h rfl
  simp only [wbits_item, hi, if_true] at hnext
  exact hnext

/-! ### Branches and jumps (R155) -/

theorem shiftLeft_two (a : Word) : a <<< 2 = 4#32 * a := by bv_omega

theorem jump_of_inRegion {v : Ctx} {a : Word} (h : v.inRegion a.toNat = true) (c : Nat) :
    s.jump c x v a = Jumps s c x v a :=
  if_pos h

theorem inRegion_setSreg (v : Ctx) (r : BitVec 5) (a : Word) (n : Nat) : (v.setSreg r a).inRegion n = v.inRegion n := by
  rw [setSreg_eq]
  rfl

theorem next_jal (h : Issues s core.toNat x w 0x26) {a : Word}
    (ha : (s.ctx core.toNat x).pc.zeroExtend 32 + 4#32 * simm w = a) (hregion : (s.ctx core.toNat x).inRegion a.toNat = true) :
    Next (.opJal core) s (Jumps s core.toNat x
      ((s.ctx core.toNat x).setSreg (fA w) ((s.ctx core.toNat x).pc.zeroExtend 32 + 4#32)) a) := by
  have hnext := next_scalar (i := .opJal) rfl h rfl
  simp only [shiftLeft_two, ha] at hnext
  rwa [jump_of_inRegion ((inRegion_setSreg ..).trans hregion)] at hnext

theorem next_jr (h : Issues s core.toNat x w 0x27)
    (hregion : (s.ctx core.toNat x).inRegion ((s.ctx core.toNat x).sreg (fB w)).toNat = true) :
    Next (.opJr core) s (Jumps s core.toNat x (s.ctx core.toNat x) ((s.ctx core.toNat x).sreg (fB w))) := by
  have hnext := next_scalar (i := .opJr) rfl h rfl
  rwa [jump_of_inRegion hregion] at hnext

end

/-- A branch whose condition the model evaluates goes to its target or to the next word. -/
theorem br_of_exec {i : CoreAddr → Instr} {op : Nat} {test : Word → Word → Bool} {cond : Word → Word → Prop}
    (hdef : opDefined op = true) (hexec : ∀ core s, exec (i core) s = .next (s.branch core.toNat op test))
    (hcond : ∀ a b, test a b = true ↔ cond a b) : Br i op cond := by
  intro s core x w h c v a
  have hnext := next_scalar hdef h (hexec core s)
  simp only [shiftLeft_two] at hnext
  refine ⟨fun htaken hregion => ?taken, fun hnot => next_of_neg hnext fun htest => hnot ((hcond _ _).1 htest)⟩
  case taken =>
    rw [← jump_of_inRegion hregion]
    exact next_of_pos hnext ((hcond _ _).2 htaken)

/-- Settles O2: every instruction is its effect at the fetched word; the item of GETS and the condition of a branch choose
between the cases. -/
theorem scalarStateAndBranches : Obligations.ScalarStateAndBranches := by
  unfold Obligations.ScalarStateAndBranches
  have hbr {i : CoreAddr → Instr} {op : Nat} {test : Word → Word → Bool} {cond : Word → Word → Prop} :=
    br_of_exec (i := i) (op := op) (test := test) (cond := cond)
  refine ⟨⟨?getp, ?gets, fun s core x w h => next_scalar (i := .opClrf) rfl h rfl,
      fun s core x w h => next_scalar (i := .opSetm) rfl h rfl⟩,
    hbr rfl (fun _ _ => rfl) ?beq, hbr rfl (fun _ _ => rfl) ?bne, hbr rfl (fun _ _ => rfl) ?blt,
    hbr rfl (fun _ _ => rfl) ?bge, hbr rfl (fun _ _ => rfl) ?bltu, hbr rfl (fun _ _ => rfl) ?bgeu,
    fun s core x w h => next_jal h rfl, fun s core x w h => next_jr h⟩
  case getp =>
    intro s core x w h
    have hnext := next_getp h
    rwa [wbits_eq_imm16 w (by decide)] at hnext
  case gets =>
    intro s core x w h c v now i sets
    have hitem {j : Nat} {a : Word} (hi : i = j) := next_gets (a := a) h hi
    exact ⟨fun hi => hitem hi (by decide) rfl, fun l hi hl => hitem hi (by decide) (getsItem_lcore hl x v),
      fun hi => hitem hi (by decide) rfl,
      fun hi => hitem hi (by decide) rfl, fun hi => hitem hi (by decide) rfl, next_gets_time h,
      fun hi => hitem hi (by decide) rfl⟩
  case beq | bne => simp
  case blt | bge => simp [BitVec.slt]
  case bltu | bgeu => simp [BitVec.ult]

/-! ### Issue of a transfer (R164, R167, R221 to R226) -/

theorem wbits_of_lt {w : Word} {lo : Nat} (h : w.toNat < 2 ^ lo) (hi : Nat) : wbits w hi lo = 0 := by
  rw [wbits, bitsOf, Nat.div_eq_of_lt h, Nat.zero_mod]

theorem any_upto_of_forall {f : Nat → Bool} {a n : Nat} (h : ∀ i < n, f (a + i) = false) : (upto a n).any f = false := by
  simpa [upto] using h

theorem xfer_of_issues {s : State} {c x ring kind : Nat} {d : List Byte} {sig : Option PegHome}
    (h : IssuesXfer s c x d sig ring kind) (f : State → Xfer → Nat → State) :
    s.xfer c kind f = f (Xfered s c x) (xferOf s c x d sig ring) ring := by
  obtain ⟨w0, ws, hissue, hlegal0, hw1, hw2, hw3, ⟨halign, hle, hclean, rfl⟩, rfl, hcheck, hsig, hroom⟩ := h
  have hreg : wbits ws.1 4 0 = ws.1.toNat := by rw [wbits_reg ws.1 0, Nat.pow_zero, Nat.div_one, Nat.mod_eq_of_lt hw1]
  have hzero : (wbits ws.1 31 5 == 0 && ws.2.1 == 0#32 && ws.2.2 == 0#32) = true := by
    simp [wbits_of_lt (lo := 5) hw1, hw2, hw3]
  rw [State.xfer, issueLong_of_issues hissue rfl hlegal0 hzero]
  simp only [hreg, halign, hle, any_upto_of_forall hclean, hsig, hcheck, Nat.not_le.mpr hroom, beq_self_eq_true,
    bne_self_eq_false, decide_true, Bool.and_self, Bool.and_false, Bool.not_true, Bool.false_eq_true, if_false]
  rfl

theorem next_xfer {i : CoreAddr → Instr} {s : State} {core : CoreAddr} {x ring kind : Nat} {d : List Byte}
    {sig : Option PegHome} {f : State → Xfer → Nat → State} (h : IssuesXfer s core.toNat x d sig ring kind)
    (hexec : exec (i core) s = .next (s.xfer core.toNat kind f)) :
    Next (i core) s (f (Xfered s core.toNat x) (xferOf s core.toNat x d sig ring) ring) :=
  hexec.trans (congrArg Host.Outcome.next (xfer_of_issues h f))

theorem xfered_ring (s : State) (c x ring : Nat) (g : Ring) :
    ((Xfered s c x).core c).rings.getD ring g = (s.core c).rings.getD ring g := by
  rw [Xfered, setCtx_core_self]
  rfl

/-! ### Rings (R226) -/

/-- The ring that a RING_OPEN with this descriptor opens. -/
def ringOf (d : List Byte) : Ring :=
  { opened := true, base := (Desc.ofBytes d).dst, lines := (Desc.ofBytes d).rows
    lfmt := (lfmtOf (Desc.ofBytes d).dfmt (Desc.ofBytes d).lf.cls).getD 0 }

/-- A tracker of a core and the marks of its slots change, and a transfer joins the package's. -/
def joinRing (s : State) (c ring : Nat) (g : Ring) (marks : List Nat) (t : Xfer) : State :=
  { s.setCore c { s.core c with rings := (s.core c).rings.setIfInBounds ring g, slotPoison := marks } with
    xfers := s.xfers ++ [t] }

theorem joinRing_ring (s : State) (c : Nat) {ring : Nat} (hring : ring < 8) (g : Ring) (marks : List Nat) (t : Xfer) :
    ((joinRing s c ring g marks t).core c).rings.getD ring {} = g := by
  have hcore : (joinRing s c ring g marks t).core c =
      { s.core c with rings := (s.core c).rings.setIfInBounds ring g, slotPoison := marks } :=
    State_setCore_core s c _
  rw [hcore]
  exact vget_set_self _ _ _ hring

section
variable {s : State} {core : CoreAddr} {x ring : Nat} {d : List Byte} {sig : Option PegHome}

theorem next_ringOpen (h : IssuesXfer s core.toNat x d sig ring 0x08) :
    ∃ marks, Next (.ringOpen core) s (joinRing (Xfered s core.toNat x) core.toNat ring (ringOf d) marks
      { xferOf s core.toNat x d sig ring with ready := true }) :=
  ⟨_, (next_xfer (i := .ringOpen) h rfl :)⟩

/-- The tracker keeps the first request to close it. -/
theorem next_ringClose (h : IssuesXfer s core.toNat x d sig ring 0x09) :
    let s1 := Xfered s core.toNat x
    let g := (s1.core core.toNat).rings.getD ring {}
    Next (.ringClose core) s (joinRing s1 core.toNat ring { g with closing := some (g.closing.getD s.nextId) }
      (s1.core core.toNat).slotPoison (xferOf s core.toNat x d sig ring)) :=
  (next_xfer (i := .ringClose) h rfl :)

end

/-- Settles O7: the eight kinds are one issue, and each kind's effect on the issued transfer follows. -/
theorem transfersIssue : Obligations.TransfersIssue := by
  unfold Obligations.TransfersIssue
  refine ⟨⟨fun s core x d sig ring h => next_xfer (i := .copy) h rfl,
      fun s core x d sig ring h => next_xfer (i := .astream) h rfl,
      fun s core x d sig ring h => next_xfer (i := .wstream) h rfl,
      fun s core x d sig ring h => next_xfer (i := .requant) h rfl,
      fun s core x d sig ring h => next_xfer (i := .fill) h rfl⟩,
    ?ringOpen, ?ringClose, ?gather⟩
  case ringOpen =>
    intro s core x d sig ring h hring _
    obtain ⟨marks, hnext⟩ := next_ringOpen h
    exact ⟨_, hnext, rfl, joinRing_ring _ _ hring _ _ _⟩
  case ringClose =>
    intro s core x d sig ring h hring
    refine ⟨_, next_ringClose h, rfl, ?_⟩
    rw [joinRing_ring _ _ hring, xfered_ring]
  case gather =>
    intro s core x d sig ring h t0 g s1 die w ⟨a, hbags⟩ hgood
    refine (next_xfer (i := .gather) h rfl).trans (congrArg Host.Outcome.next ?_)
    change (match s1.gatherBags t0.part g with | .fault => _ | .poison => _ | .ok _ => if w.bad then _ else _) = _
    rw [hbags]
    exact if_neg (ne_true_of_eq_false hgood)

/-! ### The commands of the bay controller (R171 to R174, R185) -/

/-- A command that the bay controller takes is served with `go` set and runs until its end is shown. -/
theorem bayGo_of_free {s s2 : State} {bay cmd r : Nat} {src : Src} {m : BitVec 4} {f : State → State × Nat}
    (hfree : BayFree s bay src) (hserve : f (BayGo s bay cmd m) = (s2, r)) :
    s.bayGo bay src cmd m f = BayRuns s2 bay cmd r := by
  obtain ⟨hreach, hidle, hprobe, hfence⟩ := hfree
  rw [State.bayGo, accessW_of_reaches hreach]
  simp only [hidle, hprobe, hfence, Option.isSome_none, Bool.false_eq_true, if_false]
  rw [← BayGo, hserve]
  rfl

theorem startCheck_of_canStart {s : State} {prs : List (Nat × Nat)} (h : CanStart s prs) : s.startCheck prs = 0 := by
  have hload : (prs.any fun q => (s.ctx q.1 q.2).len == 0#14) = false :=
    List.any_eq_false.2 fun q hq => by simpa using (h q hq).1
  have hempty : (prs.any fun q => (s.ctx q.1 q.2).st != .empty) = false :=
    List.any_eq_false.2 fun q hq => by simpa using (h q hq).2
  rw [State.startCheck, hload, hempty]
  rfl

section
variable {s s2 : State} {bay : Nat} {src : Src} {m : BitVec 4} (hfree : BayFree s bay src)
include hfree

theorem next_bayLoad (hload : (BayGo s bay 1 m).bayLoad bay m = (s2, 0)) :
    Next (.bayLoad bay src m) s (BayRuns s2 bay 1 0) :=
  congrArg Host.Outcome.next (bayGo_of_free hfree hload)

theorem next_bayPatch {rs : List Patch} (hread : (BayGo s bay 2 m).patchRead bay = (s2, .inr rs))
    (hidle : s2.patchBusy bay rs = false) : Next (.bayPatch bay src m) s (BayRuns (s2.patchApply bay rs) bay 2 0) :=
  congrArg Host.Outcome.next (bayGo_of_free hfree (by simp only [hread, hidle, Bool.false_eq_true, if_false]))

theorem next_bayStart {prs : List (Nat × Nat)} (hprs : (BayGo s bay 3 m).bayPairs bay m = prs)
    (hstart : CanStart (BayGo s bay 3 m) prs) :
    Next (.bayStart bay src m) s (BayRuns ((BayGo s bay 3 m).startAll prs) bay 3 0) :=
  congrArg Host.Outcome.next (bayGo_of_free hfree (by simp only [hprs, startCheck_of_canStart hstart, if_true]))

theorem next_bayPatchAndStart {rs : List Patch} (hread : (BayGo s bay 4 m).patchRead bay = (s2, .inr rs))
    (hidle : s2.patchBusy bay rs = false) {prs : List (Nat × Nat)} (hprs : s2.bayPairs bay m = prs)
    (hstart : CanStart s2 prs) :
    Next (.bayPatchAndStart bay src m) s (BayRuns ((s2.patchApply bay rs).startAll prs) bay 4 0) :=
  congrArg Host.Outcome.next (bayGo_of_free hfree (by simp [hread, hprs, hidle, startCheck_of_canStart hstart]))

theorem next_bayResume {prs : List (Nat × Nat)} (hprs : (BayGo s bay 5 m).bayPairs bay m = prs)
    (hstopped : ∀ q ∈ prs, ((BayGo s bay 5 m).ctx q.1 q.2).st = .stopped) :
    Next (.bayResume bay src m) s
      (BayRuns (prs.foldl (fun s q => s.resumeCtx q.1 q.2) (BayGo s bay 5 m)) bay 5 0) := by
  have hpass : (prs.any fun q => ((BayGo s bay 5 m).ctx q.1 q.2).st != .stopped) = false :=
    List.any_eq_false.2 fun q hq => by simpa using hstopped q hq
  exact congrArg Host.Outcome.next (bayGo_of_free hfree (by simp only [hprs, hpass, Bool.false_eq_true, if_false]))

theorem next_bayCmdUndefined {cmd : BitVec 3} (hcode : cmd.toNat = 0 ∨ 6 ≤ cmd.toNat) :
    Next (.bayCmdUndefined bay src cmd m) s (BayRuns (BayGo s bay cmd.toNat m) bay cmd.toNat 2) := by
  have hundefined : ¬ (1 ≤ cmd.toNat ∧ cmd.toNat ≤ 5) := by omega
  exact congrArg Host.Outcome.next ((if_neg hundefined).trans (bayGo_of_free hfree rfl))

end

/-! ### Starts and resumes of a context (R152, R170, R444) -/

section
variable {s : State} {c x : Nat} (hx : x < 4)
include hx

theorem startCtx_ctx_of_held (hheld : s.mustHold c x = true) :
    (s.startCtx c x).ctx c x = { s.ctx c x with heldStart := true } := by
  rw [State.startCtx, if_pos hheld, State_setCtx_ctx _ _ _ hx]

theorem startCtx_ctx_of_not_held (hfree : s.mustHold c x = false) :
    (s.startCtx c x).ctx c x = (s.ctx c x).started s.plumb := by
  rw [State.startCtx, if_neg (ne_true_of_eq_false hfree), State_setCtx_ctx _ _ _ hx]

theorem resumeCtx_ctx_of_pending (hsub : s.pendingSub.contains c = true) :
    (s.resumeCtx c x).ctx c x = { s.ctx c x with heldStart := true } := by
  rw [State.resumeCtx, if_pos hsub, State_setCtx_ctx _ _ _ hx]

theorem resumeCtx_ctx_of_not_pending (hsub : s.pendingSub.contains c = false) :
    (s.resumeCtx c x).ctx c x = (s.ctx c x).resumed s.plumb := by
  rw [State.resumeCtx, if_neg (ne_true_of_eq_false hsub), State_setCtx_ctx _ _ _ hx]

end

/-- Settles O11: a free bay serves each command at once, and what holds a context decides what its start or resume leaves. -/
theorem bayCommandsAndTheirContexts : Obligations.BayCommandsAndTheirContexts := by
  unfold Obligations.BayCommandsAndTheirContexts
  refine ⟨⟨fun s s2 bay src m => next_bayLoad, fun s s2 bay src m rs hfree => next_bayPatch hfree,
    fun s bay src m hfree => next_bayStart hfree rfl,
    fun s s2 bay src m rs hfree hread hidle => next_bayPatchAndStart hfree hread hidle rfl,
    fun s bay src m hfree => next_bayResume hfree rfl,
    fun s bay src cmd m hcode hfree => next_bayCmdUndefined hfree hcode⟩, ?contexts⟩
  intro s c x hx v v1 v2
  refine ⟨fun hwork hsub => ?started, fun hwork => ?waits, resumeCtx_ctx_of_not_pending hx,
    fun hsub => ⟨?holds, resumeCtx_ctx_of_pending hx hsub⟩⟩
  case started =>
    have hv1 : v1 = v.started s.plumb := startCtx_ctx_of_not_held hx (by rw [State.mustHold, hwork, hsub, Bool.or_self])
    rw [hv1]
    exact ⟨rfl, rfl, rfl, rfl, rfl, rfl, rfl, rfl, rfl⟩
  case waits => exact startCtx_ctx_of_held hx (by rw [State.mustHold, hwork, Bool.true_or])
  case holds => exact startCtx_ctx_of_held hx (by rw [State.mustHold, hsub, Bool.or_true])

/-! ### Parameter writes (R175) -/

theorem count_ctx (s : State) (r : Reg) (u n c x : Nat) : (s.count r u n).ctx c x = s.ctx c x := rfl

theorem denied_ctx (s : State) (src : Src) (c x : Nat) : (s.denied src).ctx c x = s.ctx c x := by
  cases src with
  | vf v =>
    rw [State.denied]
    split <;> rfl
  | _ => rfl

section
variable {s : State} {bay c x : Nat} {src : Src} {k : RKey} {f : State → Nat → Ctx → Option Ctx}
  (hsel : s.baySel bay = some (c, x)) (hdrop : f s c (s.ctx c x) = none)
include hsel hdrop

/-- A write of the context window that the selected context does not take is counted. -/
theorem window_of_none (hreach : Reaches s src k) : s.window bay src k f = s.count .bayCtxDropCnt bay 1 := by
  rw [State.window, accessW_of_reaches hreach]
  simp only [hsel, hdrop]

/-- Whether or not it reaches the window, such a write leaves the context. -/
theorem window_ctx_of_none : (s.window bay src k f).ctx c x = s.ctx c x := by
  rw [State.window, State.accessW]
  simp only [hsel, hdrop]
  split
  · rfl
  · split
    · exact count_ctx ..
    · exact denied_ctx ..

end

theorem not_empty_or_stopped_of_inRun {v : Ctx} (h : v.inRun = true) : v.st ≠ .empty ∧ v.st ≠ .stopped :=
  ⟨fun hst => not_inRun_of_empty_or_stopped (.inl hst) h, fun hst => not_inRun_of_empty_or_stopped (.inr hst) h⟩

/-- The parameters and the stop index of a context are written only while it is Empty or Stopped. -/
theorem ite_empty_or_stopped_eq_none {v v' : Ctx} (h : v.st ≠ .empty ∧ v.st ≠ .stopped) :
    (if v.st == .empty || v.st == .stopped then some v' else none) = none :=
  if_neg (by simpa using h)

/-- Settles O13: the window drops the write of a context that is neither Empty nor Stopped, and counts it once it reaches. -/
theorem parameterWritesDuringARun : Obligations.ParameterWritesDuringARun := by
  unfold Obligations.ParameterWritesDuringARun
  intro s bay c x src i value hsel v
  refine ⟨fun hrun => ?dropped, fun hst => ⟨next_bayCtxPWrite hsel hst, next_bayCtxStopatWrite hsel hst⟩,
    fun hempty hstopped => ?kept⟩
  case dropped =>
    have hnone {v'} := ite_empty_or_stopped_eq_none (v' := v') (not_empty_or_stopped_of_inRun hrun)
    exact ⟨fun hreach => congrArg Host.Outcome.next (window_of_none hsel hnone hreach),
      fun hreach => congrArg Host.Outcome.next (window_of_none hsel hnone hreach)⟩
  case kept =>
    have hnone {v'} := ite_empty_or_stopped_eq_none (v := v) (v' := v') ⟨hempty, hstopped⟩
    exact ⟨fun t hnext => Host.Outcome.next.inj hnext ▸ window_ctx_of_none hsel hnone,
      fun t hnext => Host.Outcome.next.inj hnext ▸ window_ctx_of_none hsel hnone⟩

end Sys2Proof.Proofs
end

section
/-! Proofs about pegs and buffers (06): the pegs of ids, signals and host writes, the deadlock detector, the requests and the
registers of pools; and about the timers of flows and keys and the peg messages of the fabric (11). -/
namespace Sys2Proof.Proofs
open Sys2Proof Sys2Proof.Machine Sys2Proof.Spec Sys2Proof.Laws

/-! ### Peg ids (R189, R191) -/

theorem pegId_segment {seg o : Nat} (hseg : seg < 4) (ho : o < 256) : (seg * 256 + o) / 256 % 4 = seg := by omega

theorem pegId_offset (seg : Nat) {o : Nat} (ho : o < 256) : (seg * 256 + o) % 256 = o := by omega

/-- Settles O15: an id names its segment and offset, and in a valid segment the kind chooses the peg. -/
theorem pegIdsTranslate : Obligations.PegIdsTranslate := by
  unfold Obligations.PegIdsTranslate
  intro s c x seg o hseg ho v lo hi valid kind die bent n len r
  have hr : r = s.pegOf c x (seg * 256 + o) := rfl
  have hlo : (s.ctx c x).psegLo.getD seg 0#32 = lo := rfl
  have hhi : (s.ctx c x).psegHi.getD seg 0#32 = hi := rfl
  have hvalid : wbit lo 0 = valid := rfl
  have hkind : wbits lo 2 1 = kind := rfl
  have hcount : wbits lo 31 24 + 1 = len := rfl
  simp only [State.pegOf, pegId_segment hseg ho, pegId_offset seg ho, hlo, hhi, hvalid, hkind, hcount] at hr
  refine ⟨fun hbad => ?untranslatable, fun hgood hlen => ?translated⟩
  case untranslatable =>
    rw [hr]
    exact if_pos (by simpa using hbad)
  case translated =>
    rw [if_neg (by simpa using ⟨hgood, hlen⟩)] at hr
    refine ⟨fun hctx hn => ?ctx, fun hbent hb hdie hn hheld hpart => ?bent, fun hspine hn hheld hpart => ?spine,
      fun hremote => ?remote⟩
    case ctx =>
      rw [hr, hctx]
      exact if_pos hn
    case bent =>
      rw [hr, hbent]
      exact if_pos ⟨hb, hdie, hn, hheld, hpart⟩
    case spine =>
      rw [hr, hspine]
      exact if_pos ⟨hn, hheld, hpart⟩
    case remote =>
      rw [hr, hremote]
      rfl

/-! ### Records, events and causes (R217, R394, R395, R537, R559) -/

/-- The partitions stand, and so does every register but those of `l`. -/
structure WritesOnly (l : List Reg) (s t : State) : Prop where
  parts : t.parts = s.parts
  reg : ∀ k : RKey, k.reg ∉ l → t.reg k = s.reg k

section
variable {l : List Reg}

theorem WritesOnly.refl (s : State) : WritesOnly l s s := ⟨rfl, fun _ _ => rfl⟩

theorem WritesOnly.trans {s t u : State} (h : WritesOnly l s t) (h' : WritesOnly l t u) : WritesOnly l s u :=
  ⟨h'.parts.trans h.parts, fun k hk => (h'.reg k hk).trans (h.reg k hk)⟩

theorem WritesOnly.ite {c : Prop} [Decidable c] {s t u : State} (ht : WritesOnly l s t) (hu : WritesOnly l s u) :
    WritesOnly l s (if c then t else u) := by
  split
  · exact ht
  · exact hu

theorem writesOnly_setReg {k : RKey} (hk : k.reg ∈ l) (s : State) (w : Word) : WritesOnly l s (s.setReg k w) :=
  ⟨rfl, fun _ hj => State_setReg_reg_ne s w fun e => hj (e ▸ hk)⟩

theorem writesOnly_count {r : Reg} (hr : r ∈ l) (s : State) (u n : Nat) : WritesOnly l s (s.count r u n) :=
  writesOnly_setReg (k := ⟨r, u, 0⟩) hr s _

theorem writesOnly_event (s : State) (d dom code p : Nat) (src : Word) (a0 a1 : Nat) :
    WritesOnly l s (s.event d dom code p src a0 a1) :=
  .ite ⟨rfl, fun _ _ => rfl⟩ ⟨rfl, fun _ _ => rfl⟩

theorem writesOnly_msix (s : State) (v vec : Nat) : WritesOnly l s (s.msix v vec) :=
  .ite ⟨rfl, fun _ _ => rfl⟩ ⟨rfl, fun _ _ => rfl⟩

/-- A cause of a function that rises while unmasked sends a message. -/
theorem writesOnly_vfCause (hvf : Reg.prtVfCause ∈ l) (s : State) (v c : Nat) : WritesOnly l s (s.vfCause v c) :=
  have hset : WritesOnly l s (s.setFld ⟨.prtVfCause, v, 0⟩ c c 1) := writesOnly_setReg hvf s _
  .ite (.refl s) (.ite hset (hset.trans (writesOnly_msix ..)))

theorem writesOnly_pfCause (hpf : Reg.mgtHostCause ∈ l) (s : State) (c : Nat) : WritesOnly l s (s.pfCause c) :=
  have hset : WritesOnly l s (s.setFld ⟨.mgtHostCause, 0, 0⟩ c c 1) := writesOnly_setReg hpf s _
  .ite (.refl s) (.ite hset (hset.trans (writesOnly_msix ..)))

/-- A cause of a partition is set on its functions, then on the PF. -/
theorem writesOnly_cause (hvf : Reg.prtVfCause ∈ l) (hpf : Reg.mgtHostCause ∈ l) (s : State) (p c : Nat) :
    WritesOnly l s (s.cause p c) := by
  rw [State.cause]
  split
  next => exact .refl s
  next v r _ =>
    exact (List.foldlRecOn (v :: r) _ (motive := WritesOnly l s) (.refl s)
      fun u hu w _ => hu.trans (writesOnly_vfCause hvf u w c)).trans (writesOnly_pfCause hpf _ c)

/-- A record is held in its own registers. -/
theorem writesOnly_latchBy {status : RKey} (hstatus : status.reg ∈ l) {others : List (RKey × Word)}
    (hothers : ∀ e ∈ others, e.1.reg ∈ l) (s : State) (ov : Bool) (rank : Nat) (st : Word) :
    WritesOnly l s (s.latchBy ov status rank st others) := by
  have hothers : WritesOnly l s (others.foldl (fun s e => s.setReg e.1 e.2) s) :=
    List.foldlRecOn others _ (motive := WritesOnly l s) (.refl s)
      fun u hu e he => hu.trans (writesOnly_setReg (hothers e he) u e.2)
  have hstore (w : Word) (cyc : Cycle) :
      WritesOnly l s { (others.foldl (fun s e => s.setReg e.1 e.2) s).setReg status w with cyc := cyc } :=
    ⟨hothers.parts, (hothers.trans (writesOnly_setReg hstatus _ w)).reg⟩
  exact .ite (.trans (.ite (hstore _ _) (.refl s)) (writesOnly_setReg hstatus _ _)) (.ite (hstore _ _) (.refl s))

/-- An error of a peg is written in the record of its domain, counted there and given as a cause. -/
theorem writesOnly_pegError (s : State) (h : PegHome) (kind : Nat) (amount : Word) :
    WritesOnly [.pegErrStatus, .pegErrAmount, .pegErrCnt, .prtVfCause, .mgtHostCause] s (s.pegError h kind amount) :=
  (((writesOnly_latchBy (by simp) (by simp) s _ _ _).trans (writesOnly_count (by simp) _ _ _)).trans
    (writesOnly_event ..)).trans (writesOnly_cause (by simp) (by simp) _ _ _)

end

/-! ### Values of bent and spine pegs (R192, R201) -/

section
variable {h : PegHome} (hreg : (∃ b i, h = .bent b i) ∨ (∃ d i, h = .spine d i)) (s : State) (v : Word)
include hreg

theorem setPeg_peg : (s.setPeg h v).peg h = v := by
  rcases hreg with ⟨b, i, rfl⟩ | ⟨d, i, rfl⟩
  · exact State_setReg_reg ..
  · exact State_setReg_reg ..

theorem pegError_peg (kind : Nat) : (s.pegError h kind v).peg h = s.peg h := by
  have herror := (writesOnly_pegError s h kind v).reg
  rcases hreg with ⟨b, i, rfl⟩ | ⟨d, i, rfl⟩
  · exact herror ⟨.pegBentVal, b, i⟩ (by simp)
  · exact herror ⟨.pegSpnVal, d, i⟩ (by simp)

theorem addPeg_peg_of_le (hfit : (s.peg h).toNat + v.toNat ≤ 0xFFFFFFFF) : (s.addPeg h v).peg h = s.peg h + v := by
  rw [State.addPeg, if_pos hfit, setPeg_peg hreg]
  bv_omega

theorem addPeg_peg_of_lt (hover : 0xFFFFFFFF < (s.peg h).toNat + v.toNat) : (s.addPeg h v).peg h = 0xFFFFFFFF#32 := by
  rw [State.addPeg, if_neg (Nat.not_le.2 hover), pegError_peg hreg, setPeg_peg hreg]

end

/-- Settles O16: the value is a register of its own, so that the record of a saturated signal leaves it. -/
theorem signalAddsAndSaturates : Obligations.SignalAddsAndSaturates := by
  unfold Obligations.SignalAddsAndSaturates
  exact fun s h v hreg => ⟨setPeg_peg hreg s v, addPeg_peg_of_le hreg s v, addPeg_peg_of_lt hreg s v⟩

/-! ### Requests of pools (R209 to R213) -/

theorem poolServe_regs (s : State) (d q : Nat) : (s.poolServe d q).regs = s.regs := by
  rw [State.poolServe]
  split
  next =>
    split
    next => rfl
    next => rfl
  next => rfl

theorem poolDrain_regs (d q n : Nat) (s : State) : (s.poolDrain d q n).regs = s.regs := by
  induction n generalizing s with
  | zero => rfl
  | succ n ih => exact (ih _).trans (poolServe_regs s d q)

/-- The state in which the requests of the cycle have left their pool to be served. -/
def requestsTaken (s : State) (d q : Nat) : State := s.setPool d q { s.pool d q with reqs := [], eng := [] }

section
variable {s : State} {d q : Nat}

/-- The cycle of a pool that no engine asks: the requests `xs` in their order, then a reclaim. -/
theorem poolCycle_eq {xs : List Xfer}
    (hxs : ((s.pool d q).reqs.filterMap fun i => s.xfers.find? fun x => x.id == i).foldr insertReq [] = xs)
    (heng : (s.pool d q).eng = []) {u : State} (hu : State.poolServeAll d q xs.length xs (requestsTaken s d q) = u) :
    s.poolCycle d q = if u.rbit ⟨.spnPoolCmd, d * 64 + q, 0⟩ 0 then
      (u.setFld ⟨.spnPoolCmd, d * 64 + q, 0⟩ 0 0 0).poolReclaim d q (u.reg ⟨.spnPoolTag, d * 64 + q, 0⟩) else u := by
  subst hxs hu
  simp only [State.poolCycle, heng, List.foldl_nil]
  rfl

/-- One request alone, of a pool that no reclaim waits for. -/
theorem poolCycle_of_one {t : Xfer} (hreqs : (s.pool d q).reqs = [t.id]) (heng : (s.pool d q).eng = [])
    (hcmd : s.rbit ⟨.spnPoolCmd, d * 64 + q, 0⟩ 0 = false) (hfind : s.xfers.find? (fun y => y.id == t.id) = some t)
    {u : State} (hu : (requestsTaken s d q).poolOne d q t = u) (hregs : u.regs = s.regs) : s.poolCycle d q = u := by
  have hxs : ((s.pool d q).reqs.filterMap fun i => s.xfers.find? fun x => x.id == i).foldr insertReq [] = [t] := by
    simp only [hreqs, List.filterMap_cons, hfind]
    rfl
  have hidle : u.rbit ⟨.spnPoolCmd, d * 64 + q, 0⟩ 0 = false := by
    rw [State.rbit, State.reg, hregs]
    exact hcmd
  rw [poolCycle_eq hxs heng hu, if_neg (ne_true_of_eq_false hidle)]

theorem poolOne_alloc {t : Xfer} {b : Nat} (hkind : dfield t.desc 0 1 = 0xC0) (hfree : s.poolFree d q = some b) :
    s.poolOne d q t = (s.poolTake d q b t.tag).allocResult t (s.poolBase d q + b * s.poolBytes d q) := by
  simp only [State.poolOne, hkind, State.poolAlloc, hfree]

theorem poolBytes_pos (s : State) (d q : Nat) : 0 < s.poolBytes d q := Nat.mul_pos (by decide) (Nat.two_pow_pos _)

section
variable {t : Xfer} {b : Nat} (haddr : dfield t.desc 8 8 = s.poolBase d q + b * s.poolBytes d q)
include haddr

theorem poolBuffer_of_address : (dfield t.desc 8 8 - s.poolBase d q) / s.poolBytes d q = b := by
  rw [haddr, Nat.add_sub_cancel_left, Nat.mul_div_cancel _ (poolBytes_pos s d q)]

theorem poolAddress_accepted (hb : b < s.poolCount d q) : ¬ (dfield t.desc 8 8 < s.poolBase d q ∨
    (dfield t.desc 8 8 - s.poolBase d q) % s.poolBytes d q ≠ 0 ∨ s.poolCount d q ≤ b) := by
  rw [haddr, Nat.add_sub_cancel_left, Nat.mul_mod_left]
  omega

variable (hb : b < s.poolCount d q) (htag : aget (s.pool d q).tags b = some t.tag)
include hb htag

/-- The owner of a buffer frees it, and the oldest waiting alloc takes it. -/
theorem poolOne_free (hkind : dfield t.desc 0 1 = 0xC1) :
    s.poolOne d q t = ((s.putXfer { t with ready := true }).poolDrop d q b).poolServe d q := by
  simp only [State.poolOne, hkind, State.poolPut, poolBuffer_of_address haddr, if_neg (poolAddress_accepted haddr hb), htag,
    ne_eq, not_true_eq_false, if_false]
  rfl

theorem poolOne_give (hkind : dfield t.desc 0 1 = 0xC2) (hnew : BitVec.ofNat 32 (dfield t.desc 0x10 4) ≠ 0xFFFFFFFF#32) :
    s.poolOne d q t =
      (s.putXfer { t with ready := true }).poolTake d q b (BitVec.ofNat 32 (dfield t.desc 0x10 4)) := by
  simp only [State.poolOne, hkind, State.poolPut, poolBuffer_of_address haddr, if_neg (poolAddress_accepted haddr hb), htag,
    if_neg hnew, ne_eq, not_true_eq_false, if_false]

end

end

/-- The request of an enabled pool of the partition joins those of the cycle. -/
theorem next_poolReq {i : CoreAddr → Instr} {s : State} {core : CoreAddr} {x ring kind : Nat} {d : List Byte}
    {sig : Option PegHome} (h : IssuesXfer s core.toNat x d sig ring kind)
    (hexec : exec (i core) s = .next (s.poolReq core.toNat kind))
    (hon : s.poolOn (dfield d 1 1) (dfield d 2 1) (xferOf s core.toNat x d sig ring).part = true) :
    Next (i core) s ({ Xfered s core.toNat x with xfers := s.xfers ++ [xferOf s core.toNat x d sig ring] }.setPool
      (dfield d 1 1) (dfield d 2 1) { s.pool (dfield d 1 1) (dfield d 2 1) with
        reqs := (s.pool (dfield d 1 1) (dfield d 2 1)).reqs ++ [s.nextId] }) :=
  (next_xfer h hexec).trans (congrArg Host.Outcome.next (if_pos hon))

/-- Settles O8: the three instructions are one request, and the kind of a request alone in its cycle decides what the pool
does with the buffer. -/
theorem poolRequests : Obligations.PoolRequests := by
  unfold Obligations.PoolRequests
  refine ⟨?issue, ?serve⟩
  case issue =>
    intro s core x d sig ring kind i hi h t s1 die q hon
    have hexec : exec (i core) s = .next (s.poolReq core.toNat kind) := by
      simp only [List.mem_cons, List.not_mem_nil, or_false, Prod.mk.injEq] at hi
      rcases hi with ⟨rfl, rfl⟩ | ⟨rfl, rfl⟩ | ⟨rfl, rfl⟩ <;> rfl
    exact next_poolReq h hexec hon
  case serve =>
    intro s die q b t k s1 s2 nw hreqs heng hcmd hfind
    have hone {u : State} := poolCycle_of_one (u := u) hreqs heng hcmd hfind
    refine ⟨fun hkind hfree => hone (poolOne_alloc hkind hfree) rfl, fun haddr hb htag => ?owned⟩
    have hown : aget (s1.pool die q).tags b = some t.tag := by rwa [State_setPool_pool]
    exact ⟨fun hkind => hone (poolOne_free haddr hb hown hkind) (poolServe_regs ..),
      fun hkind hnew => hone (poolOne_give haddr hb hown hkind hnew) rfl⟩

/-! ### Signals, polls and host writes of pegs (R192 to R195, R200, R201) -/

/-- No peg message arrives with the signals: the signals alone are taken, in their order. -/
theorem takeSigs_of_no_message {s : State} {h : PegHome} {ids : List Nat}
    (hnone : ∀ m ∈ s.pegMsgs, m.peg = h → ids.contains m.id = false) : s.takeSigs h ids =
      ({ s with signals := s.signals.filter fun g => !(g.home == h && ids.contains g.id) },
        sortSigs (s.signals.filter fun g => g.home == h && ids.contains g.id)) := by
  have hother : ∀ m ∈ s.pegMsgs, (m.peg == h && ids.contains m.id) = false := fun m hm =>
    Bool.and_eq_false_imp.2 fun heq => hnone m hm (beq_iff_eq.1 heq)
  have htaken : (s.pegMsgs.filter fun m => m.peg == h && ids.contains m.id) = [] :=
    List.filter_eq_nil_iff.2 fun m hm => ne_true_of_eq_false (hother m hm)
  have hleft : (s.pegMsgs.filter fun m => !(m.peg == h && ids.contains m.id)) = s.pegMsgs :=
    List.filter_eq_self.2 fun m hm => congrArg not (hother m hm)
  simp only [State.takeSigs, htaken, hleft, List.filter_nil, List.foldl_nil, List.map_nil, List.append_nil]

/-- The signals of the cycle are applied in order, and one walk serves the waiters of a value that rose. -/
theorem next_pegSignalArrive {s : State} {h : PegHome} {ids : List Nat} (hruns : s.homeRuns h = true) {s1 s2 : State}
    {gs : List Signal} (htake : s.takeSigs h ids = (s1, gs)) (hs2 : gs.foldl State.applySig s1 = s2) :
    Next (.pegSignalArrive h ids) s (if s1.peg h < s2.peg h then s2.walkPeg h else s2) := by
  change execPegSignalArrive h ids s = _
  simp only [execPegSignalArrive, hruns, htake, hs2, Bool.not_true, Bool.false_eq_true, if_false]

/-- The peg has reached the threshold of a polling waiter. -/
theorem next_pegPoll {s s1 : State} {core : CoreAddr} {x : BitVec 2} {id : Nat} {h : PegHome} {thr : Word} {sub : Bool}
    (hclock : s.clocked core.toNat = true) (hst : (s.ctx core.toNat x.toNat).st = .waiting)
    (hwait : (s.ctx core.toNat x.toNat).wait = .peg id h thr sub true) (hgood : s.badPegs.contains h = false)
    (hs1 : s.count .pegPollCnt h.dom 1 = s1) (hle : thr.toNat ≤ (s1.peg h).toNat) :
    Next (.pegPoll core x) s ((if sub then s1.setPeg h (s1.peg h - thr) else s1).wake core.toNat x.toNat) := by
  have hmet : thr ≤ s1.peg h := hle
  change execPegPoll core x s = _
  simp only [execPegPoll, hclock, hst, hwait, hgood, hs1, hmet, Bool.not_true, Bool.false_eq_true, if_true, if_false]

/-- One host write in the cycle, which reaches its peg. -/
theorem next_pegHostWrite {s : State} {h : PegHome} {src : Src} {k : RKey} (hkey : s.pegKey h = some k)
    (hreach : Reaches s src k) (hpeg : s.pegReach h = (s, true)) (value : Word) :
    Next (.pegHostWrite h src value [] []) s (s.pegLoad h value []) := by
  obtain ⟨hlive, hreach⟩ := hreach
  change execPegHostWrite h src value [] [] s = _
  simp only [execPegHostWrite, hkey, List.foldr_cons, List.foldr_nil, insertWrite, List.foldl_cons, List.foldl_nil,
    State.pegWrite, hlive, hreach, hpeg, Bool.and_self, if_true]

theorem pegReach_of_selected {s : State} {c x i : Nat} (hsel : s.baySel (bayOf c) = some (c, x)) :
    s.pegReach (.ctx c x i) = (s, true) := by
  simp only [State.pegReach, hsel, decide_true]

/-! ### The deadlock detector (R203 to R206) -/

theorem part_of_parts {s t : State} (h : t.parts = s.parts) (p : Nat) : t.part p = s.part p := by
  rw [State.part, State.part, h]

theorem setReg_part (s : State) (k : RKey) (w : Word) (p : Nat) : (s.setReg k w).part p = s.part p := rfl

/-- An inspection record of a partition keeps what its detector holds. -/
theorem inspect_dldFired (s : State) {p : Nat} (hp : p < 8) (level trigger : Nat) :
    ((s.inspect p level trigger).part p).dldFired = (s.part p).dldFired := by
  have hset (u : State) (e : Option Nat) :
      ((u.setPart p { s.part p with inspEnd := e }).part p).dldFired = (s.part p).dldFired :=
    (congrArg Part.dldFired (State_setPart_part u { s.part p with inspEnd := e } hp) :)
  exact (congrArg Part.dldFired (setReg_part ..)).trans (iteInduction (motive := fun u : State => (u.part p).dldFired = (s.part p).dldFired)
    (fun _ => rfl) fun _ => hset ..)

/-- The event, the cause and the inspection record of a detector that fires keep its partition's mark. -/
theorem reported_dldFired (s : State) {p : Nat} (hp : p < 8) (v : Part) (d dom code c level trigger : Nat) (src : Word)
    (a0 a1 : Nat) : ((((((s.setPart p v).event d dom code p src a0 a1).cause p c).inspect p level trigger).part p).dldFired) =
      v.dldFired := by
  have hnotes : WritesOnly [.prtVfCause, .mgtHostCause] (s.setPart p v)
      (((s.setPart p v).event d dom code p src a0 a1).cause p c) :=
    (writesOnly_event ..).trans (writesOnly_cause (by simp) (by simp) _ p c)
  rw [inspect_dldFired _ hp, part_of_parts hnotes.parts, State_setPart_part s v hp]

/-- The condition has held for its time and the detector has not fired on it: it fires, with its record. -/
theorem next_deadlockFire {s : State} {p : BitVec 3} {t0 : Time} (hstart : s.dldStart p.toNat = some t0)
    (hdead : s.deadlocked p.toNat = true) (hruns : s.partStopped p.toNat = false)
    (hdue : 65536 ≤ (s.spineTime p.toNat - t0).toNat) (hnew : (s.part p.toNat).dldFired = false) :
    ∃ (s1 : State) (d dom : Nat) (src : Word) (a0 a1 : Nat), Next (.deadlockFire p) s
      ((((s1.setPart p.toNat { s.part p.toNat with dldSince := some t0, dldFired := true }).event d dom 0x0107 p.toNat src a0
        a1).cause p.toNat 0).inspect p.toNat 0 0x04) := by
  obtain ⟨⟨c, x, id, h, thr⟩, hfirst⟩ : ∃ w, s.firstWaiter p.toNat = w := ⟨_, rfl⟩
  have hfires : (!s.deadlocked p.toNat || s.partStopped p.toNat || decide ((s.spineTime p.toNat - t0).toNat < 65536) ||
      ((s.part p.toNat).dldFired && (s.part p.toNat).dldSince == some t0)) = false := by
    rw [hdead, hruns, hnew, decide_eq_false (Nat.not_lt.2 hdue)]
    rfl
  refine ⟨?s1, ?d, ?dom, ?src, ?a0, ?a1, ?next⟩
  case next =>
    change execDeadlockFire p s = _
    simp only [execDeadlockFire, hstart, hfires, hfirst, Bool.false_eq_true, if_false]
    rfl

/-! ### Pool registers (R213, R214) -/

theorem wbit_setField_zero (w : Word) : wbit (setField w 0 0 0) 0 = false := by
  simp [wbit, setField]

theorem poolReclaim_reg (s : State) (d q : Nat) (tag : Word) (k : RKey) : (s.poolReclaim d q tag).reg k = s.reg k := by
  rw [State.reg, State.poolReclaim, poolDrain_regs]
  rfl

section
variable {s : State} {d q : Nat}

/-- No alloc waits for what a reclaim frees. -/
theorem poolReclaim_tags (tag : Word) (hqueue : (s.pool d q).queue = []) :
    ((s.poolReclaim d q tag).pool d q).tags = (s.pool d q).tags.filter fun e => e.2 != tag := by
  simp only [State.poolReclaim, hqueue, List.length_nil, State.poolDrain, State_setPool_pool]

section
variable (hreqs : (s.pool d q).reqs = []) (heng : (s.pool d q).eng = [])
  (hcmd : s.rbit ⟨.spnPoolCmd, d * 64 + q, 0⟩ 0 = true)
include hreqs heng hcmd

/-- A reclaim alone in the cycle of its pool. -/
theorem poolCycle_of_reclaim : s.poolCycle d q =
    ((requestsTaken s d q).setFld ⟨.spnPoolCmd, d * 64 + q, 0⟩ 0 0 0).poolReclaim d q
      (s.reg ⟨.spnPoolTag, d * 64 + q, 0⟩) := by
  have hxs : ((s.pool d q).reqs.filterMap fun i => s.xfers.find? fun x => x.id == i).foldr insertReq [] = [] := by
    rw [hreqs]
    rfl
  exact (poolCycle_eq hxs heng rfl).trans (if_pos hcmd)

theorem poolCycle_ends_reclaim : (s.poolCycle d q).rbit ⟨.spnPoolCmd, d * 64 + q, 0⟩ 0 = false := by
  rw [poolCycle_of_reclaim hreqs heng hcmd, State.rbit, poolReclaim_reg, State.setFld, State_setReg_reg]
  exact wbit_setField_zero _

theorem poolCycle_frees_tag (hqueue : (s.pool d q).queue = []) : ((s.poolCycle d q).pool d q).tags =
    (s.pool d q).tags.filter fun e => e.2 != s.reg ⟨.spnPoolTag, d * 64 + q, 0⟩ := by
  have hpool : ((requestsTaken s d q).setFld ⟨.spnPoolCmd, d * 64 + q, 0⟩ 0 0 0).pool d q =
      { s.pool d q with reqs := [], eng := [] } := State_setPool_pool s d q _
  rw [poolCycle_of_reclaim hreqs heng hcmd, poolReclaim_tags _ (by rw [hpool]; exact hqueue), hpool]

end

variable {value : Word}

theorem poolCfg_base_of_disabled (hoff : s.rbit ⟨.spnPoolCfg, d * 64 + q, 0⟩ 7 = false) :
    poolCfg s d q .pf .baseLo value = s.setReg ⟨.spnPoolBaseLo, d * 64 + q, 0⟩ value :=
  if_neg (ne_true_of_eq_false hoff)

/-- A disabled pool that the write enables has every buffer free. -/
theorem poolCfg_cfg_of_disabled (hoff : s.rbit ⟨.spnPoolCfg, d * 64 + q, 0⟩ 7 = false) (hon : value.getLsbD 7 = true) :
    poolCfg s d q .pf .cfg value =
      (s.setReg ⟨.spnPoolCfg, d * 64 + q, 0⟩ (value &&& 0xFFFF00FF#32)).setPool d q {} :=
  (if_neg (ne_true_of_eq_false hoff)).trans (if_pos hon)

/-- An enabled pool stays as it is, unless the write disables it with no buffer owned. -/
theorem poolCfg_cfg_of_enabled (hon : s.rbit ⟨.spnPoolCfg, d * 64 + q, 0⟩ 7 = true)
    (hkept : value.getLsbD 7 = true ∨ (s.pool d q).tags ≠ []) : poolCfg s d q .pf .cfg value = s :=
  (if_pos hon).trans (if_pos (by simpa [wbit] using hkept))

end

theorem next_poolCfgWrite {s t : State} {die : BitVec 2} {pool : BitVec 6} {r : PoolReg} {value : Word} {k : RKey}
    (hexec : exec (.poolCfgWrite die pool .pf r value) s =
      .next (s.accessW .pf k fun s => poolCfg s die.toNat pool.toNat .pf r value))
    (hreach : Reaches s .pf k) (ht : poolCfg s die.toNat pool.toNat .pf r value = t) :
    Next (.poolCfgWrite die pool .pf r value) s t :=
  hexec.trans (congrArg Host.Outcome.next ((accessW_of_reaches hreach).trans ht))

/-- Settles O14: each command of a peg, of the detector and of a pool's registers finds its condition, and what it does is
one branch. -/
theorem pegsPoolsAndDetector : Obligations.PegsPoolsAndDetector := by
  unfold Obligations.PegsPoolsAndDetector
  refine ⟨⟨fun s h ids hruns => ⟨next_pegSignalArrive hruns rfl rfl, takeSigs_of_no_message⟩,
      fun s core x id h thr sub hclock hst hwait hgood hle => next_pegPoll hclock hst hwait hgood rfl hle,
      fun s b i src value hreach => next_pegHostWrite rfl hreach rfl value,
      fun s d i src value hreach => next_pegHostWrite rfl hreach rfl value,
      fun s c x i src value hreach hsel => next_pegHostWrite rfl hreach (pegReach_of_selected hsel) value⟩,
    ?fire, ?reclaim, ?disabled, ?enabled⟩
  case fire =>
    intro s p t0 hstart hdead hruns hdue hnew
    obtain ⟨s1, d, dom, src, a0, a1, hnext⟩ := next_deadlockFire hstart hdead hruns hdue hnew
    exact ⟨_, hnext, reported_dldFired s1 p.isLt ..⟩
  case reclaim =>
    exact fun s die pool src hreach => ⟨congrArg Host.Outcome.next (accessW_of_reaches hreach),
      fun hreqs heng hcmd => ⟨poolCycle_ends_reclaim hreqs heng hcmd, poolCycle_frees_tag hreqs heng hcmd⟩⟩
  case disabled =>
    exact fun s die pool value hoff => ⟨fun hreach => next_poolCfgWrite rfl hreach (poolCfg_base_of_disabled hoff),
      fun hreach hon => next_poolCfgWrite rfl hreach (poolCfg_cfg_of_disabled hoff hon)⟩
  case enabled =>
    exact fun s die pool value hon hreach hkept => next_poolCfgWrite rfl hreach (poolCfg_cfg_of_enabled hon hkept)

/-! ### Acknowledgements and gaps of a flow (R345, R346, R417) -/

/-- The naks of a flow after one for the `n` frames from `q` on. -/
def naksAsked (naks : List (Nat × (Nat × Time))) (q n : Nat) (now : Time) : List (Nat × (Nat × Time)) :=
  (upto q n).foldl (fun l q => aset l q (((aget l q).map (·.1)).getD 0 + 1, now)) naks

section
variable {s : State} {key : FlowKey} {f : RFlow} (hflow : aget s.rflows key = some f)
include hflow

theorem next_ackSend (hwhole : f.broken = false) (hunacked : f.unacked ≠ 0)
    (hdue : 128 ≤ f.unacked ∨ 4096 ≤ s.since f.ackT) : Next (.ackSend key) s (s.ackRecord key (f.next % 2 ^ 32)) := by
  change execAckSend key s = _
  simp only [execAckSend, hflow, hwhole, hunacked, hdue, decide_true, decide_false, Bool.not_true, Bool.or_self,
    Bool.false_eq_true, if_false]

theorem next_flowDormant (hquiet : 2 ^ 32 ≤ s.since f.last) (hkept : f.kept = []) :
    Next (.flowDormant key) s { s with rflows := aset s.rflows key { f with dormant := true } } := by
  change execFlowDormant key s = _
  simp only [execFlowDormant, hflow, hquiet, hkept, List.isEmpty_nil, and_self, if_true]

section
variable {q0 : Nat} {k0 : Machine.Kept} {r : List (Nat × Machine.Kept)} (hkept : f.kept = (q0, k0) :: r)
  (hwhole : f.broken = false) (hdue : s.gapTo key ≤ s.since (f.gapSince s.plumb))
include hkept hwhole hdue

/-- The missing frames have been asked for three times. -/
theorem next_nakTimeout_breaks (hasked : 3 ≤ ((aget f.naks f.next).map (·.1)).getD 0) :
    Next (.nakTimeout key) s (s.flowBreak key k0.port) := by
  change execNakTimeout key s = _
  simp only [execNakTimeout, hflow, hkept, hwhole, Nat.not_lt.2 hdue, hasked, decide_false, Bool.or_self, Bool.false_eq_true,
    if_true, if_false]

/-- The missing frames before the first kept one are asked for by a nak, which counts for each. -/
theorem next_nakTimeout_asks (hasked : ((aget f.naks f.next).map (·.1)).getD 0 < 3) {lo : Nat}
    (hlo : (r.map (·.1)).foldl min q0 = lo) {s1 : State} {f1 : RFlow}
    (hsend : s.sendAck key true (f.next % 2 ^ 32) (lo - f.next) = some s1) (hflow1 : aget s1.rflows key = some f1) :
    Next (.nakTimeout key) s { s1 with
      rflows := aset s1.rflows key { f1 with naks := naksAsked f1.naks f.next (lo - f.next) s.plumb } } := by
  change execNakTimeout key s = _
  simp only [execNakTimeout, hflow, hkept, hwhole, Nat.not_lt.2 hdue, Nat.not_le.2 hasked, hlo, hsend, hflow1, decide_false,
    Bool.or_self, Bool.false_eq_true, if_false]
  rfl

end

end

/-! ### Other timers of flows, ports and keys (R346, R417, R511) -/

section
variable {s : State}

theorem next_frameResendTimeout {key : FlowKey} {seq : Nat} {r : Replay}
    (hfind : s.replay.find? (fun r => r.key == key && r.seq == seq && r.epoch == s.flowEpoch key) = some r)
    (hdue : 2 ^ 20 ≤ s.since r.sent) : Next (.frameResendTimeout key seq) s (s.resendFrame false r) := by
  change execFrameResendTimeout key seq s = _
  simp only [execFrameResendTimeout, hfind, hdue, if_true]

theorem next_portAvoidExpire {addr c : Nat} {port : BitVec 3} {t0 : Time}
    (havoid : aget s.avoid (addr, port.toNat) = some (c, t0)) (hc : 2 ≤ c) (hdue : 2 ^ 30 ≤ s.since t0) :
    Next (.portAvoidExpire addr port) s { s with avoid := adel s.avoid (addr, port.toNat) } := by
  change execPortAvoidExpire addr port s = _
  simp only [execPortAvoidExpire, havoid, hc, hdue, and_self, if_true]

theorem next_nextKeyInstall {owner : Nat} {t0 : Time} {k : List Byte} (hswitch : aget s.keySwitch owner = some t0)
    (hdue : 2 ^ 32 ≤ s.since t0) (hkey : s.slotKey owner (s.keyIdx owner) = some k) : Next (.nextKeyInstall owner) s
      { s with keys := aset s.keys (owner, 1 - s.keyIdx owner) (s.nextKey owner k), keySwitch := adel s.keySwitch owner } := by
  change execNextKeyInstall owner s = _
  simp only [execNextKeyInstall, hswitch, Nat.not_lt.2 hdue, hkey, if_false]

/-! ### Peg messages (R199) -/

/-- The oldest message is applied when its peg is its partition's, else counted. -/
theorem next_pegMessage {m : PegMsg} {r : List PegMsg} (hmsgs : s.pegMsgs = m :: r) : Next .pegMessage s
    (if ({ s with pegMsgs := r } : State).partOfPeg m.peg = some m.part
      then (({ s with pegMsgs := r } : State).addPeg m.peg m.amount).walkPeg m.peg
      else ({ s with pegMsgs := r } : State).count .lmdPegRejectCnt m.port 1) := by
  change execPegMessage s = _
  simp only [execPegMessage, hmsgs, beq_iff_eq]

end

/-- Settles O26: each timer runs out at its limit, the number of naks decides between another one and the end of the flow,
and the partition of a message's peg whether it is applied. -/
theorem flowTimersAndPegMessages : Obligations.FlowTimersAndPegMessages := by
  unfold Obligations.FlowTimersAndPegMessages
  exact ⟨fun s key f hflow => ⟨next_ackSend hflow, next_flowDormant hflow⟩,
    fun s key f q0 k0 r hflow hkept hwhole hdue =>
      ⟨fun hasked s1 f1 => next_nakTimeout_asks hflow hkept hwhole hdue hasked rfl,
        next_nakTimeout_breaks hflow hkept hwhole hdue⟩,
    fun s key seq r => next_frameResendTimeout, fun s addr c port t0 => next_portAvoidExpire,
    fun s owner t0 k => next_nextKeyInstall,
    fun s m r hmsgs => ⟨next_of_pos (next_pegMessage hmsgs), next_of_neg (next_pegMessage hmsgs)⟩⟩

end Sys2Proof.Proofs
end

section
/-! Proofs about the memory system (07): the canonical form of memory, the channels and their scrubs, the decks. -/
namespace Sys2Proof.Proofs
open Sys2Proof Sys2Proof.Machine Sys2Proof.Spec Sys2Proof.Laws

/-! ### What a step keeps -/

/-- A step, a command or a tick, takes the front command off the queue, if there is one; what else every command keeps, it
keeps, too. -/
theorem kept_of_step {s t : State} (h : step s = .next t) : Laws.Kept { s with pending := s.pending.tail } t := by
  unfold step at h
  split at h
  next hidle =>
    cases h
    obtain ⟨hpending, hmem, hsvn, hevq, hpldm⟩ := State_tick_kept (s0 := s)
    have htail : s.pending = s.pending.tail := by rw [hidle, List.tail_nil]
    exact ⟨hpending.trans htail, hmem, hsvn, hevq, hpldm⟩
  next c r hfront =>
    rw [hfront, List.tail_cons]
    exact exec_kept.h t h

/-- Settles O58: the form is one of the things that every command and the tick keep, and a step is one of these. -/
theorem memoryStaysCanonical : Obligations.MemoryStaysCanonical := by
  unfold Obligations.MemoryStaysCanonical
  exact fun s t hwf hstep => (kept_of_step hstep).mem hwf

/-! ### Channels: promotion, scrub, latency (R247, R258, R441) -/

section
variable {s : State}

theorem next_bulkPromote {chan waited p : Nat} (hpart : s.partOfChan chan = some p) (hprio : (s.part p).prio = true)
    (hguard : s.rfld ⟨.hbmArb, s.physChan chan, 0⟩ 15 0 ≤ waited) :
    Next (.bulkPromote chan waited) s (s.count .hbmPromoteCnt (s.physChan chan) 1) := by
  change execBulkPromote chan waited s = _
  simp only [execBulkPromote, hpart, hprio, hguard, decide_true, Bool.and_self, if_true]

/-- What the scrub of a channel does with an error of the channel (R441). -/
def scrubbed (s : State) (chan : Nat) : MemErr → State
  | .ce _ => s.chanCe (s.physChan chan)
  | .ue a => (s.chanUe (s.physChan chan) (bitsOf a 30 0)).markGranule (a / 32) true
  | _ => s

/-- An error counts for the channel that its address lies in. -/
theorem next_hbmScrubPass {chan a off : Nat} {e : MemErr} (henabled : s.rbit ⟨.mgtScrubCtl, 0, 0⟩ 0 = true)
    (haddr : e.addr = some a) (hplace : s.place a = .hbm chan off) :
    Next (.hbmScrubPass chan [e]) s (scrubbed s chan e) := by
  change execHbmScrubPass chan [e] s = _
  simp only [execHbmScrubPass, henabled, haddr, hplace, Option.map_some, beq_self_eq_true, List.filter_cons_of_pos,
    List.filter_nil, List.foldl_cons, List.foldl_nil, if_true]
  cases e <;> rfl

/-- An error counts for the deck of its die that holds the line. -/
theorem next_deckScrubPass {die : BitVec 2} {a : Nat} {e : MemErr} (henabled : s.rbit ⟨.mgtScrubCtl, 0, 0⟩ 0 = true)
    (haddr : e.addr = some a) (hdie : hbmDie a = die.toNat) (hheld : (s.deckFind die.toNat (a / 128)).isSome = true) :
    Next (.deckScrubPass die [e]) s (s.memErr e) := by
  change execDeckScrubPass die [e] s = _
  simp only [execDeckScrubPass, henabled, haddr, hdie, hheld, beq_self_eq_true, Bool.and_self, List.foldl_cons,
    List.foldl_nil, if_true]

theorem next_hbmLatMaxRead {chan : Nat} {src : Src} (hreach : s.reaches src ⟨.hbmLatMax, chan, 0⟩ false = true) :
    Next (.hbmLatMaxRead chan src) s
      { s.setReg ⟨.hbmLatMax, chan, 0⟩ 0#32 with lastRead := some (s.reg ⟨.hbmLatMax, chan, 0⟩) } :=
  congrArg Host.Outcome.next (if_pos hreach)

/-! ### Commands of a deck (R236, R238, R257) -/

/-- The command register of a partition's deck on a die. -/
def kDeck (die : BitVec 2) (p : BitVec 3) : RKey := ⟨.dckCmd, deckUnit die.toNat p.toNat, 0⟩

variable {die : BitVec 2} {p : BitVec 3} {src : Src}

theorem next_deckFlush (hreach : Reaches s src (kDeck die p)) (hidle : s.rbit (kDeck die p) 0 = false) :
    Next (.deckFlush die p src) s ((s.deckFlush die.toNat p.toNat).setFld (kDeck die p) 0 0 1) :=
  congrArg Host.Outcome.next ((accessW_of_reaches hreach).trans (if_neg (Bool.eq_false_iff.1 hidle)))

theorem next_deckFlushComplete (hflush : s.rbit (kDeck die p) 0 = true) :
    Next (.deckFlushComplete die p) s ((s.setFld (kDeck die p) 0 0 0).setFld (kDeck die p) 2 2 1) :=
  congrArg Host.Outcome.next (if_pos hflush)

theorem next_deckUnkeep (hreach : Reaches s src (kDeck die p)) : Next (.deckUnkeep die p src) s
    { s with deck := s.deck.map fun (l : DeckLine) =>
        if l.die = die.toNat ∧ l.part = p.toNat then { l with keep := false } else l } :=
  congrArg Host.Outcome.next (accessW_of_reaches hreach)

end

/-- Settles O19: the hypotheses of each clause choose the branch of its command that acts. -/
theorem channelsAndDecks : Obligations.ChannelsAndDecks := by
  unfold Obligations.ChannelsAndDecks
  exact ⟨fun s chan waited p => next_bulkPromote,
    fun s chan a off henabled hplace => ⟨next_hbmScrubPass henabled rfl hplace, next_hbmScrubPass henabled rfl hplace⟩,
    fun s die e henabled ⟨a, haddr, hdie, hheld⟩ => next_deckScrubPass henabled haddr hdie hheld,
    fun s chan src => next_hbmLatMaxRead,
    fun s die p src => ⟨next_deckFlush, next_deckFlushComplete, next_deckUnkeep⟩⟩

end Sys2Proof.Proofs
end

section
/-! Proofs about the trusses and collectives (08) and the joiners (09): the records of a collective engine and the supply of its
elements, the commands of trusses, contexts and programs, the blocks of a step. -/
namespace Sys2Proof.Proofs
open Sys2Proof Sys2Proof.Machine Sys2Proof.Spec Sys2Proof.Laws

/-! ### The records of a block (R276 to R287) -/

section
variable {s s1 : State} {n : Nat} {r : ColRec} {t : Truss}

/-- The partial that an entry keeps for the sum that `r` belongs to: fallback and retry are sums of their own. -/
def samePartial (r : ColRec) (y : ColSum) : Bool := y.b == r.b && y.step == r.step && !y.max && y.fb == r.fb && y.rt == r.rt

/-- The combined replies that an entry keeps for the block and step of `r`. -/
def sameMax (r : ColRec) (y : ColSum) : Bool := y.b == r.b && y.step == r.step && y.max

/-- The first partial of a sum at a member that expects more is kept as it arrived. -/
theorem next_colPartial_of_first {errs : List (Nat × Word)} (htake : s.colTake n [0] = (s1, some (r, t)))
    (hmember : t.ownerRank r.b ≠ s1.ownRank r.part t) (hfirst : t.sums.find? (samePartial r) = none)
    (hmore : r.cnt < t.expect r.b (s1.ownRank r.part t)) :
    Next (.colPartial n errs) s (s1.setTruss r.part r.entry { t.stamp s1.plumb with
      sums := (t.sums.filter fun y => !samePartial r y) ++ [⟨r.b, r.step, false, r.fb, r.rt, r⟩] }) := by
  unfold samePartial at hfirst
  change execColPartial n errs s = _
  simp only [execColPartial, htake, beq_false_of_ne hmember, hfirst, hmore, Bool.false_and, Bool.false_eq_true,
    List.isEmpty_nil, Bool.not_true, List.foldl_nil, if_true, if_false]
  rfl

/-- A reply adds its count to the replies kept, and the larger state stands, while more are expected. -/
theorem next_colMaxReply_of_kept {y : ColSum} (htake : s.colTake n [2] = (s1, some (r, t))) (hreply : r.cnt ≠ 0)
    (hkept : t.sums.find? (sameMax r) = some y) (hmember : t.ownerRank r.b ≠ s1.ownRank r.part t)
    (hmore : y.acc.cnt + r.cnt < t.expect r.b (s1.ownRank r.part t)) :
    Next (.colMaxReply n) s (s1.setTruss r.part r.entry { t.stamp s1.plumb with
      sums := (t.sums.filter fun z => !sameMax r z) ++
        [⟨r.b, r.step, true, false, false, { y.acc with cnt := y.acc.cnt + r.cnt, st := max y.acc.st r.st }⟩] }) := by
  unfold sameMax at hkept
  change execColMaxReply n s = _
  simp only [execColMaxReply, htake, hreply, beq_false_of_ne hmember, hkept, hmore, Bool.false_and, Bool.false_eq_true,
    Bool.not_false, Bool.and_true, decide_true, if_true, if_false]
  rfl

theorem next_colExponent (htake : s.colTake n [3] = (s1, some (r, t))) : Next (.colExponent n) s
    (((s1.colForward r.part t r).setExponent r.part r.entry r).resend r.part r.entry (fun u => u.retains r.b r.step &&
      ((t.bufs.filter fun u => u.retains r.b r.step && !u.fb).map (·.pos)).contains u.pos) false) := by
  change execColExponent n s = _
  simp only [execColExponent, htake]

theorem next_colRetry_of_result {res : ColRec} (htake : s.colTake n [5] = (s1, some (r, t))) (hmember : r.cnt ≠ 0)
    (hres : (t.ownerOf r.b).result = some res) : Next (.colRetry n) s (s1.colSend { res with dst := r.x0, rt := true }) := by
  change execColRetry n s = _
  simp only [execColRetry, htake, hmember, hres, if_false]

theorem next_colSettle (htake : s.colTake n [4] = (s1, some (r, t))) : Next (.colSettle n) s
    (((s1.colForward r.part t r).estateSettle r.part r.entry t r).settleHere r.part r.entry r.b r.step) := by
  change execColSettle n s = _
  simp only [execColSettle, htake]

/-- A first result whose digest agrees goes on to the children and is delivered without a recheck. -/
theorem next_colResult_of_digest (htake : s.colTake n [1] = (s1, some (r, t))) (hfirst : r.rt = false)
    {r1 : ColRec} (hr1 : { r with q := flipWords [] r.q } = r1) (hdig : r.dig = digestOf t.dseed r.b (flipWords [] r.q))
    {s4 : State} (hs4 : (s1.colForward r.part t r).setTruss r.part r.entry
      { t with rechecked := t.rechecked.filter (· != (r.b, r.step.toNat)) } = s4) :
    Next (.colResult n []) s
      (((s4.deliverBlock r.part r.entry t r1).estateSettle r.part r.entry t r1).settleHere r.part r.entry r.b r.step) := by
  subst hr1 hs4
  have hagree : (r.dig != digestOf t.dseed r.b (flipWords [] r.q)) = false := bne_eq_false_iff_eq.mpr hdig
  change execColResult n [] s = _
  simp only [execColResult, htake, hfirst, hagree, Bool.false_and, Bool.false_eq_true, if_false]

/-! ### Gathered elements (R288) -/

/-- The state with the elements of a record written at `gbuf`, and the elements of the entry whose writing failed. -/
def gatherStored (s : State) (r : ColRec) (t : Truss) : State × List Nat :=
  (List.range (r.bytes.length / t.sendSize)).foldl (fun (a : State × List Nat) i =>
    let x := r.x0 + i
    if x < t.nelem then
      let (s, ok) := a.1.colStore r.part r.entry t (x / 64) (t.gbuf + x * t.sendSize)
        ((r.bytes.drop (i * t.sendSize)).take t.sendSize)
      (s, if ok then a.2.filter (· != x) else sput a.2 x)
    else a) (s, t.failed)

/-- The elements that have arrived in a step once those of a record have. -/
def gatherArrived (r : ColRec) (t : Truss) (l : List Nat) : List Nat :=
  (List.range (r.bytes.length / t.sendSize)).foldl (fun l i => if r.x0 + i < t.nelem then sput l (r.x0 + i) else l) l

/-- A record's step is the lowest step of the members or the next one. -/
theorem find_step {step : BitVec 8} {lo k : Nat}
    (h : BitVec.ofNat 8 lo = step ∧ k = lo ∨ BitVec.ofNat 8 lo ≠ step ∧ BitVec.ofNat 8 (lo + 1) = step ∧ k = lo + 1) :
    [lo, lo + 1].find? (fun n => BitVec.ofNat 8 n == step) = some k := by
  rcases h with ⟨hlo, rfl⟩ | ⟨hlo, hnext, rfl⟩
  · exact List.find?_cons_of_pos (beq_iff_eq.2 hlo)
  · exact (List.find?_cons_of_neg (by simpa using hlo)).trans (List.find?_cons_of_pos (beq_iff_eq.2 hnext))

theorem next_colGatherData {k : Nat} (htake : s.colTake n [6] = (s1, some (r, t))) {lo : Nat}
    (hlo : (t.own.map (·.step)).foldl min ((t.own.map (·.step)).headD 0) = lo)
    (hstep : [lo, lo + 1].find? (fun n => BitVec.ofNat 8 n == r.step) = some k) {s4 : State}
    (hs4 : (((gatherStored s1 r t).1.setTruss r.part r.entry
      ({ t with
          arrived := aset t.arrived k (gatherArrived r t ((aget t.arrived k).getD []))
          failed := (gatherStored s1 r t).2 }.stamp s.plumb)).colComplete r.part r.entry) = s4) :
    Next (.colGatherData n) s
      ((s4.ags.filter fun a => a.part == r.part && a.truss == r.entry).foldl (fun s a => State.agRun a.id 4096 s) s4) := by
  subst hs4
  change execColGatherData n s = _
  simp only [execColGatherData, htake, hlo, hstep]
  rfl

end

/-! ### The supply of elements (R272 to R274) -/

section
variable {s s1 : State}

/-- A drained row that the engine takes whole leaves its core. -/
theorem next_colSupply_of_row {c : Nat} {u : Supply} {h : Bool} (hrow : aget s.supplies c = some u)
    (hopen : s.backPressed u.part 7 = false)
    (htaken : s.supplyAll u.part u.truss c u.lcore u.epoch (u.elems.map fun e => (e.1, e.2, [])) = (s1, u.elems.length, h)) :
    Next (.colSupply false c) s { s1 with supplies := adel s1.supplies c } := by
  change execColSupply false c s = _
  simp only [execColSupply, hrow, hopen, htaken, Bool.false_eq_true, if_true, if_false]

/-- The elements that a CSEND offers next: those of its entry's size that 64 bytes hold, numbered from its key. -/
def sendElems (s : State) (g : Csend) (sz : Nat) : List (Nat × (Word × Bool) × List PByte) :=
  (List.range (min (64 / sz) ((g.len - g.pos) / sz))).map fun i =>
    let e := ((s.pbytes (spadAddr g.core (g.base + g.pos)) 64).drop (i * sz)).take sz
    (g.key.toNat + g.pos / sz + i, (BitVec.ofNat 32 (leNat (dataOf e)), anyPoison e), e)

/-- A CSEND that is not held advances by the elements that the engine takes. -/
theorem next_colSupply_of_send {id n : Nat} {g : Csend} {t : Truss} (hsend : s.sends.find? (fun g => g.id == id) = some g)
    (hleft : g.pos < g.len) (hclock : s.clocked g.core = true) (hopen : s.backPressed g.part 7 = false)
    (htruss : s.trussAt g.part g.truss = some t)
    (htaken : s.supplyAll g.part g.truss g.core g.lcore g.epoch (sendElems s g t.sendSize) = (s1, n, false)) :
    Next (.colSupply true id) s
      { s1 with sends := s1.sends.map fun y => if y.id = id then { y with pos := y.pos + n * t.sendSize } else y } := by
  unfold sendElems at htaken
  change execColSupply true id s = _
  simp only [execColSupply, hsend, Nat.not_le.2 hleft, hclock, hopen, htruss, htaken, decide_false, Bool.not_true, Bool.or_self,
    Bool.false_eq_true, if_true, if_false]

end

/-! ### Commands of trusses (R264, R289, R290, R408) -/

section
variable {s s0 s1 s2 : State} {p : BitVec 3} {src : Src} {t : Truss}

section
variable {id : BitVec 12} (hreach : Reaches s src ⟨.trsCmd, p.toNat, 0⟩)
include hreach

/-- The entry is free, its descriptor and its members can be read and pass the checks. -/
theorem next_trussInstall {va : Nat} {l ml : List PByte} (hs0 : s.trsCmd p.toNat id.toNat 1 = s0)
    (hva : (s0.reg ⟨.trsBaseLo, p.toNat, 0⟩).toNat + 2 ^ 32 * s0.rfld ⟨.trsBaseHi, p.toNat, 0⟩ 15 0 + id.toNat * 128 = va)
    (hbuilt : (s0.part p.toNat).built = true) (hfree : s0.trussAt p.toNat id.toNat = none)
    (hdesc : s0.vload p.toNat va 128 0 = some (s1, l)) (hclean : anyPoison l = false) (hfields : trussFields (dataOf l) = true)
    (hread : s1.vload p.toNat (dfield (dataOf l) 8 8) (dfield (dataOf l) 4 4 * 8) 0 = some (s2, ml))
    (hmclean : anyPoison ml = false)
    (hcheck : s2.trussCheck p.toNat (dataOf l) (membersOf (dfield (dataOf l) 4 4) (dataOf ml)) = .inr t)
    (hjoiner : s2.trussJoinerOk p.toNat id.toNat t = true) :
    Next (.trussInstall p src id) s
      ((s2.setTruss p.toNat id.toNat t).cmdDone ⟨.trsStatus, p.toNat, 0⟩ 0 0 8 (some p.toNat)) := by
  change execTrussInstall p src id s = _
  simp only [execTrussInstall, accessW_of_reaches hreach, hs0, hva, hbuilt, hfree, hdesc, hclean, hfields, hread, hmclean,
    hcheck, hjoiner, Option.isSome_none, Bool.not_true, Bool.or_self, Bool.false_eq_true, if_true, if_false]

theorem next_trussRetire (hs0 : s.trsCmd p.toNat id.toNat 2 = s0) (htruss : s0.trussAt p.toNat id.toNat = some t)
    (hidle : t.active = false) : Next (.trussRetire p src id) s
      ({ s0 with trusses := adel s0.trusses (p.toNat, id.toNat) }.cmdDone ⟨.trsStatus, p.toNat, 0⟩ 0 0 8 (some p.toNat)) := by
  change execTrussRetire p src id s = _
  simp only [execTrussRetire, accessW_of_reaches hreach, hs0, htruss, hidle, Bool.false_eq_true, if_false]

end

/-- A member that no record has moved for the limit of its partition, which is not 0. -/
theorem next_colTimeout {id : BitVec 12} {pos : Nat} {m : OwnMem} (htruss : s.trussAt p.toNat id.toNat = some t)
    (hmember : t.own.find? (fun m => m.pos == pos) = some m) (hlim : (s.reg ⟨.prtWdCol, p.toNat, 0⟩).toNat ≠ 0)
    (hstalled : t.stalled m = true) (hdue : (s.reg ⟨.prtWdCol, p.toNat, 0⟩).toNat ≤ s.since m.last)
    (hruns : s.partStopped p.toNat = false) : Next (.colTimeout p id pos) s
      (((s.endStep p.toNat id.toNat pos).count .prtWdCnt p.toNat 1).inspect p.toNat 0 0x03) := by
  change execColTimeout p id pos s = _
  simp only [execColTimeout, htruss, hmember, hlim, hstalled, Nat.not_lt.2 hdue, hruns, decide_false, Bool.not_true,
    Bool.or_self, Bool.false_eq_true, if_false]

end

/-- Settles O17: a record that is taken leaves one branch of its kind, a supply the whole row or what the engine takes of it,
and a command of a truss that passes its checks its end with result 0. -/
theorem collectivesAndTrusses : Obligations.CollectivesAndTrusses := by
  unfold Obligations.CollectivesAndTrusses
  refine ⟨⟨?kept, ?reply, fun s s1 n r t => next_colExponent, fun s s1 n r res t => next_colRetry_of_result,
      fun s s1 n r t => next_colSettle, ?result, fun s s1 c u h => next_colSupply_of_row,
      fun s s1 id n g t hsend hleft hclock hopen htruss => next_colSupply_of_send hsend hleft hclock hopen htruss, ?gather⟩,
    ?install, fun s p src id t hreach => next_trussRetire hreach rfl, ?timeout⟩
  case kept => exact fun s s1 n errs r t htake => next_colPartial_of_first htake
  case reply => exact fun s s1 n r t htake y hreply hkept hmember => next_colMaxReply_of_kept htake hreply hkept hmember
  case result => exact fun s s1 n r t htake hfirst hdig => next_colResult_of_digest htake hfirst rfl hdig rfl
  case gather => exact fun s s1 n k r t htake hstep => next_colGatherData htake rfl (find_step hstep) rfl
  case install =>
    exact fun s s1 s2 p src id l ml t hreach hbuilt hfree hdesc => next_trussInstall hreach rfl rfl hbuilt hfree hdesc
  case timeout =>
    exact fun s p id pos t m htruss hmember hlim hstalled => next_colTimeout htruss hmember hlim hstalled

/-! ### The blocks of a joiner's step (R285, R303, R305, R306, R309, R314) -/

section
variable {s : State} {p : BitVec 3} {j : JCtx}

/-- The step of the block is latched, the block is new to it, and the dispatcher of the die has room. -/
theorem next_joinerBlockOffer {entry : BitVec 12} {block : Nat} {t : Truss} {o : OwnerBlk} {r : ColRec} {keep : Bool}
    (hoffer : s.offeredBlock p.toNat entry.toNat block = some (t, o, (r, keep)))
    (hctx : aget s.jctxs (p.toNat, t.jctx) = some j) (hactive : j.active.isSome = true)
    (hnew : j.done.contains block = false) (habsent : j.queue.any (fun q => q.crec.b == block) = false)
    (hroom : s.dispatcherLoad t.sumDie < 256) (hopen : s.backPressed p.toNat 7 = false) :
    Next (.joinerBlockOffer p entry block) s
      (((s.setJctx p.toNat t.jctx { j with queue := j.queue ++ [{ crec := r, pos := t.ownerPos block }] }).settle p.toNat
        entry.toNat r keep).colComplete p.toNat entry.toNat) := by
  have hlatched : j.active.isNone = false := by rw [← Option.not_isSome, hactive, Bool.not_true]
  change execJoinerBlockOffer p entry block s = _
  simp only [execJoinerBlockOffer, hoffer, hctx, hlatched, hnew, habsent, Nat.not_le.2 hroom, hopen, decide_false,
    Bool.or_self, Bool.false_eq_true, if_false]

section
variable {id : BitVec 10} {num : BitVec 4} {jb : JJob} {t : JExt} {q : JBlock} {a : JLatch} {g : JProg}

section
variable {block : Nat} (htake : s.jnrTake p.toNat id.toNat num.toNat block = some (jb, t, q))
  (hpub : s.pubHeld jb.p jb.j = false)
include htake hpub

/-- A poisoned block is skipped (R309). -/
theorem next_joinerBlockApply_of_poison (hpoison : q.crec.poison = true) :
    Next (.joinerBlockApply p id num block []) s ((s.skipBlock jb t block 1).rowBlocksDone jb t) := by
  change execJoinerBlockApply p id num block [] s = _
  simp only [execJoinerBlockApply, htake, hpub, hpoison, Bool.false_eq_true, if_true, if_false]

section
variable (hclean : q.crec.poison = false)
include hclean

/-- A block with an element that is not finite is skipped (R309). -/
theorem next_joinerBlockApply_of_nonfinite (hnf : q.crec.nf = true) :
    Next (.joinerBlockApply p id num block []) s ((s.skipBlock jb t block 2).rowBlocksDone jb t) := by
  change execJoinerBlockApply p id num block [] s = _
  simp only [execJoinerBlockApply, htake, hpub, hclean, hnf, Bool.false_eq_true, if_true, if_false]

/-- Any other block runs the program: on its elements in the element form, else on the rows that it reaches. -/
theorem next_joinerBlockApply_of_finite (hfinite : q.crec.nf = false) (hprog : s.jnrProgOf jb.p jb.j = some (a, g)) :
    Next (.joinerBlockApply p id num block []) s
      (if jb.j.dim = 0 then s.applyElems jb t q.crec a g []
       else ((upto (64 * block / jb.j.dim) (64 / jb.j.dim + 1)).foldl (fun s r => s.applyRow jb t a g r []) s).rowBlocksDone
        jb t) := by
  change execJoinerBlockApply p id num block [] s = _
  simp only [execJoinerBlockApply, htake, hpub, hclean, hfinite, hprog, Bool.false_eq_true, if_false]

end

end

theorem next_joinerRowApply {row : Nat} (hctx : aget s.jctxs (p.toNat, id.toNat) = some j)
    (htake : s.jnrTake p.toNat id.toNat num.toNat (row * j.dim / 64) = some (jb, t, q))
    (hprog : s.jnrProgOf jb.p j = some (a, g)) :
    Next (.joinerRowApply p id num row []) s (s.applyRow jb t a g row []) := by
  change execJoinerRowApply p id num row [] s = _
  simp only [execJoinerRowApply, hctx, htake, hprog]

end

/-- A context whose entry offers a block passes its gate at once where the value of the peg is not 0, and takes 1 of it. -/
theorem next_joinerStepLatch_of_gate {id : BitVec 10} {t : Truss} {h : PegHome} {s1 : State}
    (hctx : aget s.jctxs (p.toNat, id.toNat) = some j) (htruss : s.trussAt p.toNat j.entry = some t)
    (hidle : j.active = none) (hxp : j.xp = none) (hgate : j.gate = some h) (hgranted : j.granted = false)
    (hgated : j.gated = false) (hjoiner : t.joiner = true) (hnamed : t.jctx = id.toNat)
    (hoffer : (t.owner.any fun o => o.offered.isSome) = true) (hpeg : 1 ≤ (s.peg h).toNat)
    (hs1 : s.setPeg h (s.peg h - 1#32) = s1) : Next (.joinerStepLatch p id) s
      ((s1.jnrSlot p.toNat j).1.setJctx p.toNat id.toNat
        { j with active := some (s1.jnrSlot p.toNat j).2, ext := some t.ext, gated := false, granted := false }) := by
  have hle : 1#32 ≤ s.peg h := hpeg
  change execJoinerStepLatch p id s = _
  simp only [execJoinerStepLatch, hctx, htruss, hidle, hxp, hgate, hgranted, hgated, hjoiner, hnamed, hoffer, hle, hs1,
    Option.isSome_none, beq_self_eq_true, Bool.and_self, Bool.not_true, Bool.or_self, Bool.false_eq_true, if_true, if_false]

end

/-! ### Commands of contexts and programs (R293 to R296, R303, R323) -/

section
variable {s s0 s1 s2 : State} {p : BitVec 3} {src : Src}

section
variable {id : BitVec 10} (hreach : Reaches s src ⟨.jnrCmd, p.toNat, 0⟩)
include hreach

theorem next_joinerCtxInstall {va : Nat} {l : List PByte} (hs0 : s.jnrCmd p.toNat id.toNat 1 = s0)
    (hva : s0.jnrBase p.toNat + id.toNat * 256 = va) (hbuilt : (s0.part p.toNat).built = true)
    (hfree : aget s0.jctxs (p.toNat, id.toNat) = none) (hread : s0.vload p.toNat va 256 0 = some (s1, l))
    (hcheck : s1.jctxCheck p.toNat l = 0) : Next (.joinerCtxInstall p src id) s
      ((s1.setJctx p.toNat id.toNat (JCtx.ofBytes va (dataOf l))).cmdDone ⟨.jnrStatus, p.toNat, 0⟩ 0 0 8 (some p.toNat)) := by
  change execJoinerCtxInstall p src id s = _
  simp only [execJoinerCtxInstall, accessW_of_reaches hreach, hs0, hva, hbuilt, hfree, hread, hcheck, Option.isSome_none,
    Bool.not_true, Bool.false_eq_true, if_true, if_false]

/-- The context has no step, waits for no gate, and no joiner entry names it. -/
theorem next_joinerCtxRetire {j : JCtx} (hs0 : s.jnrCmd p.toNat id.toNat 2 = s0)
    (hctx : aget s0.jctxs (p.toNat, id.toNat) = some j) (hidle : j.active = none) (hgated : j.gated = false)
    (hunused : (s0.trusses.any fun e => e.1.1 == p.toNat && e.2.joiner && e.2.jctx == id.toNat) = false) :
    Next (.joinerCtxRetire p src id) s
      ({ s0 with jctxs := adel s0.jctxs (p.toNat, id.toNat) }.cmdDone ⟨.jnrStatus, p.toNat, 0⟩ 0 0 8 (some p.toNat)) := by
  change execJoinerCtxRetire p src id s = _
  simp only [execJoinerCtxRetire, accessW_of_reaches hreach, hs0, hctx, hidle, hgated, hunused, Option.isSome_none,
    Bool.or_self, Bool.false_eq_true, if_false]

end

/-- Does an active context run the program of a slot? -/
def slotRuns (s : State) (slot : Nat) : Bool :=
  s.jctxs.any fun e => match e.2.active with | some a => a.prog == slot | none => false

section
variable {slot : BitVec 6} {P : Nat} {g : JProg} (hreach : Reaches s src ⟨.jnrProgCmd, 0, 0⟩)
  (hpart : s.progPart src p.toNat = P)
include hreach hpart

/-- No other partition holds the slot, no active context runs it, and the image can be read, is clean and aligned. -/
theorem next_joinerProgLoad {va : Nat} {h c : List PByte} (hs0 : s.progCmd slot.toNat P 1 = s0)
    (hva : (s0.reg ⟨.jnrProgAddrLo, 0, 0⟩).toNat + 2 ^ 32 * s0.rfld ⟨.jnrProgAddrHi, 0, 0⟩ 15 0 = va)
    (hown : ∀ u, aget s0.jprogs slot.toNat = some u → u.part = P) (hidle : slotRuns s0 slot.toNat = false)
    (hhead : s0.vload P va 16 0 = some (s1, h))
    (hcode : s1.vload P (va + 16) (4 * (dfield (dataOf h) 4 1 + dfield (dataOf h) 5 1 + dfield (dataOf h) 6 1)) 0 = some (s2, c))
    (hprog : progOf P (dataOf h) (dataOf c) = some g) (hclean : anyPoison h = false) (hcclean : anyPoison c = false)
    (halign : va % 16 = 0) : Next (.joinerProgLoad src p slot) s
      ({ s2 with jprogs := aset s2.jprogs slot.toNat g }.cmdDone ⟨.jnrProgStatus, 0, 0⟩ 0 0 0 (some P)) := by
  have hmine : (match aget s0.jprogs slot.toNat with | some g => g.part != P | none => false) = false := by
    cases hu : aget s0.jprogs slot.toNat with
    | none => rfl
    | some u => exact bne_eq_false_iff_eq.2 (hown u hu)
  change execJoinerProgLoad src p slot s = _
  simp only [execJoinerProgLoad, accessW_of_reaches hreach, hpart, hs0, hva, hhead, hcode, hprog, hclean, hcclean, halign,
    bne_self_eq_false, Bool.or_self, Bool.false_eq_true, if_false]
  exact congrArg Host.Outcome.next
    ((if_neg (ne_true_of_eq_false hmine)).trans (if_neg (ne_true_of_eq_false hidle)))

theorem next_joinerProgFree (hs0 : s.progCmd slot.toNat P 2 = s0) (hprog : aget s0.jprogs slot.toNat = some g)
    (hown : g.part = P) (hunused : s0.slotNamed P slot.toNat = false) : Next (.joinerProgFree src p slot) s
      ({ s0 with jprogs := adel s0.jprogs slot.toNat }.cmdDone ⟨.jnrProgStatus, 0, 0⟩ 0 0 0 (some P)) := by
  change execJoinerProgFree src p slot s = _
  simp only [execJoinerProgFree, accessW_of_reaches hreach, hpart, hs0, hprog, hown, hunused, ne_eq, not_true_eq_false,
    Bool.false_eq_true, if_false]

end

/-! ### Export and import (R317 to R322) -/

/-- A request whose descriptor is clean, aligned and of its operation is served at once for a context without a step. -/
theorem xpGo_of_idle {P op va : Nat} {l : List PByte} {j : JCtx} (hreach : Reaches s src ⟨.jnrXpCmd, P, 0⟩)
    (hfree : s.rbit ⟨.jnrXpCmd, P, 0⟩ 0 = false) (hbuilt : (s.part P).built = true)
    (hva : (s.reg ⟨.jnrXpAddrLo, P, 0⟩).toNat + 2 ^ 32 * s.rfld ⟨.jnrXpAddrHi, P, 0⟩ 15 0 = va)
    (hread : s.vload P va 64 0 = some (s1, l)) (hclean : anyPoison l = false) (hop : dfield (dataOf l) 0 1 = op)
    (halign : va % 64 = 0) (hctx : aget s1.jctxs (P, dfield (dataOf l) 2 2) = some j) (hidle : j.active = none) :
    s.xpGo P src op = (s1.setFld ⟨.jnrXpCmd, P, 0⟩ 0 0 1).xpServe P (dataOf l) := by
  have hctx' : aget (s1.setFld ⟨.jnrXpCmd, P, 0⟩ 0 0 1).jctxs (P, dfield (dataOf l) 2 2) = some j := hctx
  simp only [State.xpGo, accessW_of_reaches hreach, hfree, hbuilt, hva, hread, hclean, hop, halign, hctx', hidle,
    bne_self_eq_false, Option.isSome_none, Bool.not_true, Bool.and_false, Bool.or_self, Bool.false_eq_true, if_false]

end

/-- Settles O21: a block, a row or a gate that is ready leaves one branch of its command, and a command whose checks pass ends
with result 0 or serves its request. -/
theorem joinerWork : Obligations.JoinerWork := by
  unfold Obligations.JoinerWork
  refine ⟨⟨?offer, ?apply, fun s p id n row jb t q j a g => next_joinerRowApply, ?latch⟩, ?install,
    fun s p src id j hreach => next_joinerCtxRetire hreach rfl, ?load,
    fun s p src slot g hreach => next_joinerProgFree hreach rfl rfl, ?request⟩
  case offer => exact fun s p entry block t o r keep j hoffer hctx => next_joinerBlockOffer hoffer hctx
  case apply =>
    exact fun s p id n block jb t q a g htake hpub => ⟨next_joinerBlockApply_of_poison htake hpub,
      next_joinerBlockApply_of_nonfinite htake hpub, fun hclean hfinite hprog =>
        have hnext := next_joinerBlockApply_of_finite htake hpub hclean hfinite hprog
        ⟨next_of_pos hnext, next_of_neg hnext⟩⟩
  case latch =>
    exact fun s p id j t h hctx htruss hidle hxp hgate hgranted hgated hjoiner hnamed hoffer hpeg =>
      next_joinerStepLatch_of_gate hctx htruss hidle hxp hgate hgranted hgated hjoiner hnamed hoffer hpeg rfl
  case install => exact fun s s1 p src id l hreach => next_joinerCtxInstall hreach rfl rfl
  case load => exact fun s s1 s2 p src slot h c g hreach => next_joinerProgLoad hreach rfl rfl rfl
  case request =>
    intro s s1 p src l j im P k va d hreach hfree hbuilt hread hclean hop halign hctx hidle
    have hserved := xpGo_of_idle hreach hfree hbuilt rfl hread hclean hop halign hctx hidle
    cases im <;> exact congrArg Host.Outcome.next hserved

end Sys2Proof.Proofs
end

section
/-! Proofs about the Lumder fabric (11): the ports' training, lanes, sleep and wake; the frames that leave, arrive or are
rejected. -/
namespace Sys2Proof.Proofs
open Sys2Proof Sys2Proof.Machine Sys2Proof.Spec Sys2Proof.Laws

/-! ### What events, causes and activities leave of the ports and the arbiter (R394, R516) -/

/-- The ports, the activities that run and those that wait. -/
def portView (s : State) : Vector Port 8 × List Activity × List Activity := (s.ports, s.maintRun, s.maintQueue)

theorem portView_ite {c : Prop} [Decidable c] {t u : State} {v : Vector Port 8 × List Activity × List Activity}
    (ht : portView t = v) (hu : portView u = v) : portView (if c then t else u) = v := by
  split
  · exact ht
  · exact hu

theorem ports_of_portView {s t : State} (h : portView t = portView s) : t.ports = s.ports := congrArg (·.1) h

theorem port_of_ports {s t : State} (h : t.ports = s.ports) (n : Nat) : t.port n = s.port n := by
  rw [State.port, h, State.port]

section
variable (s : State)

theorem portView_emit (d : Fin 4) (e : Event) : portView (s.emit d e) = portView s := portView_ite rfl rfl

theorem portView_portEvent (n code p a0 a1 : Nat) : portView (s.portEvent n code p a0 a1) = portView s := portView_emit ..

theorem portView_maintEvent (a : Activity) (w : Nat) : portView (s.maintEvent a w) = portView s := portView_emit ..

theorem portView_pldmEvent (code arg : Nat) : portView (s.pldmEvent code arg) = portView s := portView_ite rfl rfl

theorem portView_msix (v vec : Nat) : portView (s.msix v vec) = portView s := portView_ite rfl rfl

theorem portView_vfCause (v c : Nat) : portView (s.vfCause v c) = portView s :=
  portView_ite rfl (portView_ite rfl (portView_msix ..))

theorem portView_pfCause (c : Nat) : portView (s.pfCause c) = portView s :=
  portView_ite rfl (portView_ite rfl (portView_msix ..))

theorem portView_foldl {α : Type} {f : State → α → State} (hf : ∀ u a, portView (f u a) = portView u) (l : List α) :
    portView (l.foldl f s) = portView s :=
  List.foldlRecOn l f (motive := fun u => portView u = portView s) rfl fun u hu a _ => (hf u a).trans hu

theorem portView_cause (p c : Nat) : portView (s.cause p c) = portView s := by
  rw [State.cause]
  split
  next => rfl
  next => exact (portView_pfCause ..).trans (portView_foldl s (fun u v => portView_vfCause u v c) _)

/-- An activity that starts joins those that run. -/
theorem portView_maintStart (a : Activity) : portView (s.maintStart a) = (s.ports, s.maintRun ++ [a], s.maintQueue) :=
  (portView_foldl _ (fun u p => portView_cause u p 13) _).trans (portView_maintEvent ..)

theorem ports_maintStart (a : Activity) : (s.maintStart a).ports = s.ports := congrArg (·.1) (portView_maintStart s a)

theorem ports_maintScan (before waiting : List Activity) : (State.maintScan before waiting s).ports = s.ports := by
  induction waiting generalizing before s with
  | nil => rfl
  | cons a r ih =>
    rw [State.maintScan]
    split
    · exact (ih ..).trans (ports_maintStart s a)
    · exact ih ..

theorem ports_maintEnd (a : Activity) : (s.maintEnd a).ports = s.ports := by
  rw [State.maintEnd]
  split
  · rw [ports_maintScan, ports_of_portView (portView_maintEvent _ a 1), State_count_ports]
  · rfl

theorem maintAsk_of_free {a : Activity} (hfree : s.maintFree s.maintQueue a = true) : s.maintAsk a = (s.maintStart a, 0) :=
  if_pos hfree

/-- A request that may not start joins those that wait, while there is room. -/
theorem maintAsk_of_busy {a : Activity} (hbusy : s.maintFree s.maintQueue a = false) (hroom : s.maintQueue.length < 256) :
    portView (s.maintAsk a).1 = (s.ports, s.maintRun, s.maintQueue ++ [a]) ∧ (s.maintAsk a).2 = 2 := by
  rw [State.maintAsk, if_neg (ne_true_of_eq_false hbusy), if_neg (Nat.not_le.2 hroom)]
  exact ⟨(portView_maintEvent ..).trans (portView_pldmEvent ..), rfl⟩

theorem ports_maintAsk (a : Activity) : (s.maintAsk a).1.ports = s.ports := by
  by_cases hfree : s.maintFree s.maintQueue a = true
  · rw [maintAsk_of_free s hfree, ports_maintStart]
  · by_cases hroom : s.maintQueue.length < 256
    · exact congrArg (·.1) (maintAsk_of_busy s (Bool.eq_false_iff.2 hfree) hroom).1
    · rw [State.maintAsk, if_neg hfree, if_pos (Nat.not_lt.1 hroom)]

end

/-! ### A port that changes state (R348, R356) -/

/-- A port in the state that it enters: the line holds nothing. -/
def entered (q : Port) (st : PortSt) : Port :=
  { q with st := st, txq := [], block := [], slotT := 0, rxSlot := 0, rxBad := false }

section
variable {s : State} {n : Nat}

/-- No frame is sent again for a port that stays Up or goes to sleep. -/
theorem portsStep_one {f : State → Nat → State} (hstay : (s.port n).st = .up →
    ((f s n).port n).st = .up ∨ ((f s n).port n).st = .sleeping) : s.portsStep [n] f = f s n := by
  have hnone : ((s.port n).st == .up && ((f s n).port n).st != .up && ((f s n).port n).st != .sleeping) = false := by
    by_cases hup : (s.port n).st = .up
    · rcases hstay hup with h | h <;> simp [h]
    · simp [hup]
  simp [State.portsStep, hnone]

variable (hn : n < 8)
include hn

theorem portStep_port (q : Port) (st : PortSt) :
    (s.portStep n q st).port n = if (s.port n).st = st then { q with st := st } else entered q st := by
  simp only [State.portStep]
  split
  · exact State_setPort_port s _ hn
  · have hset : (s.setPort n (entered q st)).port n = entered q st := State_setPort_port s _ hn
    have hevent (code p a0 a1 : Nat) : portView ((s.setPort n (entered q st)).portEvent n code p a0 a1) =
        portView (s.setPort n (entered q st)) := portView_portEvent ..
    refine (port_of_ports (ports_of_portView (portView_ite (hevent ..) ?_)) n).trans hset
    split
    · exact (portView_cause ..).trans (hevent ..)
    · exact hevent ..

theorem portStep_st (q : Port) (st : PortSt) : ((s.portStep n q st).port n).st = st := by
  rw [portStep_port hn]
  split <;> rfl

theorem portStep_held (q : Port) (st : PortSt) : ((s.portStep n q st).port n).held = q.held := by
  rw [portStep_port hn]
  split <;> rfl

theorem portTo_port {q : Port} {st : PortSt} (hmoves : (s.port n).st ≠ st) (hstay : (s.port n).st = .up → st = .sleeping) :
    (s.portTo n q st).port n = entered q st := by
  have hport : (s.portStep n q st).port n = entered q st := (portStep_port hn q st).trans (if_neg hmoves)
  rw [State.portTo, portsStep_one fun hup => .inr (by rw [hport]; exact hstay hup), hport]

/-- Full training forgets that the port was held. -/
theorem startTrain_port (hup : (s.port n).st ≠ .up) :
    ((s.startTrain n).port n).st = .training ∧ ((s.startTrain n).port n).held = false := by
  rw [State.startTrain, portsStep_one fun h => absurd h hup]
  exact ⟨portStep_st hn .., portStep_held hn ..⟩

end

/-! ### Training (R330, R332, R356, R357, R418) -/

/-- The error counts of the lanes that an attempt may use: those of a bad assembly lane are none. -/
def laneCounts (s : State) (n : Nat) (errs : List (Option Nat)) : List (Option Nat) :=
  (List.range 18).map fun i => if s.assemblyBad 2 n i then none else (errs[i]?).bind id

/-- The number of good lanes. -/
def goodLanes (es : List (Option Nat)) : Nat := ((List.range 18).filter fun i => ((es[i]?).bind id).isSome).length

/-- On how many lanes an attempt ends Up. -/
def trainWidth (s : State) (n good : Nat) : Nat :=
  if 16 ≤ good then 16 else if 8 ≤ good ∧ s.rbit ⟨.lmdCtl, n, 0⟩ 1 = true then 8 else 0

/-- A failed attempt is tried again twice, then the port is Down. -/
def attemptFailed (s : State) (n good : Nat) : State :=
  if (s.port n).tries < 2 then s.setPort n { s.port n with tries := (s.port n).tries + 1 }
  else ((s.setFld ⟨.lmdCtl, n, 0⟩ 2 2 0).portTo n { s.port n with tries := 0, dead := good == 0 } .down).pldmEvent 0x0009 n

section
variable {s : State} {port : BitVec 3} {errs : List (Option Nat)} {partner : Option Partner}

theorem ports_startRecord (s : State) (ty unit : Nat) (masks : List Byte) : (s.startRecord ty unit masks).ports = s.ports := by
  rw [State.startRecord]
  split
  · split <;> rfl
  · rfl

/-- What a port that trained Up is like, whatever it then sends. -/
theorem trainUp_port {n : Nat} (hn : n < 8) (htraining : (s.port n).st = .training) (es : List (Option Nat)) (p : Partner)
    (k : Nat) : ∃ fs, (s.trainUp n es p k).port n = { s.port n with
      st := .up, lanes := (laneSelect es k).1, spares := if k = 16 then (laneSelect es k).2 else [], narrow := k == 8
      tries := 0, dead := false, addr := some p.addr, lastCtl := s.plumb, idleSince := s.plumb
      txq := fs, block := [], slotT := 0, rxSlot := 0, rxBad := false } := by
  have hst (l : List Byte) (w : Word) :
      ((((s.startRecord 2 n l).setFld ⟨.lmdCtl, n, 0⟩ 2 2 0).setReg ⟨.lmdTimeDiff, n, 0⟩ w).port n).st = .training := by
    rw [port_of_ports ((State_setReg_ports ..).trans ((State_setFld_ports ..).trans (ports_startRecord ..))), htraining]
  simp only [State.trainUp, State.sendTime, State.sendCtl, State.queueFrame, State_setPort_port _ _ hn]
  rw [portTo_port hn (by simp [hst]) (by simp [hst])]
  exact ⟨_, rfl⟩

/-- An attempt with a partner of the port's own plane ends Up when enough lanes are good, any other fails. -/
theorem next_portTrainDone {es : List (Option Nat)} {k : Nat} (htraining : (s.port port.toNat).st = .training)
    (hes : laneCounts s port.toNat errs = es) (hk : trainWidth s port.toNat (goodLanes es) = k) :
    Next (.portTrainDone port errs partner) s
      ((partner.filter fun p => p.plane == port.toNat).elim (attemptFailed s port.toNat (goodLanes es))
        fun p => if k = 0 then attemptFailed s port.toNat (goodLanes es) else s.trainUp port.toNat es p k) := by
  subst hes
  refine congrArg Host.Outcome.next ((if_neg (not_not_intro htraining)).trans ?_)
  cases partner.filter fun p => p.plane == port.toNat with
  | none => rfl
  | some p =>
    by_cases h16 : 16 ≤ goodLanes (laneCounts s port.toNat errs)
    · obtain rfl : k = 16 := hk.symm.trans (if_pos h16)
      exact if_pos h16
    · by_cases h8 : 8 ≤ goodLanes (laneCounts s port.toNat errs) ∧ s.rbit ⟨.lmdCtl, port.toNat, 0⟩ 1 = true
      · obtain rfl : k = 8 := hk.symm.trans ((if_neg h16).trans (if_pos h8))
        exact (if_neg h16).trans (if_pos h8)
      · obtain rfl : k = 0 := hk.symm.trans ((if_neg h16).trans (if_neg h8))
        exact (if_neg h16).trans (if_neg h8)

theorem next_portTrainDone_up {p : Partner} {es : List (Option Nat)} {k : Nat} (htraining : (s.port port.toNat).st = .training)
    (hes : laneCounts s port.toNat errs = es) (hk : trainWidth s port.toNat (goodLanes es) = k) (hpartner : partner = some p)
    (hplane : p.plane = port.toNat) (hwide : k ≠ 0) :
    Next (.portTrainDone port errs partner) s (s.trainUp port.toNat es p k) := by
  subst hpartner
  have hnext := next_portTrainDone (partner := some p) htraining hes hk
  rwa [Option.filter_some_pos (by simp [hplane]), Option.elim_some, if_neg hwide] at hnext

theorem next_portTrainDone_failed {es : List (Option Nat)} {k : Nat} (htraining : (s.port port.toNat).st = .training)
    (hes : laneCounts s port.toNat errs = es) (hk : trainWidth s port.toNat (goodLanes es) = k)
    (hfails : ∀ p, partner = some p → p.plane = port.toNat → k = 0) :
    Next (.portTrainDone port errs partner) s (attemptFailed s port.toNat (goodLanes es)) := by
  have hnext := next_portTrainDone (partner := partner) htraining hes hk
  cases hfilter : partner.filter fun p => p.plane == port.toNat with
  | none => rwa [hfilter] at hnext
  | some p =>
    obtain ⟨hpartner, hplane⟩ := Option.filter_eq_some_iff.1 hfilter
    rwa [hfilter, Option.elim_some, if_pos (hfails p hpartner (beq_iff_eq.1 hplane))] at hnext

theorem next_portTrainingDelayExpire (hheld : (s.port port.toNat).held = true) (hdue : s.trainHeld port.toNat = false) :
    Next (.portTrainingDelayExpire port) s (s.startTrain port.toNat) :=
  congrArg Host.Outcome.next (if_pos (by simp [hheld, hdue]))

theorem next_portRetrain {src : Src} (hreach : Reaches s src ⟨.lmdCtl, port.toNat, 0⟩) (hon : (s.port port.toNat).st ≠ .off) :
    Next (.portRetrain port src) s ((s.startTrain port.toNat).setFld ⟨.lmdCtl, port.toNat, 0⟩ 2 2 1) :=
  congrArg Host.Outcome.next ((accessW_of_reaches hreach).trans (if_neg hon))

theorem next_partnerSilent (hup : (s.port port.toNat).st = .up) (hdue : 2 ^ 20 ≤ s.since (s.port port.toNat).lastCtl) :
    Next (.partnerSilent port) s (s.startTrain port.toNat) :=
  congrArg Host.Outcome.next (if_pos ⟨hup, hdue⟩)

theorem next_wakeToneTimeout (hwaking : (s.port port.toNat).st = .waking) (hdue : 65536 ≤ s.since (s.port port.toNat).wakeT) :
    Next (.wakeToneTimeout port) s (s.startTrain port.toNat) :=
  congrArg Host.Outcome.next (if_pos ⟨hwaking, hdue⟩)

end

/-! ### Lanes (R331, R332, R361) -/

section
variable {s : State} {n : Nat}

theorem askSwap_eq {lane : Nat} (htaken : (s.maintAsk ⟨9, n⟩).2 ≠ 1) : s.askSwap n lane = (s.maintAsk ⟨9, n⟩).1.setPort n
    { (s.maintAsk ⟨9, n⟩).1.port n with swapAsked := ((s.maintAsk ⟨9, n⟩).1.port n).swapAsked ++ [lane] } :=
  if_neg htaken

variable (hn : n < 8)
include hn

theorem askSwap_swapAsked {lane : Nat} (htaken : (s.maintAsk ⟨9, n⟩).2 ≠ 1) :
    ((s.askSwap n lane).port n).swapAsked = (s.port n).swapAsked ++ [lane] := by
  rw [askSwap_eq htaken, State_setPort_port _ _ hn, port_of_ports (ports_maintAsk ..)]

theorem askSwap_st (lane : Nat) : ((s.askSwap n lane).port n).st = (s.port n).st := by
  by_cases htaken : (s.maintAsk ⟨9, n⟩).2 = 1
  · rw [State.askSwap]
    simp only [htaken, if_true]
    rw [port_of_ports (ports_maintAsk ..)]
  · rw [askSwap_eq htaken, State_setPort_port _ _ hn, port_of_ports (ports_maintAsk ..)]

theorem laneSwapped_port (lane : Nat) : (s.laneSwapped n lane).port n = (s.port n).swapLane lane :=
  State_setPort_port s _ hn

end

section
variable {s : State} {port : BitVec 3} {lane : Nat} (hup : (s.port port.toNat).st = .up)
include hup

theorem next_lumderLaneSwapRequest (hlane : lane < (s.port port.toNat).lanes.length) (hspare : (s.port port.toNat).spares ≠ [])
    (hpast : (s.reg ⟨.lmdSwapTh, port.toNat, 0⟩).toNat < s.laneCount port.toNat lane)
    (hnew : (s.port port.toNat).swapAsked.contains lane = false) :
    Next (.lumderLaneSwapRequest port lane) s (s.askSwap port.toNat lane) := by
  change execLumderLaneSwapRequest port lane s = _
  simp only [execLumderLaneSwapRequest, hup, Nat.not_le.2 hlane, hspare, Nat.not_le.2 hpast, hnew, List.isEmpty_iff, ne_eq,
    not_true_eq_false, Bool.false_eq_true, or_self, if_false]

section
variable {boundary : Nat} (hspare : (s.port port.toNat).spares ≠ [])
include hspare

/-- The partner named the boundary, and it is reached. -/
theorem next_lumderLaneSwap_of_swap {b : Nat} (hswap : (s.port port.toNat).swap = some (lane, b))
    (hdue : b ≤ (s.port port.toNat).sent) : Next (.lumderLaneSwap port lane boundary) s (s.laneSwapped port.toNat lane) := by
  change execLumderLaneSwap port lane boundary s = _
  simp only [execLumderLaneSwap, hup, hspare, hswap, hdue, List.isEmpty_iff, Option.any_some, beq_self_eq_true, decide_true,
    Bool.and_self, ne_eq, not_true_eq_false, or_self, if_false, if_true]

/-- The port itself named the boundary, and it is reached: the activity ends. -/
theorem next_lumderLaneSwap_of_swapWait {b : Nat} (hswap : (s.port port.toNat).swap = none)
    (hwait : (s.port port.toNat).swapWait = some (lane, b)) (hdue : b ≤ (s.port port.toNat).sent) :
    Next (.lumderLaneSwap port lane boundary) s ((s.laneSwapped port.toNat lane).maintEnd ⟨9, port.toNat⟩) := by
  change execLumderLaneSwap port lane boundary s = _
  simp only [execLumderLaneSwap, hup, hspare, hswap, hwait, hdue, List.isEmpty_iff, Option.any_some, Option.any_none,
    beq_self_eq_true, decide_true, Bool.and_self, ne_eq, not_true_eq_false, Bool.false_eq_true, or_self, if_false, if_true]

/-- The swap is granted: the port names its boundary. -/
theorem next_lumderLaneSwap_of_granted (hswap : (s.port port.toNat).swap = none) (hwait : (s.port port.toNat).swapWait = none)
    (hasked : (s.port port.toNat).swapAsked.contains lane = true) (hrun : s.maintRun.contains ⟨9, port.toNat⟩ = true)
    (hahead : (s.port port.toNat).sent + 1024 ≤ boundary) : Next (.lumderLaneSwap port lane boundary) s
      ((s.setPort port.toNat { s.port port.toNat with swapWait := some (lane, boundary) }).sendCtl port.toNat
        (.swap lane boundary)) := by
  change execLumderLaneSwap port lane boundary s = _
  simp only [execLumderLaneSwap, hup, hspare, hswap, hwait, hasked, hrun, hahead, List.isEmpty_iff, Option.any_none,
    Option.isNone_none, and_self, ne_eq, not_true_eq_false, Bool.false_eq_true, or_self, if_false, if_true]

end

/-- A failed lane takes a spare, and a swap of it that was asked ends; without a spare the port trains. -/
theorem next_lumderLaneFail (hlane : lane < (s.port port.toNat).lanes.length) : Next (.lumderLaneFail port lane) s
    (if (s.port port.toNat).spares = [] then s.startTrain port.toNat
     else (if (s.port port.toNat).swapAsked.contains lane = true
        then (s.maintCancel ⟨9, port.toNat⟩).maintEnd ⟨9, port.toNat⟩ else s).laneSwapped port.toNat lane) := by
  change execLumderLaneFail port lane s = _
  simp only [execLumderLaneFail, hup, Nat.not_le.2 hlane, List.isEmpty_iff, ne_eq, not_true_eq_false, or_self, if_false]

end

/-! ### Sleep and wake (R358 to R361) -/

section
variable {s : State} {n : Nat} (hn : n < 8)
include hn

theorem goSleep_st (hup : (s.port n).st = .up) : ((s.goSleep n).port n).st = .sleeping := by
  have hto (q : Port) : (((s.portTo n q .sleeping).count .lmdSleepCnt n 1).port n).st = .sleeping :=
    congrArg Port.st (portTo_port (s := s) (q := q) (st := .sleeping) hn (by simp [hup]) fun _ => rfl)
  simp only [State.goSleep]
  split
  · exact hto _
  · rw [port_of_ports (ports_maintEnd ..)]
    exact hto _

/-- The time that the port sends and the swaps that it asks for again leave it Up. -/
theorem wakeUp_st (hwaking : (s.port n).st = .waking) (rtt : Nat) : ((s.wakeUp n rtt).port n).st = .up := by
  simp only [State.wakeUp]
  refine List.foldlRecOn _ _ (motive := fun (u : State) => (u.port n).st = .up) ?_
    fun u hu lane _ => (askSwap_st hn lane).trans hu
  simp only [State.sendTime, State.sendCtl, State.queueFrame, State_setPort_port _ _ hn]
  rw [portTo_port hn (by simp [port_of_ports (State_setReg_ports s _ _), hwaking])
    (by simp [port_of_ports (State_setReg_ports s _ _), hwaking])]
  rfl

end

section
variable {s : State} {port : BitVec 3}

theorem st_of_sleepOk {n : Nat} (h : s.sleepOk n = true) : (s.port n).st = .up := by
  simp only [State.sleepOk, Bool.and_eq_true, beq_iff_eq] at h
  obtain ⟨⟨⟨⟨hup, _⟩, _⟩, _⟩, _⟩ := h
  exact hup

theorem next_sleepRequest {b : Nat} (hok : s.sleepOk port.toNat = true) (hnone : (s.port port.toNat).sleepAt = none)
    (hahead : (s.port port.toNat).sent < b) : Next (.sleepRequest port b) s
      ((s.setPort port.toNat { s.port port.toNat with sleepAt := some b }).sendCtl port.toNat (.sleepReq b)) :=
  congrArg Host.Outcome.next (if_pos ⟨hok, hahead, Option.isNone_iff_eq_none.2 hnone⟩)

theorem next_sleepEnter {b : Nat} (hat : (s.port port.toNat).sleepAt = some b) (hok : s.sleepOk port.toNat = true)
    (hacked : (s.port port.toNat).sleepAcked = true) (hdue : b ≤ (s.port port.toNat).sent) :
    Next (.sleepEnter port) s (s.goSleep port.toNat) := by
  change execSleepEnter port s = _
  simp only [execSleepEnter, hat, hok, hacked, hdue, decide_true, Bool.and_self, if_true]

theorem next_wakeTrigger_of_sleeping (hsleeping : (s.port port.toNat).st = .sleeping) (tone : Bool) :
    Next (.wakeTrigger port tone) s (s.portTo port.toNat
      { s.port port.toNat with wakeT := s.plumb, tone := if tone then some s.plumb else none } .waking) :=
  congrArg Host.Outcome.next (if_pos hsleeping)

/-- A tone during the handshake aborts it. -/
theorem next_wakeTrigger_of_up {b : Nat} (hup : (s.port port.toNat).st = .up) (hat : (s.port port.toNat).sleepAt = some b) :
    Next (.wakeTrigger port true) s
      ((s.setPort port.toNat { s.port port.toNat with sleepAt := none, sleepAcked := false }).sendCtl port.toNat .sleepAbort) := by
  change execWakeTrigger port true s = _
  simp only [execWakeTrigger, State.sleepAbort, hup, hat, Option.isSome_some, and_self, reduceCtorEq, if_false, if_true]

/-- LMD_TIME_DIFF of a fast wake: the partner's time against the port's own, by the offset of its partition. -/
def wakeDiff (s : State) (n : Nat) (partner : Time) (rtt : Nat) : Int :=
  let woff := match s.partOfPort n with | some p => (s.reg ⟨.tstPertWake, p, 0⟩).toInt | none => 0
  max (-2147483648) (min 2147483647 (timeDiff (s.timeOf (domOfSpine (n / 2))) partner rtt + woff))

/-- With a lock and times that agree the port is Up again, else it is unaligned. -/
theorem next_fastWakeDone (hwaking : (s.port port.toNat).st = .waking) (lock : Bool) (partner : Time) (rtt : Nat) :
    Next (.fastWakeDone port lock partner rtt) s
      (let d := wakeDiff s port.toNat partner rtt
       let s1 := if lock = true then s.setReg ⟨.lmdTimeDiff, port.toNat, 0⟩ (BitVec.ofInt 32 d) else s
       if lock = true ∧ d.natAbs ≤ 65536 then s1.wakeUp port.toNat rtt else s1.unalign port.toNat) :=
  congrArg Host.Outcome.next (if_neg (not_not_intro hwaking))

end

/-- Settles O24: each command finds its port in the state that it needs, and its limits leave one branch. -/
theorem portsTrainSleepAndWake : Obligations.PortsTrainSleepAndWake := by
  unfold Obligations.PortsTrainSleepAndWake
  refine ⟨?train, ?start, ?lanes, ?sleep, ?wake⟩
  case train =>
    intro s port errs partner n q es good k htraining
    refine ⟨fun p hpartner hplane hwide => ?up, fun hfails => ?failed⟩
    case up =>
      obtain ⟨fs, hport⟩ := trainUp_port port.isLt htraining es p k
      refine ⟨_, next_portTrainDone_up htraining rfl rfl hpartner hplane hwide, ?_⟩
      exact ⟨congrArg Port.st hport, congrArg Port.lanes hport, congrArg Port.spares hport, congrArg Port.narrow hport,
        congrArg Port.addr hport⟩
    case failed =>
      have hnext := next_portTrainDone_failed (errs := errs) htraining rfl rfl hfails
      exact ⟨next_of_pos hnext, fun htried => next_of_neg hnext (Nat.not_lt.2 htried)⟩
  case start =>
    exact fun s port => ⟨next_portTrainingDelayExpire, fun src => next_portRetrain, next_partnerSilent, next_wakeToneTimeout,
      startTrain_port port.isLt⟩
  case lanes =>
    intro s port lane boundary n q act hup hlane
    refine ⟨fun hspare hpast hnew => ?ask, fun hspare => ?swap, next_of_pos (next_lumderLaneFail hup hlane),
      fun sp r hspares => ?fail⟩
    case ask =>
      have hnext := next_lumderLaneSwapRequest hup hlane hspare hpast hnew
      refine ⟨fun hfree => ⟨_, hnext, ?_⟩, fun hbusy hroom => ⟨_, hnext, ?_⟩⟩
      · have hask := maintAsk_of_free s hfree
        have htaken : (s.maintAsk act).2 ≠ 1 := by simp [hask]
        refine ⟨?_, askSwap_swapAsked port.isLt htaken⟩
        rw [askSwap_eq htaken]
        exact (congrArg (fun a => a.1.maintRun) hask).trans (congrArg (·.2.1) (portView_maintStart s act))
      · obtain ⟨hview, hqueued⟩ := maintAsk_of_busy s hbusy hroom
        have htaken : (s.maintAsk act).2 ≠ 1 := by simp [hqueued]
        refine ⟨?_, askSwap_swapAsked port.isLt htaken⟩
        rw [askSwap_eq htaken]
        exact congrArg (·.2.2) hview
    case swap =>
      exact ⟨fun b => next_lumderLaneSwap_of_swap hup hspare, fun b => next_lumderLaneSwap_of_swapWait hup hspare,
        next_lumderLaneSwap_of_granted hup hspare⟩
    case fail =>
      have hnext := next_of_neg (next_lumderLaneFail hup hlane) (by rw [hspares]; exact List.cons_ne_nil sp r)
      have hport : (s.laneSwapped n lane).port n = q.swapLane lane := laneSwapped_port port.isLt lane
      rw [Port.swapLane, hspares] at hport
      refine ⟨fun hnew => ?_, fun hasked => ?_, congrArg Port.lanes hport, congrArg Port.spares hport⟩
      · rwa [if_neg (ne_true_of_eq_false hnew)] at hnext
      · rwa [if_pos hasked] at hnext
  case sleep =>
    exact fun s port b => ⟨next_sleepRequest, fun hat hok hacked hdue =>
        ⟨next_sleepEnter hat hok hacked hdue, goSleep_st port.isLt (st_of_sleepOk hok)⟩,
      fun hsleeping => ⟨next_wakeTrigger_of_sleeping hsleeping true, next_wakeTrigger_of_sleeping hsleeping false⟩,
      next_wakeTrigger_of_up⟩
  case wake =>
    intro s port partner rtt n woff d s1 hwaking
    have hlock := next_fastWakeDone hwaking true partner rtt
    exact ⟨fun hagree => ⟨next_of_pos hlock ⟨rfl, hagree⟩, wakeUp_st (s := s1) port.isLt hwaking rtt⟩,
      fun hdiffer => next_of_neg hlock fun hagree => Nat.not_le.2 hdiffer hagree.2,
      next_of_neg (next_fastWakeDone hwaking false partner rtt) (by simp)⟩

/-! ### Frames that leave (R343, R347, R351) -/

section
variable {s0 s : State} {key : FlowKey} {n : Nat}

/-- The first `n` waiting bytes of an open frame leave, unless every eligible port is crowded and another one sleeps. -/
theorem next_frameClose (hpump : s0.pump key = s) (hn : min 1024 (s.sflow key).buf.length = n) (hsome : n ≠ 0)
    (hmay : key.tray = true ∨ ((s.part key.part).fenced = false ∧ (s.part key.part).parked = false)) (hphase : s.phase = 0)
    (hdue : n = 1024 ∨ (s.sflow key).marks ≠ [] ∨ (s.sflow key).epoch ≠ s.flowEpoch key ∨
      ∃ t, (s.sflow key).t0 = some t ∧ s.rfld ⟨.lmdTimers, key.part, 0⟩ 15 0 ≤ s.since t) :
    Next (.frameClose key) s0 (if s.crowded key = true ∧ (s.sleeper key).isSome = true then s.wakeFor key
      else (s.closeFrame key n).getD s) := by
  subst hpump hn
  have hheld : (!key.tray && (((s0.pump key).part key.part).fenced || ((s0.pump key).part key.part).parked)) = false := by
    rcases hmay with htray | ⟨hfenced, hparked⟩
    · simp [htray]
    · simp [hfenced, hparked]
  change execFrameClose key s0 = _
  simp only [execFrameClose, hsome, hheld, hphase, decide_false, bne_self_eq_false, Bool.or_self, Bool.false_eq_true, if_false,
    Bool.and_eq_true]
  refine congrArg Host.Outcome.next (if_neg ?_)
  rcases hdue with hfull | hmarks | hepoch | ⟨t, ht, hold⟩
  · simp [hfull]
  · simp [hmarks]
  · simp [hepoch]
  · simp [ht, hold]

theorem closeFrame_of_sent {s1 : State} (hsend : s.sendFrame key (s.sflow key).epoch ((s.sflow key).buf.take n) = some s1) :
    s.closeFrame key n = some (s1.setSflow key ((s1.sflow key).taken n s.plumb)) := by
  rw [State.closeFrame, hsend, Option.map_some]

end

/-! ### Frames that arrive (R335, R344, R352, R353) -/

/-- What a data or tray-window frame that passed the checks of its slice or tray does: its tag, then its epoch is checked, and
its bytes join the flow. -/
def takeFrame (s : State) (k : FlowKey) (n : Nat) (h : Head) (frame : Frame) (cls : Nat) (badTag badEpoch : State → State) :
    State :=
  let seq := extSeq (s.flowPos k h.epoch) h.oseq
  let s1 := s.followKey k h.kidx
  match s.openFrame k h frame cls seq with
  | none => badTag s
  | some pl =>
    match s1.flowAdmit k h.epoch seq with
    | none => badEpoch s1
    | some f => s1.reorder k n f seq (pl.take h.plen)

/-- A data frame for this package (R352). -/
def takeData (s : State) (n : Nat) (h : Head) (frame : Frame) : State :=
  takeFrame s ⟨false, h.dpart, h.src, h.spart⟩ n h frame 0 (·.count .lmdAuthFailCnt n 1) (·.count .prtEpochDropCnt h.dpart 1)

/-- A tray-window frame for this package (R353). -/
def takeTray (s : State) (n : Nat) (h : Head) (frame : Frame) : State :=
  takeFrame s ⟨true, 0, h.src, 0⟩ n h frame 1 (·.count .lmdTwRejectCnt n 1) (·.count .lmdTwRejectCnt n 1)

/-- An acknowledgement frame that passed the checks of its slice or tray: its tag is checked, and each of its records
acknowledges frames or asks for them (R345, R346). -/
def takeAck (s : State) (n : Nat) (h : Head) (frame : Frame) : State :=
  let tray := decide (2 ≤ h.kidx)
  let k : FlowKey := ⟨tray, h.dpart, h.src, h.spart⟩
  let seq := extSeq (s.ackAt k h.epoch) h.oseq
  let s1 := s.followKey k h.kidx
  match s.openFrame k h frame 2 seq with
  | none => if tray then s.count .lmdTwRejectCnt n 1 else s.count .lmdAuthFailCnt n 1
  | some pl => (ackList 64 (pl.take h.plen)).foldl (fun s d => s.ackOne tray h.src d)
      (s1.setSflow k { s1.sflow k with ackEp := h.epoch, ackPos := max (s1.ackAt k h.epoch) (seq + 1) })

section
variable {s0 s : State} {port : BitVec 3} {cws : List (List Nat)} {frame : Frame} {h : Head}
  (hup : s0.rxUp port.toNat = true)
include hup

section
variable (hgood : (s0.receive port.toNat cws).2 = true) (hhead : Head.ofBytes frame.head = h)
include hgood hhead

section
variable (hs : Received s0 port.toNat cws = s)
include hs

theorem next_dataFrame (htype : h.ftype = 1) (hphase : s.phase = 0) : Next (.dataFrame port cws frame) s0
    (if h.dst ≠ s.fabricAddr then s.count .lmdMisrouteCnt port.toNat 1
     else if s.sliceOk port.toNat h = false then s.sliceReject port.toNat h frame
     else if (s.part h.dpart).parked = true then s else takeData s port.toNat h frame) := by
  change execDataFrame port cws frame s0 = _
  subst hs
  simp only [Received] at hphase ⊢
  simp only [execDataFrame, hup, hgood, hhead, htype, hphase, Bool.not_eq_true', ne_eq, not_true_eq_false, false_or,
    bne_self_eq_false, Bool.not_true, Bool.and_false, Bool.false_and, Bool.or_self, Bool.false_eq_true, if_false]
  rfl

theorem next_trayWindowFrame (htype : h.ftype = 2) (hphase : s.phase = 0) : Next (.trayWindowFrame port cws frame) s0
    (if h.dst ≠ s.fabricAddr then s.count .lmdMisrouteCnt port.toNat 1
     else if s.trayOk h = false then s.count .lmdTwRejectCnt port.toNat 1 else takeTray s port.toNat h frame) := by
  change execTrayWindowFrame port cws frame s0 = _
  subst hs
  simp only [Received] at hphase ⊢
  simp only [execTrayWindowFrame, hup, hgood, hhead, htype, hphase, Bool.not_eq_true', ne_eq, not_true_eq_false,
    bne_self_eq_false, Bool.not_true, Bool.and_false, Bool.or_self, Bool.false_eq_true, if_false]
  rfl

/-- The receiving record of the flow, if there is one, is of the frame's epoch. -/
theorem next_ackFrame (htype : h.ftype = 4) (hdst : h.dst = s.fabricAddr) (hslice : h.kidx < 2 → s.sliceOk port.toNat h = true)
    (htray : 2 ≤ h.kidx → s.trayOk h = true)
    (hepoch : ∀ f, aget (s.followKey ⟨decide (2 ≤ h.kidx), h.dpart, h.src, h.spart⟩ h.kidx).rflows
      ⟨decide (2 ≤ h.kidx), h.dpart, h.src, h.spart⟩ = some f → f.epoch = h.epoch) :
    Next (.ackFrame port cws frame) s0 (takeAck s port.toNat h frame) := by
  change execAckFrame port cws frame s0 = _
  have hslices : (!decide (2 ≤ h.kidx) && !s.sliceOk port.toNat h) = false := by
    by_cases htwo : 2 ≤ h.kidx
    · simp [htwo]
    · simp [hslice (Nat.not_le.1 htwo)]
  have htrays : (decide (2 ≤ h.kidx) && !s.trayOk h) = false := by
    by_cases htwo : 2 ≤ h.kidx
    · simp [htray htwo]
    · simp [htwo]
  subst hs
  simp only [Received] at hdst hslices htrays hepoch ⊢
  simp only [execAckFrame, hup, hgood, hhead, htype, hdst, hslices, htrays, ne_eq, not_true_eq_false, bne_self_eq_false,
    Bool.not_true, Bool.and_false, Bool.or_self, Bool.false_eq_true, if_false]
  refine congrArg Host.Outcome.next ?_
  split
  next hopen => simp only [takeAck, hopen]
  next pl hopen =>
    simp only [takeAck, hopen]
    refine if_neg ?_
    split
    next f hflow => simp [hepoch f hflow]
    next => exact Bool.false_ne_true

end

theorem next_idleFrame (htype : h.ftype = 0) (hcrc : frame.crcOk = true) :
    Next (.idleFrame port cws frame) s0 (s0.receive port.toNat cws).1 := by
  change execIdleFrame port cws frame s0 = _
  simp only [execIdleFrame, hup, hgood, hhead, htype, hcrc, bne_self_eq_false, Bool.not_true, Bool.and_false, Bool.or_self,
    Bool.or_true, Bool.false_eq_true, if_false, if_true]

theorem next_linkControlFrame (htype : h.ftype = 3) (hcrc : frame.crcOk = true) (hs : (s0.receive port.toNat cws).1 = s)
    (msg : LinkCtl) : Next (.linkControlFrame port cws frame msg) s0
      ((s.setPort port.toNat { s.port port.toNat with lastCtl := s.plumb }).linkCtl port.toNat msg) := by
  change execLinkControlFrame port cws frame msg s0 = _
  simp only [execLinkControlFrame, hup, hgood, hhead, htype, hcrc, hs, bne_self_eq_false, Bool.not_true, Bool.and_false,
    Bool.or_self, Bool.false_eq_true, if_false]

end

/-- A frame with a bad codeword is dropped, whatever its head says. -/
theorem next_of_badCodeword (hbad : (s0.receive port.toNat cws).2 = false) (hs : (s0.receive port.toNat cws).1 = s)
    (msg : LinkCtl) : Next (.dataFrame port cws frame) s0 s ∧ Next (.trayWindowFrame port cws frame) s0 s ∧
      Next (.ackFrame port cws frame) s0 s ∧ Next (.linkControlFrame port cws frame msg) s0 s ∧
      Next (.idleFrame port cws frame) s0 s := by
  unfold Next
  refine ⟨?data, ?tray, ?ack, ?control, ?idle⟩
  case data =>
    change execDataFrame port cws frame s0 = _
    simp [execDataFrame, hup, hbad, hs]
  case tray =>
    change execTrayWindowFrame port cws frame s0 = _
    simp [execTrayWindowFrame, hup, hbad, hs]
  case ack =>
    change execAckFrame port cws frame s0 = _
    simp [execAckFrame, hup, hbad, hs]
  case control =>
    change execLinkControlFrame port cws frame msg s0 = _
    simp [execLinkControlFrame, hup, hbad, hs]
  case idle =>
    change execIdleFrame port cws frame s0 = _
    simp [execIdleFrame, hup, hbad, hs]

end

theorem trayOk_of_foreign {s : State} {h : Head} (hforeign : h.src / 4 ≠ s.fabricAddr / 4 ∨ h.src = s.fabricAddr ∨ h.spart ≠ 0 ∨
    h.dpart ≠ 0 ∨ h.kidx < 2) : s.trayOk h = false := by
  rw [State.trayOk, decide_eq_false_iff_not]
  omega

/-- Settles O25: an open frame leaves when it is due, and the kind of a frame and the checks that it passes choose what it
does. -/
theorem framesLeaveArriveOrAreRejected : Obligations.FramesLeaveArriveOrAreRejected := by
  unfold Obligations.FramesLeaveArriveOrAreRejected
  refine ⟨⟨?close, ?arrive, ?port⟩, ?reject⟩
  case close =>
    intro s0 key s f n hsome hmay hphase hdue
    have hnext := next_frameClose (s0 := s0) rfl rfl hsome hmay hphase hdue
    refine ⟨fun s1 hcalm hsend => ?_, fun hcrowd hsleeper => next_of_pos hnext ⟨hcrowd, hsleeper⟩⟩
    have hclose := next_of_neg hnext fun ⟨hcrowd, hsleeper⟩ => hcalm.elim (ne_true_of_eq_false · hcrowd)
      fun hnone => Option.isSome_iff_ne_none.1 hsleeper hnone
    rwa [closeFrame_of_sent hsend] at hclose
  case arrive =>
    intro s0 port cws frame n h s hup hgood hdst
    refine ⟨fun htype hphase hslice hparked => ?_, fun htype hphase htray => ?_, fun htype hslice htray =>
      next_ackFrame hup hgood rfl rfl htype hdst hslice htray⟩
    · exact next_of_neg (next_of_neg (next_of_neg (next_dataFrame hup hgood rfl rfl htype hphase) (not_not_intro hdst))
        (ne_false_of_eq_true hslice)) (ne_true_of_eq_false hparked)
    · exact next_of_neg (next_of_neg (next_trayWindowFrame hup hgood rfl rfl htype hphase) (not_not_intro hdst))
        (ne_false_of_eq_true htray)
  case port =>
    exact fun s port cws frame msg hup => ⟨fun hgood hcrc => ⟨fun htype => next_idleFrame hup hgood rfl htype hcrc,
      fun htype => next_linkControlFrame hup hgood rfl htype hcrc rfl msg⟩, fun hbad => next_of_badCodeword hup hbad rfl msg⟩
  case reject =>
    intro s0 port cws frame n h s hup hgood hphase
    refine ⟨fun htype => ?_, fun htype hdst => ?_, fun htype hdst hforeign => ?_⟩
    · exact next_of_pos (next_dataFrame hup hgood rfl rfl htype hphase)
    · exact next_of_pos (next_of_neg (next_dataFrame hup hgood rfl rfl htype hphase) (not_not_intro hdst))
    · exact next_of_pos (next_of_neg (next_trayWindowFrame hup hgood rfl rfl htype hphase) (not_not_intro hdst))
        (trayOk_of_foreign hforeign)

end Sys2Proof.Proofs
end

section
/-! Proofs about the die-to-die links (12): flits that arrive, are acknowledged or sent again; lanes that move to a spare;
bundles that fail and return. -/
namespace Sys2Proof.Proofs
open Sys2Proof Sys2Proof.Machine Sys2Proof.Spec

/-! ### Flits (R368, R372, R374) -/

/-- The flit that a bundle may carry joins those that direction `o` sends. -/
def flitJoined (s : State) (l bundle o : Nat) (new : Option Flit) : State :=
  s.setBundle l bundle fun b => b.setSent o ((b.sent o).send (new.filter ((s.link l).bundle bundle).carries).toList)

/-- A direction whose receiver dropped the flit at the head of the line and asks for the one that it expects. -/
def dirDropped (d : D2dDir) (rest : List Nat) : D2dDir := { d with wire := rest, asked := true }

/-- A direction whose receiver accepted the flit at the head of the line: it remembers the lanes of corrected bits. -/
def dirAccepted (s : State) (d : D2dDir) (rest errs : List Nat) : D2dDir :=
  { d with
    wire := rest, expect := (d.expect + 1) % 4096, asked := false, replays := 0
    laneErr := (d.laneErr.filter fun e => decide (s.since e.1 ≤ 2 ^ 30)) ++ errs.map fun i => (s.plumb, i) }

/-- The flit of the line of direction `o` has entered the next trunk. -/
def flitAccepted (s : State) (l bundle o : Nat) (d : D2dDir) (f : Flit) : State :=
  let s1 := s.setBundle l bundle fun b => b.setSent o d
  s1.setLink l ((s1.link l).deliver o f)

section
variable {s : State} {l bundle o u : Nat} {d : D2dDir} (hd : ((s.link l).bundle bundle).sent o = d)
include hd

/-- Nothing arrives from an empty line. -/
theorem flitArrive_of_empty (errs : List Nat) (hempty : d.wire = []) : s.flitArrive l bundle o u errs = s := by
  simp only [State.flitArrive, hd, hempty]

variable {seq : Nat} {rest errs : List Nat} {f : Flit} (hwire : d.wire = seq :: rest) (hbuf : aget d.buf seq = some f)
include hwire hbuf

/-- A flit out of sequence or with errors beyond its code is dropped and asked for. -/
theorem flitArrive_of_bad (hbad : seq ≠ d.expect ∨ 2 ≤ errs.length) : s.flitArrive l bundle o u errs =
    (s.setBundle l bundle fun b => b.setSent o (dirDropped d rest)).count .d2dReplayCnt u 1 := by
  simp only [State.flitArrive, hd, hwire, hbuf]
  exact if_pos hbad.symm

/-- The flit that is expected is delivered, and counted when its code corrected a bit. -/
theorem flitArrive_of_expected (hseq : seq = d.expect) (hfew : errs.length < 2) : s.flitArrive l bundle o u errs =
    (let t := flitAccepted s l bundle o (dirAccepted s d rest errs) f
     if errs.isEmpty then t else t.count .d2dCeCnt u 1) := by
  simp only [State.flitArrive, hd, hwire, hbuf]
  exact if_neg fun hbad => hbad.elim (Nat.not_le.2 hfew) (absurd hseq)

end

section
variable {s : State} {die : BitVec 2} {e : Bool} {bundle : Nat}

/-- The new flit joins those of its direction before the next one arrives. -/
theorem next_d2dFlitReceive {l o : Nat} (hl : d2dLink die.toNat (b2n e) = l) (ho : 1 - b2n e = o)
    (hgood : ((s.link l).bundle bundle).good = true) (new : Option Flit) (errs : List Nat) :
    Next (.d2dFlitReceive die e bundle new errs) s
      ((flitJoined s l bundle o new).flitArrive l bundle o (die.toNat * 2 + b2n e) errs) := by
  subst hl ho
  exact congrArg Host.Outcome.next (if_neg (by simp [hgood]))

variable {l : Nat} {d : D2dDir} {seq : Nat} (hl : d2dLink die.toNat (b2n e) = l)
  (hd : ((s.link l).bundle bundle).sent (b2n e) = d)
include hl hd

/-- An acknowledgement of a flit that the receiver accepted frees the buffer up to it. -/
theorem next_d2dAcknowledgement (hseq : seq < 4096) (haccepted : seqDist d.acked seq < seqDist d.acked d.expect) :
    Next (.d2dAcknowledgement die e bundle seq) s (s.setBundle l bundle fun b => b.setSent (b2n e)
      { d with
        acked := (seq + 1) % 4096
        buf := d.buf.filter fun x => decide (seqDist d.acked seq < seqDist d.acked x.1) }.load) := by
  subst hl hd
  exact congrArg Host.Outcome.next (if_neg fun h => h.elim (Nat.not_le.2 hseq) (Nat.not_le.2 haccepted))

/-- A replay that the receiver asked for sends every open flit again; the sixteenth fails the bundle. -/
theorem next_d2dReplayRequest (hgood : ((s.link l).bundle bundle).good = true) (hasked : d.asked = true)
    (hseq : seq = d.expect) : Next (.d2dReplayRequest die e bundle seq) s
      (if 15 ≤ d.replays then s.bundleFail l bundle
       else s.setBundle l bundle fun b => b.setSent (b2n e)
        { d with asked := false, replays := d.replays + 1, wire := (d.buf.filter fun x => d.open_ x.1).map (·.1) }) := by
  subst hl hd
  exact congrArg Host.Outcome.next (if_neg (by simp [hgood, hasked, hseq]))

end

/-! ### Lanes (R375, R376) -/

/-- A lane past the threshold asks the arbiter for a swap, and the bundle remembers it unless the arbiter refuses. -/
theorem next_d2dLaneSwapRequest {s : State} {die : BitVec 2} {e : Bool} {bundle lane l : Nat} {b : Bundle}
    (hl : d2dLink die.toNat (b2n e) = l) (hb : (s.link l).bundle bundle = b) (hgood : b.good = true) (hlane : lane < 64)
    (hspare : b.spares.isEmpty = false) (hnew : b.swap = none)
    (hpast : (s.reg ⟨.d2dSwapTh, die.toNat * 2 + b2n e, 0⟩).toNat < s.laneBits (b.sent (1 - b2n e)) lane) :
    Next (.d2dLaneSwapRequest die e bundle lane) s
      (if (s.maintAsk ⟨8, l * 48 + bundle⟩).2 = 1 then (s.maintAsk ⟨8, l * 48 + bundle⟩).1
       else (s.maintAsk ⟨8, l * 48 + bundle⟩).1.setBundle l bundle fun b => { b with swap := some (lane, none) }) := by
  subst hl hb
  exact congrArg Host.Outcome.next (if_neg (by simp [hgood, hlane, hspare, hnew, hpast]))

section
variable {s : State} {link : BitVec 2} {bundle lane : Nat} {b : Bundle}
  (hb : (s.link link.toNat).bundle bundle = b) (hgood : b.good = true)
include hb hgood

section
variable {ahead : Nat} (hspare : b.spares.isEmpty = false)
  (hgranted : s.maintRun.contains ⟨8, link.toNat * 48 + bundle⟩ = true)
include hspare hgranted

/-- Both ends of a granted swap name a boundary that is far enough ahead. -/
theorem next_d2dLaneSwap_of_granted (hswap : b.swap = some (lane, none)) (hahead : 1024 ≤ ahead) :
    Next (.d2dLaneSwap link bundle ahead) s (s.setBundle link.toNat bundle fun b =>
      { b with swap := some (lane, some (s.plumb + BitVec.ofNat 64 (flitTime ahead))) }) := by
  change execD2dLaneSwap link bundle ahead s = _
  simp only [execD2dLaneSwap, hb, hgood, hspare, hgranted, hswap, Nat.not_lt.2 hahead, Bool.not_true, Bool.or_self,
    Bool.false_eq_true, if_false]

/-- The lane moves to the spare at the boundary, which ends the activity. -/
theorem next_d2dLaneSwap_of_boundary {t : Time} (hswap : b.swap = some (lane, some t)) (hdue : t.toNat ≤ s.plumb.toNat) :
    Next (.d2dLaneSwap link bundle ahead) s
      ((s.bundleSwap link.toNat bundle lane).maintEnd ⟨8, link.toNat * 48 + bundle⟩) := by
  change execD2dLaneSwap link bundle ahead s = _
  simp only [execD2dLaneSwap, hb, hgood, hspare, hgranted, hswap, Nat.not_lt.2 hdue, Bool.not_true, Bool.or_self,
    Bool.false_eq_true, if_false]

end

/-- A data lane without lock takes a spare, and a swap that was asked for is withdrawn; without a spare the bundle fails. -/
theorem next_d2dBundleFail (hlane : lane < 64) : Next (.d2dBundleFail link bundle lane) s
    (if b.spares.isEmpty = true then s.bundleFail link.toNat bundle
     else (if b.swap.isSome then (s.maintCancel ⟨8, link.toNat * 48 + bundle⟩).maintEnd ⟨8, link.toNat * 48 + bundle⟩
       else s).bundleSwap link.toNat bundle lane) := by
  subst hb
  exact congrArg Host.Outcome.next (if_neg (by simp [hgood, hlane]))

end

/-! ### Bundles that return (R369, R372, R376) -/

section
variable {s : State} {link : BitVec 2} {bundle : Nat} {errs : List (Option Nat)} {lanes : List Nat × List Nat}
  (hlanes : s.bundleLanes (link.toNat * 48 + bundle) errs = lanes)
  (hretrains : ((s.link link.toNat).bundle bundle).st = 5)
include hlanes hretrains

/-- With 64 good lanes a bundle returns: as the control bundle, if the link has none, else as standby. -/
theorem next_d2dBundleRetrainDone_of_good (hgood : 64 ≤ lanes.1.length) : Next (.d2dBundleRetrainDone link bundle errs) s
    (if (s.firstIn link.toNat 1).isNone then s.setBundle link.toNat bundle fun b =>
      { b with st := 1, part := 0, lanes := lanes.1, spares := lanes.2, fwd := b.fwd.load, bwd := b.bwd.load }
     else s.setBundle link.toNat bundle fun b => { b with st := 3, part := 0, lanes := lanes.1, spares := lanes.2 }) := by
  subst hlanes
  exact congrArg Host.Outcome.next ((if_neg (not_not_intro hretrains)).trans (if_neg (Nat.not_lt.2 hgood)))

/-- With fewer it is retired, and the record of its lanes says which. -/
theorem next_d2dBundleRetrainDone_of_bad (hbad : lanes.1.length < 64) : Next (.d2dBundleRetrainDone link bundle errs) s
    ((s.setBundle link.toNat bundle fun _ => {}).addRecord 1 2 (link.toNat * 48 + bundle) (laneMasks 68 lanes.1 lanes.2)) := by
  subst hlanes
  exact congrArg Host.Outcome.next ((if_neg (not_not_intro hretrains)).trans (if_pos hbad))

end

/-- Settles O34: the state of the bundle lets each command pass, and the flit on the line, the replays, the spares and the good
lanes choose what it does. -/
theorem linksBetweenDies : Obligations.LinksBetweenDies := by
  unfold Obligations.LinksBetweenDies
  refine ⟨⟨?receive, ?answer⟩, ?request, ?lanes, ?retrain⟩
  case receive =>
    intro s die e bundle new errs u l o fs s1 d hgood
    have hnext := next_d2dFlitReceive (l := l) (o := o) rfl rfl hgood new errs
    have hd : (((flitJoined s l bundle o new).link l).bundle bundle).sent o = d := rfl
    refine ⟨fun hempty => by rwa [flitArrive_of_empty hd errs hempty] at hnext, fun seq rest f hwire hbuf => ?_⟩
    refine ⟨fun hseq hnone => ?_, fun hseq hone => ?_, fun hbad => by rwa [flitArrive_of_bad hd hwire hbuf hbad] at hnext⟩
    · rw [flitArrive_of_expected hd hwire hbuf hseq (by simp [hnone])] at hnext
      exact next_of_pos hnext (List.isEmpty_iff.2 hnone)
    · rw [flitArrive_of_expected hd hwire hbuf hseq (by simp [hone])] at hnext
      exact next_of_neg hnext fun hnone => by simp [List.isEmpty_iff.1 hnone] at hone
  case answer =>
    intro s die e bundle seq l b d
    refine ⟨next_d2dAcknowledgement rfl rfl, fun hgood hasked hseq => ?_⟩
    have hnext := next_d2dReplayRequest rfl rfl hgood hasked hseq
    exact ⟨next_of_pos hnext, fun hfew => next_of_neg hnext (Nat.not_le.2 hfew)⟩
  case request =>
    exact fun s die e bundle lane hgood hlane hspare hnew hpast htaken =>
      next_of_neg (next_d2dLaneSwapRequest rfl rfl hgood hlane hspare hnew hpast) htaken
  case lanes =>
    intro s link bundle lane ahead l b act hgood
    exact ⟨fun hspare hgranted => ⟨next_d2dLaneSwap_of_granted rfl hgood hspare hgranted,
        fun t => next_d2dLaneSwap_of_boundary rfl hgood hspare hgranted⟩,
      fun hlane hspare => next_of_neg (next_d2dBundleFail rfl hgood hlane) (ne_true_of_eq_false hspare),
      fun hlane hspare => next_of_pos (next_d2dBundleFail rfl hgood hlane) hspare⟩
  case retrain =>
    intro s link bundle errs l u r hretrains
    refine ⟨fun hgood => ?_, next_d2dBundleRetrainDone_of_bad rfl hretrains⟩
    have hnext := next_d2dBundleRetrainDone_of_good rfl hretrains hgood
    exact ⟨fun hnone => next_of_pos hnext (Option.isNone_iff_eq_none.2 hnone),
      fun hsome => next_of_neg hnext fun hnone => hsome (Option.isNone_iff_eq_none.1 hnone)⟩

end Sys2Proof.Proofs
end

section
/-! Proofs about the block as a whole: what every step keeps of the queues and of the fused security version (17, 18, 19). -/
namespace Sys2Proof.Proofs
open Sys2Proof Sys2Proof.Machine Sys2Proof.Spec Sys2Proof.Laws

/-! ### Commands and the queue of commands -/

/-- Settles O55: the definition of a step, on a queue with a front command and on the empty one. -/
theorem stepTakesTheFrontCommand : Obligations.StepTakesTheFrontCommand := by
  unfold Obligations.StepTakesTheFrontCommand
  refine ⟨fun s c => rfl, fun s hidle => ?_⟩
  unfold step
  rw [hidle]

/-- Every command has a next state: none stops in a fault or a refusal. -/
theorem exec_goes (c : Instr) (s : State) : Goes (exec c s) := by
  cases c <;> exact trivial

/-- Settles O57: that the queue stays is one of the things that every command keeps, and a step takes its front off first. -/
theorem queueIsFirstInFirstOut : Obligations.QueueIsFirstInFirstOut := by
  unfold Obligations.QueueIsFirstInFirstOut
  refine ⟨fun s t c hnext => (exec_kept.h t hnext).pending, fun s t c r hfront hstep => ?_, fun s c => exec_goes c s⟩
  have hkept := (kept_of_step hstep).pending
  simpa only [hfront, List.tail_cons] using hkept

/-! ### What never falls and what stays bounded (R514, R533, R559) -/

/-- Settles O44: no command lowers the version, as `Kept` says of each. -/
theorem securityVersionNeverFalls : Obligations.SecurityVersionNeverFalls := by
  unfold Obligations.SecurityVersionNeverFalls
  exact fun s t c hnext => (exec_kept.h t hnext).svn

/-- Settles O59: both bounds are among the things that every command and the tick keep. -/
theorem eventQueuesStayBounded : Obligations.EventQueuesStayBounded := by
  unfold Obligations.EventQueuesStayBounded
  intro s t hevq hpldm hstep
  have hkept := kept_of_step hstep
  exact ⟨hkept.evq hevq, hkept.pldm hpldm⟩

end Sys2Proof.Proofs
end

section
/-! What steps that only report leave of the state: causes, events and messages change registers, functions and queues alone. -/
namespace Sys2Proof.Proofs
open Sys2Proof Sys2Proof.Machine Sys2Proof.Spec Sys2Proof.Laws

/-! ### Folds over the state -/

/-- What each step of a fold leaves, the fold leaves. -/
theorem foldl_keeps {σ α β : Type} {f : σ → α → σ} {view : σ → β} (hf : ∀ u a, view (f u a) = view u) (l : List α) (s : σ) :
    view (l.foldl f s) = view s := by
  induction l generalizing s with
  | nil => rfl
  | cons a l ih => rw [List.foldl_cons, ih, hf]

/-- A fold whose steps change nothing, on the elements of its list. -/
theorem foldl_of_fixed {σ α : Type} {f : σ → α → σ} {l : List α} {s : σ} (hf : ∀ a ∈ l, f s a = s) : l.foldl f s = s := by
  induction l with
  | nil => rfl
  | cons a l ih =>
    obtain ⟨ha, hl⟩ := List.forall_mem_cons.1 hf
    rw [List.foldl_cons, ha, ih hl]

/-! ### Views of the state -/

theorem view_ite {β : Type} {view : State → β} {c : Prop} [Decidable c] {t u : State} {x : β} (ht : view t = x)
    (hu : view u = x) : view (if c then t else u) = x := by
  split <;> assumption

/-- A view that reports do not change: it shows nothing of the registers, the functions, the event queues and the messages. -/
def Quiet {β : Type} (view : State → β) : Prop :=
  ∀ (s : State) (regs : List (RKey × Word)) (vfs : List (Nat × Vf)) (evq : Vector (List Event) 4) (evDrop : Vector Bool 4)
    (msgs : List Msg) (pldmQueue : List (Nat × Nat)),
    view { s with regs := regs, vfs := vfs, evq := evq, evDrop := evDrop, msgs := msgs, pldmQueue := pldmQueue } = view s

namespace Quiet
variable {β : Type} {view : State → β} (h : Quiet view)
include h

theorem setReg (s : State) (k : RKey) (w : Word) : view (s.setReg k w) = view s := h s _ _ _ _ _ _

theorem setFld (s : State) (k : RKey) (hi lo v : Nat) : view (s.setFld k hi lo v) = view s := h.setReg ..

theorem count (s : State) (r : Reg) (u n : Nat) : view (s.count r u n) = view s := h.setReg ..

theorem setVf (s : State) (v : Nat) (f : Vf) : view (s.setVf v f) = view s := h s _ _ _ _ _ _

theorem emit (s : State) (d : Fin 4) (e : Event) : view (s.emit d e) = view s := view_ite (h s _ _ _ _ _ _) (h s _ _ _ _ _ _)

theorem event (s : State) (d dom code part : Nat) (src : Word) (a0 a1 : Nat) :
    view (s.event d dom code part src a0 a1) = view s := h.emit ..

theorem spineEvent (s : State) (d code part : Nat) (src : Word) (a0 a1 : Nat) :
    view (s.spineEvent d code part src a0 a1) = view s := h.emit ..

theorem pldmEvent (s : State) (code arg : Nat) : view (s.pldmEvent code arg) = view s :=
  view_ite (h s _ _ _ _ _ _) (h s _ _ _ _ _ _)

theorem msix (s : State) (v vec : Nat) : view (s.msix v vec) = view s := view_ite (h.setVf ..) (h s _ _ _ _ _ _)

theorem vfCause (s : State) (v c : Nat) : view (s.vfCause v c) = view s :=
  view_ite rfl (view_ite (h.setFld ..) ((h.msix ..).trans (h.setFld ..)))

theorem pfCause (s : State) (c : Nat) : view (s.pfCause c) = view s :=
  view_ite rfl (view_ite (h.setFld ..) ((h.msix ..).trans (h.setFld ..)))

theorem cause (s : State) (p c : Nat) : view (s.cause p c) = view s := by
  rw [State.cause]
  split
  next => rfl
  next => exact (h.pfCause ..).trans (foldl_keeps (fun u v => h.vfCause u v c) _ _)

theorem cmdDone (s : State) (k : RKey) (result reason rlo : Nat) (p : Option Nat) :
    view (s.cmdDone k result reason rlo p) = view s := by
  cases p with
  | none => exact h.setReg ..
  | some p => exact (h.cause ..).trans (h.setReg ..)

end Quiet

/-! ### Messages leave the registers -/

theorem emit_regs (s : State) (d : Fin 4) (e : Event) : (s.emit d e).regs = s.regs := view_ite (view := State.regs) rfl rfl

theorem msix_regs (s : State) (v vec : Nat) : (s.msix v vec).regs = s.regs := view_ite (view := State.regs) rfl rfl

theorem pldmEvent_regs (s : State) (code arg : Nat) : (s.pldmEvent code arg).regs = s.regs := view_ite (view := State.regs) rfl rfl

theorem reg_of_regs {s t : State} (h : t.regs = s.regs) (k : RKey) : t.reg k = s.reg k := by
  rw [State.reg, h, State.reg]

end Sys2Proof.Proofs
end

section
/-! Proofs about partitions (13): build and dissolve, shares, binding, migration, page tables, the masks of a virtual function. -/
namespace Sys2Proof.Proofs
open Sys2Proof Sys2Proof.Machine Sys2Proof.Spec Sys2Proof.Laws

/-! ### PRT_CMD (R405) -/

theorem prtGo_of_free {s : State} {src : Src} (h : PrtFree s src) (p op vf : Nat) (f : State → State) :
    s.prtGo src p op vf f = f (PrtSet s p op vf) := by
  obtain ⟨hreach, hidle⟩ := h
  rw [State.prtGo, accessW_of_reaches hreach, hidle]
  rfl

section
variable {s : State} {src : Src} {p : BitVec 3} (hfree : PrtFree s src)
include hfree

/-! ### PARTITION_BUILD and PARTITION_DISSOLVE (R382 to R386) -/

/-- The state after a build that passed its checks: the partition is noted among those built in the cycle. -/
def builtNoted (s : State) (p : Nat) (d : List Byte) : State :=
  let t := (s.build p d).noteWork
  { t with cyc := { t.cyc with builds := p :: t.cyc.builds } }

/-- A descriptor at an aligned address of a free channel is checked. -/
theorem next_partitionBuild {s1 s2 : State} {pa ch off : Nat} {d : List Byte} (hs1 : PrtSet s p.toNat 1 0 = s1)
    (hpa : (s1.reg ⟨.prtDescLo, 0, 0⟩).toNat + 2 ^ 32 * s1.rfld ⟨.prtDescHi, 0, 0⟩ 11 0 = pa) (hd : dataOf (s1.pbytes pa 256) = d)
    (hs2 : s1.applyClasses (Part.ofDesc d).bents = s2) (hplace : s1.place pa = .hbm ch off) (hchan : s1.partOfChan ch = none)
    (halign : pa % 256 = 0) : Next (.partitionBuild src p) s
      (if s2.buildCheck p.toNat (s1.pbytes pa 256) = 0 then (builtNoted s2 p.toNat d).prtDone 0 0
       else s1.prtDone 2 (s2.buildCheck p.toNat (s1.pbytes pa 256))) := by
  subst hs1 hpa hd hs2
  change execPartitionBuild src p s = _
  rw [execPartitionBuild, prtGo_of_free hfree]
  simp only [hplace, hchan, halign, Option.isSome_none, bne_self_eq_false, Bool.or_self, Bool.false_eq_true, if_false, builtNoted]

theorem next_partitionDissolve {s1 : State} (hs1 : PrtSet s p.toNat 2 0 = s1) : Next (.partitionDissolve src p) s
    (if (s1.part p.toNat).built = true then (s1.dissolve p.toNat).prtDone 0 0 else s1.prtDone 2 0) := by
  subst hs1
  exact congrArg Host.Outcome.next (prtGo_of_free hfree ..)

/-! ### SHARES_SET, VF_BIND and VF_UNBIND (R391, R397, R398) -/

theorem next_sharesSet {s1 : State} {q : Part} {share : List Nat} (hs1 : PrtSet s p.toNat 4 0 = s1) (hq : s1.part p.toNat = q)
    (hshare : ((List.range 4).map fun i => wbits (s1.reg ⟨.prtArg0, 0, 0⟩) (8 * i + 7) (8 * i)) = share) (hbuilt : q.built = true) :
    Next (.sharesSet src p) s
      (if (share.any fun x => decide (60 < x)) || s1.sharesBad p.toNat q share then s1.prtDone 2 5
       else (s1.setPart p.toNat { q with share := share }).prtDone 0 0) := by
  subst hs1 hq hshare
  change execSharesSet src p s = _
  rw [execSharesSet, prtGo_of_free hfree]
  simp only [hbuilt, Bool.not_true, Bool.false_eq_true, if_false]

theorem next_vfBind {vf : BitVec 6} {s1 : State} {h : Nat} (hs1 : PrtSet s p.toNat 5 vf.toNat = s1)
    (hh : s1.rfld ⟨.prtArg0, 0, 0⟩ 5 0 = h) : Next (.vfBind src p vf) s
      (if s1.bindOk p.toNat vf.toNat h = true then (s1.bindVf p.toNat vf.toNat h).prtDone 0 0 else s1.prtDone 2 0) := by
  subst hs1 hh
  exact congrArg Host.Outcome.next (prtGo_of_free hfree ..)

theorem next_vfUnbind {vf : BitVec 6} {s1 : State} (hs1 : PrtSet s 0 6 vf.toNat = s1) : Next (.vfUnbind src vf) s
    (if (s1.vf vf.toNat).bound.isNone = true then s1.prtDone 2 0
     else ((s1.vfReset vf.toNat).setVf vf.toNat { (s1.vfReset vf.toNat).vf vf.toNat with bound := none, hshare := 0 }).prtDone 0 0) := by
  subst hs1
  exact congrArg Host.Outcome.next (prtGo_of_free hfree ..)

/-! ### CORE_MIGRATE (R402 to R405) -/

section
variable {s1 : State} {q : Part} {l b a : Nat} (hs1 : PrtSet s p.toNat 3 0 = s1) (hq : s1.part p.toNat = q)
  (hl : (s.reg ⟨.prtArg0, 0, 0⟩).toNat = l) (hb : s.rfld ⟨.prtArg1, 0, 0⟩ 18 0 = b) (hcore : q.coreMap[l]? = some a)
  (hreserve : q.reserve.contains b = true)
include hs1 hq hl hb hcore hreserve

/-- A logical core that never moved: the contexts of its core are stopped, and the core moves unless a tile is in flight. -/
theorem next_coreMigrate_of_first {s2 : State} (hs2 : (s1.stopAll a).setFld kPrtCmd 12 12 1 = s2)
    (hnever : q.migTime.getD l none = none) (hstill : (s2.part p.toNat).coreMap[l]? = some a) : Next (.coreMigrate src p) s
      (if s2.inFlight a = true then s2 else ((s2.moveCore p.toNat l a b).setFld kPrtCmd 12 12 0).prtDone 0 0) := by
  subst hs1 hq hl hb hs2
  obtain ⟨_, hidle⟩ := id hfree
  change execCoreMigrate src p s = _
  simp only [execCoreMigrate, hidle, Bool.false_and, Bool.false_eq_true, if_false, prtGo_of_free hfree, hcore, hreserve, hnever,
    hstill, Bool.not_true]

/-- Within 2^25 pt of its last move the core is busy. -/
theorem next_coreMigrate_of_early {t : Time} (hmoved : q.migTime.getD l none = some t) (hearly : s1.since t < 2 ^ 25) :
    Next (.coreMigrate src p) s (s1.prtDone 1 0) := by
  subst hs1 hq hl hb
  obtain ⟨_, hidle⟩ := id hfree
  change execCoreMigrate src p s = _
  simp only [execCoreMigrate, hidle, Bool.false_and, Bool.false_eq_true, if_false, prtGo_of_free hfree, hcore, hreserve, hmoved,
    hearly, Bool.not_true, decide_true, if_true]

end

end

/-- Settles O27: the descriptor's checks and the partition's `built` choose the end of each command. -/
theorem partitionBuildAndDissolve : Obligations.PartitionBuildAndDissolve := by
  unfold Obligations.PartitionBuildAndDissolve
  refine ⟨?build, ?dissolve⟩
  case build =>
    intro s src p ch off hfree s1 pa d s2 hplace hchan halign
    have hnext := next_partitionBuild hfree rfl rfl rfl rfl hplace hchan halign
    exact ⟨next_of_pos hnext, next_of_neg hnext⟩
  case dissolve =>
    intro s src p hfree s1
    have hnext := next_partitionDissolve hfree (p := p) rfl
    exact ⟨next_of_pos hnext, fun hnot => next_of_neg hnext (ne_true_of_eq_false hnot)⟩

/-- A package in which function 0, the PF, is marked as bound to partition 0. -/
def pfBound : State := { State.reset with vfs := [(0, { bound := some 0 })] }

set_option maxRecDepth 4000 in
/-- A dissolve unbinds the functions from 1 on, so function 0 stays bound. -/
theorem dissolve_pfBound : ((pfBound.dissolve 0).vf 0).bound = some 0 := by decide +kernel

/-- Refutes O28: the statement ranges over function 0, the PF, and a state in which it is bound to the partition. -/
theorem not_dissolvedPartitionHoldsNothing : ¬ Obligations.DissolvedPartitionHoldsNothing := by
  unfold Obligations.DissolvedPartitionHoldsNothing
  intro h
  obtain ⟨_, _, _, _, _, _, hunbound⟩ := h pfBound 0#3 0 (by decide)
  have hnone : ((pfBound.dissolve 0).vf 0).bound = none := hunbound rfl
  rw [dissolve_pfBound] at hnone
  cases hnone

/-- Settles O29: each command passes its checks, which choose its result. -/
theorem sharesBindingAndMigration : Obligations.SharesBindingAndMigration := by
  unfold Obligations.SharesBindingAndMigration
  refine ⟨?shares, ?bind, ?unbind, ?migrate⟩
  case shares =>
    intro s src p hfree s1 q share hbuilt
    have hnext := next_sharesSet hfree (p := p) rfl rfl rfl hbuilt
    refine ⟨fun hfew hgood => next_of_neg hnext ?_, fun hbad => next_of_pos hnext (by rw [hbad, Bool.or_true])⟩
    have hall : (share.any fun x => decide (60 < x)) = false := by simpa using hfew
    rw [hall, hgood]
    decide
  case bind =>
    intro s src p vf hfree s1 h
    have hnext := next_vfBind hfree (p := p) (vf := vf) rfl rfl
    exact ⟨next_of_pos hnext, fun hbad => next_of_neg hnext (ne_true_of_eq_false hbad)⟩
  case unbind =>
    intro s src vf hfree s1 s2
    have hnext := next_vfUnbind hfree (vf := vf) rfl
    exact ⟨fun hbound => next_of_neg hnext (by simpa [← Option.isSome_iff_ne_none] using hbound), fun hnone => next_of_pos hnext (by rw [hnone, Option.isNone_none])⟩
  case migrate =>
    intro s src p a hfree s1 q l b s2 hcore hreserve
    refine ⟨fun hnever hstill => ?_, fun t => next_coreMigrate_of_early hfree rfl rfl rfl rfl hcore hreserve⟩
    have hnext := next_coreMigrate_of_first hfree rfl rfl rfl rfl hcore hreserve rfl hnever hstill
    exact ⟨fun hidle => next_of_neg hnext (ne_true_of_eq_false hidle), next_of_pos hnext⟩

/-! ### Page tables (R390) -/

section
variable {s : State} {vf : BitVec 6} {p : Nat} (hfree : MapFree s vf.toNat p)
include hfree

theorem next_pageMap (w lg : Bool) (count : BitVec 9) :
    Next (.pageMap vf w lg count) s (s.mapPages vf.toNat w lg count.toNat) :=
  congrArg Host.Outcome.next (accessW_of_reaches hfree.1)

theorem next_pageUnmap (count : BitVec 9) : Next (.pageUnmap vf count) s (s.unmapPages vf.toNat count.toNat) :=
  congrArg Host.Outcome.next (accessW_of_reaches hfree.1)

end

section
variable {s s1 : State} {v p : Nat} (hbound : (s.vf v).bound = some p) (hidle : s.rbit (mapKey v) 13 = false)
include hbound hidle

section
variable {w lg : Bool} {count : Nat}
  (hs1 : s.setReg (mapKey v) (BitVec.ofNat 32 (1 + b2n w * 4 + b2n lg * 8 + count * 16)) = s1)
include hs1

theorem mapPages_of_ok {q : Part} (hcheck : s1.mapCheck p (s1.mapVa v) (s1.mapPa v) (count + 1) w lg = .inr q) :
    s.mapPages v w lg count = (s1.setPart p q).mapDone v 0 0 := by
  subst hs1
  simp only [State.mapPages, hbound, hidle, hcheck, Bool.false_eq_true, if_false]

theorem mapPages_of_refused {r : Nat} (hcheck : s1.mapCheck p (s1.mapVa v) (s1.mapPa v) (count + 1) w lg = .inl r) :
    s.mapPages v w lg count = s1.mapDone v 2 r := by
  subst hs1
  simp only [State.mapPages, hbound, hidle, hcheck, Bool.false_eq_true, if_false]

end

section
variable {count va : Nat} (hs1 : s.setReg (mapKey v) (BitVec.ofNat 32 (2 + count * 16)) = s1) (hva : s1.mapVa v = va)
include hs1 hva

/-- Pages that are all mapped are removed, and the command runs on. -/
theorem unmapPages_of_mapped {q : Part} {ps : List Nat} (hq : s1.part p = q)
    (hps : ((List.range (count + 1)).map fun i => va / 2 ^ 21 + i) = ps) (halign : va % 2 ^ 21 = 0)
    (hrange : va + (count + 1) * 2 ^ 21 ≤ 2 ^ 48) (hmapped : ∀ i ∈ ps, (aget q.leaves i).isSome = true) :
    s.unmapPages v count =
      (s1.setPart p { q with leaves := q.leaves.filter fun e => !(ps.contains e.1) }.freeTables).setFld (mapKey v) 13 13 1 := by
  subst hs1 hva hq hps
  simp only [State.unmapPages, hbound, hidle, Bool.false_eq_true, if_false]
  rw [if_neg (not_or.2 ⟨not_not_intro halign, Nat.not_lt.2 hrange⟩), if_neg]
  rw [List.any_eq_true]
  rintro ⟨i, hi, hnone⟩
  have hsome := hmapped i hi
  rw [Option.isNone_iff_eq_none.1 hnone] at hsome
  cases hsome

theorem unmapPages_of_odd (hodd : va % 2 ^ 21 ≠ 0) : s.unmapPages v count = s1.mapDone v 2 1 := by
  subst hs1 hva
  simp only [State.unmapPages, hbound, hidle, Bool.false_eq_true, if_false]
  exact if_pos (Or.inl hodd)

end

end

theorem next_pageUnmapComplete {s : State} {vf : BitVec 6} (hrun : s.rbit (mapKey vf.toNat) 13 = true) :
    Next (.pageUnmapComplete vf) s (s.mapDone vf.toNat 0 0) :=
  congrArg Host.Outcome.next (if_pos hrun)

/-! ### Masks of a virtual function (R395) -/

theorem next_vfMaskWrite {s : State} {vf : BitVec 6} (hreach : Reaches s (.vf vf.toNat) ⟨.prtVfMask, vf.toNat, 0⟩) (value : Word) :
    Next (.vfMaskWrite vf value) s (s.maskVf vf.toNat value) :=
  congrArg Host.Outcome.next (accessW_of_reaches hreach)

/-- A message changes no register, so the mask bits stand as they were written. -/
theorem maskVf_reg (s : State) (v : Nat) (value : Word) : (s.maskVf v value).reg ⟨.prtVfMask, v, 0⟩ = value &&& 0x3FFFF#32 := by
  have hregs : (s.maskVf v value).regs = (s.setReg ⟨.prtVfMask, v, 0⟩ (value &&& 0x3FFFF#32)).regs := by
    exact foldl_keeps (view := State.regs) (fun u c => view_ite (view := State.regs) (msix_regs ..) rfl) _ _
  rw [State.reg, hregs]
  exact State_setReg_reg ..

/-- With no set cause unmasked the write sends no message. -/
theorem maskVf_of_silent {s : State} {v : Nat} {value : Word}
    (h : ∀ c < 18, s.rbit ⟨.prtVfMask, v, 0⟩ c = true → wbit value c = false → s.rbit ⟨.prtVfCause, v, 0⟩ c = false) :
    s.maskVf v value = s.setReg ⟨.prtVfMask, v, 0⟩ (value &&& 0x3FFFF#32) := by
  refine foldl_of_fixed fun c hc => if_neg ?_
  have hcause : (s.setReg ⟨.prtVfMask, v, 0⟩ (value &&& 0x3FFFF#32)).rbit ⟨.prtVfCause, v, 0⟩ c = s.rbit ⟨.prtVfCause, v, 0⟩ c := by
    rw [State.rbit, State_setReg_reg_ne _ _ (by simp)]
    rfl
  rw [hcause]
  simpa using h c (List.mem_range.1 hc)

/-- Settles O30: the checks of a map and the pages of an unmap choose the end; a mask write is a fold over the causes that
changes no register. -/
theorem pagesAndVfMasks : Obligations.PagesAndVfMasks := by
  unfold Obligations.PagesAndVfMasks
  refine ⟨?map, ?unmap, fun s vf => next_pageUnmapComplete, ?mask⟩
  case map =>
    intro s vf p w lg count hfree v s1
    obtain ⟨_, hbound, hidle⟩ := id hfree
    have hnext := next_pageMap hfree w lg count
    exact ⟨fun q hok => mapPages_of_ok hbound hidle rfl hok ▸ hnext, fun r hno => mapPages_of_refused hbound hidle rfl hno ▸ hnext⟩
  case unmap =>
    intro s vf p count hfree v s1 va q ps
    obtain ⟨_, hbound, hidle⟩ := id hfree
    have hnext := next_pageUnmap hfree count
    exact ⟨fun halign hrange hmapped => unmapPages_of_mapped hbound hidle rfl rfl rfl rfl halign hrange hmapped ▸ hnext,
      fun hodd => unmapPages_of_odd hbound hidle rfl rfl hodd ▸ hnext⟩
  case mask =>
    intro s vf value v k hreach
    exact ⟨_, next_vfMaskWrite hreach value, maskVf_reg .., fun hsilent => by rw [maskVf_of_silent hsilent]; rfl⟩

end Sys2Proof.Proofs
end

section
/-! Proofs about virtual functions (13) and the host interface (18): what a function reaches, the link and its resets, the
aperture, the host queues. -/
namespace Sys2Proof.Proofs
open Sys2Proof Sys2Proof.Machine Sys2Proof.Spec Sys2Proof.Laws

/-! ### The window of a virtual function (R393) -/

/-- Below the MSI-X table of the PF, a write with every enable is a write of a word. -/
theorem next_registerWrite_vf (s : State) (v off : Nat) (value : Word) :
    Next (.registerWrite (.vf v) off value 0xF#4) s (s.writeOff (.vf v) off value) := by
  unfold Next
  rw [exec_registerWrite, execRegisterWrite, if_neg (by simp), if_neg (by simp)]

theorem denied_of_bound {s : State} {v p : Nat} (hbound : (s.vf v).bound = some p) :
    s.denied (.vf v) = s.count .prtVfDropCnt v 1 := by
  simp [State.denied, hbound]

theorem writeOff_of_unreached {s : State} {v off : Nat} {k : RKey} (value : Word) (hlive : s.srcLive (.vf v) = true)
    (hkey : s.keyAt (.vf v) off = some k) (hno : s.reaches (.vf v) k true = false) :
    s.writeOff (.vf v) off value = s.count .prtVfDropCnt v 1 := by
  obtain ⟨p, hbound, _⟩ := Option.bind_eq_some_iff.1 (show ((s.vf v).bound.bind fun p => s.windowReg v p off) = some k from hkey)
  simp only [State.writeOff, hkey, State.writeReg, hlive, hno, denied_of_bound hbound, Bool.not_false, Bool.and_self, if_true]

theorem writeOff_of_nowhere {s : State} {v p off : Nat} (value : Word) (hlive : s.srcLive (.vf v) = true)
    (hbound : (s.vf v).bound = some p) (hkey : s.keyAt (.vf v) off = none) (htable : off < 0x10000 ∨ 0x10400 ≤ off) :
    s.writeOff (.vf v) off value = s.count .prtVfDropCnt v 1 := by
  have hout : ¬ (0x10000 ≤ off ∧ off < 0x10400 ∧ off % 4 = 0) := by omega
  simp only [State.writeOff, hkey, hlive, denied_of_bound hbound, if_neg hout, if_true]

theorem vfSees_of_reaches {s : State} {v p : Nat} {k : RKey} {write : Bool} (hbound : (s.vf v).bound = some p)
    (h : s.reaches (.vf v) k write = true) : s.vfSees v p k = true := by
  simp only [State.reaches, hbound, Bool.and_eq_true] at h
  exact h.1

/-- A register that two functions of partitions without a common unit see is one of the joiner programs: every other belongs
to a unit, a partition or a function. -/
theorem blk_of_vfSees {s : State} {v1 v2 p1 p2 : Nat} {k : RKey} (hv : v1 ≠ v2) (hp : p1 ≠ p2)
    (hbents : ∀ b, (s.part p1).bents.contains b = true → (s.part p2).bents.contains b = false)
    (hchans : ∀ c, (s.part p1).chans.contains c = true → (s.part p2).chans.contains c = false)
    (hports : ∀ n, (s.part p1).ports.contains n = true → (s.part p2).ports.contains n = false)
    (hpools : ∀ d i, ((s.part p1).pools.getD d 0).testBit i = true → ((s.part p2).pools.getD d 0).testBit i = false)
    (hpegs : ∀ d i, ((s.part p1).pegblk.getD d 0).testBit i = true → ((s.part p2).pegblk.getD d 0).testBit i = false)
    (h1 : s.vfSees v1 p1 k = true) (h2 : s.vfSees v2 p2 k = true) : k.blk = .jnrProg := by
  have hunit {a b x : Nat} (hne : a ≠ b) (ha : (x == a) = true) (hb : (x == b) = true) : k.blk = .jnrProg :=
    absurd ((beq_iff_eq.1 ha).symm.trans (beq_iff_eq.1 hb)) hne
  have hown {x y : Bool} (hno : x = true → y = false) (hx : x = true) (hy : y = true) : k.blk = .jnrProg := by
    rw [hno hx] at hy
    cases hy
  cases hblk : k.blk with
  | jnrProg => rfl
  | core | bay | pegBent => simp only [State.vfSees, hblk] at h1 h2; exact hblk ▸ hown (hbents _) h1 h2
  | pegErr =>
    simp only [State.vfSees, hblk, Bool.and_eq_true] at h1 h2
    exact hblk ▸ hown (hbents _) h1.2 h2.2
  | chan => simp only [State.vfSees, hblk] at h1 h2; exact hblk ▸ hown (hchans _) h1 h2
  | port => simp only [State.vfSees, hblk] at h1 h2; exact hblk ▸ hown (hports _) h1 h2
  | pool => simp only [State.vfSees, hblk] at h1 h2; exact hblk ▸ hown (hpools _ _) h1 h2
  | pegSpn => simp only [State.vfSees, hblk] at h1 h2; exact hblk ▸ hown (hpegs _ _) h1 h2
  | dld | deck | keygen | trs | jnr | fabric | prtState => simp only [State.vfSees, hblk] at h1 h2; exact hblk ▸ hunit hp h1 h2
  | vf | vfHq | vfTel => simp only [State.vfSees, hblk] at h1 h2; exact hblk ▸ hunit hv h1 h2
  | pkg | tbl | col | jnrDie | d2d | prtCmd | recovery | mgtRst | reliab | bent | thermal | plumb | power | pwrPart | sec | maint
  | host | die | tel | tst | pert | idle | root | spnSnap => simp [State.vfSees, hblk] at h1

/-- Settles O47: what a function does not reach is denied before the write, and what it reaches belongs to its partition or to
itself. -/
theorem virtualFunctionsStayInTheirWindow : Obligations.VirtualFunctionsStayInTheirWindow := by
  unfold Obligations.VirtualFunctionsStayInTheirWindow
  refine ⟨fun s v off value hlive => ⟨?unreached, ?nowhere⟩, ?apart⟩
  case unreached => exact fun k hkey hno => writeOff_of_unreached value hlive hkey hno ▸ next_registerWrite_vf s v off value
  case nowhere =>
    exact fun p hbound hkey htable => writeOff_of_nowhere value hlive hbound hkey htable ▸ next_registerWrite_vf s v off value
  case apart =>
    intro s v1 v2 p1 p2 k hb1 hb2 hp hbents hchans hports hpools hpegs hr1 hr2
    have hv : v1 ≠ v2 := by
      rintro rfl
      exact hp (Option.some.inj (hb1.symm.trans hb2))
    exact blk_of_vfSees hv hp hbents hchans hports hpools hpegs (vfSees_of_reaches hb1 hr1) (vfSees_of_reaches hb2 hr2)

/-! ### The link and its functions (R395, R397, R522 to R525) -/

section
variable {s : State}

theorem next_hostLinkUp {speed : BitVec 2} {width : Nat} {s1 : State}
    (hs1 : s.setReg kHostLink (BitVec.ofNat 32 (1 + speed.toNat * 2 + width * 8)) = s1) (hpin : s.resetPin = true)
    (hspeed : speed ≠ 0#2) (hwidth : width = 8 ∨ width = 16) (hup : s.pkg ≠ .off) : Next (.hostLinkUp speed width) s
      (if s.pkg = .on then { s1 with msgs := s1.msgs ++ [.drs] } else s1) := by
  subst hs1
  exact congrArg Host.Outcome.next (if_neg (by simp [hpin, hspeed, hwidth, hup]))

section
variable (hon : s.pkg = .on)
include hon

theorem next_hotReset : Next .hotReset s
    ((upto 1 63).foldl (fun s v => s.vfFlr v) ((s.setReg kHostLink 0#32).count .mgtHostRetrainCnt 0 1).pfReset) :=
  congrArg Host.Outcome.next (if_neg (not_not_intro hon))

theorem next_pfFlr : Next .pfFlr s s.pfReset := congrArg Host.Outcome.next (if_neg (not_not_intro hon))

theorem next_vfFlr {vf : BitVec 6} (hvf : vf ≠ 0#6) : Next (.vfFlr vf) s (s.vfFlr vf.toNat) :=
  congrArg Host.Outcome.next (if_neg (by simp [hon, hvf]))

theorem next_pciePowerStateChange (fn : BitVec 6) (d3 : Bool) (hlink : s.hostUp = true) :
    Next (.pciePowerStateChange fn d3) s (s.setVf fn.toNat { s.vf fn.toNat with d3 := d3 }) :=
  congrArg Host.Outcome.next (if_neg (by simp [hon, hlink]))

end

theorem next_msixVectorMaskWrite (s : State) (fn vec : BitVec 6) (m : Bool) : Next (.msixVectorMaskWrite fn vec m) s
    (if s.tableLive fn.toNat = true then s.maskVector fn.toNat vec.toNat m else s) := rfl

/-! ### The aperture (R522, R523, R526) -/

/-- The package address that an offset in the aperture names. -/
def apertureAddr (s : State) (off : Nat) : Nat := s.rfld ⟨.mgtHostAper, 0, 0⟩ 7 0 * 2 ^ 36 + off

section
variable {off len n : Nat} (hlive : s.srcLive .pf = true) (hrange : off + n ≤ 2 ^ 36) (hlen : n ≤ 4096)
include hlive hrange hlen

/-- An access in range passes the check of its source. -/
theorem aperture_in_range : ¬ (s.srcLive .pf = false ∨ 2 ^ 36 < off + n ∨ 4096 < n) := by
  simp only [hlive, Bool.true_eq_false, false_or]
  omega

end

theorem next_apertureWrite {off : Nat} (len : Nat) {l : List (Byte × Bool)} (hlive : s.srcLive .pf = true)
    (hrange : off + l.length ≤ 2 ^ 36) (hlen : l.length ≤ 4096) : Next (.apertureAccess off len (some l)) s
      (if (!((List.range l.length).all fun i => s.freeMem (apertureAddr s off + i))) = true then s.count .mgtHostAbortCnt 0 1
       else if anyPoison l = true then (s.pokeP (apertureAddr s off) l).count .mgtHostUeCnt 0 1
       else s.pokeP (apertureAddr s off) l) :=
  congrArg Host.Outcome.next (if_neg (aperture_in_range hlive hrange hlen))

theorem next_apertureRead {off len : Nat} (hlive : s.srcLive .pf = true) (hrange : off + len ≤ 2 ^ 36) (hlen : len ≤ 4096) :
    Next (.apertureAccess off len none) s
      (if (!((List.range len).all fun i => s.freeMem (apertureAddr s off + i))) = true then
        { s.count .mgtHostAbortCnt 0 1 with msgs := s.msgs ++ [.hostRead 0 none] }
       else { s with msgs := s.msgs ++ [.hostRead 0 (some (s.pbytes (apertureAddr s off) len))] }) :=
  congrArg Host.Outcome.next (if_neg (aperture_in_range hlive hrange hlen))

theorem not_all_range_iff {f : Nat → Bool} {n : Nat} : (!((List.range n).all f)) = true ↔ ∃ i < n, f i = false := by
  simp

end

/-- Settles O50: the state of the package lets the link and its functions act, and who holds the memory decides an access of the
aperture. -/
theorem hostLinkAndAperture : Obligations.HostLinkAndAperture := by
  unfold Obligations.HostLinkAndAperture
  refine ⟨?link, fun s hon => ⟨next_hotReset hon, next_pfFlr hon, fun vf => next_vfFlr hon, next_pciePowerStateChange hon⟩,
    fun s fn vec m hdead => next_of_neg (next_msixVectorMaskWrite s fn vec m) (ne_true_of_eq_false hdead), ?mask, ?aperture⟩
  case link =>
    intro s speed width hpin hspeed hwidth s1
    have hnext (hup : s.pkg ≠ .off) := next_hostLinkUp rfl hpin hspeed hwidth hup
    exact ⟨fun hon => next_of_pos (hnext (by rw [hon]; decide)) hon, fun hoff hup => next_of_neg (hnext hup) hoff⟩
  case mask =>
    intro s fn vec hlive f bit open_
    have hnext (m : Bool) := next_of_pos (next_msixVectorMaskWrite s fn vec m) hlive
    exact ⟨hnext true, next_of_pos (hnext false), fun hnone => next_of_neg (hnext false) (ne_true_of_eq_false hnone)⟩
  case aperture =>
    intro s off len l hlive a
    refine ⟨fun hrange hlen hfree => ?_, fun hrange hlen hfree => ?_, fun i hi hrange hlen hheld => ?_,
      fun i hi hrange hlen hheld => ?_⟩
    · refine next_of_neg (next_apertureWrite len hlive hrange hlen) fun hheld => ?_
      obtain ⟨i, hi, hno⟩ := not_all_range_iff.1 hheld
      exact absurd (hfree i hi) (ne_true_of_eq_false hno)
    · refine next_of_neg (next_apertureRead hlive hrange hlen) fun hheld => ?_
      obtain ⟨i, hi, hno⟩ := not_all_range_iff.1 hheld
      exact absurd (hfree i hi) (ne_true_of_eq_false hno)
    · exact next_of_pos (next_apertureWrite len hlive hrange hlen) (not_all_range_iff.2 ⟨i, hi, hheld⟩)
    · exact next_of_pos (next_apertureRead hlive hrange hlen) (not_all_range_iff.2 ⟨i, hi, hheld⟩)

/-! ### Host queues (R527, R528, R538) -/

section
variable {s : State} {vf : BitVec 6} {q : BitVec 2}

theorem next_hqTailWrite (hreach : Reaches s (.vf vf.toNat) (kHq .prtHqTail vf.toNat q.toNat)) (value : Word) :
    Next (.hqTailWrite vf q value) s (s.setHqTail vf.toNat q.toNat value) :=
  congrArg Host.Outcome.next (accessW_of_reaches hreach)

section
variable {p : Nat} {d : List Byte} (hready : s.hqReady vf.toNat q.toNat = some p)
include hready

/-- The end of a move into the partition: the job of the queue, with a status by whether every page translated. -/
def hqStored (s : State) (v q p : Nat) (d : List Byte) (data : List (Byte × Bool)) (ok : Nat) : State :=
  let r := s.vstore p (dfield d 0x10 8) (dfield d 0x1C 1) data
  r.1.setJob v q d (if r.2 = true then ok else 2)

/-- The end of a move out of the partition. -/
def hqSent (s : State) (v q p : Nat) (d : List Byte) : State :=
  let r := s.hqRead p (dfield d 0x10 8) (dfield d 0x18 4) (dfield d 0x1C 1)
  let s1 := if r.2.1.isEmpty then r.1 else { r.1 with msgs := r.1.msgs ++ [Msg.hostWrite v (dfield d 8 8) r.2.1 true] }
  s1.setJob v q d (if !r.2.2 then 2 else if anyPoison r.2.1 then 5 else 1)

theorem next_hqHostToPartition (data : List (Byte × Bool)) : Next (.hqHostToPartition vf q d data) s
    (if s.hqBad p d = true then s.setJob vf.toNat q.toNat d 4
     else if dfield d 0 1 ≠ 1 ∨ data.length ≠ dfield d 0x18 4 then s else hqStored s vf.toNat q.toNat p d data 1) := by
  change execHqHostToPartition vf q d data s = _
  simp only [execHqHostToPartition, hready]
  rfl

theorem next_hqHostReadTimeout (data : List (Byte × Bool)) : Next (.hqHostReadTimeout vf q d data) s
    (if s.hqBad p d = true then s.setJob vf.toNat q.toNat d 4
     else if dfield d 0 1 ≠ 1 ∨ dfield d 0x18 4 ≤ data.length then s else hqStored s vf.toNat q.toNat p d data 3) := by
  change execHqHostReadTimeout vf q d data s = _
  simp only [execHqHostReadTimeout, hready]
  rfl

theorem next_hqPartitionToHost : Next (.hqPartitionToHost vf q d) s
    (if s.hqBad p d = true then s.setJob vf.toNat q.toNat d 4
     else if dfield d 0 1 ≠ 2 then s else hqSent s vf.toNat q.toNat p d) := by
  change execHqPartitionToHost vf q d s = _
  simp only [execHqPartitionToHost, hready]
  rfl

end

/-- The status of a job goes to the ring, and the head moves on. -/
def hqEnded (s : State) (v q : Nat) (j : HqJob) : State :=
  let kh := kHq .prtHqHead v q
  let head := (s.reg kh).toNat
  let ring := (s.reg (kHq .prtHqBaseLo v q)).toNat + 2 ^ 32 * (s.reg (kHq .prtHqBaseHi v q)).toNat
  let s1 := s.setVf v { s.vf v with jobs := adel (s.vf v).jobs q }
  let s2 := { s1 with msgs := s1.msgs ++ [Msg.hostWrite v (ring + head * 64 + 2) [(BitVec.ofNat 8 j.status, false)] false] }
  s2.setReg kh (BitVec.ofNat 32 ((head + 1) % 2 ^ s.rfld (kHq .prtHqCfg v q) 4 0))

/-- A descriptor without flags neither signals nor interrupts. -/
theorem next_hqDescriptorComplete {j : HqJob} (hjob : aget (s.vf vf.toNat).jobs q.toNat = some j) (hflags : dfield j.desc 1 1 = 0) :
    Next (.hqDescriptorComplete vf q) s
      ((hqEnded s vf.toNat q.toNat j).count (if j.status = 1 then .prtHqDoneCnt else .prtHqErrCnt) (vf.toNat * 8 + q.toNat) 1) := by
  change execHqDescriptorComplete vf q s = _
  simp only [execHqDescriptorComplete, hjob, hflags, Nat.zero_testBit, Bool.false_eq_true, false_and, if_false]
  split <;> rfl

/-- A count of another register leaves the head. -/
theorem count_reg_hqHead (s : State) {r : Reg} (hr : r ≠ .prtHqHead) (u v q : Nat) :
    (s.count r u 1).reg (kHq .prtHqHead v q) = s.reg (kHq .prtHqHead v q) :=
  State_setReg_reg_ne _ _ fun h => hr (congrArg RKey.reg h).symm

end

/-- Settles O51: a ready queue's descriptor is checked, then its kind and length choose; the end of a descriptor writes its
status and moves the head. -/
theorem hostQueueDescriptors : Obligations.HostQueueDescriptors := by
  unfold Obligations.HostQueueDescriptors
  refine ⟨?tail, ?moves, ?ended⟩
  case tail =>
    intro s vf q value k hreach
    have hnext := next_hqTailWrite hreach value
    exact ⟨fun hin => next_of_neg hnext (Nat.not_le.2 hin), next_of_pos hnext⟩
  case moves =>
    intro s vf q p d data v Q hready
    have hin := next_hqHostToPartition hready (d := d) data
    have hout := next_hqPartitionToHost hready (d := d)
    have hlate := next_hqHostReadTimeout hready (d := d) data
    refine ⟨fun hbad => ⟨next_of_pos hin hbad, next_of_pos hout hbad, next_of_pos hlate hbad⟩, fun hgood hkind hlen => ?_,
      fun hgood hkind hshort => ?_, fun hgood hkind => ?_⟩
    · exact next_of_neg (next_of_neg hin (ne_true_of_eq_false hgood)) (by simp [hkind, hlen])
    · exact next_of_neg (next_of_neg hlate (ne_true_of_eq_false hgood)) (by simp [hkind, hshort])
    · exact next_of_neg (next_of_neg hout (ne_true_of_eq_false hgood)) (not_not_intro hkind)
  case ended =>
    intro s vf q j v Q hjob hflags
    refine ⟨_, next_hqDescriptorComplete hjob hflags, ?_, ?_, rfl⟩
    · change aget ((hqEnded s v Q j).vf v).jobs Q = none
      change aget ((s.setVf v { s.vf v with jobs := adel (s.vf v).jobs Q }).vf v).jobs Q = none
      rw [State_setVf_vf]
      exact aget_adel_self ..
    · rw [count_reg_hqHead _ (by split <;> decide)]
      exact State_setReg_reg ..

end Sys2Proof.Proofs
end

section
/-! Proofs about resets and watchdogs (14). -/
namespace Sys2Proof.Proofs
open Sys2Proof Sys2Proof.Machine Sys2Proof.Spec Sys2Proof.Laws

/-! ### Partition resets (R419, R428, R434) -/

theorem notWelyar_partitionReset {s : State} {p : BitVec 3} {src : Src} (hsrc : src ≠ .welyar)
    (hreach : Reaches s src ⟨.prtRst, p.toNat, 0⟩) : Next (.partitionReset p src) s (s.partitionReset p.toNat 0x05) := by
  have haccess := accessW_of_reaches (f := fun s => s.partitionReset p.toNat 0x05) hreach
  cases src with
  | welyar => exact absurd rfl hsrc
  | pf | i3c | vf => exact congrArg Host.Outcome.next haccess

/-- A partition that is built and in no reset is fenced, unless it is parked or being updated. -/
theorem partitionReset_of_free {s : State} {p trigger : Nat} (hbuilt : (s.part p).built = true) (hreset : (s.part p).reset = none)
    (hwait : (s.part p).resetWait = none) : s.partitionReset p trigger =
      if ((s.part p).parked || s.swapping p) = true then
        (s.setPart p { s.part p with resetWait := some trigger }).setFld ⟨.prtRst, p, 0⟩ 0 0 1
      else s.fencePart p trigger :=
  if_neg (by simp [hbuilt, hreset, hwait])

/-- Welyar's order: the third within 2^36 pt resets the package. -/
theorem next_partitionReset_welyar {s : State} {p : BitVec 3} (hreset : (s.part p.toNat).reset = none) :
    Next (.partitionReset p .welyar) s (if (s.ordered 3 p.toNat).2 = true then (s.ordered 3 p.toNat).1.orderPackage 0x06
      else (s.ordered 3 p.toNat).1.partitionReset p.toNat 0x06) :=
  congrArg Host.Outcome.next (if_neg (by simp [hreset]))

section
variable {s : State} {p : BitVec 3} {trigger : Nat} {t0 : Time} (hreset : (s.part p.toNat).reset = some (trigger, t0))
  (hphase : s.phase = 0)
include hreset hphase

/-- At its deadline a fence ends: the units are reset and the partition is told. -/
theorem next_fenceDeadline (hdue : 2 ^ 16 + s.rfld ⟨.prtFence, p.toNat, 0⟩ 26 0 ≤ s.since t0) : Next (.fenceDeadline p) s
    (let s1 := s.resetUnits p.toNat
     let s2 := s1.setPart p.toNat { s1.part p.toNat with fenced := false, reset := none, dldSince := none, dldFired := false }
     ((s2.setFld ⟨.prtRst, p.toNat, 0⟩ 0 0 0).rstDone 0 p.toNat 0#32 3 (s.since t0)).cause p.toNat 15) := by
  change execFenceDeadline p s = _
  simp only [execFenceDeadline, hreset]
  exact congrArg Host.Outcome.next (if_neg (not_or.2 ⟨Nat.not_lt.2 hdue, not_not_intro hphase⟩))

theorem next_partBudgetExpire (hlate : 3221225472 ≤ s.since t0) :
    Next (.resetBudgetExpire (.part p.toNat)) s (s.orderPackage 0x06) := by
  change execResetBudgetExpire (.part p.toNat) s = _
  simp only [execResetBudgetExpire, hreset]
  exact congrArg Host.Outcome.next (if_neg (not_or.2 ⟨Nat.not_lt.2 hlate, not_not_intro hphase⟩))

end

/-! ### Package resets (R430, R432, R435) -/

section
variable {s : State}

theorem next_pkgBudgetExpire {t0 : Time} (hfence : s.pkgFence = some t0) (hheld : s.pkg = .held)
    (hlate : 9663676416 ≤ s.since t0) : Next (.resetBudgetExpire .pkg) s (s.askCycle 0x06 4) := by
  change execResetBudgetExpire .pkg s = _
  simp only [execResetBudgetExpire, hfence]
  exact congrArg Host.Outcome.next (if_neg (not_or.2 ⟨not_not_intro hheld, Nat.not_lt.2 hlate⟩))

theorem next_packageReset {src : Src} (hsrc : src ≠ .welyar) (hreach : Reaches s src ⟨.mgtRstCmd, 0, 0⟩) :
    Next (.packageReset src) s (s.packageReset 0x05) := by
  have haccess := accessW_of_reaches (f := fun s => s.packageReset 0x05) hreach
  cases src with
  | welyar => exact absurd rfl hsrc
  | pf | i3c | vf => exact congrArg Host.Outcome.next haccess

theorem next_powerCycleRequest {src : Src} (hreach : Reaches s src ⟨.mgtRstCmd, 0, 0⟩) (hon : s.pkg = .on) :
    Next (.powerCycleRequest src) s (s.askCycle 0x05 (Config.cycleArg s.draws).toNat) :=
  congrArg Host.Outcome.next ((if_neg (not_not_intro hon)).trans (accessW_of_reaches hreach))

theorem pkgResetAssert_of_on (hon : s.pkg = .on) : Next .pkgResetAssert s { s.packageReset 0x08 with resetPin := false } := by
  change execPkgResetAssert s = _
  simp only [execPkgResetAssert, hon]

theorem pkgResetAssert_of_stopped (hstop : s.pkg = .halted ∨ s.pkg = .failed) :
    Next .pkgResetAssert s { s.dieReset with resetPin := false } := by
  change execPkgResetAssert s = _
  rcases hstop with h | h <;> simp only [execPkgResetAssert, h]

end

/-- Settles O31: what a reset meets (a reset or an update that runs, its third order, its deadline, its budget) chooses what
follows. -/
theorem partitionAndPackageResets : Obligations.PartitionAndPackageResets := by
  unfold Obligations.PartitionAndPackageResets
  refine ⟨?ordered, fun s p => next_partitionReset_welyar, fun s p trigger t0 hreset hphase =>
    ⟨next_fenceDeadline hreset hphase, next_partBudgetExpire hreset hphase⟩, fun s t0 => next_pkgBudgetExpire,
    fun s src hreach hon => ⟨fun hsrc => next_packageReset hsrc hreach, _, next_powerCycleRequest hreach hon⟩,
    fun s hon => ⟨rfl, pkgResetAssert_of_on hon⟩, fun s => pkgResetAssert_of_stopped⟩
  case ordered =>
    intro s p src hsrc hreach q hbuilt hreset hwait
    have hnext := notWelyar_partitionReset hsrc hreach
    rw [partitionReset_of_free hbuilt hreset hwait] at hnext
    refine ⟨fun hparked hswap => next_of_neg hnext ?_, fun h => next_of_pos hnext (Bool.or_eq_true_iff.2 h)⟩
    rw [show (s.part p.toNat).parked = false from hparked, hswap]
    decide

/-! ### What a package reset leaves (R430, R432, R435, R543) -/

theorem aget_filter_of_not {κ α : Type} [DecidableEq κ] {f : κ → Bool} {l : List (κ × α)} {k : κ} (hk : f k = false) :
    aget (l.filter fun e => f e.1) k = none := by
  induction l with
  | nil => rfl
  | cons e r ih =>
    obtain ⟨k', v⟩ := e
    by_cases hf : f k' = true
    · have hne : k' ≠ k := fun heq => by rw [heq, hk] at hf; cases hf
      rw [List.filter_cons_of_pos (p := fun e : κ × α => f e.1) hf, aget, if_neg hne, ih]
    · rw [List.filter_cons_of_neg (p := fun e : κ × α => f e.1) hf, ih]

theorem dieReset_reg {s : State} {k : RKey} (hk : k.blk ≠ .mgtRst) : s.dieReset.reg k = k.resetVal := by
  rw [State.reg]
  change (aget (s.regs.filter fun e => e.1.blk == .mgtRst) k).getD k.resetVal = _
  rw [aget_filter_of_not (f := fun k : RKey => k.blk == .mgtRst) (beq_false_of_ne hk)]
  rfl

theorem dieReset_read {s : State} {a : Nat} (ha : a < 2 ^ 41) : Memory.read s.dieReset.mem a = none := by
  rw [Memory.read]
  change (match aget (s.mem.filter fun e => decide (2 ^ 41 ≤ e.1)) a with | some b => some b | none => Memory.unlisted a) = none
  rw [aget_filter_of_not (f := fun a => decide (2 ^ 41 ≤ a)) (decide_eq_false (Nat.not_le.2 ha))]
  exact if_pos ha

/-- The queue of commands, plumb time and the flash. -/
def lastingView (s : State) : List Instr × Time × Flash := (s.pending, s.plumb, s.flash)

/-- The notices, the event and the records before a package reset. -/
def packageNoted (s : State) (trigger : Nat) : State :=
  let s1 := ((upto 1 63).foldl (fun s v => s.vfCause v 16) s).pfCause 16
  (((s1.rstBegin 0 255 0#32 4 trigger).inspectPkg 4 trigger).rstLast 4 trigger 0).count .mgtPkgRstCnt 0 1

theorem quiet_lastingView : Quiet lastingView := fun _ _ _ _ _ _ _ => rfl

theorem inspectPkg_lasting (s : State) (level trigger : Nat) : lastingView (s.inspectPkg level trigger) = lastingView s :=
  quiet_lastingView.pldmEvent ..

theorem rstLast_lasting (s : State) (level trigger part : Nat) : lastingView (s.rstLast level trigger part) = lastingView s :=
  (quiet_lastingView.setReg ..).trans ((quiet_lastingView.setReg ..).trans (quiet_lastingView.setReg ..))

theorem packageNoted_lasting (s : State) (trigger : Nat) : lastingView (packageNoted s trigger) = lastingView s := by
  have h := quiet_lastingView
  have hcauses : lastingView (((upto 1 63).foldl (fun s v => s.vfCause v 16) s).pfCause 16) = lastingView s :=
    (h.pfCause ..).trans (foldl_keeps (fun u v => h.vfCause u v 16) _ _)
  rw [packageNoted, h.count, rstLast_lasting, inspectPkg_lasting, State.rstBegin, h.spineEvent, hcauses]

/-- Outside a shutdown sequence. -/
theorem packageReset_of_on {s : State} (hon : s.pkg = .on) (hphase : s.phase = 0) (trigger : Nat) :
    s.packageReset trigger = (packageNoted s trigger).dieReset := by
  have hseq : ¬ (1 ≤ s.rfld ⟨.pwrPfStatus, 0, 0⟩ 2 0 ∧ s.rfld ⟨.pwrPfStatus, 0, 0⟩ 2 0 ≤ 3) := fun h =>
    absurd h.1 (by rw [show s.rfld ⟨.pwrPfStatus, 0, 0⟩ 2 0 = 0 from hphase]; decide)
  exact (if_neg (not_not_intro hon)).trans (if_neg hseq)

/-- Settles O32: a package reset is the die reset of a state that differs in notices and records, which keep plumb time, the flash
and the queue. -/
theorem packageResetLeaves : Obligations.PackageResetLeaves := by
  unfold Obligations.PackageResetLeaves
  intro s trigger hon hphase
  obtain ⟨hpending, hplumb, hflash⟩ : (packageNoted s trigger).pending = s.pending ∧ (packageNoted s trigger).plumb = s.plumb ∧
      (packageNoted s trigger).flash = s.flash := by
    simpa only [lastingView, Prod.mk.injEq] using packageNoted_lasting s trigger
  rw [packageReset_of_on hon hphase]
  generalize packageNoted s trigger = n at hpending hplumb hflash ⊢
  exact ⟨rfl, hpending, rfl, rfl, rfl, rfl, rfl, rfl, rfl, rfl, fun k => dieReset_reg, fun a => dieReset_read, hplumb, hflash⟩

/-! ### Engine resets and watchdogs (R408 to R413, R427) -/

/-- The third order of an engine outside the bays resets the package. -/
theorem next_engineReset {s : State} {kind : EngKind} {unit : Nat} {p : Option Nat} {o : State × Bool}
    (ho : s.ordered 2 (engNum kind unit) = o) : Next (.engineReset kind unit p) s
      (if (!o.2) = true then o.1.engineReset kind unit p 0x07
       else if kind.inBay = true then
        match o.1.partOfBay unit with
        | some q => o.1.orderPart q 0x06
        | none => o.1
       else o.1.orderPackage 0x06) := by
  subst ho
  rfl

theorem next_ctxWatchdog {s : State} {core : CoreAddr} {x : BitVec 2} {p lim : Nat} (hpart : s.partOfCore core.toNat = some p)
    (hlim : (s.reg ⟨.prtWdCtx, p, 0⟩).toNat = lim) (hset : lim ≠ 0) (hwatched : s.watched p = true)
    (hidle : (s.core core.toNat).run = none)
    (hst : (s.ctx core.toNat x.toNat).st = .ready ∨ (s.ctx core.toNat x.toNat).st = .running)
    (hlate : lim ≤ s.since (s.ctx core.toNat x.toNat).progress) :
    Next (.ctxWatchdog core x) s ((s.count .prtWdCnt p 1).faultCtx core.toNat x.toNat 0x07#8) := by
  change execCtxWatchdog core x s = _
  have hruns : ((s.ctx core.toNat x.toNat).st == .ready || (s.ctx core.toNat x.toNat).st == .running) = true := by simpa using hst
  simp [execCtxWatchdog, hpart, hlim, hset, hwatched, hidle, hruns, hlate]

theorem next_engineWatchdog {s : State} {kind : EngKind} {unit : Nat} {p : BitVec 3} {waited : Nat}
    (hwatched : s.watched p.toNat = true) (hlate : (s.reg ⟨.prtWdEng, p.toNat, 0⟩).toNat ≤ waited) (others : Bool) :
    Next (.engineWatchdog kind unit p waited others) s
      ((s.count .prtWdCnt p.toNat 1).orderEngine kind unit (if others = true then some p.toNat else none) 0x02) :=
  congrArg Host.Outcome.next (if_neg (by simp [hwatched, hlate]))

/-- Settles O33: the orders of an engine are counted first; a watchdog that is due faults its context or orders its engine. -/
theorem engineResetAndWatchdogs : Obligations.EngineResetAndWatchdogs := by
  unfold Obligations.EngineResetAndWatchdogs
  refine ⟨?engine, ?ctx, fun s kind unit p waited hwatched hlate =>
    ⟨next_engineWatchdog hwatched hlate true, next_engineWatchdog hwatched hlate false⟩, fun s c x kind unit => ⟨rfl, rfl⟩⟩
  case engine =>
    intro s kind unit p
    have hnext := next_engineReset (p := p) (s := s) (kind := kind) (unit := unit) rfl
    change ((s.ordered 2 (engNum kind unit)).2 = false → _) ∧ ((s.ordered 2 (engNum kind unit)).2 = true → _)
    refine ⟨fun hfew => next_of_pos hnext (by rw [hfew]; rfl), fun hthird hout => ?_⟩
    exact next_of_neg (next_of_neg hnext (by rw [hthird]; decide)) (ne_true_of_eq_false hout)
  case ctx =>
    intro s core x p c v lim hpart hset hwatched hidle hst hlate
    exact next_ctxWatchdog hpart rfl hset hwatched hidle hst hlate

end Sys2Proof.Proofs
end

section
/-! Proofs about reliability (15) and maintenance (17): the arbiter, substitution, detected errors, probes. -/
namespace Sys2Proof.Proofs
open Sys2Proof Sys2Proof.Machine Sys2Proof.Spec Sys2Proof.Laws

/-! ### The arbiter (R515, R516, R520) -/

section
variable {s : State} {code unit : Nat}

theorem next_maintRequest (hlo : 1 ≤ code) (hhi : code ≤ 10) : Next (.maintRequest code unit) s (s.maintAsk ⟨code, unit⟩).1 :=
  congrArg Host.Outcome.next (if_pos ⟨hlo, hhi⟩)

theorem maintStart_queues (s : State) (a : Activity) :
    (s.maintStart a).maintRun = s.maintRun ++ [a] ∧ (s.maintStart a).maintQueue = s.maintQueue := by
  have h := portView_maintStart s a
  simp only [portView, Prod.mk.injEq] at h
  exact h.2

theorem maintAsk_busy_queues {a : Activity} (hbusy : s.maintFree s.maintQueue a = false) (hroom : s.maintQueue.length < 256) :
    (s.maintAsk a).1.maintRun = s.maintRun ∧ (s.maintAsk a).1.maintQueue = s.maintQueue ++ [a] := by
  have h := (maintAsk_of_busy s hbusy hroom).1
  simp only [portView, Prod.mk.injEq] at h
  exact h.2

/-- An activity that runs ends: the queue is examined. -/
theorem maintEnd_of_running {a : Activity} (hrun : s.maintRun.contains a = true) : s.maintEnd a =
    State.maintScan [] s.maintQueue (({ s with maintRun := s.maintRun.erase a }.count .mgtMaintDoneCnt 0 1).maintEvent a 1) :=
  if_pos hrun

theorem next_maintHoldWrite {src : Src} (hreach : Reaches s src ⟨.mgtMaintCtl, 0, 0⟩) (hold : Bool) :
    Next (.maintHoldWrite src hold) s
      (let s1 := s.setFld ⟨.mgtMaintCtl, 0, 0⟩ 0 0 (b2n hold)
       if hold = true then s1 else State.maintScan [] s1.maintQueue s1) :=
  congrArg Host.Outcome.next (accessW_of_reaches hreach)

end

/-! ### Substitution (R443, R444, R447, R455) -/

/-- A granted substitution: the core moves to the lowest reserve core, and the core it leaves is probed. -/
theorem next_coreSubstitute {s : State} {core : CoreAddr} {p l b c : Nat} {q : Part} {act : Activity} (hc : core.toNat = c)
    (hact : (⟨4, bentOf c⟩ : Activity) = act) (hq : s.part p = q) (hpart : s.partOfCore c = some p) (hlcore : s.lcoreOf c = some l)
    (hpend : s.pendingSub.contains c = true) (hfence : q.fenced = false)
    (hturn : (s.pendingSub.filter fun y => q.coreMap.contains y && decide (y < c)).length < q.reserve.length)
    (hempty : ∀ x < 4, (s.ctx c x).st = .empty) (hidle : s.inFlight c = false) (hgranted : s.maintRun.contains act = true)
    (hreserve : q.reserve.head? = some b) (r : Probed) : Next (.coreSubstitute core r) s
      ((({ s.moveCore p l c b with pendingSub := sdel (s.moveCore p l c b).pendingSub c }.count .mgtSubstCnt 0 1).probedCore c
        r).maintEnd act) := by
  subst hc hact hq
  change execCoreSubstitute core r s = _
  have hcalm : ((List.range 4).all fun x => (s.ctx core.toNat x).st == .empty || s.cleanCtx core.toNat x) = true := by
    rw [List.all_eq_true]
    exact fun x hx => by rw [hempty x (List.mem_range.1 hx)]; rfl
  simp only [execCoreSubstitute, hpart, hlcore, hpend, hfence, Nat.not_le.2 hturn, hcalm, hidle, hgranted, hreserve, decide_false,
    Bool.not_true, Bool.or_self, Bool.false_eq_true, if_true, if_false]

theorem next_channelSubstitute {s : State} {chan spare : Nat} (hsuspect : (aget s.suspects (6, chan)).isSome = true)
    (hne : chan ≠ spare) (hstack : chan / 32 = spare / 32) (hchan : chan < 768) (hfree : s.partOfChan spare = none)
    (hlive : s.retired.contains (6, spare) = false) (hslot : s.slotHole spare = false)
    (h5 : s.rbit ⟨.hbmChMap, spare, 0⟩ 5 = false) (h6 : s.rbit ⟨.hbmChMap, spare, 0⟩ 6 = false)
    (hc6 : s.rbit ⟨.hbmChMap, chan, 0⟩ 6 = false) (hcslot : s.slotHole chan = false)
    (hgranted : s.maintRun.contains ⟨6, chan / 32⟩ = true) : Next (.channelSubstitute chan spare) s
      ((({ s with copies := aset s.copies chan (spare, s.plumb) }).setFld ⟨.hbmChMap, chan, 0⟩ 6 6 1).setFld
        ⟨.hbmChMap, spare, 0⟩ 6 6 1) := by
  have hguard : ((aget s.suspects (6, chan)).isNone || chan == spare || chan / 32 != spare / 32 || decide (768 ≤ chan) ||
      (s.partOfChan spare).isSome || s.retired.contains (6, spare) || s.slotHole spare || s.rbit ⟨.hbmChMap, spare, 0⟩ 5 ||
      s.rbit ⟨.hbmChMap, spare, 0⟩ 6 || s.rbit ⟨.hbmChMap, chan, 0⟩ 6 || s.slotHole chan) = false := by
    rw [hfree, hlive, hslot, h5, h6, hc6, hcslot, hstack, beq_false_of_ne hne, decide_eq_false (Nat.not_le.2 hchan),
      ← Option.not_isSome, hsuspect]
    simp
  change execChannelSubstitute chan spare s = _
  simp only [execChannelSubstitute, hguard, hgranted, Bool.not_true, Bool.false_eq_true, if_true, if_false]

theorem next_channelCopyDone {s : State} {chan spare : Nat} {t0 : Time} (hcopy : aget s.copies chan = some (spare, t0)) :
    Next (.channelCopyDone chan) s
      (let slot := s.rfld ⟨.hbmChMap, chan, 0⟩ 4 0
       let s1 := { s with copies := adel s.copies chan, suspects := adel s.suspects (6, chan) }
       let s2 := (s1.setFld ⟨.hbmChMap, chan, 0⟩ 6 6 0).setReg ⟨.hbmChMap, spare, 0⟩ (BitVec.ofNat 32 (slot + 32))
       ((s2.retireUnit 6 chan).count .mgtSubstCnt 0 1).maintEnd ⟨6, chan / 32⟩) := by
  change execChannelCopyDone chan s = _
  simp only [execChannelCopyDone, hcopy]

/-! ### Detected errors (R439, R440) -/

theorem next_pegParityError {s : State} {h : PegHome} (hgood : s.badPegs.contains h = false) :
    Next (.controlParityError (.peg h)) s ({ s with badPegs := s.badPegs ++ [h] }.chkCount h.die) := by
  change execControlParityError (.peg h) s = _
  simp only [execControlParityError, hgood, Bool.false_eq_true, if_false]

theorem next_scalarResidue {s : State} {c x : Nat} (hcore : validCore c = true) : Next (.residueMismatch (.scalar c x)) s
    (((s.faultCtx c x 0x03#8).chkCount (coreDie c)).suspect 1 c) :=
  congrArg Host.Outcome.next (if_pos hcore)

/-- Settles O22: a request is free or busy; a substitution passes its guards and holds its grant; an error names its unit. -/
theorem maintenanceAndErrors : Obligations.MaintenanceAndErrors := by
  unfold Obligations.MaintenanceAndErrors
  refine ⟨⟨?free, ?busy, ?ended, ?hold⟩, ?core, fun s chan spare => next_channelSubstitute, fun s chan spare t0 =>
    next_channelCopyDone, fun s h => next_pegParityError, fun s c x => next_scalarResidue⟩
  case free =>
    intro s code unit hlo hhi hfree
    refine ⟨_, next_maintRequest hlo hhi, ?_⟩
    rw [maintAsk_of_free s hfree]
    exact maintStart_queues s _
  case busy =>
    exact fun s code unit hlo hhi hbusy hroom => ⟨_, next_maintRequest hlo hhi, maintAsk_busy_queues hbusy hroom⟩
  case ended =>
    intro s code unit hrun
    rw [← maintEnd_of_running hrun]
    rfl
  case hold => exact fun s src hreach => ⟨next_maintHoldWrite hreach true, next_maintHoldWrite hreach false⟩
  case core =>
    intro s core p l b c act q hpart hlcore hpend hfence hturn hempty hidle hgranted hreserve
    exact next_coreSubstitute rfl rfl rfl hpart hlcore hpend hfence hturn hempty hidle hgranted hreserve .pass

/-! ### Probes of units (R443, R450) -/

section
variable {s : State} {kind unit : Nat} (hpack : s.probePack ≠ [])
  (hdue : (aget s.suspects (kind, unit)).isSome = true ∨ ∀ t, aget s.unitProbed (kind, unit) = some t → 2 ^ 46 ≤ s.since t)
  (hfree : s.unitHeld kind unit = false)
include hpack hdue hfree

/-- A unit that is due and held by no partition is probed. -/
theorem next_unitProbe (hlo : 1 ≤ kind) (hhi : kind ≤ 5) (r : Probed) : Next (.unitProbe kind unit r) s
    (if kind = 1 then (if s.enabled unit = true then s.probedCore unit r else s)
     else
      let s1 := { s.probeCount r with unitProbed := aset s.unitProbed (kind, unit) s.plumb }
      if (r == .pass) = true then { s1 with suspects := adel s1.suspects (kind, unit) } else s1.retireUnit kind unit) := by
  have hready : ((aget s.suspects (kind, unit)).isSome ||
      (match aget s.unitProbed (kind, unit) with | some t => decide (2 ^ 46 ≤ s.since t) | none => true)) = true := by
    rw [Bool.or_eq_true]
    refine hdue.imp_right fun h => ?_
    split
    next t ht => exact decide_eq_true (h t ht)
    next => rfl
  refine congrArg Host.Outcome.next (if_neg ?_)
  simp only [Bool.or_eq_true, List.isEmpty_iff, decide_eq_true_eq, hpack, hfree, false_or, not_or]
  refine ⟨⟨⟨Nat.one_le_iff_ne_zero.1 hlo, Nat.not_lt.2 hhi⟩, ?_⟩, by simp⟩
  rw [Bool.not_eq_true', Bool.not_eq_false]
  exact hready

end

/-! ### Probe windows (R451) -/

theorem windowGrant_of_free {s : State} {p : BitVec 3} {src : Src} {lo hi : Nat} {s1 : State} {bs : List Nat}
    (hreach : Reaches s src ⟨.prtProbeGrant, p.toNat, 0⟩) (hlo : lo < 128) (hhi : hi < 128)
    (hnone : (s.part p.toNat).window = none) (hbuilt : (s.part p.toNat).built = true) (hfence : (s.part p.toNat).fenced = false)
    (hs1 : s.setReg ⟨.prtProbeGrant, p.toNat, 0⟩ (BitVec.ofNat 32 (lo + hi * 128 + 2 ^ 14)) = s1)
    (hbs : (upto lo (hi + 1 - lo)).filterMap (s1.bentIndex p.toNat) = bs) : Next (.probeWindow p (some (src, lo, hi)) []) s
      (let s2 := s1.setPart p.toNat { s1.part p.toNat with window := some { bents := bs, t0 := s.plumb } }
       if bs.isEmpty = true then s2.endWindow p.toNat false else s2) := by
  subst hs1 hbs
  change execProbeWindow p (some (src, lo, hi)) [] s = _
  simp only [execProbeWindow, accessW_of_reaches hreach, hnone, hbuilt, hfence, Nat.mod_eq_of_lt hlo, Nat.mod_eq_of_lt hhi,
    Option.isSome_none, Bool.not_true, Bool.or_self, Bool.false_eq_true, if_false, State_setReg_plumb]

/-- The images of the cores of a bent are saved, each of a place of its own. -/
def windowSaved (s : State) (p pos : Nat) : State :=
  let va := (s.reg ⟨.prtProbeSaveLo, p, 0⟩).toNat + 2 ^ 32 * s.rfld ⟨.prtProbeSaveHi, p, 0⟩ 15 0
  (List.range 3200).foldl (fun s i =>
    { s.vput p (va + (pos * 3200 + i) * 0x14800) ((Config.saveImage s.draws).take 0x14800) with draws := s.draws + 1 }) s

/-- The results of the cores of a bent. -/
def windowJudged (s : State) (p b : Nat) (res : List (Nat × Probed)) : State :=
  (res.filter fun e => (coresOfBent b).contains e.1).foldl (fun s e => s.windowCore p e.1 e.2) s

section
variable {s : State} {p : BitVec 3} {w : Window} {b n : Nat} {r : List Nat} (hwindow : (s.part p.toNat).window = some w)
  (hbents : w.bents = b :: n :: r) (hgranted : s.maintRun.contains ⟨5, b⟩ = true) (res : List (Nat × Probed))
include hwindow hbents hgranted

/-- None of the bent's contexts is in a run: it is probed. -/
theorem windowTurn_of_idle (hidle : ∀ c ∈ coresOfBent b, ∀ x < 4, (s.ctx c x).inRun = false) : Next (.probeWindow p none res) s
    (let s2 := windowJudged (windowSaved s p.toNat (w.probed + w.skipped)) p.toNat b res
     (s2.setPart p.toNat { s2.part p.toNat with window := some { w with bents := n :: r, probed := w.probed + 1 } }).maintEnd
       ⟨5, b⟩) := by
  have hbusy : ((coresOfBent b).any fun c => (List.range 4).any fun x => (s.ctx c x).inRun) = false := by
    rw [List.any_eq_false]
    refine fun c hc => ne_true_of_eq_false (List.any_eq_false.2 fun x hx => ne_true_of_eq_false (hidle c hc x (List.mem_range.1 hx)))
  change execProbeWindow p none res s = _
  simp only [execProbeWindow, hwindow, hbents, hgranted, hbusy, Bool.not_true, Bool.not_false, Bool.false_eq_true, if_true, if_false,
    List.isEmpty_cons]
  rfl

/-- A context of the bent is in a run: the bent is skipped. -/
theorem windowTurn_of_busy {c x : Nat} (hc : c ∈ coresOfBent b) (hx : x < 4) (hrun : (s.ctx c x).inRun = true) :
    Next (.probeWindow p none res) s
      ((s.setPart p.toNat { s.part p.toNat with window := some { w with bents := n :: r, skipped := w.skipped + 1 } }).maintEnd
        ⟨5, b⟩) := by
  have hbusy : ((coresOfBent b).any fun c => (List.range 4).any fun x => (s.ctx c x).inRun) = true :=
    List.any_eq_true.2 ⟨c, hc, List.any_eq_true.2 ⟨x, List.mem_range.2 hx, hrun⟩⟩
  change execProbeWindow p none res s = _
  simp only [execProbeWindow, hwindow, hbents, hgranted, hbusy, Bool.not_true, Bool.false_eq_true, if_true, if_false,
    List.isEmpty_cons]
  rfl

end

section
variable {s : State} {p : BitVec 3} {w : Window} (hwindow : (s.part p.toNat).window = some w)
  (hlate : (s.reg ⟨.prtProbeBudget, p.toNat, 0⟩).toNat ≤ s.since w.t0)
include hwindow hlate

theorem next_probeBudgetExpire : Next (.probeBudgetExpire p) s
    ((match w.bents with
      | b :: _ => (s.maintCancel ⟨5, b⟩).maintEnd ⟨5, b⟩
      | [] => s).endWindow p.toNat true) := by
  change execProbeBudgetExpire p s = _
  cases hb : w.bents <;> simp only [execProbeBudgetExpire, hwindow, Nat.not_lt.2 hlate, if_false, hb]

end

/-! ### Probe packs (R448, R449) -/

/-- Two checks with one answer, taken in turn. -/
theorem if_or_eq_if_if {α : Type} {P Q : Prop} [Decidable P] [Decidable Q] (a b : α) :
    (if P ∨ Q then a else b) = if P then a else if Q then a else b := by
  by_cases hP : P
  · rw [if_pos (.inl hP), if_pos hP]
  · by_cases hQ : Q
    · rw [if_pos (.inr hQ), if_neg hP, if_pos hQ]
    · rw [if_neg (not_or.2 ⟨hP, hQ⟩), if_neg hP, if_neg hQ]

/-- The checks of R449 in their order. -/
theorem packLoad_of_reaches {s : State} {src : Src} (hreach : Reaches s src kProbeCmd) (op : Nat) (f : State → List Byte → State) :
    s.packLoad src op f =
      let s1 := s.setReg kProbeCmd (BitVec.ofNat 32 op)
      let pa := (s1.reg ⟨.mgtProbeAddrLo, 0, 0⟩).toNat + 2 ^ 32 * s1.rfld ⟨.mgtProbeAddrHi, 0, 0⟩ 11 0
      let h := s1.bytes pa 0x20
      let len := dfield h 8 4
      let d := s1.bytes pa len
      if (List.range 8).any fun p => (s1.part p).window.isSome then s1.probeDone 1 0
      else if s1.freeHbm pa 0x20 = false then s1.probeDone 3 0
      else if anyPoison (s1.pbytes pa 0x20) = true ∨ packFields h = false ∨ pa % 4096 ≠ 0 then s1.probeDone 2 1
      else if 2 ^ 26 < len ∨ len < 0x20 + 32 * dfield h 0xC 2 + 4723 then s1.probeDone 2 3
      else if s1.freeHbm pa len = false then s1.probeDone 3 0
      else if anyPoison (s1.pbytes pa len) = true ∨ packItems d = false then s1.probeDone 2 1
      else if (Config.authentic s.flash.revoked d).isNone = true then s1.probeDone 2 2
      else (f ({ s1 with probePack := d }.setReg ⟨.mgtProbeId, 0, 0⟩ (BitVec.ofNat 32 (dfield d 4 4))) d).probeDone 0 0 := by
  rw [State.packLoad, accessW_of_reaches hreach]
  have hflash := State_setReg_flash s kProbeCmd (BitVec.ofNat 32 op)
  generalize s.setReg kProbeCmd (BitVec.ofNat 32 op) = s1 at hflash ⊢
  simp only [Bool.not_eq_true', Bool.or_eq_true, decide_eq_true_eq, bne_iff_ne, hflash, if_or_eq_if_if]

theorem next_probePackLoad {s : State} {src : Src} (fwd : Bool) :
    Next (if fwd = true then .probePackLoadForward src else .probePackLoad src) s
      (s.packLoad src (if fwd = true then 2 else 1) fun s d => if fwd = true then { s with msgs := s.msgs ++ [.probePack d] } else s) := by
  cases fwd <;> rfl

/-- Settles O23: a unit, a window and a pack each pass their checks in order. -/
theorem probes : Obligations.Probes := by
  unfold Obligations.Probes
  refine ⟨?unit, ?grant, ?idle, ?busy, ?budget, ?pack⟩
  case unit =>
    intro s kind unit r hpack hdue
    refine ⟨fun hlo hhi hfree => ?_, fun hkind henabled hnone => ?_⟩
    · have hnext := next_of_neg (next_unitProbe hpack hdue hfree (by omega) hhi r) (by omega)
      exact ⟨fun hpass => next_of_pos hnext (beq_iff_eq.2 hpass), fun hfail => next_of_neg hnext (by simpa using hfail)⟩
    · subst hkind
      have hfree : s.unitHeld 1 unit = false := by simp [State.unitHeld, hnone]
      exact next_of_pos (next_of_pos (next_unitProbe hpack hdue hfree (by decide) (by decide) r) rfl) henabled
  case grant =>
    intro s p src lo hi hreach hlo hhi hnone hbuilt hfence s1 bs s2
    have hnext := windowGrant_of_free hreach hlo hhi hnone hbuilt hfence rfl rfl
    exact ⟨fun hsome => next_of_neg hnext fun h => hsome (List.isEmpty_iff.1 h), fun hempty => next_of_pos hnext (List.isEmpty_iff.2 hempty)⟩
  case idle =>
    intro s p w b n r res P hwindow hbents hgranted hidle
    exact windowTurn_of_idle hwindow hbents hgranted res hidle
  case busy =>
    intro s p w b n c x r res P hwindow hbents hgranted hc hx hrun
    exact windowTurn_of_busy hwindow hbents hgranted res hc hx hrun
  case budget =>
    intro s p w hwindow hlate
    have hnext := next_probeBudgetExpire hwindow hlate
    exact ⟨fun hnone => by rwa [hnone] at hnext, fun b r hsome => by rwa [hsome] at hnext⟩
  case pack =>
    intro s src fwd hreach s1 pa h len d s2
    have hnext := next_probePackLoad (s := s) (src := src) fwd
    rwa [packLoad_of_reaches hreach] at hnext

end Sys2Proof.Proofs
end

section
/-! Proofs about plumb time and snapshots (16, 19). -/
namespace Sys2Proof.Proofs
open Sys2Proof Sys2Proof.Machine Sys2Proof.Spec Sys2Proof.Laws

/-! ### The master copy (R461 to R465) -/

/-- The rate that an accepted pulse leaves in PLB_RATE. -/
def pulsedRate (s : State) : Nat :=
  match s.power.pps with
  | some t0 => if s.power.ppsHeld then (s.reg kRate).toNat
    else correctRate (s.reg kRate).toNat (offsetOf s.plumb) s.power.left (s.since t0)
  | none => (s.reg kRate).toNat

/-- The registers and the governor after an accepted pulse, before the ports take the time as aligned. -/
def pulseTaken (s : State) : State :=
  { (((s.count .plbPpsCnt 0 1).setReg ⟨.plbOffset, 0, 0⟩ (BitVec.ofInt 32 (offsetOf s.plumb))).setReg kRate
        (BitVec.ofNat 32 (pulsedRate s))).setReg kPlbStatus (BitVec.ofNat 32 (b2n (decide ((offsetOf s.plumb).natAbs ≤ 64)))) with
    power := { s.power with pps := some s.plumb, pps1 := some (s.power.pps1.getD s.plumb), ppsHeld := false,
                            left := offsetOf s.plumb } }

/-- A port that is up takes the time as aligned. -/
def alignPort (s : State) (n : Nat) : State :=
  if (s.port n).st = .up then s.setPort n { s.port n with unaligned := false } else s

theorem alignPort_regs (s : State) (n : Nat) : (alignPort s n).regs = s.regs := view_ite (view := State.regs) rfl rfl

theorem alignPort_power (s : State) (n : Nat) : (alignPort s n).power = s.power := view_ite (view := State.power) rfl rfl

theorem alignPort_st (s : State) (n : Nat) {m : Nat} (hm : m < 8) : ((alignPort s n).port m).st = (s.port m).st := by
  refine view_ite (view := fun t => (t.port m).st) ?_ rfl
  obtain rfl | hne := Decidable.em (n = m)
  · rw [State_setPort_port _ _ hm]
  · rw [State_setPort_port_ne _ _ hne]

/-- The early pulses: less than 2^29 pt after the last accepted one. -/
def pulseEarly (s : State) : Bool :=
  match s.power.pps with | some t0 => decide (s.since t0 < 2 ^ 29) | none => false

theorem next_ppsPulse (s : State) : Next .ppsPulse s
    (if s.pkg ≠ .on then s else if pulseEarly s then s.count .plbPpsRejCnt 0 1
     else (List.range 8).foldl alignPort (pulseTaken s)) := rfl

section
variable (s : State)

theorem pulseTaken_offset : (pulseTaken s).reg ⟨.plbOffset, 0, 0⟩ = BitVec.ofInt 32 (offsetOf s.plumb) :=
  (State_setReg_reg_ne _ _ (by decide)).trans ((State_setReg_reg_ne _ _ (by decide)).trans (State_setReg_reg ..))

theorem pulseTaken_rate : (pulseTaken s).reg kRate = BitVec.ofNat 32 (pulsedRate s) :=
  (State_setReg_reg_ne _ _ (by decide)).trans (State_setReg_reg ..)

theorem pulseTaken_status : (pulseTaken s).reg kPlbStatus = BitVec.ofNat 32 (b2n (decide ((offsetOf s.plumb).natAbs ≤ 64))) :=
  State_setReg_reg ..

theorem wbit_b2n (b : Bool) : wbit (BitVec.ofNat 32 (b2n b)) 0 = b ∧ wbit (BitVec.ofNat 32 (b2n b)) 1 = false := by
  cases b <;> decide

end

/-- A pulse at least 2^29 pt after the last one is counted, and the offset, the rate and lock follow it. -/
theorem next_ppsPulse_accepted {s : State} {t0 : Time} (hon : s.pkg = .on) (hpps : s.power.pps = some t0)
    (hdue : 2 ^ 29 ≤ s.since t0) : ∃ t, Next .ppsPulse s t ∧
      t.power = { s.power with pps := some s.plumb, pps1 := some (s.power.pps1.getD s.plumb), ppsHeld := false,
                               left := offsetOf s.plumb } ∧
      t.reg ⟨.plbOffset, 0, 0⟩ = BitVec.ofInt 32 (offsetOf s.plumb) ∧
      t.reg kRate = (if s.power.ppsHeld then s.reg kRate else
        BitVec.ofNat 32 (correctRate (s.reg kRate).toNat (offsetOf s.plumb) s.power.left (s.since t0))) ∧
      t.rbit kPlbStatus 0 = decide ((offsetOf s.plumb).natAbs ≤ 64) ∧ t.rbit kPlbStatus 1 = false ∧
      ∀ n < 8, (t.port n).st = (s.port n).st := by
  have hregs : ((List.range 8).foldl alignPort (pulseTaken s)).regs = (pulseTaken s).regs := foldl_keeps alignPort_regs _ _
  have hstatus := (reg_of_regs hregs kPlbStatus).trans (pulseTaken_status s)
  have hrate : BitVec.ofNat 32 (pulsedRate s) = (if s.power.ppsHeld then s.reg kRate else
      BitVec.ofNat 32 (correctRate (s.reg kRate).toNat (offsetOf s.plumb) s.power.left (s.since t0))) := by
    simp only [pulsedRate, hpps]
    split
    · simp
    · rfl
  refine ⟨_, next_of_neg (next_of_neg (next_ppsPulse s) (not_not_intro hon)) ?_, foldl_keeps alignPort_power _ _,
    (reg_of_regs hregs _).trans (pulseTaken_offset s), ((reg_of_regs hregs _).trans (pulseTaken_rate s)).trans hrate, ?_, ?_,
    fun n hn => foldl_keeps (view := fun t => (t.port n).st) (fun u m => alignPort_st u m hn) _ _⟩
  · simpa [pulseEarly, hpps] using hdue
  · rw [State.rbit, hstatus]; exact (wbit_b2n _).1
  · rw [State.rbit, hstatus]; exact (wbit_b2n _).2

theorem next_ppsPulse_early {s : State} {t0 : Time} (hon : s.pkg = .on) (hpps : s.power.pps = some t0)
    (hearly : s.since t0 < 2 ^ 29) : Next .ppsPulse s (s.count .plbPpsRejCnt 0 1) :=
  next_of_pos (next_of_neg (next_ppsPulse s) (not_not_intro hon)) (by simpa [pulseEarly, hpps] using hearly)

theorem next_ppsHoldover {s : State} {t0 : Time} (hon : s.pkg = .on) (hpps : s.power.pps = some t0)
    (hdue : 2 ^ 32 ≤ s.since t0) :
    Next .ppsHoldover s { s.setFld kPlbStatus 1 1 1 with power := { s.power with ppsHeld := true } } := by
  have h : Next .ppsHoldover s (if s.pkg ≠ .on ∨ !(match s.power.pps with | some t => decide (2 ^ 32 ≤ s.since t) | none => true)
      then s else { s.setFld kPlbStatus 1 1 1 with power := { s.power with ppsHeld := true } }) := rfl
  refine next_of_neg h ?_
  rw [hpps]
  simpa [hon] using hdue

/-- A correction removes at most 64 pt of what is left, once in an interval of 2^20 pt. -/
theorem next_plumbCorrection {s : State} (hi : s.plumb.toNat / 2 ^ 20 ≠ s.power.corr) : Next .plumbCorrection s
    (if 0 < s.power.left then
      { s with power := { s.power with corr := s.plumb.toNat / 2 ^ 20, left := s.power.left - min s.power.left 64,
                                       hold := s.power.hold + (min s.power.left 64).toNat } }
     else if s.power.left < 0 then
      { s with plumb := s.plumb + BitVec.ofNat 64 (min (-s.power.left) 64).toNat
               power := { s.power with corr := s.plumb.toNat / 2 ^ 20, left := s.power.left + min (-s.power.left) 64 } }
     else { s with power := { s.power with corr := s.plumb.toNat / 2 ^ 20 } }) :=
  congrArg Host.Outcome.next (if_neg hi)

/-! ### Whole loads (R465) -/

theorem next_plumbLoad {s : State} {src : Src} (hreach : Reaches s src ⟨.plbCmd, 0, 0⟩) : Next (.plumbLoad src) s
    (if s.worked then s.count .plbErrCnt 0 1
     else s.loadPlumb ((s.reg ⟨.plbLoadHi, 0, 0⟩) ++ (s.reg ⟨.plbLoadLo, 0, 0⟩))) :=
  congrArg Host.Outcome.next (accessW_of_reaches hreach)

theorem loadPlumb_port (s : State) (t : Time) {n : Nat} (hn : n < 8) :
    (s.loadPlumb t).port n = (s.port n).later (t - s.plumb) := by
  simp [State.loadPlumb, State.port, hn, Vector.getD]

/-- A load leaves the time since the stop of a port what it was. -/
theorem loadPlumb_since_stopT (s : State) (t : Time) {n : Nat} (hn : n < 8) :
    (s.loadPlumb t).since ((s.loadPlumb t).port n).stopT = s.since (s.port n).stopT := by
  rw [loadPlumb_port s t hn]
  change (t - ((s.port n).stopT + (t - s.plumb))).toNat = (s.plumb - (s.port n).stopT).toNat
  congr 1
  bv_omega

/-! ### The copies of the islands (R466) -/

/-- An island's copy lies `d` pt from where it belongs. -/
def putIsle (s : State) (dom : Nat) (d : Int) : State :=
  { s with isle := aset s.isle dom (BitVec.ofInt 64 d), isleHold := s.isleHold.filter (· != dom) }

theorem next_islandTimeSync {s : State} {dom : Nat} (dev : Int) (hdom : dom < 100) (hne : dom ≠ domOfSpine 0) :
    Next (.islandTimeSync dom dev) s
      (if dom % 25 = 24 then (if dev.natAbs ≤ 4 then putIsle s dom dev else s)
       else if s.rbit ⟨.bentClk, dom / 25 * 24 + dom % 25, 0⟩ 18 then s
       else if dev.natAbs ≤ 8 then putIsle s dom dev
       else if dev < 0 then (putIsle s dom (dev + min 8 (-dev))).count .plbErrCnt 0 1
       else { putIsle s dom dev with isleHold := s.isleHold.filter (· != dom) ++ [dom] }.count .plbErrCnt 0 1) :=
  congrArg Host.Outcome.next (if_neg (by omega))

/-- Settles O35, command by command: the pulses, the holdover, the correction, the load, and the copies of the islands. -/
theorem plumbTimeFollowsThePulse : Obligations.PlumbTimeFollowsThePulse := by
  refine ⟨fun s hon => ⟨?early, ?accepted, ?holdover⟩, fun s hi => ⟨?ahead, ?behind, ?even⟩,
    fun s src hreach => ⟨?load, ?refused⟩, fun s dom dev hdom hne => ?isle⟩
  case early => exact fun t0 => next_ppsPulse_early hon
  case accepted => exact fun t0 => next_ppsPulse_accepted hon
  case holdover => exact fun t0 => next_ppsHoldover hon
  case ahead => exact next_of_pos (next_plumbCorrection hi)
  case behind => exact fun h => next_of_pos (next_of_neg (next_plumbCorrection hi) (by omega)) h
  case even => exact fun h => next_of_neg (next_of_neg (next_plumbCorrection hi) (by omega)) (by omega)
  case load =>
    exact fun hworked => ⟨_, next_of_neg (next_plumbLoad hreach) (by simp [hworked]), rfl, rfl, rfl, rfl, rfl,
      fun n => loadPlumb_since_stopT s _⟩
  case refused => exact next_of_pos (next_plumbLoad hreach)
  case isle =>
    have h := next_islandTimeSync (s := s) dev hdom hne
    intro stopped put
    have hrun (hstop : stopped = false) : ¬ s.rbit ⟨.bentClk, dom / 25 * 24 + dom % 25, 0⟩ 18 = true :=
      ne_true_of_eq_false hstop
    have hput (d : Int) : put d [] = putIsle s dom d := by simp only [put, List.append_nil]; rfl
    refine ⟨fun hspine hin => ?_, fun hspine hout => ?_, fun hbent hstop => ?_, fun hbent hstop hin => ?_,
      fun hbent hstop hlow => ?_, fun hbent hstop hhigh => ?_⟩
    · exact hput dev ▸ next_of_pos (next_of_pos h hspine) hin
    · exact next_of_neg (next_of_pos h hspine) (by omega)
    · exact next_of_pos (next_of_neg h hbent) hstop
    · exact hput dev ▸ next_of_pos (next_of_neg (next_of_neg h hbent) (hrun hstop)) hin
    · have hmin : min 8 (-dev) = 8 := by omega
      rw [hput, ← hmin]
      exact next_of_pos (next_of_neg (next_of_neg (next_of_neg h hbent) (hrun hstop)) (by omega)) (by omega)
    · exact next_of_neg (next_of_neg (next_of_neg (next_of_neg h hbent) (hrun hstop)) (by omega)) (by omega)

/-! ### The bounds of the rate (R461, R462) -/

theorem correctRate_within (rate : Nat) (o left : Int) (dt : Nat) :
    rateMin ≤ correctRate rate o left dt ∧ correctRate rate o left dt ≤ rateMax :=
  ⟨Nat.le_max_left .., Nat.max_le.2 ⟨by decide, Nat.min_le_left ..⟩⟩

theorem pulsedRate_within {s : State} (hlo : rateMin ≤ (s.reg kRate).toNat) (hhi : (s.reg kRate).toNat ≤ rateMax) :
    rateMin ≤ pulsedRate s ∧ pulsedRate s ≤ rateMax := by
  rw [pulsedRate]
  split
  next =>
    split
    · exact ⟨hlo, hhi⟩
    · exact correctRate_within ..
  next => exact ⟨hlo, hhi⟩

theorem toNat_ofNat_of_le_rateMax {n : Nat} (h : n ≤ rateMax) : (BitVec.ofNat 32 n).toNat = n :=
  BitVec.toNat_ofNat n 32 ▸ Nat.mod_eq_of_lt (Nat.lt_of_le_of_lt h (by decide))

/-- Settles O36, by the three outcomes of a pulse: none while the package is off, a rejected one, an accepted one. -/
theorem correctedRateStaysInBounds : Obligations.CorrectedRateStaysInBounds := by
  intro s t t0 hlo hhi hpps hnext
  obtain rfl := Host.Outcome.next.inj ((next_ppsPulse s).symm.trans hnext)
  split
  next => exact ⟨hlo, hhi⟩
  next =>
    split
    next =>
      have hkept : (s.count .plbPpsRejCnt 0 1).reg kRate = s.reg kRate := State_setReg_reg_ne _ _ (by decide)
      exact hkept ▸ ⟨hlo, hhi⟩
    next =>
      obtain ⟨hrlo, hrhi⟩ := pulsedRate_within hlo hhi
      rw [reg_of_regs (foldl_keeps alignPort_regs _ _), pulseTaken_rate, toNat_ofNat_of_le_rateMax hrhi]
      exact ⟨hrlo, hrhi⟩

/-! ### Fields of a register -/

theorem testBit_wbits (w : Word) (hi lo j : Nat) : (wbits w hi lo).testBit j = (decide (j < hi + 1 - lo) && w.getLsbD (lo + j)) := by
  rw [wbits, bitsOf, Nat.testBit_mod_two_pow, Nat.testBit_div_two_pow, BitVec.testBit_toNat, Nat.add_comm j]

/-- A bit of a word with a field set: the field's own bit inside, the old one outside. -/
theorem getLsbD_setField (w : Word) {hi lo i : Nat} (v : Nat) (hi32 : hi < 32) (hlo : lo ≤ hi) :
    (setField w hi lo v).getLsbD i = if lo ≤ i ∧ i ≤ hi then v.testBit (i - lo) else w.getLsbD i := by
  have hmask : (BitVec.ofNat 32 ((2 ^ (hi + 1 - lo) - 1) * 2 ^ lo)).getLsbD i = decide (lo ≤ i ∧ i ≤ hi) := by
    rw [BitVec.getLsbD_ofNat, Nat.testBit_mul_two_pow, Nat.testBit_two_pow_sub_one, Bool.eq_iff_iff]
    simp only [Bool.and_eq_true, decide_eq_true_eq]
    omega
  have hval : (BitVec.ofNat 32 (v * 2 ^ lo)).getLsbD i = (decide (i < 32) && (decide (lo ≤ i) && v.testBit (i - lo))) := by
    rw [BitVec.getLsbD_ofNat, Nat.testBit_mul_two_pow]
  simp only [setField, BitVec.getLsbD_or, BitVec.getLsbD_and, BitVec.getLsbD_not, hmask, hval]
  by_cases h32 : i < 32
  · by_cases h : lo ≤ i ∧ i ≤ hi <;> simp [h, h32]
  · have hold : w.getLsbD i = false := BitVec.getLsbD_of_ge w i (Nat.not_lt.1 h32)
    simp [h32, hold, show ¬ i ≤ hi by omega]

theorem wbits_setField_self (w : Word) {hi lo : Nat} (v : Nat) (hi32 : hi < 32) (hlo : lo ≤ hi) :
    wbits (setField w hi lo v) hi lo = v % 2 ^ (hi + 1 - lo) := by
  refine Nat.eq_of_testBit_eq fun j => ?_
  rw [testBit_wbits, getLsbD_setField w v hi32 hlo, Nat.testBit_mod_two_pow]
  by_cases hj : j < hi + 1 - lo
  · rw [if_pos (by omega), Nat.add_sub_cancel_left]
  · simp [hj]

theorem wbits_setField_of_disjoint (w : Word) {hi lo a b : Nat} (v : Nat) (hi32 : hi < 32) (hlo : lo ≤ hi)
    (hdis : hi < b ∨ a < lo) : wbits (setField w hi lo v) a b = wbits w a b := by
  refine Nat.eq_of_testBit_eq fun j => ?_
  rw [testBit_wbits, testBit_wbits, getLsbD_setField w v hi32 hlo]
  by_cases hj : j < a + 1 - b
  · rw [if_neg (by omega)]
  · simp [hj]

section
variable (s : State) (k : RKey) {hi lo : Nat} (v : Nat)

theorem setFld_reg : (s.setFld k hi lo v).reg k = setField (s.reg k) hi lo v := State_setReg_reg ..

theorem setFld_rfld_self (hi32 : hi < 32) (hlo : lo ≤ hi) : (s.setFld k hi lo v).rfld k hi lo = v % 2 ^ (hi + 1 - lo) := by
  rw [State.rfld, setFld_reg, wbits_setField_self _ v hi32 hlo]

theorem setFld_rfld_of_disjoint (hi32 : hi < 32) (hlo : lo ≤ hi) {a b : Nat} (hdis : hi < b ∨ a < lo) :
    (s.setFld k hi lo v).rfld k a b = s.rfld k a b := by
  rw [State.rfld, setFld_reg, wbits_setField_of_disjoint _ v hi32 hlo hdis, State.rfld]

theorem setFld_rbit (hi32 : hi < 32) (hlo : lo ≤ hi) (i : Nat) :
    (s.setFld k hi lo v).rbit k i = if lo ≤ i ∧ i ≤ hi then v.testBit (i - lo) else s.rbit k i := by
  rw [State.rbit, setFld_reg, wbit, getLsbD_setField _ v hi32 hlo, State.rbit, wbit]

end

/-! ### Snapshots and dumps (R467, R468, R551 to R555, R566) -/

theorem next_snapSchedule {s : State} {src : Src} (hreach : Reaches s src ⟨.plbSnapCmd, 0, 0⟩) (hidle : s.snapAt = none) :
    Next (.snapSchedule src) s
      (let t : Time := (s.reg ⟨.plbSnapTHi, 0, 0⟩) ++ (s.reg ⟨.plbSnapTLo, 0, 0⟩)
       if t.toNat < s.plumb.toNat + 2 ^ 14 then
         (s.setFld kSnapStatus 2 2 1).spineEvent 0 0x0205 255 0#32 t.toNat 0xFFFFFFFF
       else s.snapSet t) :=
  congrArg Host.Outcome.next ((accessW_of_reaches hreach).trans (if_neg (by simp [hidle])))

theorem next_snapPeriodWrite {s : State} {src : Src} (value : Word) (hreach : Reaches s src kSnapPer) :
    Next (.snapPeriodWrite src value) s
      (if value ≠ 0#32 ∧ value.toNat < 0x10000 then s
       else if value = 0#32 then s.setReg kSnapPer value
       else (s.setReg kSnapPer value).snapSet (s.plumb + BitVec.ofNat 64 (value.toNat * 2 ^ 10))) :=
  congrArg Host.Outcome.next (accessW_of_reaches hreach)

/-- A latch of slot 1 at its instant, and the dumps it starts. -/
def latchedAt (s : State) (t : Time) : State :=
  let s1 := { s with shadow := s.shadow.set 1 (s.capture t), snapAt := none }.count .plbSnapSeq 0 1
  let s2 := ((s1.setFld kSnapStatus 1 0 2).setFld ⟨.plbSnapCmd, 0, 0⟩ 0 0 0).spineEvent 0 0x0205 255 0#32 t.toNat
    (s1.reg ⟨.plbSnapSeq, 0, 0⟩).toNat
  (upto 1 63).foldl (State.startDump t) s2

/-- Has an instant been set, and has it come? -/
def instantDue (s : State) (t : Option Time) : Bool :=
  match t with | some t => decide (t.toNat ≤ s.plumb.toNat) | none => false

theorem instantDue_of_le {s : State} {o : Option Time} {t : Time} (hat : o = some t) (hdue : t.toNat ≤ s.plumb.toNat) :
    instantDue s o = true := by
  rw [hat]
  exact decide_eq_true hdue

theorem next_snapshotLatch_zero {s : State} {t : Time} (hat : s.snapWelyar = some t) (hdue : t.toNat ≤ s.plumb.toNat) :
    Next (.snapshotLatch 0#1) s { s with shadow := s.shadow.set 0 (s.capture t), snapWelyar := none } := by
  have h : Next (.snapshotLatch 0#1) s (if instantDue s s.snapWelyar then
    { s with shadow := s.shadow.set 0 (s.capture (s.snapWelyar.getD 0#64)), snapWelyar := none } else s) := rfl
  have hgo := next_of_pos h (instantDue_of_le hat hdue)
  rwa [hat] at hgo

theorem next_snapshotLatch_one {s u : State} {t : Time} (hat : s.snapAt = some t) (hdue : t.toNat ≤ s.plumb.toNat)
    (hu : latchedAt s t = u) : Next (.snapshotLatch 1#1) s
      (if (u.reg kSnapPer).toNat = 0 then u else u.snapSet (t + BitVec.ofNat 64 ((u.reg kSnapPer).toNat * 2 ^ 10))) := by
  have h : Next (.snapshotLatch 1#1) s (if instantDue s s.snapAt then
      let t := s.snapAt.getD 0#64
      let u := latchedAt s t
      if (u.reg kSnapPer).toNat = 0 then u else u.snapSet (t + BitVec.ofNat 64 ((u.reg kSnapPer).toNat * 2 ^ 10))
    else s) := rfl
  have hgo := next_of_pos h (instantDue_of_le hat hdue)
  rw [hat] at hgo
  exact hu ▸ hgo

/-- The core that each entry of a record names. -/
def recordCores (d : Dump) : List Nat :=
  (List.range (leNat ((d.bytes.drop 0x10).take 4))).map fun l => leNat ((d.bytes.drop (64 + 80 * l + 4)).take 4) % 2 ^ 19

/-- A record stands at `pos` of the ring of a function, and its status shows it. -/
theorem next_dumpComplete {s : State} {vf : BitVec 6} {d : Dump} {p pos base : Nat} (hdump : (s.vf vf.toNat).dump = some d)
    (hbound : (s.vf vf.toNat).bound = some p)
    (hpos : (if s.telSize vf.toNat < (s.vf vf.toNat).dumpEnd.getD 0 + d.bytes.length then 0
      else (s.vf vf.toNat).dumpEnd.getD 0) = pos)
    (hbase : (s.reg ⟨.prtTelBaseLo, vf.toNat, 0⟩).toNat + 2 ^ 32 * s.rfld ⟨.prtTelBaseHi, vf.toNat, 0⟩ 15 0 = base) :
    ∃ t, Next (.dumpComplete vf) s t ∧ t.mem = (s.vput p (base + pos) d.bytes).mem ∧ (t.vf vf.toNat).dump = none ∧
      (t.vf vf.toNat).dumpEnd = some (pos + d.bytes.length) ∧ t.rbit (kTelStatus vf.toNat) 0 = true ∧
      t.rfld (kTelStatus vf.toNat) 31 9 = pos / 64 % 2 ^ 23 := by
  have hnext : Next (.dumpComplete vf) s
      ((((s.vput p (base + pos) d.bytes).setVf vf.toNat { (s.vput p (base + pos) d.bytes).vf vf.toNat with
        dump := none, dumpEnd := some (pos + d.bytes.length), dumpWhere := recordCores d }).setFld (kTelStatus vf.toNat) 31 9
          (pos / 64)).setFld (kTelStatus vf.toNat) 0 0 1) := by
    subst hpos hbase
    change execDumpComplete vf s = _
    simp only [execDumpComplete, hdump, hbound, recordCores]
  refine ⟨_, hnext, rfl, ?_, ?_, ?_, ?_⟩
  · exact congrArg Vf.dump (State_setVf_vf ..)
  · exact congrArg Vf.dumpEnd (State_setVf_vf ..)
  · rw [setFld_rbit _ _ _ (by decide) (by decide)]; rfl
  · rw [setFld_rfld_of_disjoint _ _ _ (by decide) (by decide) (Or.inl (by decide)),
      setFld_rfld_self _ _ _ (by decide) (by decide)]

/-- Settles O37, command by command: the schedule, the period, the two slots, the end of a dump. -/
theorem snapshotsAndDumps : Obligations.SnapshotsAndDumps := by
  refine ⟨fun s src hreach hidle => ⟨?ahead, ?late⟩, fun s src value hreach => ⟨?off, ?period, ?short⟩,
    fun s t => ⟨next_snapshotLatch_zero, fun hat hdue => ?one⟩,
    fun s vf d p hdump hbound => next_dumpComplete hdump hbound rfl rfl⟩
  case ahead => exact fun h => next_of_neg (next_snapSchedule hreach hidle) (Nat.not_lt.2 h)
  case late => exact next_of_pos (next_snapSchedule hreach hidle)
  case off =>
    intro h
    exact h ▸ next_of_pos (next_of_neg (next_snapPeriodWrite value hreach) (fun hc => hc.1 h)) h
  case period =>
    intro h
    refine next_of_neg (next_of_neg (next_snapPeriodWrite value hreach) (by omega)) ?_
    rintro rfl
    exact absurd h (by decide)
  case short => exact fun hne hlt => next_of_pos (next_snapPeriodWrite value hreach) ⟨hne, hlt⟩
  case one =>
    intro s1 s2 s3 per
    exact ⟨next_of_pos (next_snapshotLatch_one hat hdue (u := s3) rfl), next_of_neg (next_snapshotLatch_one hat hdue (u := s3) rfl)⟩

end Sys2Proof.Proofs
end

section
/-! Proofs about the event logs (19) and bring-up (20). -/
namespace Sys2Proof.Proofs
open Sys2Proof Sys2Proof.Machine Sys2Proof.Spec Sys2Proof.Laws

/-! ### Registers written one by one -/

section
variable (key : Nat → RKey) (f : Nat → Word)

/-- Write a list of registers. -/
def setRegs (l : List Nat) (s : State) : State := l.foldl (fun s w => s.setReg (key w) (f w)) s

theorem setRegs_reg_of_ne {k : RKey} {l : List Nat} (hk : ∀ w ∈ l, k ≠ key w) (s : State) :
    (setRegs key f l s).reg k = s.reg k := by
  induction l generalizing s with
  | nil => rfl
  | cons a l ih =>
    obtain ⟨ha, hl⟩ := List.forall_mem_cons.1 hk
    exact (ih hl _).trans (State_setReg_reg_ne _ _ ha)

theorem setRegs_reg_of_mem (hinj : ∀ a b, key a = key b → a = b) {w : Nat} {l : List Nat} (hw : w ∈ l) (s : State) :
    (setRegs key f l s).reg (key w) = f w := by
  induction l generalizing s with
  | nil => cases hw
  | cons a l ih =>
    by_cases hl : w ∈ l
    · exact ih hl _
    · obtain rfl := (List.mem_cons.1 hw).resolve_right hl
      have hkeep := setRegs_reg_of_ne key f (k := key w) (l := l) (fun b hb h => hl (hinj _ _ h ▸ hb)) (s.setReg (key w) (f w))
      exact hkeep.trans (State_setReg_reg ..)

end

/-! ### The event logs (R559 to R562, R567) -/

theorem next_eventDeliver {s : State} {q : Fin 4} {e0 e : Event} (hfirst : s.nextEvent = some (q, e0))
    (he : { e0 with lost := e0.lost || s.evDrop.get q } = e) : Next .eventDeliver s
      ((upto 1 63).foldl (fun s v => s.logVf q.val e v) ((s.takeEvent q e0).logPkg q.val e)) := by
  subst he
  change execEventDeliver s = _
  simp only [execEventDeliver, hfirst]

theorem nextEvent_of_empty {s : State} (h : ∀ d, s.evq.get d = []) : s.nextEvent = none := by
  simp only [State.nextEvent, h, firstEvent, List.foldl_cons, List.foldl_nil]

theorem next_eventDeliver_of_empty {s : State} (h : ∀ d, s.evq.get d = []) : Next .eventDeliver s s := by
  change execEventDeliver s = _
  simp only [execEventDeliver, nextEvent_of_empty h]

/-- The data registers that an entry of the package log is copied into. -/
def evlogKey (w : Nat) : RKey := ⟨.mgtEvlogData, 0, w⟩

theorem next_evlogSelect {s : State} {src : Src} {n : Word} {first : Nat} {e : Event}
    (hreach : Reaches s src ⟨.mgtEvlogSel, 0, 0⟩) (hf : (s.reg ⟨.mgtEvlogHead, 0, 0⟩).toNat - s.evlog.length = first)
    (hle : first ≤ n.toNat) (he : s.evlog[n.toNat - first]? = some e) : Next (.evlogSelect src n) s
      (setRegs evlogKey (fun w => BitVec.ofNat 32 (leNat ((e.bytes.drop (4 * w)).take 4))) (List.range 8)
        (s.setReg ⟨.mgtEvlogSel, 0, 0⟩ n)) := by
  subst hf
  change execEvlogSelect src n s = _
  rw [execEvlogSelect, accessW_of_reaches hreach]
  simp only [if_neg (Nat.not_lt.2 hle), he]
  rfl

section
variable {s : State} {vf : BitVec 6} (value : Word)

theorem next_logEnable (hreach : Reaches s (.vf vf.toNat) (kLogCtl vf.toNat)) :
    Next (.logEnable vf value) s (s.setLogCtl vf.toNat value) :=
  congrArg Host.Outcome.next (accessW_of_reaches hreach)

/-- With the log off, a size in range is stored with the classes; setting `en` resets head and tail. -/
theorem setLogCtl_of_off {v : Nat} (hlo : 8 ≤ wbits value 10 6) (hhi : wbits value 10 6 ≤ 20)
    (hoff : s.rbit (kLogCtl v) 0 = false) : s.setLogCtl v value =
      if wbit value 0 then
        ((s.setReg (kLogCtl v) (value &&& 0x7FF#32)).setReg ⟨.prtLogHead, v, 0⟩ 0#32).setReg ⟨.prtLogTail, v, 0⟩ 0#32
      else s.setReg (kLogCtl v) (value &&& 0x7FF#32) := by
  have hrange : ¬ (wbits value 10 6 < 8 ∨ 20 < wbits value 10 6) := by omega
  simp only [State.setLogCtl, if_neg hrange, hoff, Bool.not_false, Bool.true_and, Bool.false_eq_true, if_false]

theorem next_logTailWrite (hreach : Reaches s (.vf vf.toNat) ⟨.prtLogTail, vf.toNat, 0⟩) :
    Next (.logTailWrite vf value) s
      (if 2 ^ s.rfld (kLogCtl vf.toNat) 10 6 ≤ value.toNat then s.count .prtVfDropCnt vf.toNat 1
       else s.setReg ⟨.prtLogTail, vf.toNat, 0⟩ value) :=
  congrArg Host.Outcome.next (accessW_of_reaches hreach)

end

/-- Settles O48, command by command: the delivery, the selection, the control and the tail of a log. -/
theorem eventsAndLogs : Obligations.EventsAndLogs := by
  refine ⟨fun s q e0 hfirst => next_eventDeliver hfirst rfl, fun s => next_eventDeliver_of_empty,
    fun s src n e hreach => ?select, fun s vf value hreach => ⟨?enabled, ?stored, ?refused⟩,
    fun s vf value hreach => ⟨?inside, ?beyond⟩⟩
  case select =>
    intro first hle he
    refine ⟨_, next_evlogSelect hreach rfl hle he, ?_, fun w hw => ?_⟩
    · exact (setRegs_reg_of_ne _ _ (fun w _ => by simp [evlogKey]) _).trans (State_setReg_reg ..)
    · exact setRegs_reg_of_mem evlogKey _ (fun a b h => (RKey.mk.inj h).2.2) (List.mem_range.2 hw) _
  case enabled =>
    intro hlo hhi hoff hen
    have h := next_logEnable value hreach
    rw [setLogCtl_of_off value hlo hhi hoff] at h
    exact next_of_pos h hen
  case stored =>
    intro hlo hhi hoff hen
    have h := next_logEnable value hreach
    rw [setLogCtl_of_off value hlo hhi hoff] at h
    exact next_of_neg h (ne_true_of_eq_false hen)
  case refused =>
    intro hrange
    have h := next_logEnable value hreach
    rwa [State.setLogCtl, if_pos hrange] at h
  case inside => exact fun h => next_of_neg (next_logTailWrite value hreach) (Nat.not_le.2 h)
  case beyond => exact next_of_pos (next_logTailWrite value hreach)

/-! ### Debug tokens and lane records (R568 to R570, R576) -/

/-- The end of a submission: a new nonce, the result and the reason. -/
def tokenDone (s : State) (result reason : Nat) : State := s.newNonce.cmdDone kDbgStatus result reason 3 none

/-- The address of the token. -/
def tokenAddr (s : State) : Nat := (s.reg ⟨.tstDbgAddrLo, 0, 0⟩).toNat + 2 ^ 32 * s.rfld ⟨.tstDbgAddrHi, 0, 0⟩ 11 0

theorem next_debugTokenSubmit {s : State} {src : Src} {pa n : Nat} {d : List Byte} (hreach : Reaches s src ⟨.tstDbgCmd, 0, 0⟩)
    (hpa : tokenAddr s = pa) (hn : max 0x50 (dfield (s.bytes pa 0x50) 4 4) = n) (hd : s.bytes pa n = d) :
    Next (.debugTokenSubmit src) s
      (if !(s.freeHbm pa 0x50) || pa % 64 != 0 then tokenDone s 3 0
       else if anyPoison (s.pbytes pa 0x50) then tokenDone s 2 1
       else if !(s.freeHbm pa n) then tokenDone s 3 0
       else if anyPoison (s.pbytes pa n) then tokenDone s 2 1
       else if s.tokenCheck d ≠ 0 then tokenDone s 2 (s.tokenCheck d)
       else
         let bit := if dfield d 2 1 = 1 then 0 else 8 + dfield d 3 1
         tokenDone ({ s with tokens := s.tokens ++ [sha384 d] }.setFld kDbgState bit bit 1) 0 0) := by
  subst hd hn hpa
  exact congrArg Host.Outcome.next (accessW_of_reaches hreach)

/-- The data registers that a lane record is copied into. -/
def laneKey (w : Nat) : RKey := ⟨.tstRecData, 0, w⟩

theorem next_laneRecordSelect {s : State} {src : Src} (n : BitVec 16) (hreach : Reaches s src ⟨.tstRecSel, 0, 0⟩) :
    Next (.laneRecordSelect src n) s
      (setRegs laneKey (fun w => BitVec.ofNat 32 (recField (s.flash.lanes.getD n.toNat []) (4 * w) 4)) (List.range 16)
        (s.setReg ⟨.tstRecSel, 0, 0⟩ (n.zeroExtend 32))) :=
  congrArg Host.Outcome.next (accessW_of_reaches hreach)

/-! ### HBM test access (R577, R578) -/

section
variable {s : State} {src : Src} {op stack chan : Nat}

/-- The word of TST_HBM_CMD that starts an operation. -/
def hbmStarted (s : State) (op stack chan : Nat) : State :=
  s.setReg kHbmCmd (BitVec.ofNat 32 (op + stack * 8 + chan * 256 + 2 ^ 13))

theorem hbmGo_of_idle {f : State → State} (hreach : Reaches s src kHbmCmd) (hidle : s.rbit kHbmCmd 13 = false)
    (hstack : stack < 24) : s.hbmGo src op stack chan f = f (hbmStarted s op stack chan) := by
  rw [State.hbmGo, accessW_of_reaches hreach]
  simp only [hidle, Nat.not_le.2 hstack, Bool.false_eq_true, if_false]
  rfl

theorem hbmStarted_rowArg : (hbmStarted s op stack chan).hbmRowArg = s.hbmRowArg :=
  Prod.ext (congrArg BitVec.toNat (State_setReg_reg_ne _ _ (by decide))) (congrArg BitVec.toNat (State_setReg_reg_ne _ _ (by decide)))

variable {f : State → State} {u : State} (hu : hbmStarted s op stack chan = u) (hreach : Reaches s src kHbmCmd)
  (hidle : s.rbit kHbmCmd 13 = false) (hstack : stack < 24) (hqueue : u.maintQueue = [])
include hu hreach hidle hstack hqueue

/-- Outside package debug, or on a channel of a partition, a test ends with result 2, or 1 right after a build. -/
theorem hbmTest_of_refused (hrun : u.maintRun = [])
    (hno : u.pkgDebug = false ∨ (u.partOfChan (stack * 32 + chan)).isSome = true) : s.hbmTest src op stack chan f =
      u.hbmDone (if u.pkgDebug && u.justBuilt (stack * 32 + chan) then 1 else 2) := by
  have hno' : (!u.pkgDebug || (u.partOfChan (stack * 32 + chan)).isSome) = true := by
    rcases hno with h | h <;> simp [h]
  rw [State.hbmTest, hbmGo_of_idle hreach hidle hstack, hu]
  simp only [hqueue, hrun, hno', List.contains_nil, Bool.false_eq_true, if_false, if_true]
  split <;> rfl

/-- With its activity granted, a test of a free channel has its effect and the activity ends. -/
theorem hbmTest_of_granted (hrun : u.maintRun.contains ⟨7, stack⟩ = true) (hfree : u.partOfChan (stack * 32 + chan) = none) :
    s.hbmTest src op stack chan f = (f u).maintEnd ⟨7, stack⟩ := by
  rw [State.hbmTest, hbmGo_of_idle hreach hidle hstack, hu]
  simp only [hqueue, hrun, hfree, List.contains_nil, Option.isSome_none, Bool.false_eq_true, if_false, if_true]

end

/-! #### The repair list -/

theorem maintStart_repairs (s : State) (a : Activity) : (s.maintStart a).repairs = s.repairs :=
  (foldl_keeps (view := State.repairs) (fun u p => Quiet.cause (fun _ _ _ _ _ _ _ => rfl) u p 13) _ _).trans
    (Quiet.event (view := State.repairs) (fun _ _ _ _ _ _ _ => rfl) _ _ _ _ _ _ _ _)

theorem maintScan_repairs (before waiting : List Activity) (s : State) :
    (State.maintScan before waiting s).repairs = s.repairs := by
  induction waiting generalizing before s with
  | nil => rfl
  | cons a r ih =>
    rw [State.maintScan]
    split
    · rw [ih, maintStart_repairs]
    · rw [ih]

theorem maintEnd_repairs (s : State) (a : Activity) : (s.maintEnd a).repairs = s.repairs := by
  rw [State.maintEnd]
  split
  · exact (maintScan_repairs ..).trans (Quiet.event (view := State.repairs) (fun _ _ _ _ _ _ _ => rfl) _ _ _ _ _ _ _ _)
  · rfl

/-- Settles O49, command by command: tokens, lane records, the reads of a stack, the tests refused and granted. -/
theorem debugTokensAndHbmTests : Obligations.DebugTokensAndHbmTests := by
  refine ⟨fun s src hreach => ?token, fun s src n hreach => ?lane, fun s src stack chan v hreach hidle hstack => ?hbm⟩
  case token =>
    have h := next_debugTokenSubmit hreach rfl rfl rfl
    intro pa n d done
    have hpass (hfree : s.freeHbm pa 0x50 = true) (halign : pa % 64 = 0) :
        ¬ ((!(s.freeHbm pa 0x50) || pa % 64 != 0) = true) := by simp [hfree, halign]
    refine ⟨fun hbad => next_of_pos h ?_, fun hfree halign hp => next_of_pos (next_of_neg h (hpass hfree halign)) hp,
      fun hfree halign hp hall hpn => ?_, fun hfree halign hp hall hpn => ?_⟩
    · rcases hbad with hbad | hbad
      · exact Bool.or_eq_true_iff.2 (Or.inl (by rw [Bool.not_eq_true']; exact hbad))
      · exact Bool.or_eq_true_iff.2 (Or.inr (bne_iff_ne.2 hbad))
    all_goals
      have hread := next_of_neg (next_of_neg (next_of_neg h (hpass hfree halign)) (ne_true_of_eq_false hp))
        (by rw [Bool.not_eq_true']; exact ne_false_of_eq_true hall)
    · exact next_of_pos hread hpn
    · exact next_of_neg hread (ne_true_of_eq_false hpn)
  case lane =>
    refine ⟨_, next_laneRecordSelect n hreach, ?_, fun w hw => ?_⟩
    · exact (setRegs_reg_of_ne _ _ (fun w _ => by simp [laneKey]) _).trans (State_setReg_reg ..)
    · exact setRegs_reg_of_mem laneKey _ (fun a b h => (RKey.mk.inj h).2.2) (List.mem_range.2 hw) _
  case hbm =>
    intro go ch
    have hgo (op : Nat) : hbmStarted s op stack.toNat chan.toNat = go op := rfl
    have hidle' (op : Nat) (f : State → State) := hbmGo_of_idle (src := src) (op := op) (chan := chan.toNat) (f := f)
      hreach hidle hstack
    refine ⟨congrArg Host.Outcome.next (hidle' 1 _), congrArg Host.Outcome.next (hidle' 1 _),
      congrArg Host.Outcome.next (hidle' 2 _), congrArg Host.Outcome.next (hidle' 2 _),
      fun op _ hqueue hrun hno => ?refused, fun op _ hqueue hrun hfree => ?granted⟩
    case refused =>
      have h (f : State → State) := hbmTest_of_refused (f := f) (hgo op) hreach hidle hstack hqueue hrun hno
      refine ⟨?_, ?_, ?_, ?_⟩ <;> rintro rfl _ <;> exact congrArg Host.Outcome.next (h _)
    case granted =>
      have h (f : State → State) := hbmTest_of_granted (f := f) (hgo op) hreach hidle hstack hqueue hrun hfree
      refine ⟨?mbist, ?lane, ?soft, ?hard⟩ <;> rintro rfl
      case mbist => exact fun rows => congrArg Host.Outcome.next (h _)
      case lane => exact ⟨congrArg Host.Outcome.next (h _), congrArg Host.Outcome.next (h _)⟩
      case hard => exact ⟨congrArg Host.Outcome.next (h _), congrArg Host.Outcome.next (h _)⟩
      case soft =>
        refine ⟨congrArg Host.Outcome.next (h _), _, congrArg Host.Outcome.next (h _), ?_⟩
        rw [maintEnd_repairs]
        change s.repairs ++ [(ch, (go 5).hbmRowArg)] = _
        rw [← hgo, hbmStarted_rowArg]
        rfl

end Sys2Proof.Proofs
end

section
/-! Proofs about power and heat (16). -/
namespace Sys2Proof.Proofs
open Sys2Proof Sys2Proof.Machine Sys2Proof.Spec Sys2Proof.Laws

/-! ### The governor (R469, R471 to R474, R476) -/

/-- P and F as the governor stores them. -/
def governorStored (s : State) (p f : Nat) : State :=
  (s.setReg ⟨.pwrIn, 0, 0⟩ (BitVec.ofNat 32 (min p 0xFFFF))).setReg ⟨.pwrFloor, 0, 0⟩ (BitVec.ofNat 32 (min f 0xFFFF))

/-- The report of a cap that has become infeasible, or feasible again. -/
def governorReport (s1 : State) (f : Nat) : State :=
  if s1.cap < f ∧ !(s1.rbit kPwrStatus 0) then s1.infeasible
  else if s1.rbit kPwrStatus 0 ∧ f ≤ s1.cap ∧ s1.rfld kPwrStatus 15 8 = 0 then
    { s1.setFld kPwrStatus 0 0 0 with power := { s1.power with infeas := none } }
  else s1

/-- Did a peak fall into the last 2^14 pt? -/
def recentPeak (s : State) : Bool := s.power.peakT.any fun t => decide (s.since t < 2 ^ 14)

/-- Every running bent that may is lowered one point, and x_pwr is 60. -/
def allLowered (s : State) : State :=
  ((List.range 96).filter fun b => !(s.stopped b) && !(s.bentFixed b) && decide (0 < s.point b)).foldl
    (fun s b => s.startMove b (s.point b - 1) 5) (s.setX 60)

/-- The governor's answer to P under the cap `c`. -/
def governorAnswer (s2 : State) (c p pb : Nat) : State :=
  if s2.rbit kPwrStatus 0 then allLowered s2
  else if c < p + 128 then
    (if pb = 0 then s2 else s2.setX (min 60 (s2.xPwr + (64 * (p + 128 - c) + pb - 1) / pb)))
  else if 64 * p + pb + 8192 ≤ 64 * c ∧ !(recentPeak s2) then s2.setX (s2.xPwr - 1)
  else s2

/-- The end of an interval: the fixed bents step, and the limits between neighbours are kept. -/
def governorClose (s : State) : State := ((List.range 96).foldl (fun s b => s.fixedStep b) s).clampAll

section
variable {s s1 : State} {p pb f : Nat} (hon : s.pkg = .on) (hphase : s.phase = 0) (hs1 : governorStored s p f = s1)
include hon hphase hs1

theorem next_governorInterval : Next (.governorInterval p pb f) s
    (governorClose (governorAnswer (governorReport s1 f) s1.cap p pb)) := by
  subst hs1
  exact congrArg Host.Outcome.next (if_neg (not_or.2 ⟨not_not_intro hon, not_not_intro hphase⟩))

variable (hfeas : s1.rbit kPwrStatus 0 = false)
include hfeas

theorem next_governorInterval_of_feasible (hcap : f ≤ s1.cap) : Next (.governorInterval p pb f) s
    (governorClose
      (if s1.cap < p + 128 then
        (if pb = 0 then s1 else s1.setX (min 60 (s1.xPwr + (64 * (p + 128 - s1.cap) + pb - 1) / pb)))
       else if 64 * p + pb + 8192 ≤ 64 * s1.cap ∧ !(recentPeak s1) then s1.setX (s1.xPwr - 1) else s1)) := by
  have hreport : governorReport s1 f = s1 := by simp [governorReport, hfeas, Nat.not_lt.2 hcap]
  have h := next_governorInterval (pb := pb) hon hphase hs1
  rwa [hreport, governorAnswer, if_neg (ne_true_of_eq_false hfeas)] at h

theorem next_governorInterval_of_infeasible (hcap : s1.cap < f) (hset : s1.infeasible.rbit kPwrStatus 0 = true) :
    Next (.governorInterval p pb f) s (governorClose (allLowered s1.infeasible)) := by
  have hreport : governorReport s1 f = s1.infeasible := by simp [governorReport, hfeas, hcap]
  have h := next_governorInterval (pb := pb) hon hphase hs1
  rwa [hreport, governorAnswer, if_pos hset] at h

end

theorem next_peakCheck {s : State} (p : Nat) (hon : s.pkg = .on) : Next (.peakCheck p) s
    (if p ≤ 18000 then s else ({ s with power := { s.power with peakT := some s.plumb } }.setX 60).count .pwrPeakCnt 0 1) := by
  refine congrArg Host.Outcome.next ?_
  simp only [hon, ne_eq, not_true_eq_false, false_or]

/-- Settles O38, by the report and then by the four answers to P of an interval. -/
theorem governorFollowsTheCap : Obligations.GovernorFollowsTheCap := by
  refine ⟨fun s p pb f hon hphase => ?interval, fun s p hon => ⟨?peak, ?calm⟩⟩
  case interval =>
    intro s1 c close peak
    refine ⟨fun hfeas hcap => ?_, next_governorInterval_of_infeasible hon hphase rfl⟩
    have h := next_governorInterval_of_feasible (s1 := s1) (p := p) (pb := pb) hon hphase rfl hfeas hcap
    have hroom (hlow : 64 * p + pb + 8192 ≤ 64 * c) : ¬ s1.cap < p + 128 := by change ¬ c < _; omega
    refine ⟨fun hhigh hpb => ?above, fun hlow hpeak => ?below, fun hlow hpeak => ?held, fun hin hnear => ?within⟩
    case above => rwa [if_pos hhigh, if_neg hpb] at h
    case below => rwa [if_neg (hroom hlow), if_pos ⟨hlow, by rw [Bool.not_eq_true']; exact hpeak⟩] at h
    case held =>
      have hpeak' : recentPeak s1 = true := hpeak
      rwa [if_neg (hroom hlow), if_neg (by simp [hpeak'])] at h
    case within => rwa [if_neg (Nat.not_lt.2 hin), if_neg (fun hc => absurd hc.1 (Nat.not_le.2 hnear))] at h
  case peak => exact fun h => next_of_neg (next_peakCheck p hon) (Nat.not_le.2 h)
  case calm => exact next_of_pos (next_peakCheck p hon)

/-! ### What a point change and a restart leave -/

/-- What the moves and restarts of bents leave: the governor but its moves, every register but BENT_CLK, the parked marks. -/
def heldView (k : RKey) (p : Nat) (s : State) : Power × Word × Bool := ({ s.power with moves := [] }, s.reg k, (s.part p).parked)

section
variable {k : RKey} (hk : k.reg ≠ .bentClk) {p : Nat} (s : State) (b : Nat)
include hk

theorem heldView_setFld_clk (hi lo v : Nat) : heldView k p (s.setFld (kClk b) hi lo v) = heldView k p s :=
  congrArg (fun w => (({ s.power with moves := [] } : Power), w, (s.part p).parked))
    (State_setReg_reg_ne _ _ fun h => hk (congrArg RKey.reg h))

theorem heldView_startMove (x cause : Nat) : heldView k p (s.startMove b x cause) = heldView k p s :=
  view_ite rfl (view_ite (heldView_setFld_clk hk ..) rfl)

theorem heldView_fixedStep : heldView k p (s.fixedStep b) = heldView k p s := by
  rw [State.fixedStep]
  split
  next => rfl
  next => exact view_ite rfl (view_ite (heldView_startMove hk ..) rfl)

omit hk in
theorem heldView_setPart {u : State} (hu : heldView k p u = heldView k p s) (hp : p < 8) (r : Nat) (q : Part)
    (hq : q.parked = (s.part r).parked) : heldView k p (u.setPart r q) = heldView k p s := by
  obtain rfl | hne := Decidable.em (r = p)
  · refine Eq.trans (congrArg (fun x => (({ u.power with moves := [] } : Power), u.reg k, x)) ?_) hu
    rw [State_setPart_part _ _ hp, hq]
    exact (congrArg (fun v => v.2.2) hu).symm
  · refine Eq.trans (congrArg (fun x => (({ u.power with moves := [] } : Power), u.reg k, x)) ?_) hu
    rw [State_setPart_part_ne _ _ hne]

omit hk in
theorem heldView_resumeTimers (hp : p < 8) (r : Nat) : heldView k p (s.resumeTimers r) = heldView k p s := by
  rw [State.resumeTimers]
  split
  next => rfl
  next => exact view_ite rfl (heldView_setPart s rfl hp r _ rfl)

theorem heldView_restartBent (hp : p < 8) : heldView k p (s.restartBent b) = heldView k p s := by
  rw [State.restartBent]
  refine view_ite rfl (view_ite (heldView_setFld_clk hk ..) (view_ite (heldView_setFld_clk hk ..)
    (view_ite (heldView_setFld_clk hk ..) ((heldView_fixedStep hk ..).trans ?_))))
  have hclk : heldView k p (((s.setFld (kClk b) 20 18 0).setFld (kClk b) 4 0 0).setFld (kClk b) 15 6 (supplyOf b 0)) =
      heldView k p s :=
    (heldView_setFld_clk hk ..).trans ((heldView_setFld_clk hk ..).trans (heldView_setFld_clk hk ..))
  split
  next => exact (heldView_resumeTimers _ hp _).trans hclk
  next => exact hclk

end

/-! ### Temperatures and trips (R472, R477 to R481) -/

/-- The thermal shim after an interval: up by the degrees above the limit, down by one well below it. -/
def shimAfter (lim x t : Nat) : Nat := if lim < t then min 60 (x + (t - lim)) else if t + 16 < lim then x - 1 else x

/-- The temperature of a bent and its thermal shim as an interval stores them. -/
def thermalStored (s : State) (b t : Nat) : State :=
  (s.setReg ⟨.bentTemp, b, 0⟩ (BitVec.ofNat 32 (min t 0xFFF))).setFld (kShim b) 13 8
    (shimAfter (8 * s.rfld ⟨.pwrTlim, 0, 0⟩ 6 0) (s.rfld (kShim b) 13 8) t)

/-- Is the partition of a bent boosted, with no fixed frequency? -/
def boosted (s : State) (b : Nat) : Bool := match s.partOfBent b with | some p => !(s.rbit (kPart p) 0) | none => false

/-- A bent that has been shimmed for 2^20 pt is lowered one point. -/
def thermalBent (s : State) (b t : Nat) : State :=
  let s1 := thermalStored s b t
  let w := s1.power
  if shimAfter (8 * s.rfld ⟨.pwrTlim, 0, 0⟩ 6 0) (s.rfld (kShim b) 13 8) t = 0 then
    { s1 with power := { w with thmSince := adel w.thmSince b } }
  else match aget w.thmSince b with
    | none => { s1 with power := { w with thmSince := aset w.thmSince b s1.plumb } }
    | some t0 =>
      if s1.since t0 < 2 ^ 20 ∨ !(boosted s1 b) ∨ s1.point b = 0 then s1
      else { s1.startMove b (s1.point b - 1) 6 with power :=
        { (s1.startMove b (s1.point b - 1) 6).power with thmSince := aset w.thmSince b s1.plumb } }

theorem startMove_reg {k : RKey} (hk : k.reg ≠ .bentClk) (s : State) (b x cause : Nat) : (s.startMove b x cause).reg k = s.reg k :=
  congrArg (fun v => v.2.1) (heldView_startMove (p := 0) hk s b x cause)

theorem thermalBent_reg {k : RKey} (hk : k.reg ≠ .bentClk) (s : State) (b t : Nat) :
    (thermalBent s b t).reg k = (thermalStored s b t).reg k := by
  refine view_ite (view := fun u => u.reg k) rfl ?_
  split
  next => rfl
  next => exact view_ite (view := fun u => u.reg k) rfl (startMove_reg hk ..)

theorem thermalStored_temp (s : State) (b t : Nat) : (thermalStored s b t).bentTemp b = min t 0xFFF := by
  have hreg : (thermalStored s b t).reg ⟨.bentTemp, b, 0⟩ = BitVec.ofNat 32 (min t 0xFFF) :=
    (State_setReg_reg_ne _ _ (by simp [kShim])).trans (State_setReg_reg ..)
  rw [State.bentTemp, State.rfld, hreg, wbits, bitsOf, BitVec.toNat_ofNat]
  omega

theorem rfld_six_bits (s : State) (b : Nat) : s.rfld (kShim b) 13 8 < 64 := Nat.mod_lt _ (by decide)

theorem thermalStored_shim (s : State) (b t : Nat) : (thermalStored s b t).rfld (kShim b) 13 8 =
    shimAfter (8 * s.rfld ⟨.pwrTlim, 0, 0⟩ 6 0) (s.rfld (kShim b) 13 8) t := by
  refine (setFld_rfld_self _ _ _ (by decide) (by decide)).trans (Nat.mod_eq_of_lt ?_)
  have hx := rfld_six_bits s b
  simp only [shimAfter]
  split
  next => omega
  next =>
    split
    next => omega
    next => exact hx

section
variable {s : State} (hon : s.pkg = .on)
include hon

theorem next_thermalInterval {b : Nat} (hb : b < 96) (t : Nat) : Next (.thermalInterval [(b, t)] []) s (thermalBent s b t) := by
  have hin : [(b, t)].filter (fun e => decide (e.1 < 96)) = [(b, t)] := by simp [hb]
  refine congrArg Host.Outcome.next ((if_neg (not_not_intro hon)).trans ?_)
  rw [hin]
  rfl

theorem next_dieTrip (die : BitVec 2) (temp : Nat) :
    Next (.dieTrip die temp) s (if temp < 880 then s else s.trip die.toNat temp) := by
  refine congrArg Host.Outcome.next ?_
  simp only [hon, ne_eq, not_true_eq_false, false_or]

/-- A sensor at 125 °C, or a die tripped for 2^34 pt. -/
theorem next_thermalShutdown {temp : Nat}
    (hhot : 1000 ≤ temp ∨ ∃ d t0, (d, t0) ∈ s.power.tripT ∧ 2 ^ 34 ≤ s.since t0) :
    Next (.thermalShutdown temp) s (if s.phase = 0 then s.shutdown true true else if s.phase = 4 then s
      else { s.noResume with power := { s.power with ride0 := true, thermal := true } }) := by
  have hdue : (decide (1000 ≤ temp) || s.power.tripT.any fun e => decide (2 ^ 34 ≤ s.since e.2)) = true := by
    rcases hhot with h | ⟨d, t0, hmem, h⟩
    · simp [h]
    · exact Bool.or_eq_true_iff.2 (Or.inr (List.any_eq_true.2 ⟨_, hmem, decide_eq_true h⟩))
  exact congrArg Host.Outcome.next (if_neg (by simp only [hon, hdue]; decide))

/-- The word of a stack: its temperature and its state. -/
def stackWord (x : Nat) : Word :=
  BitVec.ofNat 32 (min x 255 + (if x < 85 then 0 else if x < 95 then 1 else if x < 105 then 2 else 3) * 256)

/-- The register of a stack of a die. -/
def stackKey (die : BitVec 2) (i : Nat) : RKey := ⟨.pwrHbmTemp, die.toNat, i⟩

omit hon in
theorem stackWord_of_cool {x : Nat} (hx : x < 105) :
    stackWord x = BitVec.ofNat 32 (x + (if x < 85 then 0 else if x < 95 then 1 else 2) * 256) := by
  rw [stackWord, if_pos hx, Nat.min_eq_left (by omega)]

/-- With every stack of a tile below 105 °C, the poll stores their words. -/
theorem next_hbmTempPoll (die : BitVec 2) {a b c d e f : Nat} (hcool : ∀ x ∈ [a, b, c, d, e, f], x < 105) :
    Next (.hbmTempPoll die [a, b, c, d, e, f]) s
      (setRegs (stackKey die) (fun i => stackWord ([a, b, c, d, e, f].getD i 0)) (List.range 6) s) := by
  have hnone : ¬ [a, b, c, d, e, f].any (fun t => decide (105 ≤ t)) = true := by
    rw [List.any_eq_true]
    rintro ⟨x, hx, hhot⟩
    exact absurd (hcool x hx) (Nat.not_lt.2 (of_decide_eq_true hhot))
  exact congrArg Host.Outcome.next ((if_neg (not_not_intro hon)).trans (if_neg hnone))

end

/-- The trip of a die is over. -/
def dieCooled (s : State) (d : Nat) : State :=
  let s1 := { s.setFld (kDieTemp d) 12 12 0 with
    power := { s.power with tripT := adel s.power.tripT d }, thermtripN := (adel s.power.tripT d).isEmpty }
  s1.spineEvent d 0x0302 255 (srcOf 8 d) 0 (s1.rfld (kDieTemp d) 11 0)

/-- A bent that the trip stopped restarts. -/
def restartCooled (s : State) (b : Nat) : State := if s.rfld (kClk b) 20 19 = 2 then s.restartBent b else s

/-- A die that has stayed cool for 2^30 pt restarts: its trip is over, and its stopped bents follow. -/
theorem next_dieTripRestart {s : State} {die : BitVec 2} {t0 : Time} (hcool : aget s.power.coolT die.toNat = some t0)
    (htrip : s.rbit (kDieTemp die.toNat) 12 = true) (hdue : 2 ^ 30 ≤ s.since t0) : Next (.dieTripRestart die) s
      ((upto (die.toNat * 24) 24).foldl restartCooled (dieCooled s die.toNat)) := by
  change execDieTripRestart die s = _
  simp only [execDieTripRestart, hcool, htrip, Nat.not_lt.2 hdue, Bool.not_true, decide_false, Bool.or_self, Bool.false_eq_true,
    if_false]
  rfl

theorem restartCooled_held {k : RKey} (hk : k.reg ≠ .bentClk) (s : State) (b : Nat) :
    heldView k 0 (restartCooled s b) = heldView k 0 s :=
  view_ite (heldView_restartBent hk s b (by decide)) rfl

theorem dieCooled_temp (s : State) (d : Nat) : (dieCooled s d).reg (kDieTemp d) = setField (s.reg (kDieTemp d)) 12 12 0 :=
  (reg_of_regs (emit_regs ..) _).trans (setFld_reg ..)

theorem dieCooled_power (s : State) (d : Nat) : (dieCooled s d).power = { s.power with tripT := adel s.power.tripT d } :=
  Quiet.spineEvent (view := State.power) (fun _ _ _ _ _ _ _ => rfl) _ _ _ _ _ _ _

/-- Settles O41, command by command: the interval, the trip, the shutdown, the stacks, the restart. -/
theorem temperaturesAndTrips : Obligations.TemperaturesAndTrips := by
  refine ⟨fun s hon => ⟨fun b t hb => ?interval, fun die temp => ⟨?trip, ?cool⟩, fun temp hhot => ⟨?down, ?late⟩,
    fun temp d t0 hmem hdue => ?tripped, fun die a b c d e f ha hb hc hd he hf => ?poll⟩,
    fun s die t0 hcool htrip hdue => ?restart⟩
  case interval =>
    intro lim x
    have hshim : (thermalBent s b t).rfld (kShim b) 13 8 = shimAfter lim x t :=
      (congrArg (fun w => wbits w 13 8) (thermalBent_reg (by simp [kShim]) s b t)).trans (thermalStored_shim s b t)
    have htemp : (thermalBent s b t).bentTemp b = min t 0xFFF :=
      (congrArg (fun w => wbits w 11 0) (thermalBent_reg (by simp) s b t)).trans (thermalStored_temp s b t)
    refine ⟨_, next_thermalInterval hon hb t, htemp, fun h => ?_, fun h h' => ?_, fun h => ?_⟩ <;> rw [hshim, shimAfter]
    · rw [if_pos h]
    · rw [if_neg (by omega), if_neg (by omega)]
    · rw [if_neg (by omega), if_pos h]
  case trip => exact fun h => next_of_neg (next_dieTrip hon die temp) (Nat.not_lt.2 h)
  case cool => exact next_of_pos (next_dieTrip hon die temp)
  case down => exact next_of_pos (next_thermalShutdown hon (Or.inl hhot))
  case late =>
    exact fun h => next_of_neg (next_of_neg (next_thermalShutdown hon (Or.inl hhot)) (by rw [h]; decide)) (by rw [h]; decide)
  case tripped => exact next_of_pos (next_thermalShutdown hon (Or.inr ⟨d, t0, hmem, hdue⟩))
  case poll =>
    have hall : ∀ x ∈ [a, b, c, d, e, f], x < 105 := by simp [ha, hb, hc, hd, he, hf]
    refine ⟨_, next_hbmTempPoll hon die hall, fun i hi x hx => ?_⟩
    have hread := setRegs_reg_of_mem (stackKey die) (fun i => stackWord ([a, b, c, d, e, f].getD i 0))
      (fun a b h => (RKey.mk.inj h).2.2) (List.mem_range.2 hi) s
    refine hread.trans ?_
    rw [List.getD_eq_getElem?_getD, hx]
    exact stackWord_of_cool (hall x (List.mem_of_getElem? hx))
  case restart =>
    have hheld := foldl_keeps (restartCooled_held (k := kDieTemp die.toNat) (by simp [kDieTemp])) (upto (die.toNat * 24) 24)
      (dieCooled s die.toNat)
    have hreg := (congrArg (fun v => v.2.1) hheld).trans (dieCooled_temp s die.toNat)
    have htrips := (congrArg (fun v => v.1.tripT) hheld).trans (congrArg Power.tripT (dieCooled_power s die.toNat))
    refine ⟨_, next_dieTripRestart hcool htrip hdue, ?_, (congrArg (aget · die.toNat) htrips).trans (aget_adel_self ..)⟩
    refine (congrArg (wbit · 12) hreg).trans ?_
    rw [wbit, getLsbD_setField _ _ (by decide) (by decide), if_pos (by decide)]
    rfl

/-! ### Writes of memory and frames leave the governor and the partitions -/

/-- The governor and the partitions. -/
def boardView (s : State) : Power × Vector Part 8 := (s.power, s.parts)

theorem quiet_boardView : Quiet boardView := fun _ _ _ _ _ _ _ => rfl

section
variable (s : State)

theorem deckCap_board (d p set : Nat) : boardView (s.deckCap d p set) = boardView s := by
  rw [State.deckCap]
  refine view_ite ?_ rfl
  split <;> rfl

theorem deckTouch_board (d line : Nat) : boardView (s.deckTouch d line) = boardView s := by
  rw [State.deckTouch]
  split <;> rfl

theorem deckEvict_board (l : DeckLine) : boardView (s.deckEvict l) = boardView s := view_ite rfl rfl

theorem deckDirty_board (d line : Nat) : boardView (s.deckDirty d line) = boardView s := by
  rw [State.deckDirty]
  split
  next => exact view_ite rfl rfl
  next => rfl

/-- A line that is allocated replaces at most one other. -/
theorem deckAlloc_board {d p line : Nat} {keep : Bool} {t : State} (h : s.deckAlloc d p line keep = some t) :
    boardView t = boardView s := by
  simp only [State.deckAlloc] at h
  split at h
  next =>
    obtain rfl := Option.some.inj h
    exact view_ite (deckCap_board ..) rfl
  next =>
    split at h
    next => cases h
    next =>
      split at h
      next l _ =>
        obtain rfl := Option.some.inj h
        exact view_ite ((deckCap_board ..).trans (deckEvict_board s l)) (deckEvict_board s l)
      next =>
        split at h
        next =>
          split at h
          next l _ =>
            obtain rfl := Option.some.inj h
            exact (deckCap_board ..).trans (deckEvict_board s l)
          next => cases h
        next => cases h

theorem deckAlloc_getD_board (d p line : Nat) (keep : Bool) : boardView ((s.deckAlloc d p line keep).getD s) = boardView s := by
  cases h : s.deckAlloc d p line keep with
  | none => rfl
  | some t => exact deckAlloc_board s h

theorem deckWrite_board (d p line hint : Nat) : boardView (s.deckWrite d p line hint) = boardView s := by
  rw [State.deckWrite]
  split
  next =>
    split
    · exact deckDirty_board ..
    · exact (deckDirty_board ..).trans ((deckCap_board ..).trans (deckTouch_board ..))
    · exact (deckDirty_board ..).trans (deckTouch_board ..)
  next =>
    split
    · rfl
    · exact (deckDirty_board ..).trans (deckAlloc_getD_board (s.count ..) ..)
    · exact (deckDirty_board ..).trans (deckAlloc_getD_board (s.count ..) ..)

theorem pokeBytes_board (a : Nat) (l : List Byte) : boardView (s.pokeBytes a l) = boardView s := by
  induction l generalizing s a with
  | nil => rfl
  | cons b r ih => exact (ih ..).trans rfl

theorem markAfter_board (a : Nat) (l : List PByte) (f : Nat → Bool) (lo hi : Nat) (g : Bool → State → State)
    (hg : ∀ m u, boardView (g m u) = boardView u) : boardView (markAfter a l f lo hi g s) = boardView s :=
  view_ite (hg ..) (view_ite (hg ..) rfl)

theorem markGranules_board (a : Nat) (l : List PByte) (f : Nat → Bool) : boardView (s.markGranules a l f) = boardView s :=
  foldl_keeps (fun u g => markAfter_board u _ _ _ _ _ (fun m s => s.markGranule g m) fun _ _ => rfl) _ _

theorem markSlots_board (c b a : Nat) (l : List PByte) (g : Ring) : boardView (s.markSlots c b a l g) = boardView s := by
  rw [State.markSlots]
  refine foldl_keeps (view := boardView) (fun u i => ?_) _ _
  exact view_ite (markAfter_board u _ _ _ _ _ _ fun _ _ => rfl) rfl

theorem pokeP_board (a : Nat) (l : List PByte) : boardView (s.pokeP a l) = boardView s := by
  rw [State.pokeP, State.markWrite]
  refine Eq.trans (view_ite rfl ?_) (pokeBytes_board s a (dataOf l))
  split
  next => exact (foldl_keeps (fun u g => markSlots_board u ..) _ _).trans (markGranules_board ..)
  next => exact markGranules_board ..

theorem storeP_board (p a hint : Nat) (l : List PByte) : boardView (s.storeP p a hint l) = boardView s :=
  (pokeP_board ..).trans (view_ite (foldl_keeps (fun u _ => deckWrite_board u ..) _ _) rfl)

theorem vput_board (p va : Nat) (l : List Byte) : boardView (s.vput p va l) = boardView s := by
  rw [State.vput, State.vstore]
  refine foldl_keeps (view := fun r : State × Bool => boardView r.1) (fun r q => ?_) _ _
  split
  · split
    · exact storeP_board ..
    · rfl
  · rfl

theorem switchKey_board (owner : Nat) : boardView (s.switchKey owner) = boardView s := view_ite rfl rfl

theorem emitFrame_board (n : Nat) (f : Frame) : boardView (s.emitFrame n f) = boardView s :=
  Eq.trans (b := boardView (if (s.port n).sleepAt.isSome then
    (s.setPort n { s.port n with idleSince := s.plumb, sleepAt := none, sleepAcked := false }).sendCtl n .sleepAbort
    else s.setPort n { s.port n with idleSince := s.plumb, sleepAt := none, sleepAcked := false })) rfl (view_ite rfl rfl)

theorem sendFrame_board {k : FlowKey} {epoch : BitVec 8} {payload : List Byte} {t : State}
    (h : s.sendFrame k epoch payload = some t) : boardView t = boardView s := by
  simp only [State.sendFrame, Option.bind_eq_some_iff, Option.map_eq_some_iff] at h
  obtain ⟨⟨n, skip⟩, -, fr, -, rfl⟩ := h
  have hseq : boardView (s.seqSwitch k (s.sflow k).seq) = boardView s := view_ite (switchKey_board ..) rfl
  exact (emitFrame_board ..).trans hseq

theorem closeFrame_board {k : FlowKey} {n : Nat} {t : State} (h : s.closeFrame k n = some t) : boardView t = boardView s := by
  simp only [State.closeFrame, Option.map_eq_some_iff] at h
  obtain ⟨u, hu, rfl⟩ := h
  exact (sendFrame_board s hu :)

theorem flushFlow_board (k : FlowKey) (n : Nat) : boardView (State.flushFlow k n s) = boardView s := by
  induction n generalizing s with
  | zero => rfl
  | succ n ih =>
    rw [State.flushFlow]
    refine view_ite rfl ?_
    split
    next h => exact (ih _).trans (closeFrame_board s h)
    next => rfl

theorem pump_board (k : FlowKey) : boardView (s.pump k) = boardView s := by
  rw [State.pump]
  refine view_ite rfl (Eq.trans (b := boardView s) ?_ rfl)
  refine (foldl_keeps (view := boardView) (fun u g => ?_) _ _).trans (foldl_keeps (view := boardView) (fun u r => ?_) _ _)
  · split <;> rfl
  · rfl

theorem flushFlows_board (p : Nat) : boardView (s.flushFlows p) = boardView s :=
  foldl_keeps (fun _ _ => (flushFlow_board ..).trans (pump_board ..)) _ _

end

/-! ### What a fence leaves of parking -/

/-- When a partition was last parked or restarted, and the parked mark of one. -/
def parkView (p : Nat) (s : State) : Option Time × Bool := (s.power.parkT, (s.part p).parked)

theorem quiet_parkView (p : Nat) : Quiet (parkView p) := fun _ _ _ _ _ _ _ => rfl

theorem parkView_of_board {s t : State} (h : boardView t = boardView s) (p : Nat) : parkView p t = parkView p s :=
  congrArg (fun v : Power × Vector Part 8 => (v.1.parkT, (v.2.getD p {}).parked)) h

theorem parkView_of_held {k : RKey} {p : Nat} {s t : State} (h : heldView k p t = heldView k p s) :
    parkView p t = parkView p s :=
  congrArg (fun v : Power × Word × Bool => (v.1.parkT, v.2.2)) h

section
variable {p : Nat} (hp : p < 8) {s : State}
include hp

theorem parkView_setPart {u : State} (hu : u.power.parkT = s.power.parkT) {q : Part} (hq : q.parked = (s.part p).parked) :
    parkView p (u.setPart p q) = parkView p s := by
  rw [parkView, State_setPart_part _ _ hp, hq]
  exact congrArg (·, (s.part p).parked) hu

variable (s)

theorem endWindow_park (ended : Bool) : parkView p (s.endWindow p ended) = parkView p s := by
  rw [State.endWindow]
  split
  next => rfl
  next => exact ((quiet_parkView p).cause ..).trans (parkView_setPart hp (s := s) rfl rfl)

theorem inspect_park (level trigger : Nat) : parkView p (s.inspect p level trigger) = parkView p s := by
  have hset (u : State) (hu : boardView u = boardView s) (va : Nat) (l : List Byte) (e : Option Nat) :
      parkView p ((u.vput p va l).setPart p { s.part p with inspEnd := e }) = parkView p s :=
    parkView_setPart hp (congrArg (fun v => v.1.parkT) ((vput_board ..).trans hu)) rfl
  rw [State.inspect]
  refine ((quiet_parkView p).setReg _ _ _).trans ?_
  refine view_ite rfl (hset _ ?_ _ _ _)
  split
  next => exact view_ite (vput_board ..) rfl
  next => rfl

/-- The notice, the record, the key and the fence of a partition reset leave its parked mark. -/
theorem fencePart_park (trigger : Nat) : parkView p (s.fencePart p trigger) = parkView p s := by
  unfold State.fencePart
  extract_lets s1 q s2 old s3 s4
  have h1 : parkView p s1 = parkView p s :=
    calc
      _ = _ := parkView_of_board (flushFlows_board ..) p
      _ = _ := inspect_park hp ..
      _ = _ := endWindow_park hp ..
      _ = _ := (quiet_parkView p).spineEvent ..
      _ = _ := (quiet_parkView p).count ..
      _ = _ := (quiet_parkView p).cause ..
  have h2 : parkView p s2 = parkView p s1 := view_ite (parkView_of_board (switchKey_board ..) p) rfl
  clear_value s2
  have h3 : parkView p s3 = parkView p s2 := parkView_setPart hp rfl rfl
  clear_value s3
  have h4 : parkView p s4 = parkView p s3 := foldl_keeps (view := parkView p) (fun _ _ => (quiet_parkView p).setVf ..) _ _
  clear_value s4
  exact Eq.trans (b := parkView p s4) rfl (h4.trans (h3.trans (h2.trans h1)))

theorem waitingReset_park : parkView p (s.waitingReset p) = parkView p s := by
  rw [State.waitingReset]
  split
  next => exact view_ite rfl (fencePart_park hp s _)
  next => rfl

end

/-! ### Points and boost (R456, R460, R472 to R475) -/

/-- The clock of a bent takes the point `k`. -/
def clockSet (s : State) (b k : Nat) : State :=
  ((s.setFld (kClk b) 4 0 k).setFld (kClk b) 15 6 (supplyOf b k)).setFld (kClk b) 21 21 0

/-- A bent of a boosted partition that never switched takes its decided point. -/
theorem next_pointSwitch {s s1 : State} {bent k cause p : Nat} {t0 : Time}
    (hmove : aget s.power.moves bent = some (k, cause, t0)) (hfirst : aget s.power.switched bent = none)
    (hruns : s.stopped bent = false) (hdue : s.point bent < k → 1074 ≤ s.since t0) (hpart : s.partOfBent bent = some p)
    (hboost : s.rbit (kPart p) 0 = false) (hfeas : s.rbit kPwrStatus 0 = false) (hs1 : clockSet s bent k = s1) :
    let s2 := { s1 with power := { s1.power with moves := adel s1.power.moves bent
                                                 switched := aset s1.power.switched bent s1.plumb } }
    Next (.pointSwitch bent) s { s2 with
      bentCyc := aset s2.bentCyc bent { s2.bentCycle bent with halt := 32, cause := cause, point := s.point bent } } := by
  have hsoon : (decide (s.point bent < k) && decide (s.since t0 < 1074)) = false := by
    rw [Bool.and_eq_false_iff, decide_eq_false_iff_not, decide_eq_false_iff_not]
    omega
  have hfeas1 : s1.rbit kPwrStatus 0 = false := by
    have hclk (u : State) (hi lo v : Nat) : (u.setFld (kClk bent) hi lo v).reg kPwrStatus = u.reg kPwrStatus :=
      State_setReg_reg_ne _ _ (by simp [kPwrStatus, kClk])
    rw [← hs1, State.rbit, clockSet, hclk, hclk, hclk]
    exact hfeas
  change execPointSwitch bent s = _
  simp only [execPointSwitch, hmove, hfirst, hruns, hsoon, hpart, hboost, b2n, Bool.or_self, Bool.false_eq_true, if_false]
  rw [clockSet] at hs1
  simp only [hs1]
  exact congrArg Host.Outcome.next (if_neg (by
    rw [Bool.and_eq_true]
    exact fun h => absurd h.1 (ne_true_of_eq_false hfeas1)))

/-- The bents that boost may move. -/
def boostBents (s : State) : List Nat :=
  (List.range 96).filter fun b =>
    (match s.partOfBent b with | some p => !(s.rbit (kPart p) 0) | none => false) && !(s.stopped b) &&
      (aget s.power.moves b).isNone

/-- May boost raise a bent: is it cool, below its limit and within the limits with its neighbours? -/
def mayRise (s : State) (b : Nat) : Bool :=
  decide (s.bentTemp b < 760) &&
    decide (s.point b < match s.partOfBent b with | some p => s.rfld (kPart p) 10 6 | none => 0) &&
    (neighbours b).all fun n => s.overLimit b (s.point b + 1) n == 0

/-- A step of boost is taken. -/
def boostDone (s : State) : State := { s with power := { s.power with boostT := s.plumb } }

theorem next_boostStep {s : State} (hon : s.pkg = .on) (hx : 2 ^ 20 ≤ s.since s.power.xSince)
    (hlast : 2 ^ 20 ≤ s.since s.power.boostT) (hfeas : s.rbit kPwrStatus 0 = false) (hphase : s.phase = 0) :
    Next .boostStep s
      (if 0 < s.xPwr then
        match bestBent (fun a b => decide (s.point b < s.point a)) ((boostBents s).filter fun b => decide (0 < s.point b)) with
        | some b => boostDone (s.startMove b (s.point b - 1) 5)
        | none => s
      else if s.cap < s.rfld ⟨.pwrIn, 0, 0⟩ 15 0 + 700 then s
      else match bestBent (fun a b => decide (s.point a < s.point b)) ((boostBents s).filter (mayRise s)) with
        | some b => boostDone (s.startMove b (s.point b + 1) 5)
        | none => s) :=
  congrArg Host.Outcome.next (if_neg (by simpa [hon, hfeas, hphase] using ⟨hx, hlast⟩))

/-! ### Parking (R474, R476) -/

theorem next_partitionPark {s : State} {f : Nat} {t0 : Time} (hinf : s.rbit kPwrStatus 0 = true)
    (hsince : s.power.infeas = some t0) (hlate : 214748365 ≤ s.since t0) (hfirst : s.power.parkT = none) (hcap : s.cap < f)
    (hphase : s.phase = 0) {s1 : State} (hs1 : s.setReg ⟨.pwrFloor, 0, 0⟩ (BitVec.ofNat 32 (min f 0xFFFF)) = s1)
    {pick : Option Nat} (hpick : ((List.range 8).reverse.find? fun p =>
      (s1.part p).built && !(s1.part p).parked && (s1.part p).bents.any fun b => !(s1.stopped b)) = pick) :
    Next (.partitionPark f) s
      (match pick with
       | some p => ({ s1.parkPart p with power := { s.power with parkT := some s1.plumb } }).capEvent
       | none => s1) := by
  change execPartitionPark f s = _
  cases pick <;> simp only [execPartitionPark, hinf, hsince, hlate, hfirst, Nat.not_le.2 hcap, hphase, hs1, hpick, decide_true,
    decide_false, Bool.not_true, bne_self_eq_false, Bool.or_self, Bool.false_eq_true, if_false]

/-- The lowest parked partition restarts. -/
def unparked (s : State) (fw p : Nat) : State :=
  let s1 := s.setReg ⟨.pwrFloor, 0, 0⟩ (BitVec.ofNat 32 (min fw 0xFFFF))
  let s2 := (s1.setPart p { s1.part p with parked := false }).setFld kPwrStatus (8 + p) (8 + p) 0
  (s2.part p).bents.foldl (fun (s : State) (b : Nat) => s.restartBent b) { s2 with power := { s2.power with parkT := some s2.plumb } }

theorem next_partitionUnpark {s : State} {f fw p : Nat} (hfirst : s.power.parkT = none) (hf : f + 256 ≤ s.cap)
    (hfw : fw + 256 ≤ s.cap) (hphase : s.phase = 0) (hlow : ((List.range 8).find? fun p => (s.part p).parked) = some p) :
    Next (.partitionUnpark f fw) s
      (((if (unparked s fw p).rfld kPwrStatus 15 8 = 0 then (unparked s fw p).feasible else unparked s fw p).capEvent).waitingReset
        p) := by
  change execPartitionUnpark f fw s = _
  simp only [execPartitionUnpark, hfirst, Nat.not_lt.2 hf, Nat.not_lt.2 hfw, hphase, hlow, decide_false, Bool.not_true,
    bne_self_eq_false, Bool.or_self, Bool.false_eq_true, if_false]
  rfl

theorem unparked_park {s : State} {p : Nat} (hp : p < 8) (fw : Nat) :
    parkView p (unparked s fw p) = (some s.plumb, false) := by
  have hrestart (u : State) (b : Nat) : parkView p (u.restartBent b) = parkView p u :=
    parkView_of_held (k := ⟨.pwrCap, 0, 0⟩) (heldView_restartBent (by decide) u b hp)
  refine (foldl_keeps hrestart _ _).trans ?_
  exact congrArg (some s.plumb, ·) (congrArg Part.parked (State_setPart_part _ _ hp))

/-- The report of a restart and the reset that waited for it leave the parked mark. -/
theorem unparkEnd_park {p : Nat} (hp : p < 8) (u : State) :
    parkView p (((if u.rfld kPwrStatus 15 8 = 0 then u.feasible else u).capEvent).waitingReset p) = parkView p u := by
  have hfeas : parkView p (if u.rfld kPwrStatus 15 8 = 0 then u.feasible else u) = parkView p u := view_ite rfl rfl
  generalize (if u.rfld kPwrStatus 15 8 = 0 then u.feasible else u) = w at hfeas ⊢
  exact (waitingReset_park hp _).trans (((quiet_parkView p).spineEvent w ..).trans hfeas)

/-! ### The power registers (R459, R469, R493, R494) -/

theorem next_pwrPartWrite {s : State} {src : Src} {p : BitVec 3} {value : Word} (hreach : Reaches s src (kPart p.toNat))
    {clash : Bool} (hclash : (wbit value 0 && (s.part p.toNat).bents.any fun b => (neighbours b).any fun n =>
      match s.partOfBent n with
      | some q => q != p.toNat && s.rbit (kPart q) 0 &&
          (decide (8 < s.rfld (kPart q) 5 1 - wbits value 5 1) || decide (8 < wbits value 5 1 - s.rfld (kPart q) 5 1))
      | none => false) = clash) : Next (.pwrPartWrite src p value) s
    (if 22 < wbits value 5 1 ∨ 22 < wbits value 10 6 ∨ clash then s else s.setReg (kPart p.toNat) (value &&& 0x7FF#32)) := by
  subst hclash
  exact congrArg Host.Outcome.next (accessW_of_reaches hreach)

section
variable {s : State} {src : Src} (hreach : Reaches s src ⟨.pwrCap, 0, 0⟩) (hon : s.pkg = .on)
include hreach hon

theorem next_pwrCapWrite_one (value : Word) : Next (.pwrCapWrite [(src, value)]) s
    (if wbits value 15 0 ≤ 15000 then s.writeCap (wbits value 15 0) else s) := by
  obtain ⟨hlive, hgo⟩ := hreach
  change execPwrCapWrite [(src, value)] s = _
  by_cases hin : wbits value 15 0 ≤ 15000 <;>
    simp [execPwrCapWrite, hlive, hgo, hon, hin]

/-- Of two writes in range the lower stands. -/
theorem next_pwrCapWrite_two {v w : Word} (hv : wbits v 15 0 ≤ 15000) (hw : wbits w 15 0 ≤ 15000) :
    Next (.pwrCapWrite [(src, v), (src, w)]) s (s.writeCap (min (wbits v 15 0) (wbits w 15 0))) := by
  obtain ⟨hlive, hgo⟩ := hreach
  change execPwrCapWrite [(src, v), (src, w)] s = _
  simp [execPwrCapWrite, hlive, hgo, hon, hv, hw]

end

/-- Settles O39, command by command: a switch, a step of boost, parking and its end, the two registers. -/
theorem pointsParkingAndPowerRegisters : Obligations.PointsParkingAndPowerRegisters := by
  refine ⟨⟨fun s bent k cause p t0 hmove hfirst hruns hdue hpart hboost hfeas => ?switch,
    fun s hon hx hlast hfeas hphase => ?boost⟩,
    fun s f t0 hinf hsince hlate hfirst hcap hphase => ⟨?park, ?none⟩, fun s f fw p hfirst hf hfw hphase hlow => ?unpark,
    fun s src value hreach hon => ?cap, fun s src p value hreach => ⟨fun hp hb hoff => ?stored, fun hrange => ?refused⟩⟩
  case switch => exact next_pointSwitch hmove hfirst hruns hdue hpart hboost hfeas rfl
  case boost =>
    have h := next_boostStep hon hx hlast hfeas hphase
    intro boost fmax ok
    refine ⟨fun b hlow hbest => ?_, fun b hzero hroom hbest => ?_⟩
    · have hpick : bestBent (fun a b => decide (s.point b < s.point a))
          ((boostBents s).filter fun b => decide (0 < s.point b)) = some b := hbest
      have hstep := next_of_pos h hlow
      rw [hpick] at hstep
      exact hstep
    · have hpick : bestBent (fun a b => decide (s.point a < s.point b)) ((boostBents s).filter (mayRise s)) = some b := hbest
      have hstep := next_of_neg (next_of_neg h (by omega)) (Nat.not_lt.2 hroom)
      rw [hpick] at hstep
      exact hstep
  case park =>
    intro p hpick
    exact next_partitionPark hinf hsince hlate hfirst hcap hphase rfl hpick
  case none =>
    intro hpick
    exact next_partitionPark hinf hsince hlate hfirst hcap hphase rfl hpick
  case unpark =>
    have hp : p < 8 := List.mem_range.1 (List.mem_of_find?_eq_some hlow)
    have hend := (unparkEnd_park hp (unparked s fw p)).trans (unparked_park hp fw)
    exact ⟨_, next_partitionUnpark hfirst hf hfw hphase hlow, congrArg Prod.snd hend, congrArg Prod.fst hend⟩
  case cap =>
    intro v put
    have hput (w : Nat) (h : s.cyc.cap = none) : s.writeCap w = put w := by simp only [State.writeCap, h]; rfl
    refine ⟨fun hin hnone => ?_, fun c hin hsome => ?_, fun hout => ?_, fun v2 hin hle hnone => ?_⟩
    · exact hput v hnone ▸ next_of_pos (next_pwrCapWrite_one hreach hon value) hin
    · have h := next_of_pos (next_pwrCapWrite_one hreach hon value) hin
      simp only [State.writeCap, hsome] at h
      exact h
    · exact next_of_neg (next_pwrCapWrite_one hreach hon value) (Nat.not_le.2 hout)
    · have h := next_pwrCapWrite_two hreach hon hin (Nat.le_trans hle hin)
      rwa [hput _ hnone, Nat.min_eq_right hle] at h
  case stored =>
    refine next_of_neg (next_pwrPartWrite hreach rfl) ?_
    rw [hoff]
    simp
    omega
  case refused =>
    refine next_of_pos (next_pwrPartWrite hreach rfl) ?_
    omega

end Sys2Proof.Proofs
end

section
/-! Proofs about updates, keys and attestation (17). -/
namespace Sys2Proof.Proofs
open Sys2Proof Sys2Proof.Machine Sys2Proof.Spec Sys2Proof.Laws

/-! ### Live update (R501, R512 to R514) -/

/-- The state with `go` and the operation written in SEC_UPD_CMD. -/
def updStarted (s : State) (op : Nat) : State := s.setReg kUpdCmd (BitVec.ofNat 32 (op + 8))

section
variable {s : State} {src : Src} (hreach : Reaches s src kUpdCmd) (hidle : s.rbit kUpdCmd 3 = false)
include hreach hidle

theorem updGo_of_idle (op : Nat) (f : State → State) : s.updGo src op f = f (updStarted s op) := by
  rw [State.updGo, accessW_of_reaches hreach]
  exact if_neg (ne_true_of_eq_false hidle)

variable {u : State} (hu : updStarted s 1 = u)
include hu

theorem next_imageWrite_of_fault (hfault : u.staged = none) (ok : Bool) : Next (.imageWrite src ok) s (u.updDone 3 0) := by
  refine congrArg Host.Outcome.next ((updGo_of_idle hreach hidle 1 _).trans ?_)
  simp only [hu, hfault]

theorem next_imageWrite_of_poison {d : List Byte} (hbad : u.staged = some (d, true)) (ok : Bool) :
    Next (.imageWrite src ok) s (u.updDone 2 1) := by
  refine congrArg Host.Outcome.next ((updGo_of_idle hreach hidle 1 _).trans ?_)
  simp only [hu, hbad, if_true]

theorem next_imageWrite_of_staged {d : List Byte} (hgood : u.staged = some (d, false)) (ok : Bool) :
    Next (.imageWrite src ok) s (u.writeImage d ok) := by
  refine congrArg Host.Outcome.next ((updGo_of_idle hreach hidle 1 _).trans ?_)
  simp only [hu, hgood, Bool.false_eq_true, if_false]

end

/-- With its activity granted, an image that passes is written, or leaves the bank invalid when the flash fails. -/
theorem writeImage_of_granted {u : State} (hqueue : u.maintQueue.contains ⟨10, 0⟩ = false)
    (hrun : u.maintRun.contains ⟨10, 0⟩ = true) (d : List Byte) (ok : Bool) : u.writeImage d ok =
      if u.imageCheck d ≠ 0 then u.updDone 2 (u.imageCheck d)
      else if !ok then ((u.setBank u.otherBank []).maintEnd ⟨10, 0⟩).updDone 2 5
      else (((u.setBank u.otherBank (d.take (imgLen d))).setPending false).maintEnd ⟨10, 0⟩).updDone 0 0 := by
  simp only [State.writeImage, hqueue, hrun, Bool.false_eq_true, if_false, if_true]
  rfl

section
variable {s : State} {src : Src} (hreach : Reaches s src kUpdCmd) (hidle : s.rbit kUpdCmd 3 = false)
include hreach hidle

/-- A confirmation needs a trial boot. -/
theorem next_trialConfirm : Next (.trialConfirm src) s
    (let u := updStarted s 3
     if s.boot.mode ≠ 1 then u.updDone 2 6
     else { u.writeSelector { u.selector.1 with active := s.boot.bank, pending := false, tries := 0 } with
            boot := { s.boot with mode := 0 } }.updDone 0 0) :=
  congrArg Host.Outcome.next (updGo_of_idle hreach hidle 3 _)

/-- A commit of the security version needs a normal boot. -/
theorem next_svnCommit : Next (.svnCommit src) s
    (let u := updStarted s 5
     if s.boot.mode ≠ 0 then u.updDone 2 6
     else { u with flash := { s.flash with
       svnMin := max s.flash.svnMin (imgSvn (s.bankImage s.selector.1.active)) } }.updDone 0 0) :=
  congrArg Host.Outcome.next (updGo_of_idle hreach hidle 5 _)

end

/-- Settles O43, command by command: the write of an image, the apply, the confirmation, the cancel, the commit. -/
theorem imagesAreWrittenAndApplied : Obligations.ImagesAreWrittenAndApplied := by
  intro s src hreach hidle go
  have hgo : updStarted s 1 = go 1 := rfl
  refine ⟨next_imageWrite_of_fault hreach hidle hgo, fun d => next_imageWrite_of_poison hreach hidle hgo,
    fun d hgood hqueue hrun => ?image, congrArg Host.Outcome.next (updGo_of_idle hreach hidle 2 _),
    fun hmode => next_of_neg (next_trialConfirm hreach hidle) (not_not_intro hmode), next_of_pos (next_trialConfirm hreach hidle),
    congrArg Host.Outcome.next (updGo_of_idle hreach hidle 4 _),
    fun hmode => next_of_neg (next_svnCommit hreach hidle) (not_not_intro hmode), next_of_pos (next_svnCommit hreach hidle)⟩
  case image =>
    have hwrite (ok : Bool) := writeImage_of_granted hqueue hrun d ok ▸ next_imageWrite_of_staged hreach hidle hgo hgood ok
    exact ⟨hwrite true, hwrite false⟩

/-! ### Key blobs and roots (R509, R510, R519) -/

/-- The end of a submission of a key blob. -/
def keyDone (s : State) (result reason : Nat) : State := s.cmdDone kKeyStatus result reason 3 none

/-- What follows the checks of a blob `d`: its reason, or its key installed and the generation of its owner raised. -/
def blobTaken (s : State) (d : List Byte) : Nat ⊕ (List Byte × Nat) → State
  | .inl r => keyDone s 2 r
  | .inr (k, owner) =>
    keyDone (({ s with flash := { s.flash with gens := aset s.flash.gens owner (dfield d 4 4)
                                               trayAt := if owner = 8 then s.starts else s.flash.trayAt } }).installKey owner k) 0 0

theorem next_keyBlobSubmit {s : State} {src : Src} {pa n : Nat} {d : List Byte} {o : Nat ⊕ (List Byte × Nat)}
    (hreach : Reaches s src kKeyCmd)
    (hpa : (s.reg ⟨.secKeyAddrLo, 0, 0⟩).toNat + 2 ^ 32 * s.rfld ⟨.secKeyAddrHi, 0, 0⟩ 11 0 = pa)
    (hn : 0x140 + min (dfield (s.bytes pa 0x140) 0x130 2) 3776 = n) (hd : s.bytes pa n = d) (ho : s.blobCheck d = o) :
    Next (.keyBlobSubmit src) s
      (if !(s.freeHbm pa 0x140) || pa % 64 != 0 then keyDone s 3 0
       else if anyPoison (s.pbytes pa 0x140) then keyDone s 2 1
       else if !(s.freeHbm pa n) then keyDone s 3 0
       else if anyPoison (s.pbytes pa n) then keyDone s 2 1
       else blobTaken s d o) := by
  change execKeyBlobSubmit src s = _
  rw [execKeyBlobSubmit, accessW_of_reaches hreach]
  simp only [hpa, hn, hd, ho]
  cases o <;> rfl

theorem next_partRootWrite {s : State} {src : Src} {p : BitVec 3} {word : BitVec 4} (value : Word)
    (hreach : Reaches s src ⟨.secPartRoot, p.toNat, word.toNat⟩) (hword : word.toNat < 12) : Next (.partRootWrite src p word value) s
      (if !(s.part p.toNat).built || (s.slotKey p.toNat (s.keyIdx p.toNat)).isSome then s
       else s.setReg ⟨.secPartRoot, p.toNat, word.toNat⟩ value) :=
  congrArg Host.Outcome.next ((if_neg (Nat.not_le.2 hword)).trans (accessW_of_reaches hreach))

/-! ### SPDM (R505 to R507) -/

section
variable {s : State} (hon : s.pkg = .on)
include hon

theorem next_spdmCertificate (slot : Nat) : Next (.spdmCertificate slot) s
    (s.sendSpdm (if slot = 0 then .certificate (Config.certChain s.boot.exchange s.boot.image) else .error)) :=
  congrArg Host.Outcome.next (if_neg (by simp [answers_of_on hon]))

theorem next_spdmChallenge (slot : Nat) : Next (.spdmChallenge slot) s
    (if slot = 0 then s.signed.1.sendSpdm (.challenge s.signed.2) else s.sendSpdm .error) :=
  congrArg Host.Outcome.next (if_neg (by simp [answers_of_on hon]))

theorem next_spdmMeasurements {i : Nat} (hi : i ≠ 255) : Next (.spdmMeasurements i) s
    (let blocks := ((s.measurement i).map fun b => (i, b)).toList
     if blocks.isEmpty then s.sendSpdm .error else s.signed.1.sendSpdm (.measurements blocks s.signed.2)) := by
  change execSpdmMeasurements i s = _
  simp only [execSpdmMeasurements, answers_of_on hon, if_neg hi, Bool.not_true, Bool.false_eq_true, if_false]

theorem next_spdmKeyExchange (id : Nat) : Next (.spdmKeyExchange id) s
    (if decide (16 ≤ s.sessions.length) || s.sessions.any (fun x => x.id == id) then s.sendSpdm .error
     else
       let new : Session := { id := id, last := s.plumb }
       { s.signed.1 with sessions := s.sessions ++ [new] }.sendSpdm (.keyExchange id s.signed.2)) := by
  have h : (!s.answers) ≠ true := by simp [answers_of_on hon]
  exact congrArg Host.Outcome.next (if_neg h)

theorem inSession_eq (id : Nat) (f : Session → Session) (m : SpdmMsg) : s.inSession id f m =
    if s.sessions.any fun x => x.id == id then
      { s with sessions := s.sessions.map fun (x : Session) => if x.id = id then f x else x }.sendSpdm m
    else s.sendSpdm .error :=
  if_neg (by simp [answers_of_on hon])

end

theorem noSession {l : List Session} {id : Nat} (h : ∀ x ∈ l, x.id ≠ id) : (l.any fun x => x.id == id) = false :=
  List.any_eq_false.2 fun x hx => by simpa using h x hx

/-- Settles O45, command by command: key blobs, root words, the SPDM requests, the end of a session. -/
theorem keysAndSpdm : Obligations.KeysAndSpdm := by
  refine ⟨⟨fun s src hreach => ?blob, fun s src p word value hreach hword => ⟨?root, ?dropped⟩⟩, fun s hon => ?spdm,
    fun s id => ?timeout⟩
  case blob =>
    have h := next_keyBlobSubmit hreach rfl rfl rfl rfl
    intro pa n d
    have hpass (hfree : s.freeHbm pa 0x140 = true) (halign : pa % 64 = 0) :
        ¬ ((!(s.freeHbm pa 0x140) || pa % 64 != 0) = true) := by simp [hfree, halign]
    refine ⟨fun hbad => next_of_pos h ?_, fun hfree halign hp => next_of_pos (next_of_neg h (hpass hfree halign)) hp,
      fun hfree halign hp hheld => ?_, fun hfree halign hp hall hpn => ?_, fun hfree halign hp hall hpn => ?_⟩
    · rcases hbad with hbad | hbad
      · exact Bool.or_eq_true_iff.2 (Or.inl (by rw [Bool.not_eq_true']; exact hbad))
      · exact Bool.or_eq_true_iff.2 (Or.inr (bne_iff_ne.2 hbad))
    · exact next_of_pos (next_of_neg (next_of_neg h (hpass hfree halign)) (ne_true_of_eq_false hp))
        (by rw [Bool.not_eq_true']; exact hheld)
    all_goals
      have hread := next_of_neg (next_of_neg (next_of_neg h (hpass hfree halign)) (ne_true_of_eq_false hp))
        (by rw [Bool.not_eq_true']; exact ne_false_of_eq_true hall)
    · exact next_of_pos hread hpn
    · have htaken := next_of_neg hread (ne_true_of_eq_false hpn)
      change Next (.keyBlobSubmit src) s (blobTaken s d (s.blobCheck d)) at htaken
      generalize s.blobCheck d = o at htaken ⊢
      cases o <;> exact htaken
  case root =>
    intro hbuilt hnone
    exact next_of_neg (next_partRootWrite value hreach hword) (by simp [hbuilt, hnone])
  case dropped =>
    intro hdrop
    refine next_of_pos (next_partRootWrite value hreach hword) ?_
    rcases hdrop with h | h
    · exact Bool.or_eq_true_iff.2 (Or.inl (by rw [h]; rfl))
    · exact Bool.or_eq_true_iff.2 (Or.inr h)
  case spdm =>
    intro b s1
    refine ⟨congrArg Host.Outcome.next (if_pos (answers_of_on hon)), next_spdmCertificate hon 0,
      fun slot hslot => ⟨?_, next_of_neg (next_spdmChallenge hon slot) hslot⟩, next_of_pos (next_spdmChallenge hon 0) rfl,
      fun i m hi hm => ?_, fun i hi hm => ?_, congrArg Host.Outcome.next (if_pos (answers_of_on hon)), fun id hroom hnew => ?_,
      fun id hfull => ?_, fun id x hx hid => ?_, fun id hnone => ?_⟩
    · have h := next_spdmCertificate hon slot
      rwa [if_neg hslot] at h
    · have h := next_spdmMeasurements hon hi
      rw [hm] at h
      exact h
    · have h := next_spdmMeasurements hon hi
      rw [hm] at h
      exact h
    · refine ⟨_, rfl, rfl, next_of_neg (next_spdmKeyExchange hon id) ?_⟩
      rw [noSession hnew, decide_eq_false (Nat.not_le.2 hroom)]
      decide
    · exact next_of_pos (next_spdmKeyExchange hon id) (by simp [hfull])
    · have hopen : (s.sessions.any fun x => x.id == id) = true := List.any_eq_true.2 ⟨x, hx, beq_iff_eq.2 hid⟩
      exact ⟨congrArg Host.Outcome.next ((inSession_eq hon ..).trans (if_pos hopen)),
        congrArg Host.Outcome.next ((inSession_eq hon ..).trans (if_pos hopen))⟩
    · have hclosed := ne_true_of_eq_false (noSession hnone)
      exact ⟨congrArg Host.Outcome.next ((inSession_eq hon ..).trans (if_neg hclosed)),
        congrArg Host.Outcome.next ((inSession_eq hon ..).trans (if_neg hclosed))⟩
  case timeout =>
    refine ⟨_, rfl, fun x hx hid hlate hkept => ?_, fun x hx hkeep => List.mem_filter.2 ⟨hx, ?_⟩⟩
    · obtain ⟨-, hlive⟩ := List.mem_filter.1 hkept
      simp [hid] at hlive
      omega
    · rw [Bool.not_eq_true', Bool.and_eq_false_iff, beq_eq_false_iff_ne, decide_eq_false_iff_not, Nat.not_le]
      exact hkeep

end Sys2Proof.Proofs
end

section
/-! Proofs about the management path (18) and the JTAG port (20). -/
namespace Sys2Proof.Proofs
open Sys2Proof Sys2Proof.Machine Sys2Proof.Spec Sys2Proof.Laws

/-! ### I3C (R530, R531) -/

section
variable {s : State} {off : BitVec 32}

theorem not_off_of_on (hon : s.pkg = .on) : s.pkg ≠ .off := by simp [hon]

theorem next_i3cAddressAssign (hup : s.pkg ≠ .off) (mctp : Bool) (da : BitVec 7) : Next (.i3cAddressAssign mctp da) s
    (if mctp then s.setFld kI3cStatus 6 0 da.toNat else s.setFld kI3cStatus 14 8 da.toNat) :=
  congrArg Host.Outcome.next (if_neg hup)

theorem next_i3cRegRead (hon : s.pkg = .on) : Next (.i3cRegRead off) s
    (if State.i3cMay off.toNat false then (s.readOff .i3c off.toNat).1.i3cAnswer 0 (some (s.readOff .i3c off.toNat).2)
     else (s.denied .i3c).i3cNoData 1) :=
  congrArg Host.Outcome.next ((if_neg (not_off_of_on hon)).trans (if_neg (by simp [answers_of_on hon])))

theorem next_i3cRegWrite (hon : s.pkg = .on) (value : Word) : Next (.i3cRegWrite off value) s
    (if State.i3cMay off.toNat true then (s.writeOff .i3c off.toNat value).i3cAnswer 0 none
     else (s.denied .i3c).i3cAnswer 1 none) :=
  congrArg Host.Outcome.next ((if_neg (not_off_of_on hon)).trans (if_neg (by simp [answers_of_on hon])))

/-- Until Welyar's runtime starts each access answers status 2. -/
theorem next_i3c_of_silent (hup : s.pkg ≠ .off) (hsilent : s.answers = false) (value : Word) :
    Next (.i3cRegWrite off value) s (s.i3cAnswer 2 none) ∧ Next (.i3cRegRead off) s (s.i3cNoData 2) :=
  ⟨congrArg Host.Outcome.next ((if_neg hup).trans (if_pos (by simp [hsilent]))),
    congrArg Host.Outcome.next ((if_neg hup).trans (if_pos (by simp [hsilent])))⟩

end

/-! ### MCTP and PLDM (R532, R533) -/

section
variable {s : State} (hlive : s.mgtLive = true)
include hlive

theorem mgtAsk_of_live (f : State → State) : s.mgtAsk f = f s := if_pos hlive

theorem next_pldmSensor {n v : Nat} (hv : s.sensor n = some v) : Next (.pldmGetSensorReading n) s (s.pldm (.reading v)) := by
  refine congrArg Host.Outcome.next ((mgtAsk_of_live hlive _).trans ?_)
  simp only [hv]

theorem next_pldmSetEffecter (v : Nat) : Next (.pldmSetEffecter 0x80 v) s
    (if v ≤ 15000 then (s.writeCap v).pldm .done else s.pldm .invalid) := by
  refine congrArg Host.Outcome.next ((mgtAsk_of_live hlive _).trans ?_)
  simp only [true_and]

end

theorem updAs_of_idle {s : State} (hidle : s.rbit kUpdCmd 3 = false) (op : Nat) (f : State → State) :
    s.updAs op f = f (updStarted s op) :=
  if_neg (ne_true_of_eq_false hidle)

theorem sensor_die (s : State) {d : Nat} (hd : d < 4) : s.sensor (0x10 + d) = some (s.rfld ⟨.pwrDieTemp, d, 0⟩ 11 0) := by
  rw [State.sensor, if_pos (by omega), Nat.add_sub_cancel_left]

theorem sensor_stack (s : State) {i : Nat} (hi : i < 24) :
    s.sensor (0x20 + i) = some (s.rfld ⟨.pwrHbmTemp, i / 6, i % 6⟩ 7 0) := by
  rw [State.sensor, if_neg (by omega), if_pos (by omega), Nat.add_sub_cancel_left]

theorem writeCap_of_first {s : State} (h : s.cyc.cap = none) (v : Nat) : s.writeCap v =
    { s.setReg ⟨.pwrCap, 0, 0⟩ (BitVec.ofNat 32 v) with cyc := { s.cyc with cap := some v } } := by
  simp only [State.writeCap, h]

theorem writeCap_of_again {s : State} {c : Nat} (h : s.cyc.cap = some c) (v : Nat) : s.writeCap v =
    { s.setReg ⟨.pwrCap, 0, 0⟩ (BitVec.ofNat 32 (min c v)) with cyc := { s.cyc with cap := some (min c v) } } := by
  simp only [State.writeCap, h]

/-- Settles O52, request by request: the addresses and accesses of the I3C targets, then the PLDM requests. -/
theorem managementRequestsAreAnswered : Obligations.ManagementRequestsAreAnswered := by
  refine ⟨fun s da hup => ⟨next_i3cAddressAssign hup true da, next_i3cAddressAssign hup false da⟩,
    fun s off value => ⟨?read, ?write, ?noRead, ?noWrite, ?silent⟩, fun s hpkg => ?pldm⟩
  case read => exact fun hon => next_of_pos (next_i3cRegRead hon)
  case write => exact fun hon => next_of_pos (next_i3cRegWrite hon value)
  case noRead => exact fun hon hmay => ⟨_, next_of_neg (next_i3cRegRead hon) (ne_true_of_eq_false hmay)⟩
  case noWrite => exact fun hon hmay => next_of_neg (next_i3cRegWrite hon value) (ne_true_of_eq_false hmay)
  case silent =>
    intro hpkg
    have hup : s.pkg ≠ .off := by rcases hpkg with h | h <;> simp [h]
    have hsilent : s.answers = false := by rcases hpkg with h | h <;> simp [State.answers, h]
    obtain ⟨hwrite, hread⟩ := next_i3c_of_silent (off := off) hup hsilent value
    exact ⟨hwrite, _, hread⟩
  case pldm =>
    have hlive : s.mgtLive = true := by rcases hpkg with h | h <;> simp [State.mgtLive, h]
    have hask (f : State → State) : Host.Outcome.next (s.mgtAsk f) = (.next (f s) : Host.Outcome State Fault Refusal) :=
      congrArg Host.Outcome.next (mgtAsk_of_live hlive f)
    refine ⟨fun eid => hask _, hask _, fun tid => hask _, fun ty => ⟨_, hask _⟩, hask _, fun ty => hask _, fun h => ⟨_, hask _⟩,
      fun d hd => next_pldmSensor hlive (sensor_die s hd), fun i hi => next_pldmSensor hlive (sensor_stack s hi),
      next_pldmSensor hlive rfl, next_pldmSensor hlive rfl, hask _, fun v hv hfirst => ?first, fun v hv c hagain => ?again,
      fun v hv => ⟨_, next_of_neg (next_pldmSetEffecter hlive v) (Nat.not_le.2 hv)⟩, fun eid => hask _, ⟨_, hask _⟩, hask _, hask _,
      hask _, fun hidle => ⟨fun image ok => ?component, ?activate⟩⟩
    case first => exact writeCap_of_first hfirst v ▸ next_of_pos (next_pldmSetEffecter hlive v) hv
    case again => exact writeCap_of_again hagain v ▸ next_of_pos (next_pldmSetEffecter hlive v) hv
    case component =>
      exact (hask _).trans (congrArg (fun u : State => Host.Outcome.next u.updReply) (updAs_of_idle hidle 1 _))
    case activate =>
      exact (hask _).trans (congrArg (fun u : State => Host.Outcome.next u.updReply) (updAs_of_idle hidle 2 _))

/-! ### JTAG (R571 to R573) -/

section
variable {s : State} {high : Bool} (hpin : s.resetPin = high)
include hpin

theorem next_jtagExtest (pins shift : BitVec 15) : Next (.jtagExtest pins shift) s
    (if high then (s.tapLoad .extest (!high)).tdo 0 else (s.tapLoad .extest (!high)).boundary pins shift) := by
  subst hpin
  rfl

theorem next_jtagClamp : Next .jtagClamp s ((s.tapLoad .clamp (!high)).tdo 0) := by
  subst hpin
  rfl

theorem next_jtagHighz : Next .jtagHighz s ((s.tapLoad .highz (!high)).tdo 0) := by
  subst hpin
  rfl

end

/-- The access before is shown, and DBGACC is loaded. -/
def dbgShown (s : State) : State :=
  { s with tap := { s.tap with ir := .dbgacc }, msgs := s.msgs ++ [Msg.dbg s.tap.st s.tap.data] }

theorem next_dbgacc {s : State} (dr : BitVec 88) (hdebug : s.pkgDebug = true) :
    Next (.dbgacc dr) s ((dbgShown s).dbgAccess dr) := by
  change execDbgacc dr s = _
  simp only [execDbgacc, hdebug, State.tapLoad, Bool.not_true, Bool.false_eq_true, if_true, if_false]
  rfl

theorem next_dbgacc_of_closed {s : State} (dr : BitVec 88) (hdebug : s.pkgDebug = false) :
    Next (.dbgacc dr) s ({ s with tap := { s.tap with ir := .bypass } }.tdo 0) := by
  change execDbgacc dr s = _
  simp only [execDbgacc, hdebug, State.tapLoad, Bool.not_false, Bool.false_eq_true, if_true, if_false]
  rfl

section
variable {s : State} {dr : BitVec 88}

theorem dbgAccess_of_free (hop : bitsOf dr.toNat 1 0 = 1 ∨ bitsOf dr.toNat 1 0 = 2) (hfree : s.tap.busy = false) :
    s.dbgAccess dr =
      if dr.getLsbD 3 ∧ bitsOf dr.toNat 5 4 ≠ s.ownSlot then
        s.dbgTray (bitsOf dr.toNat 5 4) (dbgAddr dr) (bitsOf dr.toNat 1 0 = 2) (BitVec.ofNat 32 (bitsOf dr.toNat 81 50))
      else s.dbgLocal (dbgAddr dr) (bitsOf dr.toNat 1 0 = 2) (BitVec.ofNat 32 (bitsOf dr.toNat 81 50)) := by
  have h0 : bitsOf dr.toNat 1 0 ≠ 0 := by omega
  have h3 : bitsOf dr.toNat 1 0 ≠ 3 := by omega
  simp only [State.dbgAccess, if_neg h0, hfree, if_neg h3, Bool.false_eq_true, if_false]

variable {a : Nat} {write : Bool} {v : Word}

/-- An access to another package waits for the reply of its check. -/
theorem dbgTray_of_open (hopen : s.trayShut = false) (slot : Nat) : (s.dbgTray slot a write v).tap.busy = true ∧
    (s.dbgTray slot a write v).twOut.length = s.twOut.length + 1 := by
  rw [State.dbgTray, if_neg (ne_true_of_eq_false hopen)]
  exact ⟨rfl, List.length_append⟩

theorem dbgLocal_of_barred {p i : Nat} (hi : i < 4) (hheld : s.heldAt (a + i) = some p) (hclosed : s.partDebug p = false) :
    s.dbgLocal a write v = s.dbgEnd 1 none := by
  refine if_pos (Bool.or_eq_true_iff.2 (Or.inr (List.any_eq_true.2 ⟨i, List.mem_range.2 hi, ?_⟩)))
  simp only [hheld, hclosed, Bool.not_false]

theorem dbgLocal_of_free (hreach : s.reachable a 4 = true) (hfree : ∀ i < 4, s.heldAt (a + i) = none) :
    s.dbgLocal a write v =
      if write then (s.writePkg (Issuer.rank .welyar) a (leBytes 4 v.toNat)).dbgEnd 0 none
      else (s.readPkg a 4).1.dbgEnd (if anyPoison (s.readPkg a 4).2 then 3 else 0)
        (some (BitVec.ofNat 32 (leNat (dataOf (s.readPkg a 4).2)))) := by
  have hopen : ((List.range 4).any fun i => match s.heldAt (a + i) with | some p => !(s.partDebug p) | none => false) = false :=
    List.any_eq_false.2 fun i hi => by simp only [hfree i (List.mem_range.1 hi), Bool.false_eq_true, not_false_eq_true]
  refine if_neg ?_
  rw [hreach]
  exact ne_true_of_eq_false hopen

end

/-- Settles O54, by the instruction and then by the steps of a debug access. -/
theorem jtagInstructions : Obligations.JtagInstructions := by
  refine ⟨fun s pins shift => ?load, fun s dr => ?access⟩
  case load =>
    exact ⟨rfl, rfl, rfl, rfl, fun hlow => ⟨next_jtagExtest hlow pins shift, next_jtagClamp hlow, next_jtagHighz hlow⟩,
      fun hhigh => ⟨next_jtagExtest hhigh pins shift, next_jtagClamp hhigh, next_jtagHighz hhigh⟩⟩
  case access =>
    intro s1 s2 op
    have hshow := fun hdebug => next_dbgacc (s := s) dr hdebug
    refine ⟨next_dbgacc_of_closed dr, fun hdebug hop => ?idle, fun hdebug hop hbusy => ?busy, fun hdebug hop hfree => ?reserved,
      fun hdebug hop hfree hslot hother => ?tray, fun hdebug hop hfree hown => ?own⟩
    case idle => exact (hshow hdebug).trans (congrArg Host.Outcome.next (if_pos hop))
    case busy => exact (hshow hdebug).trans (congrArg Host.Outcome.next ((if_neg hop).trans (if_pos hbusy)))
    case reserved =>
      have h0 : bitsOf dr.toNat 1 0 ≠ 0 := by change op ≠ 0; omega
      exact (hshow hdebug).trans
        (congrArg Host.Outcome.next ((if_neg h0).trans ((if_neg (ne_true_of_eq_false hfree)).trans (if_pos hop))))
    case tray =>
      have hgo := (hshow hdebug).trans (congrArg Host.Outcome.next
        ((dbgAccess_of_free (s := dbgShown s) hop hfree).trans (if_pos ⟨hslot, hother⟩)))
      refine ⟨fun hshut => hgo.trans (congrArg Host.Outcome.next (if_pos hshut)), fun hopen => ?_⟩
      obtain ⟨hbusy, hlen⟩ := dbgTray_of_open (s := dbgShown s) (a := dbgAddr dr) (write := decide (bitsOf dr.toNat 1 0 = 2))
        (v := BitVec.ofNat 32 (bitsOf dr.toNat 81 50)) hopen (bitsOf dr.toNat 5 4)
      exact ⟨_, hgo, hbusy, hlen⟩
    case own =>
      have hhere : ¬ (dr.getLsbD 3 = true ∧ bitsOf dr.toNat 5 4 ≠ (dbgShown s).ownSlot) := by
        rintro ⟨hslot, hother⟩
        exact hown.elim (fun h => absurd hslot (ne_true_of_eq_false h)) hother
      have hgo := (hshow hdebug).trans (congrArg Host.Outcome.next
        ((dbgAccess_of_free (s := dbgShown s) hop hfree).trans (if_neg hhere)))
      refine ⟨fun p ⟨i, hi, hheld⟩ hclosed => hgo.trans (congrArg Host.Outcome.next (dbgLocal_of_barred hi hheld hclosed)),
        fun hreach hnone => ?_⟩
      have hlocal := hgo.trans (congrArg Host.Outcome.next (dbgLocal_of_free hreach hnone))
      refine ⟨fun hwrite => ?_, fun hread => ?_⟩
      · refine hlocal.trans (congrArg Host.Outcome.next ((if_pos (decide_eq_true hwrite)).trans ?_))
        exact congrArg (fun n => ((dbgShown s).writePkg (Issuer.rank .welyar) (dbgAddr dr) (leBytes 4 n)).dbgEnd 0 none)
          (BitVec.toNat_ofNat ..)
      · have hno : ¬ decide (bitsOf dr.toNat 1 0 = 2) = true := by
          rw [decide_eq_true_eq]
          change op ≠ 2
          omega
        exact hlocal.trans (congrArg Host.Outcome.next (if_neg hno))

end Sys2Proof.Proofs
end
